-- ==== Sys2Proof/Word.lean ====
section
/-! DEFINITION. The word types of the LC-34: the byte, the two-byte and the four-byte values of its telegrams, its table
entries and its counters (Section 10.8, most significant byte first). -/

namespace Sys2Proof

/-- One byte of a telegram, a table entry or the EEPROM. -/
abbrev Byte := BitVec 8

/-- A two-byte value: masses, flows, pressures, currents, speeds, setpoints. -/
abbrev Half := BitVec 16

/-- A four-byte value: the encoder count, the 1 ms timebase, every counter of the COUNTERS area. -/
abbrev Word := BitVec 32

end Sys2Proof
end

