-- ==== Sys2Proof/Syntax.lean ====
section
/-! DEFINITION. The commands of the LC-34: one constructor of Instr per row of spec/opcode_table.json, and the operands they
carry. A command is one whole step of the part (95_what_each_step_holds.md): a frame arriving, a telegram reaching its block,
a timer expiring, a management request being served, or an event of the EEPROM, the supply or the reset pin. -/

namespace Sys2Proof

/-- The two Ethernet ports (Section 1.2 of the introduction). -/
inductive Port where
  | cell
  | plant
deriving DecidableEq, Repr

/-- The port a forwarded frame leaves by. -/
def Port.other : Port → Port
  | .cell => .plant
  | .plant => .cell

/-- Cells 0 to 23 (Section 4.6). -/
abbrev CellNo := Fin 24

/-- Lots 0 to 63. -/
abbrev LotNo := Fin 64

/-- Alloy classes 0 to 7. -/
abbrev ClassNo := Fin 8

/-- Routes, the positions of the head gate, 0 to 7. -/
abbrev RouteNo := Fin 8

/-- Drum filters 0 to 3. -/
abbrev DrumNo := Fin 4

/-- Event sources 0 to 15 (Section 7.1). -/
abbrev SourceNo := Fin 16

/-- Action descriptors 0 to 31. -/
abbrev ActionNo := Fin 32

/-- One Ethernet frame, without its frame check sequence: the two addresses, the type and the payload (R184). -/
structure Frame where
  dst       : BitVec 48
  src       : BitVec 48
  etherType : Half
  payload   : List Byte
deriving DecidableEq, Repr

/-- The length of a frame in bytes, its 14 header bytes and its 4 bytes of frame check sequence included (R173). -/
def Frame.length (f : Frame) : Nat := f.payload.length + 18

/-- What every MANAGEMENT REQUEST carries besides its command and its entry data: the port it arrived at, the source node,
the tag, the selector, the index and the count (R186). -/
structure Req where
  port     : Port
  node     : Byte
  tag      : Byte
  selector : Byte
  index    : Byte
  count    : Byte
deriving DecidableEq, Repr

/-! ### Table entries as they are written: the fields of R187, byte for byte, before any check. -/

/-- CLASSIFY entry, table code 0. -/
structure RawClassify where
  valid     : Byte
  arrival   : Byte
  kindAny   : Byte
  kind      : Byte
  sourceAny : Byte
  source    : Byte
  destAny   : Byte
  dest      : Byte
  action    : Byte
deriving DecidableEq, Repr

/-- CELL entry, table code 1. -/
structure RawCell where
  node      : Byte
  enrolled  : Byte
  dropPoint : Byte
  share     : Byte
deriving DecidableEq, Repr

/-- CLASS entry, table code 2. -/
structure RawClass where
  enabled : Byte
  route   : Byte
  mode    : Byte
  fines   : Half
deriving DecidableEq, Repr

/-- PLANT entry, table code 3. -/
structure RawPlant where
  encoder   : Byte
  beltDrive : Byte
  crusher   : Byte
  gate      : Byte
  skid      : Byte
deriving DecidableEq, Repr

/-- BELT entry, table code 4. -/
structure RawBelt where
  length    : Half
  cpp       : Half
  mpa       : Half
  gap       : Byte
  ageLimit  : Byte
  threshold : Byte
  priority  : Byte
deriving DecidableEq, Repr

/-- PROFILE entry, table code 5. -/
structure RawProfile where
  primary    : Half
  overriding : Half
deriving DecidableEq, Repr

/-- CRUSHER entry, table code 6. -/
structure RawCrusher where
  startMode    : Byte
  startDelay   : Half
  speed        : Byte
  jamThreshold : Half
  jamCount     : Byte
  clearLevel   : Half
  idle         : Half
  window       : Byte
  margin       : Byte
  limit        : Half
deriving DecidableEq, Repr

/-- DRUM entry, table code 7. -/
structure RawDrum where
  enabled   : Byte
  flow      : Half
  dpLimit   : Half
  threshold : Word
  flush     : Byte
  settle    : Byte
deriving DecidableEq, Repr

/-- FILTER entry, table code 8. -/
structure RawFilter where
  minOnline : Byte
  waitLimit : Half
deriving DecidableEq, Repr

/-- ACTION entry, table code 9. -/
structure RawAction where
  target      : Byte
  modeA       : Byte
  setpointA   : Half
  holdA       : Half
  presentB    : Byte
  modeB       : Byte
  setpointB   : Half
  holdB       : Half
  repeats     : Byte
  endTest     : Byte
  link        : Byte
  notifyAtEnd : Byte
deriving DecidableEq, Repr

/-- EVENTROUTE entry, table code 10. -/
structure RawRoute where
  notify      : Byte
  program     : Byte
  notifyAfter : Byte
  urgent      : Byte
  overriding  : Byte
deriving DecidableEq, Repr

/-- PORT entry, table code 11. -/
structure RawPort where
  silence : Half
deriving DecidableEq, Repr

/-- COALESCE entry, table code 12. -/
structure RawCoalesce where
  ageLimit : Byte
deriving DecidableEq, Repr

/-- NODE entry, table code 13. -/
structure RawNode where
  node          : Byte
  supervisor    : Byte
  suppressMinor : Byte
  cellSide      : Byte
  reload        : Byte
deriving DecidableEq, Repr

/-- The commands, in the order of spec/opcode_table.json. The operand `ack` of an EEPROM event says whether the EEPROM
acknowledged (R192, R195); `fcsOk` says whether the frame check sequence was right (R173). -/
inductive Instr where
  | powerOn
  | pinReset
  | imageLoadComplete (ack : Bool)
  | frameReceived (port : Port) (fcsOk : Bool) (frame : Frame)
  | dischargeRequest (node cls length : Byte) (mass : Half)
  | dischargeWithdraw (node : Byte)
  | dischargeEnd (node lot : Byte) (mass : Half)
  | beltSample (count : Word)
  | crusherStatus (current : Half) (confirm : Byte)
  | gateStatus (position : Byte)
  | filterSample (drum : Byte) (dp : Half)
  | coolantAllotment (port : Port) (frame : Frame)
  | frameTransmitted (port : Port)
  | silenceTimeout (port : Port)
  | requestUrgent (cell : CellNo)
  | requestExpiry (cell : CellNo)
  | overrideSecond
  | gateTimeout
  | startTimerExpiry
  | idleTimerExpiry
  | flushWaitLimit (drum : DrumNo)
  | flushTimeEnd (drum : DrumNo)
  | settleTimeEnd (drum : DrumNo)
  | stepHoldExpiry
  | coalesceAgeLimit
  | readIdent (req : Req)
  | readEntry (req : Req)
  | writeEntry (req : Req) (data : List Byte)
  | writeClassify (req : Req) (entry : RawClassify)
  | writeCell (req : Req) (entry : RawCell)
  | writeClass (req : Req) (entry : RawClass)
  | writePlant (req : Req) (entry : RawPlant)
  | writeBelt (req : Req) (entry : RawBelt)
  | writeProfile (req : Req) (entry : RawProfile)
  | writeCrusher (req : Req) (entry : RawCrusher)
  | writeDrum (req : Req) (entry : RawDrum)
  | writeFilter (req : Req) (entry : RawFilter)
  | writeAction (req : Req) (entry : RawAction)
  | writeEventroute (req : Req) (entry : RawRoute)
  | writePort (req : Req) (entry : RawPort)
  | writeCoalesce (req : Req) (entry : RawCoalesce)
  | writeNode (req : Req) (entry : RawNode)
  | readStatePitches (req : Req)
  | readStateLot (req : Req)
  | readStateRequest (req : Req)
  | readStateCrusher (req : Req)
  | readStateGate (req : Req)
  | readStateDrum (req : Req)
  | readStateBelt (req : Req)
  | readStateProgram (req : Req)
  | readStateEvent (req : Req)
  | readStateFault (req : Req)
  | readStateCounters (req : Req)
  | readStateRoutes (req : Req)
  | readStateCauses (req : Req)
  | haltLine (req : Req)
  | releaseLine (req : Req)
  | releaseOverride (req : Req)
  | ackEvent (req : Req)
  | clearFault (req : Req)
  | clearCrusher (req : Req)
  | clearDrum (req : Req)
  | startProgram (req : Req)
  | abortProgram (req : Req)
  | clearCounters (req : Req)
  | clearCauses (req : Req)
  | restartLine (req : Req)
  | reloadComplete (ack : Bool)
  | saveImage (req : Req)
  | savePageWritten (ack : Bool)
deriving DecidableEq, Repr

end Sys2Proof
end

