-- ==== Sys2Proof/Decode.lean ====
section
/-! DEFINITION. The decoder. A command of the LC-34 is a step of the whole part and not a coded word: no row of spec/opcode_table.json gives bits, so no word
spells a command. The layouts of telegrams and table entries are in Machine/Operands.lean. -/

namespace Sys2Proof

/-- The command a word spells: none, since no row of the table gives bits. -/
def decodeTableWord (_nbits _w : Nat) : Option Instr := none

end Sys2Proof
end

