-- ==== Sys2Proof/Config.lean ====
section
/-! DEFINITION. What the LC-34's manual leaves open: the free values, which have no body, so that no proof can rest on one,
and the one fixed choice about the EEPROM before anything is written to it. -/

namespace Sys2Proof

/-- FREE VALUE (assumption 2). The order in which timer expiries that fall in the same millisecond are taken: the k-th
expiry due gets rank `expiryRank draw k`, and lower ranks go first. The manual says that each is taken whole, one before the
other (R54, R63, R104, R125, R146), and not which one is first. -/
opaque Config.expiryRank : Nat → Nat → Nat

/-- FREE VALUE (assumption 4). The byte at an address of the EEPROM page at which a save stopped: R195 says that the pages
not yet written keep their former contents, and nothing about the page that was being written. -/
opaque Config.tornPageByte : Nat → Nat → Byte

/-- DESIGN CHOICE (assumption 3, unsafe). What an EEPROM byte that nothing has written reads as. -/
def Config.blankByte : Byte := 0xFF#8

end Sys2Proof
end

