-- ==== Sys2Proof/Machine/Tables.lean ====
section
/-! DEFINITION. The fourteen configuration tables of the LC-34 as the part holds them, and the default tables (R193). Each entry type
is the item list of the table's own rule. -/

namespace Sys2Proof.Machine

/-- CLASSIFY arrival port (R178). -/
inductive Arrival where
  | cell
  | plant
  | either
deriving DecidableEq, Repr

/-- CLASSIFY action (R178). -/
inductive Action where
  | forward
  | drop
  | consume
  | snoop
  | clamp
deriving DecidableEq, Repr

/-- CLASSIFY entry (R178). A match value stands in its byte also when its "any" flag is set (R187). -/
structure ClassifyEntry where
  valid     : Bool
  arrival   : Arrival
  kindAny   : Bool
  kind      : Byte
  sourceAny : Bool
  source    : Byte
  destAny   : Bool
  dest      : Byte
  action    : Action
deriving DecidableEq, Repr

/-- CELL entry (R8, R44, R128): node address (0 = none), enrolment, drop point, coolant share in 256ths. -/
structure CellEntry where
  node      : Byte
  enrolled  : Bool
  dropPoint : Nat
  share     : Nat
deriving DecidableEq, Repr

/-- Crusher mode of a class (R85). -/
inductive CrushMode where
  | bypass
  | crush
deriving DecidableEq, Repr

/-- CLASS entry (R85). -/
structure ClassEntry where
  enabled : Bool
  route   : RouteNo
  mode    : CrushMode
  fines   : Nat
deriving DecidableEq, Repr

/-- PLANT entry (R177). -/
structure PlantEntry where
  encoder   : Byte
  beltDrive : Byte
  crusher   : Byte
  gate      : Byte
  skid      : Byte
deriving DecidableEq, Repr

/-- BELT entry: belt length P, counts per pitch CPP, greatest plausible advance MPA, guard gap G (Section 1.2), and the three
arbiter settings (R42). -/
structure BeltEntry where
  length    : Nat
  cpp       : Nat
  mpa       : Nat
  gap       : Nat
  ageLimit  : Nat
  threshold : Nat
  priority  : Option CellNo
deriving DecidableEq, Repr

/-- PROFILE entry (R75). -/
structure ProfileEntry where
  primary    : Nat
  overriding : Nat
deriving DecidableEq, Repr

/-- Crusher start mode (R95). -/
inductive StartMode where
  | confirm
  | delay
deriving DecidableEq, Repr

/-- CRUSHER entry (R95). -/
structure CrusherEntry where
  startMode    : StartMode
  startDelay   : Nat
  speed        : Nat
  jamThreshold : Nat
  jamCount     : Nat
  clearLevel   : Nat
  idle         : Nat
  window       : Nat
  margin       : Nat
  limit        : Nat
deriving DecidableEq, Repr

/-- DRUM entry (R111). -/
structure DrumEntry where
  enabled   : Bool
  flow      : Nat
  dpLimit   : Nat
  threshold : Nat
  flush     : Nat
  settle    : Nat
deriving DecidableEq, Repr

/-- FILTER entry (R113). -/
structure FilterEntry where
  minOnline : Nat
  waitLimit : Nat
deriving DecidableEq, Repr

/-- Drive target (Section 5 of the introduction, R185). -/
inductive Target where
  | belt
  | crusher
  | gate
  | drum (d : DrumNo)
deriving DecidableEq, Repr

/-- Drive mode (R185). -/
inductive Mode where
  | stop
  | run
  | forward
  | reverse
  | flush
  | move
deriving DecidableEq, Repr

/-- One step of an action descriptor (R138). -/
structure StepEntry where
  mode     : Mode
  setpoint : Nat
  hold     : Nat
deriving DecidableEq, Repr

/-- Step B of a descriptor: present, or absent with its bytes as they stand in the entry, which are then not checked
(R138). -/
inductive StepB where
  | present (step : StepEntry)
  | absent (mode : Byte) (setpoint hold : Half)
deriving DecidableEq, Repr

/-- End test (R142). -/
inductive EndTest where
  | none
  | currentLow
  | dpLow
deriving DecidableEq, Repr

/-- ACTION descriptor (R138). `repeats` is the byte 0 to 255, 0 meaning 256. -/
structure Descriptor where
  target      : Target
  stepA       : StepEntry
  stepB       : StepB
  repeats     : Byte
  endTest     : EndTest
  link        : Option ActionNo
  notifyAtEnd : Bool
deriving DecidableEq, Repr

/-- The number of repetitions a descriptor runs (R138, R141). -/
def Descriptor.repetitions (d : Descriptor) : Nat := if d.repeats = 0 then 256 else d.repeats.toNat

/-- EVENTROUTE entry (R134). -/
structure RouteEntry where
  notify      : Bool
  program     : Option ActionNo
  notifyAfter : Bool
  urgent      : Bool
  overriding  : Bool
deriving DecidableEq, Repr

/-- NODE entry (R190). -/
structure NodeEntry where
  node          : Byte
  supervisor    : Byte
  suppressMinor : Bool
  cellSide      : Bool
  reload        : Bool
deriving DecidableEq, Repr

/-- The fourteen tables of R187. The silence times are the PORT entries, `coalesceAge` the COALESCE entry. -/
structure Tables where
  classify     : Vector ClassifyEntry 32
  cell         : Vector CellEntry 24
  cls          : Vector ClassEntry 8
  plant        : PlantEntry
  belt         : BeltEntry
  profile      : ProfileEntry
  crusher      : CrusherEntry
  drum         : Vector DrumEntry 4
  filter       : FilterEntry
  action       : Vector Descriptor 32
  route        : Vector RouteEntry 16
  silenceCell  : Nat
  silencePlant : Nat
  coalesceAge  : Nat
  node         : NodeEntry
deriving DecidableEq, Repr

/-- The silence time of a port (R172). -/
def Tables.silence (t : Tables) : Port → Nat
  | .cell => t.silenceCell
  | .plant => t.silencePlant

/-- Default CLASSIFY entry (R178). The match bytes behind the "any" flags are 0 (DESIGN CHOICE, assumption 5). -/
def ClassifyEntry.default : ClassifyEntry :=
  { valid := false, arrival := .either, kindAny := true, kind := 0, sourceAny := true, source := 0, destAny := true, dest := 0,
    action := .forward }

/-- Default CELL entry (R23, R44, R128). -/
def CellEntry.default : CellEntry := { node := 0, enrolled := false, dropPoint := 17, share := 0 }

/-- Default CLASS entry of class k (R85). -/
def ClassEntry.default (k : ClassNo) : ClassEntry := { enabled := true, route := k, mode := .bypass, fines := 0 }

/-- Default PLANT entry (R177). -/
def PlantEntry.default : PlantEntry := { encoder := 0, beltDrive := 0, crusher := 0, gate := 0, skid := 0 }

/-- Default BELT entry (Section 1.2, R42). -/
def BeltEntry.default : BeltEntry :=
  { length := 128, cpp := 400, mpa := 2000, gap := 3, ageLimit := 30, threshold := 10, priority := none }

/-- Default PROFILE entry (R75). -/
def ProfileEntry.default : ProfileEntry := { primary := 600, overriding := 300 }

/-- Default CRUSHER entry (R95). -/
def CrusherEntry.default : CrusherEntry :=
  { startMode := .confirm, startDelay := 256, speed := 80, jamThreshold := 450, jamCount := 3, clearLevel := 150, idle := 60,
    window := 8, margin := 2, limit := 600 }

/-- Default DRUM entry (R111). -/
def DrumEntry.default : DrumEntry :=
  { enabled := true, flow := 1000, dpLimit := 400, threshold := 500000, flush := 30, settle := 20 }

/-- Default FILTER entry (R113). -/
def FilterEntry.default : FilterEntry := { minOnline := 1, waitLimit := 120 }

/-- Default ACTION descriptor (R138). -/
def Descriptor.default : Descriptor :=
  { target := .belt, stepA := { mode := .run, setpoint := 0, hold := 1000 }, stepB := .absent 1 0 1000, repeats := 1,
    endTest := .none, link := none, notifyAtEnd := false }

/-- Default EVENTROUTE entry (R134). -/
def RouteEntry.default : RouteEntry :=
  { notify := false, program := none, notifyAfter := false, urgent := false, overriding := false }

/-- Default NODE entry (R190). -/
def NodeEntry.default : NodeEntry :=
  { node := 254, supervisor := 0, suppressMinor := false, cellSide := false, reload := false }

/-- The default tables (R193). -/
def Tables.default : Tables :=
  { classify := Vector.replicate 32 ClassifyEntry.default
    cell := Vector.replicate 24 CellEntry.default
    cls := Vector.ofFn ClassEntry.default
    plant := PlantEntry.default
    belt := BeltEntry.default
    profile := ProfileEntry.default
    crusher := CrusherEntry.default
    drum := Vector.replicate 4 DrumEntry.default
    filter := FilterEntry.default
    action := Vector.replicate 32 Descriptor.default
    route := Vector.replicate 16 RouteEntry.default
    silenceCell := 250
    silencePlant := 250
    coalesceAge := 4
    node := NodeEntry.default }

end Sys2Proof.Machine
end

