-- ==== Sys2Proof/Machine/State.lean ====
section
/-! DEFINITION. The state of the LC-34: everything the thirteen blocks hold (Section 2 of the introduction), the EEPROM on its
I2C bus, and the queue of the commands that are waiting. `State.reset` is the part right after power-on (R193). -/

namespace Sys2Proof.Machine

/-! ### Belt tracker (Chapter 1) and lot table (Chapter 2) -/

/-- A pitch record (R1). The lot and the class are present exactly when the record is not EMPTY. -/
inductive Pitch where
  | empty
  | reserved (lot : LotNo) (cls : ClassNo)
  | loaded (lot : LotNo) (cls : ClassNo)
deriving DecidableEq, Repr

/-- The belt tracker: the belt map with index 0 at the head (R1), the last encoder count and the sub-pitch accumulator
(R9). -/
structure Tracker where
  map  : List Pitch
  last : Option Word
  acc  : Nat
deriving DecidableEq, Repr

/-- The states of an active lot (R24). -/
inductive LotState where
  | loading
  | riding
  | delivering
deriving DecidableEq, Repr

/-- The fields of an active lot record (R24). -/
structure ActiveLot where
  state        : LotState
  cell         : CellNo
  cls          : ClassNo
  requested    : Nat
  length       : Nat
  loaded       : Nat
  delivered    : Nat
  mass         : Nat
  credited     : Nat
  contaminated : Bool
  massFinal    : Bool
deriving DecidableEq, Repr

/-- A lot record: FREE with its last owner, or absent (R25), or active. -/
inductive Lot where
  | free (owner : Option CellNo)
  | active (lot : ActiveLot)
deriving DecidableEq, Repr

/-! ### Discharge arbiter (Chapter 3) and belt speed unit (Chapter 4) -/

/-- A pending request; its cell is the key it stands under (R42). -/
structure Request where
  cls     : ClassNo
  length  : Nat
  mass    : Nat
  arrival : Word
  urgent  : Bool
deriving DecidableEq, Repr

/-- The discharge arbiter: the request list keyed by cell, and the last-granted pointer (R42, R58). -/
structure Arbiter where
  requests : Vector (Option Request) 24
  pointer  : CellNo
deriving DecidableEq, Repr

/-- The belt speed unit: the three hold causes (R68), the override latch, its time counter in seconds and the timebase value at
which the second in progress began (R79, R80), the program setpoint (R77), the selected value (R76) and the last issued value
(R78). -/
structure BeltUnit where
  supervisor      : Bool
  crusher         : Bool
  link            : Bool
  latched         : Bool
  seconds         : Nat
  secondStart     : Word
  programSetpoint : Option Nat
  selected        : Nat
  issued          : Option Nat
deriving DecidableEq, Repr

/-! ### Head controller (Chapter 5) -/

/-- The gate state (R87). -/
inductive GateState where
  | settled (route : RouteNo)
  | moving (target : Option RouteNo) (start : Word) (timeoutTaken : Bool)
deriving DecidableEq, Repr

/-- The crusher state with the timer of the state in force (R97): the start timer of STARTING (when it was set and after how many
ms it expires, R98) and the idle timer of RUNNING (its last start, R101). -/
inductive CrusherState where
  | off
  | starting (since : Word) (limit : Nat)
  | running (idleSince : Word)
  | stalled
  | reversing
  | fault
deriving DecidableEq, Repr

/-- The head controller: gate state and last reported position (R87), the crusher record (R97), the approach load last computed
and the surge flag (R96). -/
structure Head where
  gate         : GateState
  lastPosition : Option Byte
  crusher      : CrusherState
  jam          : Nat
  current      : Nat
  confirm      : Bool
  startMode    : StartMode
  approach     : Nat
  surge        : Bool
deriving DecidableEq, Repr

/-! ### Filtration controller (Chapter 6) -/

/-- The drum states with the time each one carries (R110): wait start in FLUSH_WAIT, phase end in FLUSHING and SETTLING. -/
inductive DrumState where
  | offline
  | online
  | flushWait (since : Word)
  | flushing (phaseEnd : Word)
  | settling (phaseEnd : Word)
  | fault
deriving DecidableEq, Repr

/-- A drum record (R110). -/
structure DrumRec where
  state  : DrumState
  fines  : Nat
  dp     : Nat
  failed : Nat
deriving DecidableEq, Repr

/-- The filtration controller: drum records and last flushed drum (R110), fines residue (R115), the cells' last allotments (R129),
capacity (R126), demand and the capacity-low flag (R127). -/
structure Filtration where
  drums       : Vector DrumRec 4
  residue     : Nat
  lastFlushed : DrumNo
  allotments  : Vector Nat 24
  capacity    : Nat
  demand      : Nat
  low         : Bool
deriving DecidableEq, Repr

/-! ### Program engine and event router (Chapter 7) -/

/-- An occurrence of an event: its source and the lot, cell and drum it carries (Section 7.1). -/
structure Occurrence where
  source : SourceNo
  lot    : Option LotNo
  cell   : Option CellNo
  drum   : Option DrumNo
deriving DecidableEq, Repr

/-- The lot, cell and drum of a pending trigger; its source is the key it stands under (R147). -/
structure Trigger where
  lot  : Option LotNo
  cell : Option CellNo
  drum : Option DrumNo
deriving DecidableEq, Repr

/-- How a chain ended (R144). -/
inductive ChainOutcome where
  | cleared
  | exhausted
  | aborted
deriving DecidableEq, Repr

/-- The running-chain context (Section 7.5). `inB` says that step B is in progress; `held` is the held-target set. -/
structure Chain where
  source     : Option SourceNo
  trigger    : Trigger
  desc       : Descriptor
  index      : ActionNo
  started    : Nat
  repetition : Nat
  inB        : Bool
  holdEnd    : Word
  held       : List Target
deriving DecidableEq, Repr

/-- The program engine: the running chain, the last outcome and the pending-trigger set (R139, R144, R147). -/
structure Engine where
  chain       : Option Chain
  lastOutcome : Option ChainOutcome
  waiting     : Vector (Option Trigger) 16
deriving DecidableEq, Repr

/-- The event router: event flags and occurrence counts (R135). -/
structure Router where
  flags  : Vector Bool 16
  counts : Vector Nat 16
deriving DecidableEq, Repr

/-! ### Notice and fault unit (Chapter 8) -/

/-- The twelve fault kinds, in the order of R155. -/
inductive FaultKind where
  | misroute
  | crusherFault
  | drumFault
  | ownTelegramLost
  | linkLimit
  | imageBad
  | uncrushedDelivery
  | beltImplausible
  | lateMass
  | strayReport
  | foreignSample
  | gateTimeout
deriving DecidableEq, Repr

/-- The detail of a fault (R155). -/
inductive Detail where
  | drum (d : DrumNo)
  | port (p : Port)
deriving DecidableEq, Repr

/-- The fields of the fault record that are meaningful while valid is set (R156). -/
structure CapturedFault where
  kind   : FaultKind
  time   : Word
  lot    : Option LotNo
  cell   : Option CellNo
  detail : Option Detail
deriving DecidableEq, Repr

/-- The fault record (valid is set exactly when `captured` is present), its further flags (R156) and the three cause flags
(R160). -/
structure Notices where
  captured     : Option CapturedFault
  furtherMajor : Bool
  furtherMinor : Bool
  causePowerOn : Bool
  causePin     : Bool
  causeRestart : Bool
deriving DecidableEq, Repr

/-! ### Command coalescer (Chapter 9), port pair (Chapter 10), management responder (Chapter 11) -/

/-- A coalescer entry (R163). -/
structure Entry where
  target   : Target
  mode     : Mode
  setpoint : Nat
  created  : Word
  urgent   : Bool
deriving DecidableEq, Repr

/-- The command coalescer: its entries in the order of creation, and the waiting flag (R163, R166). -/
structure Coalescer where
  entries : List Entry
  waiting : Bool
deriving DecidableEq, Repr

/-- A port's state; an UP port's silence timer runs from its last good frame (R171). -/
inductive PortState where
  | down
  | up (lastGood : Word)
deriving DecidableEq, Repr

/-- A port: its state and its transmit queue, oldest frame first (R180). -/
structure PortRec where
  state : PortState
  queue : List Frame
deriving DecidableEq, Repr

/-- The line mode (R193). -/
inductive LineMode where
  | loading
  | operating
deriving DecidableEq, Repr

/-- The activity of the responder: SAVING with the request to answer and the page being written (R195), RELOADING with the request
to answer and the node address in force when it was taken (R197). -/
inductive Activity where
  | idle
  | saving (req : Req) (page : Nat)
  | reloading (req : Req) (node : Byte)
deriving DecidableEq, Repr

/-- The EEPROM as a list of cells; see Machine/Memory.lean. -/
abbrev Memory := List Host.Cell

/-- The counters of the COUNTERS and ROUTES areas and the classification hit counters, numbered by Machine/Flags.lean. -/
abbrev CounterFile := Vector Word 200

/-- The LC-34. Three fields are the model's own, not the manual's: `draws` numbers the free values already used, `raised` holds the
occurrences that the operation in progress has raised and the router has not yet taken (R135), and `handed` says that the
operation has handed a command to the coalescer (R166); the last two are empty between operations. `pending` is the queue of
the commands that are waiting, first in, first out. -/
structure State where
  now        : Word
  mode       : LineMode
  activity   : Activity
  tables     : Tables
  tracker    : Tracker
  lots       : Vector Lot 64
  arbiter    : Arbiter
  belt       : BeltUnit
  head       : Head
  filtration : Filtration
  engine     : Engine
  router     : Router
  notices    : Notices
  coalescer  : Coalescer
  cellPort   : PortRec
  plantPort  : PortRec
  counters   : CounterFile
  eeprom     : Memory
  draws      : Nat
  raised     : List Occurrence
  handed     : Bool
  pending    : List Instr
deriving DecidableEq, Repr

/-- The LC-34 stops on no command: every row of the table has an effect in every state, so no fault is ever raised. The type has no
constructor. -/
inductive Fault where
deriving DecidableEq, Repr

/-- Reasons for which a command has no meaning. -/
inductive Refusal where
  /-- Raised by exec alone, for a command whose meaning is not written yet: safe. No arm raises it now. -/
  | notModelled (mnemonic : String)
deriving DecidableEq, Repr

/-- The machine right after power-on: the values that each chapter gives for it (R193). Until the image load ends the default tables stand
in the tables and in what is derived from them (R175; assumption 6); the EEPROM lists nothing (assumption 3). -/
def State.reset : State :=
  { now := 0
    mode := .loading
    activity := .idle
    tables := Tables.default
    tracker := { map := List.replicate 128 .empty, last := none, acc := 0 }
    lots := Vector.replicate 64 (.free none)
    arbiter := { requests := Vector.replicate 24 none, pointer := 23 }
    belt := { supervisor := true, crusher := false, link := true, latched := false, seconds := 0, secondStart := 0,
              programSetpoint := none, selected := 0, issued := none }
    head := { gate := .moving none 0 false, lastPosition := none, crusher := .off, jam := 0, current := 0, confirm := false,
              startMode := .confirm, approach := 0, surge := false }
    filtration := { drums := Vector.replicate 4 { state := .online, fines := 0, dp := 0, failed := 0 }, residue := 0, lastFlushed := 3,
                    allotments := Vector.replicate 24 0, capacity := 4000, demand := 0, low := false }
    engine := { chain := none, lastOutcome := none, waiting := Vector.replicate 16 none }
    router := { flags := Vector.replicate 16 false, counts := Vector.replicate 16 0 }
    notices := { captured := none, furtherMajor := false, furtherMinor := false, causePowerOn := true, causePin := false,
                 causeRestart := false }
    coalescer := { entries := [], waiting := false }
    cellPort := { state := .down, queue := [] }
    plantPort := { state := .down, queue := [] }
    counters := Vector.replicate 200 0
    eeprom := []
    draws := 0
    raised := []
    handed := false
    pending := [] }

end Sys2Proof.Machine
end

