-- ==== Sys2Proof/Machine/Memory.lean ====
section
/-! DEFINITION. The serial EEPROM on the I2C bus (Section 11.4): a list of cells with strictly rising addresses, none of which holds what an unlisted
address reads as. The part reads and writes addresses 0 to 1,111 of it (R192). -/

namespace Sys2Proof.Machine

/-- The byte at an address; an unlisted address reads as `Config.blankByte` (assumption 3). -/
def Memory.read : Memory → Nat → Byte
  | [], _ => Config.blankByte
  | (a, b) :: rest, addr => if addr = a then b else if addr < a then Config.blankByte else Memory.read rest addr

/-- A byte put in its place, or taken out where it is what an unlisted address reads as. -/
def Memory.write : Memory → Nat → Byte → Memory
  | [], addr, v => if v = Config.blankByte then [] else [(addr, v)]
  | (a, b) :: rest, addr, v =>
    if addr < a then (if v = Config.blankByte then (a, b) :: rest else (addr, v) :: (a, b) :: rest)
    else if addr = a then (if v = Config.blankByte then rest else (addr, v) :: rest)
    else (a, b) :: Memory.write rest addr v

/-- The bytes put at consecutive addresses from `addr`. -/
def Memory.writeList (m : Memory) (addr : Nat) : List Byte → Memory
  | [] => m
  | v :: vs => Memory.writeList (m.write addr v) (addr + 1) vs

/-- The `n` bytes from an address. -/
def Memory.readList (m : Memory) (addr : Nat) : Nat → List Byte
  | 0 => []
  | n + 1 => m.read addr :: Memory.readList m (addr + 1) n

/-- Every address of the list is at least `low`, addresses rise strictly, and no cell holds the blank byte. -/
def Memory.wfFrom : Nat → Memory → Bool
  | _, [] => true
  | low, (a, b) :: rest => decide (low ≤ a) && !decide (b = Config.blankByte) && Memory.wfFrom (a + 1) rest

/-- The canonical form of the EEPROM's contents. -/
def Memory.wf (m : Memory) : Bool := Memory.wfFrom 0 m

end Sys2Proof.Machine
end

