-- ==== Sys2Proof/Machine/Flags.lean ====
section
/-! DEFINITION. What every block reports through: the saturating counters (R161), the event occurrences raised to the router (R135) and the
faults taken by the notice and fault unit (R155 to R158), with the tests on the hold-cause set (R68) and on the held-target set
(R140). -/

namespace Sys2Proof.Machine

/-! ### Counters -/

/-- The reasons of a refusal, in the order of R65 and of R185. -/
inductive Reason where
  | notEnrolled
  | classDisabled
  | badLength
  | busy
  | expired
  | withdrawn
  | noRequest
  | restarted
deriving DecidableEq, Repr

/-- The reason's place in the counter table of R65, from 0. -/
def Reason.place : Reason → Nat
  | .notEnrolled => 0
  | .classDisabled => 1
  | .badLength => 2
  | .busy => 3
  | .expired => 4
  | .withdrawn => 5
  | .noRequest => 6
  | .restarted => 7

/-- The fault kind's place in the table of R155, from 0. -/
def FaultKind.place : FaultKind → Nat
  | .misroute => 0
  | .crusherFault => 1
  | .drumFault => 2
  | .ownTelegramLost => 3
  | .linkLimit => 4
  | .imageBad => 5
  | .uncrushedDelivery => 6
  | .beltImplausible => 7
  | .lateMass => 8
  | .strayReport => 9
  | .foreignSample => 10
  | .gateTimeout => 11

/-- The twelve kinds in the order of R155. -/
def FaultKind.all : List FaultKind :=
  [.misroute, .crusherFault, .drumFault, .ownTelegramLost, .linkLimit, .imageBad, .uncrushedDelivery, .beltImplausible, .lateMass,
   .strayReport, .foreignSample, .gateTimeout]

/-- The eight reasons in the order of R65. -/
def Reason.all : List Reason :=
  [.notEnrolled, .classDisabled, .badLength, .busy, .expired, .withdrawn, .noRequest, .restarted]

/-- Every counter of the COUNTERS area, of the ROUTES area and of the CLASSIFY table, group by group (R162). -/
inductive Counter where
  -- group 0, belt tracker (R20)
  | samplesAccepted
  | samplesImplausible
  | pitchesShifted
  -- group 1, lot table (R40)
  | lotsGranted
  | lotsSealedFull
  | lotsCutShort
  | lotsAbandoned
  | lotsDelivered
  | massAccepted
  | lateReports
  | strayReports
  -- group 2, discharge arbiter (R65)
  | requestsAdded
  | requestsReplaced
  | requestsUrgent
  | refusals (r : Reason)
  | passes
  | upstreamSkips
  | notFeasible
  | dischargeDiscarded
  -- group 3, belt speed unit (R82)
  | holdsBegun
  | holdOrders
  | resumeOrders
  | overridesLatched
  | setpointsIssued
  -- group 4, head controller (R108)
  | gateMoves
  | gateTimeouts
  | gateLost
  | gateInvalid
  | misrouted
  | uncrushed
  | crusherStarts
  | startFailures
  | crusherTrips
  | crusherJams
  | idleStops
  | surges
  | interlockHolds
  -- group 5, filtration controller (R131)
  | lotFines
  | finesComputed
  | finesCredited
  | finesUnfiltered
  | dpHigh
  | flushArbitrations
  | flushesStarted
  | forcedFlushes
  | flushesGood
  | flushesFailed
  | drumFaults
  | drumCommands
  | filterInvalid
  | capacityLow
  | allotmentsSeen
  | allotmentsUnknown
  | allotmentsClamped
  -- group 6, program engine and event router (R151)
  | occurrences (src : SourceNo)
  | chainsStarted
  | descriptorsStarted
  | stepsIssued
  | chainsEnded (o : ChainOutcome)
  | linkLimits
  | triggersPended
  | triggersAbsorbed
  | triggersDiscarded
  -- group 7, notice and fault unit (R162)
  | noticesQueued
  | noticesUnaddressed
  | raised (k : FaultKind)
  | faultsCaptured
  | faultsSuppressed
  -- group 8, command coalescer (R170)
  | commandsHanded
  | entriesCreated
  | commandsMerged
  | unloadsUrgent
  | unloadsByCount
  | unloadsByAge
  | unloadWaits
  | commandsSent
  | commandsUnaddressed
  | entriesDiscarded
  -- group 9, port pair (R183)
  | goodFrames (p : Port)
  | badFrames (p : Port)
  | otherProtocol (p : Port)
  | malformed (p : Port)
  | loadingDrops (p : Port)
  | consumed (p : Port)
  | unusable (p : Port)
  | foreign (p : Port)
  | managementRefused (p : Port)
  | forwardDropped (p : Port)
  | ownLost (p : Port)
  | transmitted (p : Port)
  | portDown (p : Port)
  | portUp (p : Port)
  -- group 10, management responder (R198)
  | requestsServed
  | requestsRefused
  | loadsValid
  | loadsBad
  | savesCompleted
  | savesFailed
  | restarts
  | reloadsValid
  | reloadsBad
  -- ROUTES area (R86)
  | routeMass (r : RouteNo)
  | routeLots (r : RouteNo)
  | unrouted
  | contaminated
  -- CLASSIFY hit counters (R183)
  | hits (i : Fin 32)
deriving DecidableEq, Repr

/-- The place of a port's counter block: the cell port's fourteen counters come first (R183). -/
def portBlock : Port → Nat
  | .cell => 0
  | .plant => 14

/-- The outcome's place in R151's counter table. -/
def ChainOutcome.place : ChainOutcome → Nat
  | .cleared => 0
  | .exhausted => 1
  | .aborted => 2

/-- The number of a counter in the counter file: the groups of R162 one after the other, each in the order of its own table. -/
def Counter.number : Counter → Nat
  | .samplesAccepted => 0
  | .samplesImplausible => 1
  | .pitchesShifted => 2
  | .lotsGranted => 3
  | .lotsSealedFull => 4
  | .lotsCutShort => 5
  | .lotsAbandoned => 6
  | .lotsDelivered => 7
  | .massAccepted => 8
  | .lateReports => 9
  | .strayReports => 10
  | .requestsAdded => 11
  | .requestsReplaced => 12
  | .requestsUrgent => 13
  | .refusals r => 14 + r.place
  | .passes => 22
  | .upstreamSkips => 23
  | .notFeasible => 24
  | .dischargeDiscarded => 25
  | .holdsBegun => 26
  | .holdOrders => 27
  | .resumeOrders => 28
  | .overridesLatched => 29
  | .setpointsIssued => 30
  | .gateMoves => 31
  | .gateTimeouts => 32
  | .gateLost => 33
  | .gateInvalid => 34
  | .misrouted => 35
  | .uncrushed => 36
  | .crusherStarts => 37
  | .startFailures => 38
  | .crusherTrips => 39
  | .crusherJams => 40
  | .idleStops => 41
  | .surges => 42
  | .interlockHolds => 43
  | .lotFines => 44
  | .finesComputed => 45
  | .finesCredited => 46
  | .finesUnfiltered => 47
  | .dpHigh => 48
  | .flushArbitrations => 49
  | .flushesStarted => 50
  | .forcedFlushes => 51
  | .flushesGood => 52
  | .flushesFailed => 53
  | .drumFaults => 54
  | .drumCommands => 55
  | .filterInvalid => 56
  | .capacityLow => 57
  | .allotmentsSeen => 58
  | .allotmentsUnknown => 59
  | .allotmentsClamped => 60
  | .occurrences i => 61 + i.val
  | .chainsStarted => 77
  | .descriptorsStarted => 78
  | .stepsIssued => 79
  | .chainsEnded o => 80 + o.place
  | .linkLimits => 83
  | .triggersPended => 84
  | .triggersAbsorbed => 85
  | .triggersDiscarded => 86
  | .noticesQueued => 87
  | .noticesUnaddressed => 88
  | .raised k => 89 + k.place
  | .faultsCaptured => 101
  | .faultsSuppressed => 102
  | .commandsHanded => 103
  | .entriesCreated => 104
  | .commandsMerged => 105
  | .unloadsUrgent => 106
  | .unloadsByCount => 107
  | .unloadsByAge => 108
  | .unloadWaits => 109
  | .commandsSent => 110
  | .commandsUnaddressed => 111
  | .entriesDiscarded => 112
  | .goodFrames p => 113 + portBlock p
  | .badFrames p => 114 + portBlock p
  | .otherProtocol p => 115 + portBlock p
  | .malformed p => 116 + portBlock p
  | .loadingDrops p => 117 + portBlock p
  | .consumed p => 118 + portBlock p
  | .unusable p => 119 + portBlock p
  | .foreign p => 120 + portBlock p
  | .managementRefused p => 121 + portBlock p
  | .forwardDropped p => 122 + portBlock p
  | .ownLost p => 123 + portBlock p
  | .transmitted p => 124 + portBlock p
  | .portDown p => 125 + portBlock p
  | .portUp p => 126 + portBlock p
  | .requestsServed => 141
  | .requestsRefused => 142
  | .loadsValid => 143
  | .loadsBad => 144
  | .savesCompleted => 145
  | .savesFailed => 146
  | .restarts => 147
  | .reloadsValid => 148
  | .reloadsBad => 149
  | .routeMass r => 150 + 2 * r.val
  | .routeLots r => 151 + 2 * r.val
  | .unrouted => 166
  | .contaminated => 167
  | .hits i => 168 + i.val

/-- The counter's place in the counter file. -/
def Counter.slot (c : Counter) : Fin 200 := Fin.ofNat 200 c.number

/-- The value of a counter. -/
def State.counter (s : State) (c : Counter) : Word := s.counters[c.slot]

/-- A saturating addition: the whole amount, or up to the maximum where the sum would pass it (R161). -/
def saturatingAdd (w : Word) (n : Nat) : Word := BitVec.ofNat 32 (min (w.toNat + n) 4294967295)

/-- A counter grows by an amount (R161). -/
def bumpBy (c : Counter) (n : Nat) (s : State) : State :=
  { s with counters := s.counters.set c.slot (saturatingAdd (s.counter c) n) }

/-- A counter is incremented (R161). -/
def bump (c : Counter) (s : State) : State := bumpBy c 1 s

/-- The first number and the size of a group of the COUNTERS area (R162). -/
def groupRange : Nat → Option (Nat × Nat)
  | 0 => some (0, 3)
  | 1 => some (3, 8)
  | 2 => some (11, 15)
  | 3 => some (26, 5)
  | 4 => some (31, 13)
  | 5 => some (44, 17)
  | 6 => some (61, 26)
  | 7 => some (87, 16)
  | 8 => some (103, 10)
  | 9 => some (113, 28)
  | 10 => some (141, 9)
  | _ => none

/-! ### Events and faults -/

namespace Source

/-! The sixteen event sources (Section 7.1). -/

def crusherJam : SourceNo := 0
def crusherStartFail : SourceNo := 1
def crusherFault : SourceNo := 2
def misroute : SourceNo := 3
def beltImplausible : SourceNo := 4
def interlockHold : SourceNo := 5
def surge : SourceNo := 6
def drumDpHigh : SourceNo := 7
def drumFault : SourceNo := 8
def capacityLow : SourceNo := 9
def forcedFlush : SourceNo := 10
def requestExpired : SourceNo := 11
def cellPortDown : SourceNo := 12
def plantPortDown : SourceNo := 13
def lotDelivered : SourceNo := 14
def gateTimeout : SourceNo := 15

end Source

/-- A block raises an occurrence; the router takes it when the operation has completed its own steps (R135). -/
def raise (o : Occurrence) (s : State) : State := { s with raised := s.raised ++ [o] }

/-- An occurrence that carries no lot, cell or drum. -/
def raisePlain (src : SourceNo) (s : State) : State := raise { source := src, lot := none, cell := none, drum := none } s

/-- An occurrence that carries a drum. -/
def raiseDrum (src : SourceNo) (d : DrumNo) (s : State) : State :=
  raise { source := src, lot := none, cell := none, drum := some d } s

/-- The severity of a fault kind (R155). -/
def FaultKind.isMajor : FaultKind → Bool
  | .misroute => true
  | .crusherFault => true
  | .drumFault => true
  | .ownTelegramLost => true
  | .linkLimit => true
  | .imageBad => true
  | .uncrushedDelivery => false
  | .beltImplausible => false
  | .lateMass => false
  | .strayReport => false
  | .foreignSample => false
  | .gateTimeout => false

/-- First-fault capture: the record takes the fault while valid is clear, and otherwise only flags it (R157). -/
def captureFault (k : FaultKind) (lot : Option LotNo) (cell : Option CellNo) (detail : Option Detail) (s : State) : State :=
  match s.notices.captured with
  | none =>
    bump .faultsCaptured
      { s with notices := { s.notices with captured := some { kind := k, time := s.now, lot := lot, cell := cell, detail := detail },
                                           furtherMajor := false, furtherMinor := false } }
  | some _ =>
    if k.isMajor then { s with notices := { s.notices with furtherMajor := true } }
    else { s with notices := { s.notices with furtherMinor := true } }

/-- A fault is raised and taken at once (R155, R157, R158). -/
def raiseFault (k : FaultKind) (lot : Option LotNo) (cell : Option CellNo) (detail : Option Detail) (s : State) : State :=
  if !k.isMajor && s.tables.node.suppressMinor then bump .faultsSuppressed (bump (.raised k) s)
  else captureFault k lot cell detail (bump (.raised k) s)

/-! ### Tests on the hold-cause set, the held-target set and the timebase -/

/-- A hold is in force while the hold-cause set is not empty (R68). -/
def State.holdInForce (s : State) : Bool := s.belt.supervisor || s.belt.crusher || s.belt.link

/-- A program holds the target (R140). -/
def State.holds (s : State) (t : Target) : Bool :=
  match s.engine.chain with
  | none => false
  | some c => c.held.contains t

/-- The milliseconds since a timebase value, modulo 2^32 (R52, R163). -/
def State.since (s : State) (t : Word) : Nat := (s.now - t).toNat

/-- The timebase has reached the value `t`, which is taken as lying in the past or at present when it is less than 2^31 ms behind. -/
def State.reached (s : State) (t : Word) : Bool := decide (s.since t < 2147483648)

/-- A timebase value some milliseconds after the present one. -/
def State.after (s : State) (ms : Nat) : Word := s.now + BitVec.ofNat 32 ms

end Sys2Proof.Machine
end

