-- ==== Sys2Proof/Machine/Operands.lean ====
section
/-! DEFINITION. The byte layouts of Section 10.8: telegrams in frames, the fields of a written table entry, the checks that the tables' own rules make of
them, and the entries and their codes as READ_ENTRY and the configuration image give them. -/

namespace Sys2Proof.Machine

/-! ### Bytes, most significant first (R184) -/

/-- One byte of a value. -/
def byte1 (n : Nat) : List Byte := [BitVec.ofNat 8 n]

/-- Two bytes of a value. -/
def byte2 (n : Nat) : List Byte := [BitVec.ofNat 8 (n / 256), BitVec.ofNat 8 n]

/-- Four bytes of a value. -/
def byte4 (n : Nat) : List Byte :=
  [BitVec.ofNat 8 (n / 16777216), BitVec.ofNat 8 (n / 65536), BitVec.ofNat 8 (n / 256), BitVec.ofNat 8 n]

/-- A flag: 0 for no or clear, 1 for yes or set. -/
def flagByte (b : Bool) : List Byte := [if b then 1 else 0]

/-- The byte at a place of a byte list. -/
def byteAt (l : List Byte) (i : Nat) : Byte := l.getD i 0

/-- The two-byte value at a place. -/
def halfAt (l : List Byte) (i : Nat) : Half := BitVec.ofNat 16 ((byteAt l i).toNat * 256 + (byteAt l (i + 1)).toNat)

/-- The four-byte value at a place. -/
def wordAt (l : List Byte) (i : Nat) : Word :=
  BitVec.ofNat 32 ((halfAt l i).toNat * 65536 + (halfAt l (i + 2)).toNat)

/-- An absent lot, cell, program or descriptor index, route, target or position is 255 (R184). -/
def absentOr {n : Nat} : Option (Fin n) → Nat
  | none => 255
  | some i => i.val

/-- A number below `n`, as an index. -/
def asIndex (n x : Nat) : Option (Fin n) := if h : x < n then some ⟨x, h⟩ else none

/-- A flag byte other than 0 or 1 is refused. -/
def asFlag (b : Byte) : Option Bool := if b = 0 then some false else if b = 1 then some true else none

/-! ### Telegrams and frames (R184, R185) -/

/-- A line telegram: its header and its body, padding left out (R174). -/
structure Telegram where
  dst  : Byte
  src  : Byte
  kind : Byte
  body : List Byte
deriving DecidableEq, Repr

/-- The line protocol type, 9A4Ch. -/
def lineType : Half := 0x9A4C

/-- The telegram a payload carries, under the first two tests of R174. -/
def Telegram.parse (payload : List Byte) : Option Telegram :=
  match payload with
  | dst :: src :: kind :: len :: rest =>
    if len.toNat ≤ 200 ∧ len.toNat ≤ rest.length then
      some { dst := dst, src := src, kind := kind, body := rest.take len.toNat }
    else none
  | _ => none

/-- The fixed body length of each of the thirteen kinds: none for an unknown kind, `some none` for MANAGEMENT REPLY (R185). -/
def fixedLength (kind : Byte) : Option (Option Nat) :=
  match kind.toNat with
  | 0x10 => some (some 4)
  | 0x11 => some (some 0)
  | 0x12 => some (some 3)
  | 0x18 => some (some 4)
  | 0x20 => some (some 4)
  | 0x21 => some (some 3)
  | 0x22 => some (some 1)
  | 0x23 => some (some 3)
  | 0x28 => some (some 3)
  | 0x30 => some (some 4)
  | 0x40 => some (some 40)
  | 0x41 => some none
  | 0x48 => some (some 6)
  | _ => none

/-- The last two tests of R174, made of a telegram that the part consumes. -/
def Telegram.consumable (t : Telegram) : Bool :=
  match fixedLength t.kind with
  | none => false
  | some none => true
  | some (some n) => decide (t.body.length = n)

/-- The frame of an own telegram: broadcast destination address, source address 02-00-00-00-00-nn (R180), header and body (R184). -/
def ownFrame (node dest kind : Byte) (body : List Byte) : Frame :=
  { dst := 0xFFFFFFFFFFFF, src := 0x020000000000#48 + (node.setWidth 48), etherType := lineType,
    payload := [dest, node, kind, BitVec.ofNat 8 body.length] ++ body }

/-- The codes of R185. -/
inductive Order where
  | start
  | hold
  | resume
  | stop
  | refuse
deriving DecidableEq, Repr

def Order.code : Order → Nat
  | .start => 0
  | .hold => 1
  | .resume => 2
  | .stop => 3
  | .refuse => 4

/-- Reason codes: absent 0, then the reasons from 1 (R185). -/
def reasonCode : Option Reason → Nat
  | none => 0
  | some r => r.place + 1

def Target.code : Target → Nat
  | .belt => 0
  | .crusher => 1
  | .gate => 2
  | .drum d => 3 + d.val

def Target.ofCode (b : Byte) : Option Target :=
  match b.toNat with
  | 0 => some .belt
  | 1 => some .crusher
  | 2 => some .gate
  | 3 => some (.drum 0)
  | 4 => some (.drum 1)
  | 5 => some (.drum 2)
  | 6 => some (.drum 3)
  | _ => none

def Mode.code : Mode → Nat
  | .stop => 0
  | .run => 1
  | .forward => 2
  | .reverse => 3
  | .flush => 4
  | .move => 5

def Mode.ofCode (b : Byte) : Option Mode :=
  match b.toNat with
  | 0 => some .stop
  | 1 => some .run
  | 2 => some .forward
  | 3 => some .reverse
  | 4 => some .flush
  | 5 => some .move
  | _ => none

/-- Outcome codes: absent (and NONE) 0, then CLEARED, EXHAUSTED, ABORTED (R185). -/
def outcomeCode : Option ChainOutcome → Nat
  | none => 0
  | some .cleared => 1
  | some .exhausted => 2
  | some .aborted => 3

/-- Status codes of a MANAGEMENT REPLY (R186). -/
inductive Status where
  | ok
  | busy
  | badCommand
  | badTable
  | badIndex
  | badValue
  | inUse
  | notPermitted
  | saveFailed
deriving DecidableEq, Repr

def Status.code : Status → Nat
  | .ok => 0
  | .busy => 1
  | .badCommand => 2
  | .badTable => 3
  | .badIndex => 4
  | .badValue => 5
  | .inUse => 6
  | .notPermitted => 7
  | .saveFailed => 8

/-- The body of a MANAGEMENT REPLY (R186). -/
def replyBody (r : Req) (command : Nat) (st : Status) (data : List Byte) : List Byte :=
  [r.tag, BitVec.ofNat 8 command, r.selector, r.index] ++ byte1 st.code ++ byte1 data.length ++ data

/-- The body of a DISCHARGE ORDER (R185). -/
def orderBody (o : Order) (lot : Option LotNo) (length : Nat) (reason : Option Reason) : List Byte :=
  byte1 o.code ++ byte1 (absentOr lot) ++ byte1 length ++ byte1 (reasonCode reason)

/-- The body of a DRIVE COMMAND (R185). -/
def driveBody (e : Entry) : List Byte := byte1 e.target.code ++ byte1 e.mode.code ++ byte2 e.setpoint

/-- The body of a LINE NOTICE (R153, R185). -/
def noticeBody (src : Option SourceNo) (count : Nat) (outcome : Option ChainOutcome) (t : Trigger) : List Byte :=
  byte1 (absentOr src) ++ byte1 count ++ byte1 (outcomeCode outcome) ++ byte1 (absentOr t.lot) ++ byte1 (absentOr t.cell) ++
    byte1 (absentOr t.drum)

end Sys2Proof.Machine

namespace Sys2Proof

open Sys2Proof.Machine

/-! ### Written entries: the fields from their bytes (R187) -/

def RawClassify.ofBytes (l : List Byte) : RawClassify :=
  { valid := byteAt l 0, arrival := byteAt l 1, kindAny := byteAt l 2, kind := byteAt l 3, sourceAny := byteAt l 4,
    source := byteAt l 5, destAny := byteAt l 6, dest := byteAt l 7, action := byteAt l 8 }

def RawCell.ofBytes (l : List Byte) : RawCell :=
  { node := byteAt l 0, enrolled := byteAt l 1, dropPoint := byteAt l 2, share := byteAt l 3 }

def RawClass.ofBytes (l : List Byte) : RawClass :=
  { enabled := byteAt l 0, route := byteAt l 1, mode := byteAt l 2, fines := halfAt l 3 }

def RawPlant.ofBytes (l : List Byte) : RawPlant :=
  { encoder := byteAt l 0, beltDrive := byteAt l 1, crusher := byteAt l 2, gate := byteAt l 3, skid := byteAt l 4 }

def RawBelt.ofBytes (l : List Byte) : RawBelt :=
  { length := halfAt l 0, cpp := halfAt l 2, mpa := halfAt l 4, gap := byteAt l 6, ageLimit := byteAt l 7,
    threshold := byteAt l 8, priority := byteAt l 9 }

def RawProfile.ofBytes (l : List Byte) : RawProfile := { primary := halfAt l 0, overriding := halfAt l 2 }

def RawCrusher.ofBytes (l : List Byte) : RawCrusher :=
  { startMode := byteAt l 0, startDelay := halfAt l 1, speed := byteAt l 3, jamThreshold := halfAt l 4, jamCount := byteAt l 6,
    clearLevel := halfAt l 7, idle := halfAt l 9, window := byteAt l 11, margin := byteAt l 12, limit := halfAt l 13 }

def RawDrum.ofBytes (l : List Byte) : RawDrum :=
  { enabled := byteAt l 0, flow := halfAt l 1, dpLimit := halfAt l 3, threshold := wordAt l 5, flush := byteAt l 9,
    settle := byteAt l 10 }

def RawFilter.ofBytes (l : List Byte) : RawFilter := { minOnline := byteAt l 0, waitLimit := halfAt l 1 }

def RawAction.ofBytes (l : List Byte) : RawAction :=
  { target := byteAt l 0, modeA := byteAt l 1, setpointA := halfAt l 2, holdA := halfAt l 4, presentB := byteAt l 6,
    modeB := byteAt l 7, setpointB := halfAt l 8, holdB := halfAt l 10, repeats := byteAt l 12, endTest := byteAt l 13,
    link := byteAt l 14, notifyAtEnd := byteAt l 15 }

def RawRoute.ofBytes (l : List Byte) : RawRoute :=
  { notify := byteAt l 0, program := byteAt l 1, notifyAfter := byteAt l 2, urgent := byteAt l 3, overriding := byteAt l 4 }

def RawPort.ofBytes (l : List Byte) : RawPort := { silence := halfAt l 0 }

def RawCoalesce.ofBytes (l : List Byte) : RawCoalesce := { ageLimit := byteAt l 0 }

def RawNode.ofBytes (l : List Byte) : RawNode :=
  { node := byteAt l 0, supervisor := byteAt l 1, suppressMinor := byteAt l 2, cellSide := byteAt l 3, reload := byteAt l 4 }

end Sys2Proof

namespace Sys2Proof.Machine

/-! ### BAD_VALUE checks, and the limits that are taken instead of refused -/

def Arrival.ofCode (b : Byte) : Option Arrival :=
  match b.toNat with
  | 0 => some .cell
  | 1 => some .plant
  | 2 => some .either
  | _ => none

def Action.ofCode (b : Byte) : Option Action :=
  match b.toNat with
  | 0 => some .forward
  | 1 => some .drop
  | 2 => some .consume
  | 3 => some .snoop
  | 4 => some .clamp
  | _ => none

/-- R178: a CLAMP entry matches kind 28h and nothing else. -/
def checkClassify (r : RawClassify) : Option ClassifyEntry := do
  let valid ← asFlag r.valid
  let arrival ← Arrival.ofCode r.arrival
  let kindAny ← asFlag r.kindAny
  let sourceAny ← asFlag r.sourceAny
  let destAny ← asFlag r.destAny
  let action ← Action.ofCode r.action
  if action = .clamp ∧ (kindAny = true ∨ r.kind ≠ 0x28) then none
  else some { valid := valid, arrival := arrival, kindAny := kindAny, kind := r.kind, sourceAny := sourceAny, source := r.source,
              destAny := destAny, dest := r.dest, action := action }

/-- The checks of R8 and R44 on one CELL entry, for a belt of length `p`; the uniqueness of the node is checked against the table. -/
def checkCell (p : Nat) (r : RawCell) : Option CellEntry := do
  let enrolled ← asFlag r.enrolled
  if r.dropPoint.toNat < 17 ∨ r.dropPoint.toNat + 1 > p then none
  else if r.node = 255 then none
  else if enrolled = true ∧ r.node = 0 then none
  else some { node := r.node, enrolled := enrolled, dropPoint := r.dropPoint.toNat, share := r.share.toNat }

/-- R85. -/
def checkClass (r : RawClass) : Option ClassEntry := do
  let enabled ← asFlag r.enabled
  let route ← asIndex 8 r.route.toNat
  let crush ← asFlag r.mode
  if r.fines.toNat > 1023 then none
  else some { enabled := enabled, route := route, mode := if crush then .crush else .bypass, fines := r.fines.toNat }

/-- R177. -/
def checkPlant (r : RawPlant) : Option PlantEntry :=
  if r.encoder = 255 ∨ r.beltDrive = 255 ∨ r.crusher = 255 ∨ r.gate = 255 ∨ r.skid = 255 then none
  else some { encoder := r.encoder, beltDrive := r.beltDrive, crusher := r.crusher, gate := r.gate, skid := r.skid }

/-- The field ranges of Section 1.2 and of R42 (R6, R43). -/
def checkBelt (r : RawBelt) : Option BeltEntry :=
  if r.length.toNat < 32 ∨ r.length.toNat > 256 ∨ r.cpp.toNat < 16 ∨ r.cpp.toNat > 4095 ∨ r.mpa = 0 ∨ r.gap.toNat < 1 ∨
      r.gap.toNat > 15 ∨ r.ageLimit.toNat < 1 ∨ r.ageLimit.toNat > 120 ∨ r.threshold.toNat > 120 ∨
      (r.priority.toNat > 23 ∧ r.priority.toNat < 255) then none
  else some { length := r.length.toNat, cpp := r.cpp.toNat, mpa := r.mpa.toNat, gap := r.gap.toNat, ageLimit := r.ageLimit.toNat,
              threshold := r.threshold.toNat, priority := asIndex 24 r.priority.toNat }

/-- R75: nothing is refused, and a speed above 1000 is taken as 1000. -/
def takenProfile (r : RawProfile) : ProfileEntry :=
  { primary := min r.primary.toNat 1000, overriding := min r.overriding.toNat 1000 }

/-- R95: a crush speed above 100 is taken as 100. -/
def checkCrusher (r : RawCrusher) : Option CrusherEntry := do
  let delay ← asFlag r.startMode
  if r.startDelay ≠ 128 ∧ r.startDelay ≠ 256 ∧ r.startDelay ≠ 512 then none
  else if r.jamThreshold = 0 ∨ r.jamCount.toNat < 1 ∨ r.jamCount.toNat > 15 ∨ r.idle.toNat > 600 ∨ r.window.toNat < 1 ∨
      r.window.toNat > 32 ∨ r.margin.toNat < 1 ∨ r.margin.toNat > 15 ∨ r.limit = 0 ∨ r.margin.toNat > r.window.toNat then none
  else some { startMode := if delay then .delay else .confirm, startDelay := r.startDelay.toNat, speed := min r.speed.toNat 100,
              jamThreshold := r.jamThreshold.toNat, jamCount := r.jamCount.toNat, clearLevel := r.clearLevel.toNat,
              idle := r.idle.toNat, window := r.window.toNat, margin := r.margin.toNat, limit := r.limit.toNat }

/-- R111. -/
def checkDrum (r : RawDrum) : Option DrumEntry := do
  let enabled ← asFlag r.enabled
  if r.flow.toNat > 4000 ∨ r.dpLimit = 0 ∨ r.threshold = 0 ∨ r.threshold.toNat > 16777215 ∨ r.flush.toNat < 1 ∨
      r.flush.toNat > 120 ∨ r.settle.toNat < 1 ∨ r.settle.toNat > 120 then none
  else some { enabled := enabled, flow := r.flow.toNat, dpLimit := r.dpLimit.toNat, threshold := r.threshold.toNat,
              flush := r.flush.toNat, settle := r.settle.toNat }

/-- R113. -/
def checkFilter (r : RawFilter) : Option FilterEntry :=
  if r.minOnline.toNat > 3 ∨ r.waitLimit.toNat < 10 ∨ r.waitLimit.toNat > 600 then none
  else some { minOnline := r.minOnline.toNat, waitLimit := r.waitLimit.toNat }

/-- The mode a target takes (R138): any written mode is stored as RUN for BELT. -/
def stepMode (t : Target) (b : Byte) : Option Mode :=
  match t with
  | .belt => some .run
  | .crusher => (Mode.ofCode b).filter fun m => m = .stop ∨ m = .forward ∨ m = .reverse
  | .gate => (Mode.ofCode b).filter fun m => m = .move
  | .drum _ => (Mode.ofCode b).filter fun m => m = .stop ∨ m = .run ∨ m = .flush

/-- The setpoint a target stores (R138). -/
def stepSetpoint (t : Target) (sp : Nat) : Nat :=
  match t with
  | .belt => min sp 1000
  | .crusher => min sp 100
  | .gate => sp
  | .drum _ => 0

/-- One checked step (R138). -/
def checkStep (t : Target) (mode : Byte) (setpoint hold : Half) : Option StepEntry := do
  let m ← stepMode t mode
  if t = .gate ∧ setpoint.toNat > 7 then none
  else if hold = 0 ∨ hold.toNat > 60000 then none
  else some { mode := m, setpoint := stepSetpoint t setpoint.toNat, hold := hold.toNat }

def EndTest.ofCode (b : Byte) : Option EndTest :=
  match b.toNat with
  | 0 => some .none
  | 1 => some .currentLow
  | 2 => some .dpLow
  | _ => none

/-- A target that is a drum. -/
def Target.isDrum : Target → Bool
  | .drum _ => true
  | _ => false

/-- The bytes of an absent step B as the entry stores them: the target's limits are taken, the checks are not made (R138; assumption 7). -/
def absentStep (t : Target) (mode : Byte) (setpoint hold : Half) : StepB :=
  .absent (if t = .belt then 1 else mode) (BitVec.ofNat 16 (stepSetpoint t setpoint.toNat)) hold

/-- An optional index byte: a number below `n`, or 255 for none. -/
def asOptional (n : Nat) (b : Byte) : Option (Option (Fin n)) :=
  if b = 255 then some none else (asIndex n b.toNat).map some

/-- R138. -/
def checkAction (r : RawAction) : Option Descriptor := do
  let t ← Target.ofCode r.target
  let a ← checkStep t r.modeA r.setpointA r.holdA
  let present ← asFlag r.presentB
  let b ← if present then (checkStep t r.modeB r.setpointB r.holdB).map StepB.present
          else some (absentStep t r.modeB r.setpointB r.holdB)
  let e ← EndTest.ofCode r.endTest
  let link ← asOptional 32 r.link
  let notify ← asFlag r.notifyAtEnd
  if e = .dpLow ∧ t.isDrum = false then none
  else some { target := t, stepA := a, stepB := b, repeats := r.repeats, endTest := e, link := link, notifyAtEnd := notify }

/-- R134. -/
def checkRoute (r : RawRoute) : Option RouteEntry := do
  let notify ← asFlag r.notify
  let program ← asOptional 32 r.program
  let notifyAfter ← asFlag r.notifyAfter
  let urgent ← asFlag r.urgent
  let overriding ← asFlag r.overriding
  if notifyAfter = true ∧ (notify = false ∨ program = none) then none
  else some { notify := notify, program := program, notifyAfter := notifyAfter, urgent := urgent, overriding := overriding }

/-- R172. -/
def checkPort (r : RawPort) : Option Nat :=
  if r.silence.toNat < 20 ∨ r.silence.toNat > 2000 then none else some r.silence.toNat

/-- R169. -/
def checkCoalesce (r : RawCoalesce) : Option Nat :=
  if r.ageLimit.toNat < 1 ∨ r.ageLimit.toNat > 15 then none else some r.ageLimit.toNat

/-- R190. -/
def checkNode (r : RawNode) : Option NodeEntry := do
  let suppress ← asFlag r.suppressMinor
  let cellSide ← asFlag r.cellSide
  let reload ← asFlag r.reload
  if r.node = 0 ∨ r.node = 255 ∨ r.supervisor = 255 then none
  else some { node := r.node, supervisor := r.supervisor, suppressMinor := suppress, cellSide := cellSide, reload := reload }

/-! ### Entries as READ_ENTRY and the image give them (R187) -/

def Arrival.code : Arrival → Nat
  | .cell => 0
  | .plant => 1
  | .either => 2

def Action.code : Action → Nat
  | .forward => 0
  | .drop => 1
  | .consume => 2
  | .snoop => 3
  | .clamp => 4

def EndTest.code : EndTest → Nat
  | .none => 0
  | .currentLow => 1
  | .dpLow => 2

def StartMode.code : StartMode → Nat
  | .confirm => 0
  | .delay => 1

def CrushMode.code : CrushMode → Nat
  | .bypass => 0
  | .crush => 1

/-- The nine bytes the image stores; READ_ENTRY adds the hit counter. -/
def ClassifyEntry.bytes (e : ClassifyEntry) : List Byte :=
  flagByte e.valid ++ byte1 e.arrival.code ++ flagByte e.kindAny ++ [e.kind] ++ flagByte e.sourceAny ++ [e.source] ++
    flagByte e.destAny ++ [e.dest] ++ byte1 e.action.code

def CellEntry.bytes (e : CellEntry) : List Byte := [e.node] ++ flagByte e.enrolled ++ byte1 e.dropPoint ++ byte1 e.share

def ClassEntry.bytes (e : ClassEntry) : List Byte :=
  flagByte e.enabled ++ byte1 e.route.val ++ byte1 e.mode.code ++ byte2 e.fines

def PlantEntry.bytes (e : PlantEntry) : List Byte := [e.encoder, e.beltDrive, e.crusher, e.gate, e.skid]

def BeltEntry.bytes (e : BeltEntry) : List Byte :=
  byte2 e.length ++ byte2 e.cpp ++ byte2 e.mpa ++ byte1 e.gap ++ byte1 e.ageLimit ++ byte1 e.threshold ++ byte1 (absentOr e.priority)

def ProfileEntry.bytes (e : ProfileEntry) : List Byte := byte2 e.primary ++ byte2 e.overriding

def CrusherEntry.bytes (e : CrusherEntry) : List Byte :=
  byte1 e.startMode.code ++ byte2 e.startDelay ++ byte1 e.speed ++ byte2 e.jamThreshold ++ byte1 e.jamCount ++ byte2 e.clearLevel ++
    byte2 e.idle ++ byte1 e.window ++ byte1 e.margin ++ byte2 e.limit

def DrumEntry.bytes (e : DrumEntry) : List Byte :=
  flagByte e.enabled ++ byte2 e.flow ++ byte2 e.dpLimit ++ byte4 e.threshold ++ byte1 e.flush ++ byte1 e.settle

def FilterEntry.bytes (e : FilterEntry) : List Byte := byte1 e.minOnline ++ byte2 e.waitLimit

def StepB.bytes : StepB → List Byte
  | .present st => byte1 1 ++ byte1 st.mode.code ++ byte2 st.setpoint ++ byte2 st.hold
  | .absent m sp h => byte1 0 ++ [m] ++ byte2 sp.toNat ++ byte2 h.toNat

def Descriptor.bytes (d : Descriptor) : List Byte :=
  byte1 d.target.code ++ byte1 d.stepA.mode.code ++ byte2 d.stepA.setpoint ++ byte2 d.stepA.hold ++ d.stepB.bytes ++ [d.repeats] ++
    byte1 d.endTest.code ++ byte1 (absentOr d.link) ++ flagByte d.notifyAtEnd

def RouteEntry.bytes (e : RouteEntry) : List Byte :=
  flagByte e.notify ++ byte1 (absentOr e.program) ++ flagByte e.notifyAfter ++ flagByte e.urgent ++ flagByte e.overriding

def NodeEntry.bytes (e : NodeEntry) : List Byte :=
  [e.node, e.supervisor] ++ flagByte e.suppressMinor ++ flagByte e.cellSide ++ flagByte e.reload

end Sys2Proof.Machine
end

