-- ==== Sys2Proof/Machine/Ops.lean ====
section
/-! DEFINITION. The operations every block shares: placing frames in the transmit queues (R180), the orders, replies and notices built from own
telegrams, the command coalescer (Chapter 9), and the belt speed unit's selection and issue (Section 4.4). -/

namespace Sys2Proof.Machine

/-! ### Transmit queues (R180) -/

/-- A port of the part. -/
def State.port (s : State) : Port → PortRec
  | .cell => s.cellPort
  | .plant => s.plantPort

/-- A port replaced. -/
def State.setPort (s : State) (p : Port) (r : PortRec) : State :=
  match p with
  | .cell => { s with cellPort := r }
  | .plant => { s with plantPort := r }

/-- A transmit queue holds 32 frames. -/
def queueCapacity : Nat := 32

/-- A port's transmit queue has room for one frame. -/
def State.hasRoom (s : State) (p : Port) : Bool := decide ((s.port p).queue.length < queueCapacity)

/-- A frame placed at the end of a port's queue. -/
def enqueue (p : Port) (f : Frame) (s : State) : State :=
  s.setPort p { s.port p with queue := (s.port p).queue ++ [f] }

/-- A frame forwarded into a port's queue: placed, or dropped and counted where the queue is full. -/
def forwardTo (p : Port) (f : Frame) (s : State) : State :=
  if s.hasRoom p then enqueue p f s else bump (.forwardDropped p) s

/-- An own telegram from the node `src`: placed, or dropped, counted and reported where the queue is full (R180). The Ethernet source address
is built from `src` too: DEDUCED (log entry 32) for the one reply in which `src` is not the node address in force. -/
def placeFrom (src : Byte) (p : Port) (dest kind : Byte) (body : List Byte) (s : State) : State :=
  if s.hasRoom p then enqueue p (ownFrame src dest kind body) s
  else raiseFault .ownTelegramLost none none (some (.port p)) (bump (.ownLost p) s)

/-- An own telegram from the part's node address as it stands. -/
def placeOwn (p : Port) (dest kind : Byte) (body : List Byte) (s : State) : State :=
  placeFrom s.tables.node.node p dest kind body s

/-- A DISCHARGE ORDER to a node, in the cell transmit queue. -/
def sendOrder (o : Order) (node : Byte) (lot : Option LotNo) (length : Nat) (reason : Option Reason) (s : State) : State :=
  placeOwn .cell node 0x18 (orderBody o lot length reason) s

/-- The node the cell table holds for a cell. -/
def State.cellNode (s : State) (c : CellNo) : Byte := s.tables.cell[c].node

/-- An order about a lot to its cell's node, with length 0 and no reason (R28, R72, R73). -/
def sendLotOrder (o : Order) (l : LotNo) (c : CellNo) (s : State) : State := sendOrder o (s.cellNode c) (some l) 0 none s

/-- The cell whose entry holds a source node; node 0 has no cell (R44). -/
def State.cellOf (s : State) (node : Byte) : Option CellNo :=
  if node = 0 then none else (List.finRange 24).find? fun c => s.tables.cell[c].node = node

/-- A refusal, counted under its reason and sent to a node (R47). -/
def refuse (r : Reason) (node : Byte) (s : State) : State :=
  sendOrder .refuse node none 0 (some r) (bump (.refusals r) s)

/-- A LINE NOTICE, from the values handed over (R153, R154). -/
def sendNotice (src : Option SourceNo) (count : Nat) (outcome : Option ChainOutcome) (t : Trigger) (s : State) : State :=
  if s.tables.node.supervisor = 0 then bump .noticesUnaddressed s
  else if s.hasRoom .plant then
    bump .noticesQueued (placeOwn .plant s.tables.node.supervisor 0x48 (noticeBody src count outcome t) s)
  else placeOwn .plant s.tables.node.supervisor 0x48 (noticeBody src count outcome t) s

/-! ### Command coalescer -/

/-- A command is urgent if its mode is STOP or its setpoint is 0 (R164). -/
def isUrgent (m : Mode) (setpoint : Nat) : Bool := decide (m = .stop) || decide (setpoint = 0)

/-- The list after a merge into the target's entry (R164). -/
def mergeEntry (t : Target) (m : Mode) (setpoint : Nat) (l : List Entry) : List Entry :=
  l.map fun e => if e.target = t then { e with mode := m, setpoint := setpoint, urgent := e.urgent || isUrgent m setpoint } else e

/-- A drive command handed to the coalescer (R164). -/
def hand (t : Target) (m : Mode) (setpoint : Nat) (s : State) : State :=
  if s.coalescer.entries.any fun e => e.target = t then
    bump .commandsHanded (bump .commandsMerged
      { s with coalescer := { s.coalescer with entries := mergeEntry t m setpoint s.coalescer.entries }, handed := true })
  else
    bump .commandsHanded (bump .entriesCreated
      { s with
        coalescer := { s.coalescer with
          entries := s.coalescer.entries ++
            [{ target := t, mode := m, setpoint := setpoint, created := s.now, urgent := isUrgent m setpoint }] }
        handed := true })

/-- The drive node of a target (R167). -/
def State.driveNode (s : State) : Target → Byte
  | .belt => s.tables.plant.beltDrive
  | .crusher => s.tables.plant.crusher
  | .gate => s.tables.plant.gate
  | .drum _ => s.tables.plant.skid

/-- The entry an unload is called for, with the counter of the condition that calls for it (R165). -/
def State.unloadCalled (s : State) : Option (Entry × Counter) :=
  match s.coalescer.entries with
  | [] => none
  | oldest :: rest =>
    match (oldest :: rest).find? fun e => e.urgent with
    | some e => some (e, .unloadsUrgent)
    | none =>
      if rest ≠ [] then some (oldest, .unloadsByCount)
      else if s.tables.coalesceAge ≤ s.since oldest.created then some (oldest, .unloadsByAge)
      else none

/-- A target's entry taken out of the list. -/
def removeEntry (t : Target) (s : State) : State :=
  { s with coalescer := { entries := s.coalescer.entries.filter fun e => e.target ≠ t, waiting := false } }

/-- One pass of the unload test: nothing is called for, the entry is removed unaddressed, the queue is full, or the entry is unloaded. The
Bool says that the conditions are to be tested again (R165 to R167). DESIGN CHOICE (log entry 30): where a raised age limit means that no
unload is called for any more, the waiting flag stays as it is. -/
def unloadOnce (s : State) : State × Bool :=
  match s.unloadCalled with
  | none => (s, false)
  | some (e, c) =>
    if s.driveNode e.target = 0 then (bump .commandsUnaddressed (removeEntry e.target s), true)
    else if s.hasRoom .plant then
      (bump c (bump .commandsSent (placeOwn .plant (s.driveNode e.target) 0x30 (driveBody e) (removeEntry e.target s))), true)
    else if s.coalescer.waiting then (s, false)
    else (bump .unloadWaits { s with coalescer := { s.coalescer with waiting := true } }, false)

/-- Unloads follow one another; each removes an entry, so the number of entries bounds them. -/
def unloadLoop : Nat → State → State
  | 0, s => s
  | n + 1, s => if (unloadOnce s).2 then unloadLoop n (unloadOnce s).1 else (unloadOnce s).1

/-- The coalescer's test for an unload (R166). -/
def unloadTest (s : State) : State := unloadLoop (s.coalescer.entries.length + 1) s

/-- The test at the completion of an operation that handed commands over (R166). -/
def unloadIfHanded (s : State) : State := if s.handed then unloadTest { s with handed := false } else s

/-! ### Belt speed unit -/

/-- The case of the setpoint selection that applies, in the order of R76. -/
inductive SetpointCase where
  | hold
  | program
  | override
  | primary
deriving DecidableEq, Repr

/-- R76: the selected value and its source. Case 2 applies from the first step that a chain has issued to BELT (R77). -/
def State.selection (s : State) : SetpointCase × Nat :=
  if s.holdInForce then (.hold, 0)
  else match s.belt.programSetpoint with
    | some v => (.program, v)
    | none => if s.belt.latched then (.override, s.tables.profile.overriding) else (.primary, s.tables.profile.primary)

/-- The setpoint is selected and issued (R78). -/
def issueSetpoint (s : State) : State :=
  hand .belt .run s.selection.2
    (bump .setpointsIssued { s with belt := { s.belt with selected := s.selection.2, issued := some s.selection.2 } })

/-- The selection is made again, and issued if its value has changed (R76, R78). -/
def reselect (s : State) : State := if s.selection.2 = s.belt.selected then s else issueSetpoint s

/-- The override is latched by an occurrence (R79). -/
def latchOverride (s : State) : State :=
  if s.belt.latched then s
  else reselect (bump .overridesLatched { s with belt := { s.belt with latched := true, seconds := 0, secondStart := s.now } })

/-- The override is released (R81). -/
def releaseOverride (s : State) : State :=
  if s.belt.latched then reselect { s with belt := { s.belt with latched := false, seconds := 0 } } else s

end Sys2Proof.Machine
end

