-- ==== Sys2Proof/Machine/Filtration.lean ====
section
/-! DEFINITION. The filtration controller (Chapter 6): fines credit, the drum state machine, the flush arbitration, capacity and demand. -/

namespace Sys2Proof.Machine

/-! ### Drums -/

/-- The drum record at start-up, from its table entry (R132). -/
def initialDrum (e : DrumEntry) : DrumRec :=
  { state := if e.enabled then .online else .offline, fines := 0, dp := 0, failed := 0 }

/-- A drum is filtering while its state is ONLINE or FLUSH_WAIT (R110). -/
def DrumState.filtering : DrumState → Bool
  | .online => true
  | .flushWait _ => true
  | _ => false

/-- The command of each state (R110). -/
def DrumState.command : DrumState → Mode
  | .offline => .stop
  | .online => .run
  | .flushWait _ => .run
  | .flushing _ => .flush
  | .settling _ => .run
  | .fault => .stop

/-- A drum in FLUSHING or SETTLING. -/
def DrumState.busy : DrumState → Bool
  | .flushing _ => true
  | .settling _ => true
  | _ => false

/-- The greatest fines accumulator (R110). -/
def finesLimit : Nat := 16777215

/-- A drum's record. -/
def State.drum (s : State) (d : DrumNo) : DrumRec := s.filtration.drums[d]

/-- A drum's record replaced. -/
def State.setDrum (s : State) (d : DrumNo) (r : DrumRec) : State :=
  { s with filtration := { s.filtration with drums := s.filtration.drums.set d r } }

/-- The four drums in order. -/
def drumList : List DrumNo := [0, 1, 2, 3]

/-- The number n of filtering drums (R110). -/
def State.filteringCount (s : State) : Nat := drumList.countP fun d => (s.drum d).state.filtering

/-- The command of a drum's state, handed over unless a program holds the drum (R117). -/
def handDrum (d : DrumNo) (s : State) : State :=
  if s.holds (.drum d) then s else bump .drumCommands (hand (.drum d) (s.drum d).state.command 0 s)

/-- A drum's record changes; its new command is handed over if it differs from the command of the state left (R117). -/
def changeDrum (d : DrumNo) (r : DrumRec) (s : State) : State :=
  if (s.drum d).state.command = r.state.command then s.setDrum d r else handDrum d (s.setDrum d r)

/-! ### Capacity, demand and the count of filtering drums -/

/-- The sum of the rated flows of the filtering drums (R126). -/
def State.capacityNow (s : State) : Nat :=
  (drumList.map fun d => if (s.drum d).state.filtering then s.tables.drum[d].flow else 0).sum

/-- Capacity is tested against demand (R127). -/
def testCapacity (s : State) : State :=
  if s.filtration.capacity < s.filtration.demand then
    if s.filtration.low then s
    else raisePlain Source.capacityLow (bump .capacityLow { s with filtration := { s.filtration with low := true } })
  else { s with filtration := { s.filtration with low := false } }

/-- Capacity is recomputed and tested (R126). -/
def recomputeCapacity (s : State) : State :=
  testCapacity { s with filtration := { s.filtration with capacity := s.capacityNow } }

/-- R116, step 1: the residue after n fell to `n`. -/
def cutResidue (n : Nat) (s : State) : State :=
  bumpBy .finesUnfiltered (s.filtration.residue - s.filtration.residue % max n 1)
    { s with filtration := { s.filtration with residue := s.filtration.residue % max n 1 } }

/-- The steps of R116, for an operation that began with `old` filtering drums. -/
def afterCountChange (old : Nat) (s : State) : State :=
  if s.filteringCount = old then s
  else if s.filteringCount < old then recomputeCapacity (cutResidue s.filteringCount s)
  else recomputeCapacity s

/-- The demand: the sum of the cells' last allotments (R127). -/
def Filtration.demandNow (f : Filtration) : Nat := f.allotments.toList.sum

/-- A cell's last allotment, with demand recomputed and tested (R129). -/
def recordAllotment (c : CellNo) (flow : Nat) (s : State) : State :=
  testCapacity
    { s with filtration := { s.filtration with
        allotments := s.filtration.allotments.set c flow
        demand := ({ s.filtration with allotments := s.filtration.allotments.set c flow } : Filtration).demandNow } }

/-! ### Flush arbitration -/

/-- A candidate's test (R121): not granted, granted by min online, or granted as a forced flush. -/
inductive FlushVerdict where
  | passedOver
  | granted
  | forced
deriving DecidableEq, Repr

def State.flushVerdict (s : State) (d : DrumNo) : FlushVerdict :=
  match (s.drum d).state with
  | .flushWait since =>
    if s.tables.filter.minOnline ≤ s.filteringCount - 1 then .granted
    else if s.tables.filter.waitLimit * 1000 ≤ s.since since then .forced
    else .passedOver
  | _ => .passedOver

/-- A grant: the drum becomes FLUSHING and leaves the filtering drums (R121). -/
def grantFlush (d : DrumNo) (s : State) : State :=
  let flushing := changeDrum d { s.drum d with state := .flushing (s.after (s.tables.drum[d].flush * 1000)) } s
  afterCountChange s.filteringCount
    (bump .flushesStarted { flushing with filtration := { flushing.filtration with lastFlushed := d } })

/-- The candidates in their order; the first one granted ends the run (R121). -/
def considerFlush : List DrumNo → State → State
  | [], s => s
  | d :: ds, s =>
    match s.flushVerdict d with
    | .passedOver => considerFlush ds s
    | .granted => grantFlush d s
    | .forced => grantFlush d (bump .forcedFlushes (raiseDrum Source.forcedFlush d s))

/-- The round-robin order from the drum after the last flushed drum. -/
def flushOrder (last : DrumNo) : List DrumNo := [last + 1, last + 2, last + 3, last]

/-- One run of the flush arbitration (R120, R121). -/
def arbitrateFlush (s : State) : State :=
  let s := bump .flushArbitrations s
  if drumList.any fun d => (s.drum d).state.busy then s
  else considerFlush (flushOrder s.filtration.lastFlushed) s

/-- A drum enters FLUSH_WAIT (R119). No command is handed over: the command of FLUSH_WAIT is that of ONLINE. -/
def enterWait (d : DrumNo) (s : State) : State := changeDrum d { s.drum d with state := .flushWait s.now } s

/-! ### Fines credit -/

/-- The fines of a lot in grams (R114). -/
def lotFines (mass factor : Nat) : Nat := mass * factor * 100 / 1024

/-- A drum's share of a split added to its accumulator, which holds at its maximum (R115). -/
def addFines (share : Nat) (d : DrumNo) (s : State) : State :=
  if (s.drum d).state.filtering then s.setDrum d { s.drum d with fines := min ((s.drum d).fines + share) finesLimit } else s

/-- An ONLINE drum at or above its fines threshold (R119). -/
def State.finesReached (s : State) (d : DrumNo) : Bool :=
  decide ((s.drum d).state = .online) && decide (s.tables.drum[d].threshold ≤ (s.drum d).fines)

/-- A drum whose fines accumulator has reached its threshold enters FLUSH_WAIT (R119). -/
def waitIfReached (d : DrumNo) (s : State) : State := if s.finesReached d then enterWait d s else s

/-- The ONLINE drums are tested against their fines thresholds in drum order, and the arbitration runs once if one entered FLUSH_WAIT
(R115). -/
def testFines (s : State) : State :=
  if drumList.any fun d => s.finesReached d then
    arbitrateFlush (drumList.foldl (fun t d => waitIfReached d t) s)
  else s

/-- The fines of a sealed lot, computed and credited (R114, R115). -/
def creditFines (mass : Nat) (k : ClassNo) (s : State) : State :=
  let fines := lotFines mass s.tables.cls[k].fines
  let n := s.filteringCount
  let s := bumpBy .finesComputed fines (bump .lotFines s)
  if n = 0 then bumpBy .finesUnfiltered fines s
  else
    let total := fines + s.filtration.residue
    let s := drumList.foldl (fun t d => addFines (total / n) d t) s
    testFines (bumpBy .finesCredited (total / n * n) { s with filtration := { s.filtration with residue := total % n } })

/-! ### Commands of the filtration controller -/

/-- The dp case of R119: DRUM_DP_HIGH is raised and counted (R118). -/
def enterWaitByDp (d : DrumNo) (s : State) : State :=
  bump .dpHigh (raiseDrum Source.drumDpHigh d (enterWait d s))

/-- FILTER SAMPLE (R118). -/
def opFilterSample (drum : Byte) (dp : Half) (s : State) : State :=
  match asIndex 4 drum.toNat with
  | none => bump .filterInvalid s
  | some d =>
    let s := s.setDrum d { s.drum d with dp := dp.toNat }
    if (s.drum d).state = .online ∧ s.tables.drum[d].dpLimit ≤ dp.toNat then arbitrateFlush (enterWaitByDp d s) else s

/-- The end of a FLUSHING phase (R122). -/
def opFlushTimeEnd (d : DrumNo) (s : State) : State :=
  match (s.drum d).state with
  | .flushing phaseEnd =>
    if s.reached phaseEnd then
      changeDrum d { s.drum d with state := .settling (s.after (s.tables.drum[d].settle * 1000)) } s
    else s
  | _ => s

/-- R123, step 5: the third failed flush. -/
def failDrum (d : DrumNo) (s : State) : State :=
  bump .drumFaults (raiseFault .drumFault none none (some (.drum d)) (raiseDrum Source.drumFault d
    (changeDrum d { s.drum d with state := .fault } s)))

/-- R123, steps 2 to 5: what becomes of a drum whose settle has ended and whose accumulator is cleared. -/
def settleOutcome (d : DrumNo) (s : State) : State :=
  if s.tables.drum[d].enabled = false then changeDrum d { s.drum d with state := .offline } s
  else if (s.drum d).dp < s.tables.drum[d].dpLimit then
    bump .flushesGood (changeDrum d { s.drum d with state := .online, failed := 0 } s)
  else
    let s := bump .flushesFailed (s.setDrum d { s.drum d with failed := (s.drum d).failed + 1 })
    if (s.drum d).failed < 3 then enterWait d s else failDrum d s

/-- The end of a SETTLING phase (R123). -/
def opSettleTimeEnd (d : DrumNo) (s : State) : State :=
  match (s.drum d).state with
  | .settling phaseEnd =>
    if s.reached phaseEnd then
      arbitrateFlush (afterCountChange s.filteringCount (settleOutcome d (s.setDrum d { s.drum d with fines := 0 })))
    else s
  | _ => s

/-- A wait in FLUSH_WAIT reaches the flush wait limit (R120). -/
def opFlushWaitLimit (d : DrumNo) (s : State) : State :=
  match (s.drum d).state with
  | .flushWait since => if s.tables.filter.waitLimit * 1000 ≤ s.since since then arbitrateFlush s else s
  | _ => s

/-- R112, step 2: the state and the record after a change of the enabled flag. -/
def enableDrum (was new : Bool) (r : DrumRec) : DrumRec :=
  if was = true ∧ new = false then
    match r.state with
    | .online => { r with state := .offline }
    | .flushWait _ => { r with state := .offline }
    | .fault => { r with state := .offline }
    | _ => r
  else if was = false ∧ new = true then
    if r.state = .offline then { r with state := .online, fines := 0, failed := 0 } else r
  else r

/-- R112, step 3: an ONLINE drum is tested against the new threshold, then against the new limit (assumption 8). -/
def retestDrum (d : DrumNo) (s : State) : State :=
  if (s.drum d).state = .online then
    if s.tables.drum[d].threshold ≤ (s.drum d).fines then s.setDrum d { s.drum d with state := .flushWait s.now }
    else if s.tables.drum[d].dpLimit ≤ (s.drum d).dp then
      bump .dpHigh (raiseDrum Source.drumDpHigh d (s.setDrum d { s.drum d with state := .flushWait s.now }))
    else s
  else s

/-- R112, steps 2 to 4, on a state whose table already holds the new entry; `old` is the entry before the write. -/
def applyDrum (d : DrumNo) (old : DrumEntry) (s : State) : State :=
  let tested := retestDrum d (s.setDrum d (enableDrum old.enabled s.tables.drum[d].enabled (s.drum d)))
  let handedOver := if (s.drum d).state.command = (tested.drum d).state.command then tested else handDrum d tested
  if handedOver.filteringCount = s.filteringCount then
    if (handedOver.drum d).state.filtering ∧ old.flow ≠ s.tables.drum[d].flow then recomputeCapacity handedOver else handedOver
  else afterCountChange s.filteringCount handedOver

/-- R112, step 5: whether the arbitration runs, between the states before and after steps 2 to 4. -/
def drumNeedsArbitration (d : DrumNo) (before after : State) : Bool :=
  decide (after.filteringCount ≠ before.filteringCount) ||
    (match (before.drum d).state, (after.drum d).state with
     | .flushWait _, _ => false
     | _, .flushWait _ => true
     | _, _ => false)

end Sys2Proof.Machine
end

