-- ==== Sys2Proof/Machine/Gate.lean ====
section
/-! DEFINITION. The head gate (Section 5.2): its target, its travels, its status reports and its hold by a program. -/

namespace Sys2Proof.Machine

/-- A pitch's class, absent when it is EMPTY (R1). -/
def Pitch.cls : Pitch → Option ClassNo
  | .empty => none
  | .reserved _ k => some k
  | .loaded _ k => some k

/-- A pitch's lot, absent when it is EMPTY (R1). -/
def Pitch.lot : Pitch → Option LotNo
  | .empty => none
  | .reserved l _ => some l
  | .loaded l _ => some l

/-- The class of the lowest-indexed non-EMPTY pitch. -/
def firstClass (map : List Pitch) : Option ClassNo := map.findSome? Pitch.cls

/-- The gate target: the route, as the CLASS table stands, of that class (R88). -/
def State.gateTarget (s : State) : Option RouteNo := (firstClass s.tracker.map).map fun k => s.tables.cls[k].route

/-- The gate state replaced. -/
def State.setGate (s : State) (g : GateState) : State := { s with head := { s.head with gate := g } }

/-- A MOVE handed to the coalescer and counted (R108). -/
def handMove (r : RouteNo) (s : State) : State := bump .gateMoves (hand .gate .move r.val s)

/-- A new travel toward a route; no MOVE is handed over while a program holds GATE (R88, R91). -/
def startTravel (r : RouteNo) (s : State) : State :=
  if s.holds .gate then s.setGate (.moving (some r) s.now false) else handMove r (s.setGate (.moving (some r) s.now false))

/-- The evaluation of the gate target (R88). -/
def evalGate (s : State) : State :=
  match s.gateTarget with
  | none => s
  | some r =>
    match s.head.gate with
    | .settled at_ => if at_ = r then s else startTravel r s
    | .moving toward _ _ => if toward = some r then s else startTravel r s

/-- A position 0 to 7. -/
def positionRoute (p : Byte) : Option RouteNo := asIndex 8 p.toNat

/-- A SETTLED gate reports another position: the position is lost (R89). -/
def losePosition (settled : RouteNo) (s : State) : State :=
  bump .gateLost (startTravel (s.gateTarget.getD settled) s)

/-- GATE STATUS (R89). -/
def opGateStatus (p : Byte) (s : State) : State :=
  if 7 < p.toNat ∧ p ≠ 15 then bump .gateInvalid s
  else
    let s := { s with head := { s.head with lastPosition := some p } }
    match s.head.gate with
    | .settled r => if positionRoute p = some r then s else losePosition r s
    | .moving (some t) _ _ => if positionRoute p = some t then s.setGate (.settled t) else s
    | .moving none _ _ =>
      match positionRoute p with
      | some r => s.setGate (.settled r)
      | none => s

/-- The gate travel limit of 3,000 ms (R95). -/
def travelLimit : Nat := 3000

/-- The expiry of a gate travel (R90). -/
def opGateTimeout (s : State) : State :=
  match s.head.gate with
  | .moving (some t) start false =>
    if s.holds .gate ∨ s.since start < travelLimit then s
    else
      bump .gateTimeouts (handMove t (raiseFault .gateTimeout none none none (raisePlain Source.gateTimeout
        (s.setGate (.moving (some t) start true)))))
  | _ => s

/-- A chain takes hold of GATE: timeout taken is set for a travel in progress (R91). -/
def gateHeld (s : State) : State :=
  match s.head.gate with
  | .moving (some t) start _ => s.setGate (.moving (some t) start true)
  | _ => s

/-- A chain releases GATE: the head controller moves it toward the present target, or toward the settled route or previous target
(R91). -/
def gateReleased (s : State) : State :=
  match s.gateTarget, s.head.gate with
  | some r, _ => startTravel r s
  | none, .settled r => startTravel r s
  | none, .moving (some t) _ _ => startTravel t s
  | none, .moving none _ _ => s

end Sys2Proof.Machine
end

