-- ==== Sys2Proof/Machine/Lots.lean ====
section
/-! DEFINITION. The lot table (Chapter 2) and the belt map's operations that other blocks reach it through (Section 1.1): grant, loading, sealing,
withdraw of a loading lot, mass reports, shares and delivery. -/

namespace Sys2Proof.Machine

/-- A lot record replaced. -/
def State.setLot (s : State) (l : LotNo) (r : Lot) : State := { s with lots := s.lots.set l r }

/-- The belt map replaced. -/
def State.setMap (s : State) (m : List Pitch) : State := { s with tracker := { s.tracker with map := m } }

/-- The record of a lot that is in LOADING. -/
def Lot.loading? : Lot → Option ActiveLot
  | .free _ => none
  | .active a => if a.state = .loading then some a else none

/-- The lot of a cell that is in LOADING; a cell has at most one (R42). -/
def State.loadingLot (s : State) (c : CellNo) : Option LotNo :=
  (List.finRange 64).find? fun l =>
    match s.lots[l].loading? with
    | some a => a.cell = c
    | none => false

/-- The lots in LOADING in ascending lot number. -/
def State.loadingLots (s : State) : List LotNo := (List.finRange 64).filter fun l => s.lots[l].loading?.isSome

/-- The lowest-numbered FREE record (R26). -/
def State.lowestFree (s : State) : Option LotNo :=
  (List.finRange 64).find? fun l =>
    match s.lots[l] with
    | .free _ => true
    | .active _ => false

/-- The lot record that a grant opens (R26). -/
def grantedLot (c : CellNo) (q : Request) : Lot :=
  .active { state := .loading, cell := c, cls := q.cls, requested := q.length, length := q.length, loaded := 0, delivered := 0,
            mass := q.mass, credited := 0, contaminated := false, massFinal := false }

/-- The window of a grant written into the map (R2). -/
def writeWindow (dp len : Nat) (l : LotNo) (k : ClassNo) (m : List Pitch) : List Pitch :=
  m.take dp ++ List.replicate len (.reserved l k) ++ m.drop (dp + len)

/-- A pitch of a released lot: its reservation is given back (R3). -/
def releasePitch (l : LotNo) : Pitch → Pitch
  | .reserved l' k => if l' = l then .empty else .reserved l' k
  | p => p

/-- A lot's remaining reservation is removed from the map (R3), and the gate target is evaluated (R88). -/
def releaseLot (l : LotNo) (s : State) : State := evalGate (s.setMap (s.tracker.map.map (releasePitch l)))

/-- A lot whose loaded count has reached its length is sealed in full (R28). -/
def sealFull (l : LotNo) (a : ActiveLot) (s : State) : State :=
  creditFines a.mass a.cls
    (sendLotOrder .stop l a.cell (bump .lotsSealedFull (s.setLot l (.active { a with state := .riding }))))

/-- One pitch of a LOADING lot has loaded (R27). -/
def pitchLoaded (l : LotNo) (a : ActiveLot) (s : State) : State :=
  if a.loaded + 1 < a.length then s.setLot l (.active { a with loaded := a.loaded + 1 })
  else sealFull l { a with loaded := a.loaded + 1 } s

/-- The pitch at index `i` becomes LOADED where it is RESERVED with the lot (R17). -/
def loadPitch (i : Nat) (l : LotNo) (a : ActiveLot) (s : State) : State :=
  match s.tracker.map[i]? with
  | some (.reserved l' k) => if l' = l then pitchLoaded l a (s.setMap (s.tracker.map.set i (.loaded l k))) else s
  | _ => s

/-- The crossing test of one cell's loading lot, at the index below its drop point (R17). -/
def crossCell (c : CellNo) (s : State) : State :=
  match s.loadingLot c with
  | none => s
  | some l =>
    match s.lots[l].loading? with
    | none => s
    | some a => loadPitch (s.tables.cell[c].dropPoint - 1) l a s

/-- Step 4 of a shift: the lots in LOADING in ascending order of their cell number (R17). -/
def crossings (s : State) : State := (List.finRange 24).foldl (fun t c => crossCell c t) s

/-- A withdraw of a loading lot with nothing loaded frees it (R30). -/
def freeWithdrawn (l : LotNo) (a : ActiveLot) (s : State) : State :=
  bump .lotsAbandoned (s.setLot l (.free (some a.cell)))

/-- A withdraw of a loading lot with pitches loaded seals it short (R31). -/
def sealShort (l : LotNo) (a : ActiveLot) (s : State) : State :=
  let mass := a.mass * a.loaded / a.length
  creditFines mass a.cls
    (bump .lotsCutShort (s.setLot l (.active { a with state := .riding, mass := mass, length := a.loaded })))

/-- A withdraw reaches the lot table (R29). -/
def withdrawLoading (l : LotNo) (a : ActiveLot) (s : State) : State :=
  let s := sendLotOrder .stop l a.cell (releaseLot l s)
  if a.loaded = 0 then freeWithdrawn l a s else sealShort l a s

/-! ### Mass reports (Section 2.4) -/

/-- The classes of a report (R32). -/
inductive ReportClass where
  | accepted (l : LotNo) (a : ActiveLot)
  | late (l : LotNo)
  | stray
deriving DecidableEq, Repr

/-- The report of a known cell about a lot record (R32). -/
def classifyRecord (c : CellNo) (l : LotNo) : Lot → ReportClass
  | .free owner => if owner = some c then .late l else .stray
  | .active a =>
    if a.cell = c then (if a.state = .delivering then .late l else .accepted l a) else .stray

/-- A report is accepted, late or stray (R32). -/
def State.classifyReport (s : State) (node lot : Byte) : ReportClass :=
  match s.cellOf node, asIndex 64 lot.toNat with
  | some c, some l => classifyRecord c l s.lots[l]
  | _, _ => .stray

/-- DISCHARGE END (R32 to R34). -/
def opDischargeEnd (node lot : Byte) (mass : Half) (s : State) : State :=
  match s.classifyReport node lot with
  | .accepted l a => bump .massAccepted (s.setLot l (.active { a with mass := mass.toNat }))
  | .late l => raiseFault .lateMass (some l) (s.cellOf node) none (bump .lateReports s)
  | .stray => raiseFault .strayReport (asIndex 64 lot.toNat) (s.cellOf node) none (bump .strayReports s)

/-! ### Shares and delivery (Sections 2.5 and 2.6) -/

/-- The share of a lot's pitches but its tail pitch (R35). -/
def ActiveLot.share (a : ActiveLot) : Nat := a.mass / a.length

/-- The mass of a lot's tail pitch: share + remainder (R35). -/
def ActiveLot.tailMass (a : ActiveLot) : Nat := a.mass / a.length + a.mass % a.length

/-- The credit of a lot's next delivered pitch (R36). -/
def ActiveLot.credit (a : ActiveLot) : Nat :=
  if a.delivered + 1 < a.length then a.share else a.mass - a.credited

/-- The record after a pitch of the lot is delivered and the lot is not complete (R36). -/
def ActiveLot.afterDelivery (a : ActiveLot) : ActiveLot :=
  { a with state := .delivering, delivered := a.delivered + 1, credited := a.credited + a.credit, massFinal := true }

/-- The lot completes: the record becomes FREE and LOT_DELIVERED is raised (R37). -/
def completeLot (l : LotNo) (a : ActiveLot) (s : State) : State :=
  raise { source := Source.lotDelivered, lot := some l, cell := some a.cell, drum := none }
    (bump .lotsDelivered (s.setLot l (.free (some a.cell))))

end Sys2Proof.Machine
end

