-- ==== Sys2Proof/Machine/Arbiter.lean ====
section
/-! DEFINITION. The discharge arbiter (Chapter 3): arrival, withdraw, age and expiry of requests, and the arbiter pass with its grants; and the changes of the
hold-cause set with their orders (Section 4.2), which end in a pass. -/

namespace Sys2Proof.Machine

/-- A cell's pending request. -/
def State.request (s : State) (c : CellNo) : Option Request := s.arbiter.requests[c]

/-- A cell's pending request replaced or removed. -/
def State.setRequest (s : State) (c : CellNo) (q : Option Request) : State :=
  { s with arbiter := { s.arbiter with requests := s.arbiter.requests.set c q } }

/-- The 24 cells in ascending order. -/
def cellList : List CellNo := List.finRange 24

/-- A cell's drop point dp(c). -/
def State.dropPoint (s : State) (c : CellNo) : Nat := s.tables.cell[c].dropPoint

/-! ### The arbiter pass (Section 3.5) -/

/-- The upstream hold applies to a cell: an urgent request is pending at a lower drop point (R60). -/
def State.upstreamHeld (s : State) (c : CellNo) : Bool :=
  cellList.any fun d =>
    match s.request d with
    | some q => q.urgent && decide (s.dropPoint d < s.dropPoint c)
    | none => false

/-- The window lies in the map and every pitch of it is EMPTY (R61). -/
def windowEmpty (dp len : Nat) (m : List Pitch) : Bool := decide ((m.drop dp).take len = List.replicate len .empty)

/-- No pitch from dp − G to dp + L − 1 + G is of a class other than `k`; the upper end stops at P − 1 (R61). -/
def guardClear (dp len gap : Nat) (k : ClassNo) (m : List Pitch) : Bool :=
  ((m.drop (dp - gap)).take (min dp gap + len + gap)).all fun p => p.cls = none ∨ p.cls = some k

/-- A request is feasible on the map as it stands (R61). -/
def State.feasible (s : State) (c : CellNo) (q : Request) : Bool :=
  s.lowestFree.isSome && windowEmpty (s.dropPoint c) q.length s.tracker.map &&
    guardClear (s.dropPoint c) q.length s.tables.belt.gap q.cls s.tracker.map

/-- A request is granted with a lot number (R62); the gate target is evaluated after the window is written (R88). -/
def grant (c : CellNo) (q : Request) (l : LotNo) (s : State) : State :=
  let s := bump .lotsGranted (s.setLot l (grantedLot c q))
  let s := evalGate (s.setMap (writeWindow (s.dropPoint c) q.length l q.cls s.tracker.map))
  let s := sendOrder .start (s.cellNode c) (some l) q.length none s
  State.setRequest { s with arbiter := { s.arbiter with pointer := c } } c none

/-- One request is considered (R59). -/
def considerRequest (c : CellNo) (q : Request) (s : State) : State :=
  if s.tables.cls[q.cls].enabled = false then refuse .classDisabled (s.cellNode c) (s.setRequest c none)
  else if s.upstreamHeld c then bump .upstreamSkips s
  else if s.feasible c q = false then bump .notFeasible s
  else match s.lowestFree with
    | some l => grant c q l s
    | none => s

/-- A cell's turn in a pass: passed over when it has no pending request. -/
def considerCell (c : CellNo) (s : State) : State :=
  match s.request c with
  | none => s
  | some q => considerRequest c q s

/-- The sweep's cells in order: from the cell after the pointer, 24 positions modulo 24, the priority cell passed over (R58). -/
def sweepOrder (pointer : CellNo) (priority : Option CellNo) : List CellNo :=
  (cellList.map fun k => pointer + 1 + k).filter fun c => priority ≠ some c

/-- The considerations of a pass that is not held (R58). -/
def sweepPass (s : State) : State :=
  let s := match s.tables.belt.priority with
    | some c => considerCell c s
    | none => s
  (sweepOrder s.arbiter.pointer s.tables.belt.priority).foldl (fun t c => considerCell c t) s

/-- An arbiter pass (R56, R57). -/
def arbiterPass (s : State) : State :=
  let s := bump .passes s
  if s.holdInForce then s else sweepPass s

/-! ### The hold-cause set (Sections 4.1 and 4.2) -/

/-- The three hold causes (R68). -/
inductive HoldCause where
  | supervisor
  | crusher
  | link
deriving DecidableEq, Repr

/-- A cause is in force. -/
def State.causeInForce (s : State) : HoldCause → Bool
  | .supervisor => s.belt.supervisor
  | .crusher => s.belt.crusher
  | .link => s.belt.link

/-- A cause's flag written. -/
def State.setCauseFlag (s : State) (c : HoldCause) (b : Bool) : State :=
  match c with
  | .supervisor => { s with belt := { s.belt with supervisor := b } }
  | .crusher => { s with belt := { s.belt with crusher := b } }
  | .link => { s with belt := { s.belt with link := b } }

/-- HOLD or RESUME to the cell of one loading lot, counted when it is decided (R72, R73). -/
def orderLoading (o : Order) (c : Counter) (l : LotNo) (s : State) : State :=
  match s.lots[l].loading? with
  | some a => sendLotOrder o l a.cell (bump c s)
  | none => s

/-- The orders to every cell with a lot in LOADING, in ascending lot number (R72, R73). -/
def orderAllLoading (o : Order) (c : Counter) (s : State) : State :=
  s.loadingLots.foldl (fun t l => orderLoading o c l t) s

/-- A cause is set; a set that becomes non-empty sends HOLD orders and stops the belt (R68, R72, R78). -/
def setCause (c : HoldCause) (s : State) : State :=
  if s.causeInForce c then s
  else if s.holdInForce then s.setCauseFlag c true
  else reselect (orderAllLoading .hold .holdOrders (bump .holdsBegun (s.setCauseFlag c true)))

/-- A cause is cleared; a set that becomes empty sends RESUME orders, issues the setpoint and makes a pass (R68, R73). -/
def clearCause (c : HoldCause) (s : State) : State :=
  if s.causeInForce c = false then s
  else if (s.setCauseFlag c false).holdInForce then s.setCauseFlag c false
  else arbiterPass (reselect (orderAllLoading .resume .resumeOrders (s.setCauseFlag c false)))

/-! ### Arrival, withdraw, age -/

/-- The tests of R46 in their order: the refusal, or the cell, class and length of a request that passes the first four. -/
def State.testRequest (s : State) (node cls length : Byte) : Except Reason (CellNo × ClassNo × Nat) :=
  match s.cellOf node with
  | none => .error .notEnrolled
  | some c =>
    if s.tables.cell[c].enrolled = false then .error .notEnrolled
    else match asIndex 8 cls.toNat with
      | none => .error .classDisabled
      | some k =>
        if s.tables.cls[k].enabled = false then .error .classDisabled
        else if length = 0 ∨ 16 < length.toNat ∨ s.tables.belt.length < s.dropPoint c + length.toNat then .error .badLength
        else if (s.loadingLot c).isSome then .error .busy
        else .ok (c, k, length.toNat)

/-- A request is added, or replaces the cell's pending one and keeps its arrival time and its urgent flag (R48, R49). -/
def placeRequest (c : CellNo) (k : ClassNo) (len mass : Nat) (s : State) : State :=
  match s.request c with
  | some q => bump .requestsReplaced (s.setRequest c (some { q with cls := k, length := len, mass := mass }))
  | none =>
    bump .requestsAdded (s.setRequest c (some { cls := k, length := len, mass := mass, arrival := s.now, urgent := false }))

/-- DISCHARGE REQUEST taken at the cell port from a node (R46 to R49). -/
def opDischargeRequest (node cls length : Byte) (mass : Half) (s : State) : State :=
  match s.testRequest node cls length with
  | .error r => refuse r node s
  | .ok (c, k, len) => arbiterPass (placeRequest c k len mass.toNat s)

/-- DISCHARGE WITHDRAW taken at the cell port from a node (R50). -/
def opDischargeWithdraw (node : Byte) (s : State) : State :=
  match s.cellOf node with
  | none => refuse .noRequest node s
  | some c =>
    match s.request c with
    | some _ => arbiterPass (refuse .withdrawn node (s.setRequest c none))
    | none =>
      match s.loadingLot c with
      | none => refuse .noRequest node s
      | some l =>
        match s.lots[l].loading? with
        | none => refuse .noRequest node s
        | some a => arbiterPass (withdrawLoading l a s)

/-- A discharge telegram that comes by another path (R45). -/
def discardDischarge (s : State) : State := bump .dischargeDiscarded s

/-- The age of a cell's request has reached a number of seconds (R52). -/
def State.ageReached (s : State) (q : Request) (seconds : Nat) : Bool := decide (seconds * 1000 ≤ s.since q.arrival)

/-- A request that is to become urgent: it is not urgent, the hold threshold is non-zero and below the age limit, and its age has reached it
(R53). -/
def State.urgentDue (s : State) (c : CellNo) : Bool :=
  match s.request c with
  | none => false
  | some q =>
    !q.urgent && decide (s.tables.belt.threshold ≠ 0) && decide (s.tables.belt.threshold < s.tables.belt.ageLimit) &&
      s.ageReached q s.tables.belt.threshold

/-- A request becomes urgent (R53). -/
def makeUrgent (c : CellNo) (s : State) : State :=
  match s.request c with
  | none => s
  | some q => bump .requestsUrgent (s.setRequest c (some { q with urgent := true }))

/-- REQUEST_URGENT (R53). -/
def opRequestUrgent (c : CellNo) (s : State) : State := if s.urgentDue c then makeUrgent c s else s

/-- A request whose age has reached the request age limit (R54). -/
def State.expiryDue (s : State) (c : CellNo) : Bool :=
  match s.request c with
  | none => false
  | some q => s.ageReached q s.tables.belt.ageLimit

/-- A request expires (R54). -/
def expireRequest (c : CellNo) (s : State) : State :=
  raise { source := Source.requestExpired, lot := none, cell := some c, drum := none }
    (refuse .expired (s.cellNode c) (s.setRequest c none))

/-- REQUEST_EXPIRY (R54). -/
def opRequestExpiry (c : CellNo) (s : State) : State := if s.expiryDue c then expireRequest c s else s

/-- A written age limit and hold threshold applied to every pending request: the expiries in ascending cell order, then the urgent flags
(R55). -/
def applyAges (s : State) : State :=
  cellList.foldl (fun t c => opRequestUrgent c t) (cellList.foldl (fun t c => opRequestExpiry c t) s)

/-- A pending request answered REFUSE RESTARTED (R67). -/
def refuseRestarted (c : CellNo) (s : State) : State :=
  match s.request c with
  | none => s
  | some _ => refuse .restarted (s.cellNode c) s

/-- Every pending request is answered REFUSE RESTARTED in ascending cell order, and the list is emptied (R67, R197). -/
def restartRequests (s : State) : State :=
  let s := cellList.foldl (fun t c => refuseRestarted c t) s
  { s with arbiter := { s.arbiter with requests := Vector.replicate 24 none } }

end Sys2Proof.Machine
end

