-- ==== Sys2Proof/Machine/Head.lean ====
section
/-! DEFINITION. The head controller (Chapter 5) but its gate: delivered pitches and their credits, the approach load, the crusher state machine and the
interlock. -/

namespace Sys2Proof.Machine

/-! ### Crush pitches and the approach load -/

/-- The crusher mode of a class is CRUSH. -/
def State.crushClass (s : State) (k : ClassNo) : Bool := decide (s.tables.cls[k].mode = .crush)

/-- A crush pitch: non-EMPTY, of a class with crusher mode CRUSH (R85). -/
def State.crushPitch (s : State) (p : Pitch) : Bool :=
  match p.cls with
  | none => false
  | some k => s.crushClass k

/-- The map holds a crush pitch at an index below `n`. -/
def State.crushBelow (s : State) (n : Nat) : Bool := (s.tracker.map.take n).any fun p => s.crushPitch p

/-- The mass of the pitch at index `i`: its lot's share, or share + remainder where no pitch of the lot lies above it (R35). -/
def State.pitchMass (s : State) (i : Nat) : Nat :=
  match s.tracker.map[i]? with
  | some (.loaded l _) =>
    match s.lots[l] with
    | .active a => if (s.tracker.map.drop (i + 1)).any fun p => p.lot = some l then a.share else a.tailMass
    | .free _ => 0
  | _ => 0

/-- A LOADED crush pitch stands at index `i`. -/
def State.loadedCrush (s : State) (i : Nat) : Bool :=
  match s.tracker.map[i]? with
  | some (.loaded _ k) => s.crushClass k
  | _ => false

/-- The approach load: the masses of the LOADED crush pitches at indices 0 to A − 1 (R96). -/
def State.approachNow (s : State) : Nat :=
  ((List.range s.tables.crusher.window).map fun i => if s.loadedCrush i then s.pitchMass i else 0).sum

/-- The approach load is computed, and SURGE raised where it rises above the limit (R96). -/
def computeApproach (s : State) : State :=
  let load := s.approachNow
  let above := decide (s.tables.crusher.limit < load)
  let s := if above && !s.head.surge then bump .surges (raisePlain Source.surge s) else s
  { s with head := { s.head with approach := load, surge := above } }

/-! ### The interlock (Section 5.6) -/

/-- The crusher is RUNNING. -/
def CrusherState.isRunning : CrusherState → Bool
  | .running _ => true
  | _ => false

/-- The interlock condition (R105). -/
def State.interlockCondition (s : State) : Bool :=
  s.crushBelow s.tables.crusher.margin && !s.head.crusher.isRunning

/-- The cell of an active lot. -/
def State.lotCell (s : State) (l : LotNo) : Option CellNo :=
  match s.lots[l] with
  | .active a => some a.cell
  | .free _ => none

/-- INTERLOCK_HOLD with the lot and the cell of the lowest-indexed crush pitch (R105). -/
def State.interlockOccurrence (s : State) : Occurrence :=
  let lot := (s.tracker.map.find? fun p => s.crushPitch p).bind Pitch.lot
  { source := Source.interlockHold, lot := lot, cell := lot.bind s.lotCell, drum := none }

/-- The interlock is evaluated (R105). -/
def interlock (s : State) : State :=
  if s.interlockCondition then
    if s.belt.crusher then s
    else setCause .crusher (bump .interlockHolds (raise s.interlockOccurrence s))
  else clearCause .crusher s

/-! ### The crusher state machine (Section 5.5) -/

/-- The crusher state replaced. -/
def State.setCrusher (s : State) (c : CrusherState) : State := { s with head := { s.head with crusher := c } }

/-- STOP handed to the crusher. -/
def handStop (s : State) : State := hand .crusher .stop 0 s

/-- The start confirmation limit of 2,000 ms (R95). -/
def confirmLimit : Nat := 2000

/-- The time a start takes in the mode in force (R98). -/
def State.startLimit (s : State) : Nat :=
  match s.tables.crusher.startMode with
  | .confirm => confirmLimit
  | .delay => s.tables.crusher.startDelay

/-- A start: the start mode is latched, FORWARD handed over and the start timer set (R98). The interlock follows the change of state
(R97). -/
def startCrusher (s : State) : State :=
  interlock (bump .crusherStarts (hand .crusher .forward s.tables.crusher.speed
    { s with head := { s.head with startMode := s.tables.crusher.startMode, crusher := .starting s.now s.startLimit } }))

/-- Entry to RUNNING (R99). -/
def enterRunning (s : State) : State :=
  interlock { s with head := { s.head with crusher := .running s.now, jam := 0 } }

/-- Entry to FAULT with STOP, an event and the fault CRUSHER_FAULT (R99, R100, R102). -/
def crusherToFault (src : SourceNo) (s : State) : State :=
  raiseFault .crusherFault none none none (raisePlain src (handStop (s.setCrusher .fault)))

/-- Entry to OFF with STOP and no start pending. -/
def crusherToOff (s : State) : State := handStop (s.setCrusher .off)

/-- Steps 2 and 3 of R100: the current of a status taken in RUNNING. -/
def testCurrent (current : Nat) (s : State) : State :=
  if current < s.tables.crusher.jamThreshold then { s with head := { s.head with jam := 0 } }
  else
    let s := { s with head := { s.head with jam := min (s.head.jam + 1) 15 } }
    if s.tables.crusher.jamCount ≤ s.head.jam then
      interlock (bump .crusherJams (raisePlain Source.crusherJam (handStop (s.setCrusher .stalled))))
    else s

/-- CRUSHER STATUS (R97, R99, R100). -/
def opCrusherStatus (current : Half) (confirm : Byte) (s : State) : State :=
  let s := { s with head := { s.head with current := current.toNat, confirm := decide (confirm ≠ 0) } }
  match s.head.crusher with
  | .starting _ _ => if s.head.startMode = .confirm ∧ confirm ≠ 0 then enterRunning s else s
  | .running _ =>
    if s.head.startMode = .confirm ∧ confirm = 0 then
      interlock (bump .crusherTrips (crusherToFault Source.crusherFault s))
    else testCurrent current.toNat s
  | _ => s

/-- START_TIMER_EXPIRY (R99). -/
def opStartTimerExpiry (s : State) : State :=
  match s.head.crusher with
  | .starting at_ limit =>
    if s.since at_ < limit then s
    else match s.head.startMode with
      | .delay => enterRunning s
      | .confirm => interlock (bump .startFailures (crusherToFault Source.crusherStartFail s))
  | _ => s

/-- The idle timer has expired: it restarts while crush material lies below A, and the crusher stops otherwise (R101). -/
def idleExpired (s : State) : State :=
  if s.crushBelow s.tables.crusher.window then s.setCrusher (.running s.now)
  else interlock (bump .idleStops (crusherToOff s))

/-- The idle timer of a RUNNING crusher has reached the idle time (R101). -/
def State.idleDue (s : State) : Bool :=
  match s.head.crusher with
  | .running idleSince => decide (s.tables.crusher.idle ≠ 0) && decide (s.tables.crusher.idle * 1000 ≤ s.since idleSince)
  | _ => false

/-- IDLE_TIMER_EXPIRY (R101). -/
def opIdleTimerExpiry (s : State) : State := if s.idleDue then idleExpired s else s

/-- A chain takes hold of CRUSHER: REVERSING from whatever state it is in (R102). -/
def crusherHeld (s : State) : State := interlock (s.setCrusher .reversing)

/-- A chain releases CRUSHER: its outcome decides (R102). -/
def crusherReleased (o : ChainOutcome) (s : State) : State :=
  match o with
  | .cleared => startCrusher s
  | _ => interlock (crusherToFault Source.crusherFault s)

/-! ### Delivered pitches (Section 5.3) -/

/-- The gate outcome of a pitch (R92, step 1): the route it is credited to, absent when it is unrouted, and whether it is misrouted. -/
def gateOutcome (g : GateState) (route : RouteNo) : Option RouteNo × Bool :=
  match g with
  | .settled r => (some r, decide (r ≠ route))
  | .moving _ _ _ => (none, true)

/-- The credit of a pitch added to the mass of its outcome route, or to the unrouted total (R92, step 4). -/
def creditRoute (outcome : Option RouteNo) (credit : Nat) (s : State) : State :=
  match outcome with
  | some r => bumpBy (.routeMass r) credit s
  | none => bumpBy .unrouted credit s

/-- A misrouted pitch (R92, step 2). -/
def reportMisroute (l : LotNo) (a : ActiveLot) (s : State) : State :=
  bump .misrouted (raiseFault .misroute (some l) (some a.cell) none
    (raise { source := Source.misroute, lot := some l, cell := some a.cell, drum := none } s))

/-- The uncrushed test (R93). -/
def testUncrushed (l : LotNo) (a : ActiveLot) (k : ClassNo) (s : State) : State :=
  if s.crushClass k && !s.head.crusher.isRunning then
    raiseFault .uncrushedDelivery (some l) (some a.cell) none (bump .uncrushed s)
  else s

/-- A lot has completed (R94). -/
def countCompletion (a : ActiveLot) (s : State) : State :=
  if a.contaminated then bump .contaminated s else bump (.routeLots s.tables.cls[a.cls].route) s

/-- The steps of R92 for a LOADED pitch of an active lot. -/
def deliverPitch (l : LotNo) (k : ClassNo) (a : ActiveLot) (s : State) : State :=
  let outcome := gateOutcome s.head.gate s.tables.cls[k].route
  let a := { a with contaminated := a.contaminated || outcome.2 }
  let s := if outcome.2 then reportMisroute l a s else s
  let done := decide (a.length ≤ a.delivered + 1)
  let s := if done then completeLot l a s else s.setLot l (.active a.afterDelivery)
  let s := testUncrushed l a k (creditRoute outcome.1 a.credit s)
  if done then countCompletion a s else s

/-- The head controller takes the pitch that leaves the map, and then evaluates the gate target (R92, R88). -/
def takeDelivered (p : Pitch) (s : State) : State :=
  match p with
  | .loaded l k =>
    match s.lots[l] with
    | .active a => evalGate (deliverPitch l k a s)
    | .free _ => evalGate s
  | _ => evalGate s

/-! ### The first reaction to sample completed (Section 5.7) -/

/-- Step 3 of R106: the crusher start in OFF, the restart of the idle timer in RUNNING (R98, R101). -/
def reactCrusher (s : State) : State :=
  match s.head.crusher with
  | .off => if s.crushBelow s.tables.crusher.window then startCrusher s else s
  | .running _ => if s.crushBelow s.tables.crusher.window then s.setCrusher (.running s.now) else s
  | _ => s

/-- The head controller's re-evaluation (R106). -/
def headReaction (s : State) : State := interlock (reactCrusher (computeApproach (evalGate s)))

/-- The gate target and the interlock are evaluated again (R85, R95, R197). -/
def headReevaluate (s : State) : State := interlock (evalGate s)

end Sys2Proof.Machine
end

