-- ==== Sys2Proof/Machine/Program.lean ====
section
/-! DEFINITION. The program engine (Sections 7.4 to 7.6): target holds, steps, repetitions, links, chain ends and the pending-trigger set; and the event router
with the completion of an operation (Sections 7.2 and 7.3). -/

namespace Sys2Proof.Machine

/-- The running chain replaced. -/
def State.setChain (s : State) (c : Option Chain) : State := { s with engine := { s.engine with chain := c } }

/-! ### Taking hold and releasing (R140) -/

/-- The effect of taking hold at each owner (R140). -/
def ownerHeld (t : Target) (s : State) : State :=
  match t with
  | .belt => s
  | .crusher => crusherHeld s
  | .gate => gateHeld s
  | .drum _ => s

/-- The engine takes hold of a target that the chain does not yet hold (R139, step 2). -/
def takeHold (t : Target) (s : State) : State :=
  match s.engine.chain with
  | none => s
  | some c => if c.held.contains t then s else ownerHeld t (s.setChain (some { c with held := c.held ++ [t] }))

/-- The belt speed unit's re-issue at the release of BELT (R77). -/
def beltReleased (s : State) : State := issueSetpoint { s with belt := { s.belt with programSetpoint := none } }

/-- The owner's re-issue at the release of its target (R144, step 2). -/
def ownerReleased (o : ChainOutcome) (t : Target) (s : State) : State :=
  match t with
  | .belt => beltReleased s
  | .crusher => crusherReleased o s
  | .gate => gateReleased s
  | .drum d => handDrum d s

/-- One target released, if it is held: it leaves the held-target set and its owner re-issues its command. -/
def releaseTarget (reissue : Target → State → State) (t : Target) (s : State) : State :=
  match s.engine.chain with
  | none => s
  | some c =>
    if c.held.contains t then reissue t (s.setChain (some { c with held := c.held.filter fun u => u ≠ t })) else s

/-- The order of release (R144). -/
def releaseOrder : List Target := [.belt, .crusher, .gate, .drum 0, .drum 1, .drum 2, .drum 3]

/-- Every held target is released (R144, step 2). -/
def releaseAll (reissue : Target → State → State) (s : State) : State :=
  releaseOrder.foldl (fun u t => releaseTarget reissue t u) s

/-! ### Steps, descriptors and chains -/

/-- A step handed to its target: BELT steps become the program setpoint, every other step is a drive command (R77, R141). -/
def issueStep (t : Target) (st : StepEntry) (s : State) : State :=
  match t with
  | .belt => issueSetpoint { s with belt := { s.belt with programSetpoint := some (min st.setpoint 1000) } }
  | _ => hand t st.mode st.setpoint s

/-- A step of the running descriptor is issued; its hold ends a hold's time later (R141). -/
def startStep (c : Chain) (inB : Bool) (st : StepEntry) (s : State) : State :=
  issueStep c.desc.target st
    (bump .stepsIssued (s.setChain (some { c with inB := inB, holdEnd := s.after st.hold })))

/-- Step A of a repetition (R141). -/
def startRepetition (n : Nat) (c : Chain) (s : State) : State := startStep { c with repetition := n } false c.desc.stepA s

/-- The first repetition of the descriptor the running chain has latched (R139, step 3). -/
def beginDescriptor (s : State) : State :=
  match s.engine.chain with
  | none => s
  | some c => startRepetition 1 c s

/-- A descriptor is started in a chain: latched from the table, its target taken hold of, step A issued (R139). -/
def startDescriptor (i : ActionNo) (c : Chain) (s : State) : State :=
  let d := s.tables.action[i]
  beginDescriptor (takeHold d.target
    (bump .descriptorsStarted (s.setChain (some { c with desc := d, index := i, started := c.started + 1 }))))

/-- A chain is started by a trigger or by START_PROGRAM (R139). -/
def startChain (i : ActionNo) (src : Option SourceNo) (t : Trigger) (s : State) : State :=
  startDescriptor i
    { source := src, trigger := t, desc := s.tables.action[i], index := i, started := 0, repetition := 1, inB := false,
      holdEnd := s.now, held := [] }
    (bump .chainsStarted s)

/-- The 16 sources in ascending order. -/
def sourceList : List SourceNo := List.finRange 16

/-- The entry of the pending-trigger set that is served next: the lowest-numbered urgent source, or else the lowest-numbered source
(R149). -/
def State.nextTrigger (s : State) : Option SourceNo :=
  match sourceList.find? fun i => s.engine.waiting[i].isSome && s.tables.route[i].urgent with
  | some i => some i
  | none => sourceList.find? fun i => s.engine.waiting[i].isSome

/-- An entry removed from the pending-trigger set. -/
def dropTrigger (i : SourceNo) (s : State) : State :=
  { s with engine := { s.engine with waiting := s.engine.waiting.set i none } }

/-- The freed engine serves the pending-trigger set (R149). Each turn removes one of at most 16 entries. -/
def servePending : Nat → State → State
  | 0, s => s
  | n + 1, s =>
    match s.nextTrigger with
    | none => s
    | some i =>
      match s.engine.waiting[i], s.tables.route[i].program with
      | some t, some p => startChain p (some i) t (dropTrigger i s)
      | _, _ => servePending n (bump .triggersDiscarded (dropTrigger i s))

/-- A chain end is to be notified (R144, step 3). -/
def State.endNotified (s : State) (c : Chain) : Bool :=
  c.desc.notifyAtEnd ||
    (match c.source with
     | some i => s.tables.route[i].notify && s.tables.route[i].notifyAfter
     | none => false)

/-- The occurrence count an end notice carries: the triggering source's, or 0 for START_PROGRAM. -/
def State.noticeCount (s : State) (src : Option SourceNo) : Nat :=
  match src with
  | some i => s.router.counts[i]
  | none => 0

/-- The outcome becomes the last outcome and is counted (R144, step 1). -/
def recordOutcome (o : ChainOutcome) (s : State) : State :=
  bump (.chainsEnded o) { s with engine := { s.engine with lastOutcome := some o } }

/-- The end notice, if one is asked for (R144, step 3). -/
def endNotice (o : ChainOutcome) (c : Chain) (s : State) : State :=
  if s.endNotified c then sendNotice c.source (s.noticeCount c.source) (some o) c.trigger s else s

/-- A chain ends (R144). -/
def endChain (o : ChainOutcome) (c : Chain) (s : State) : State :=
  servePending 17 ((endNotice o c (releaseAll (ownerReleased o) (recordOutcome o s))).setChain none)

/-- The re-issue at a line restart: the crusher is left to the restart's own rule (R152, R109). -/
def reissueAtRestart (t : Target) (s : State) : State := if t = .crusher then s else ownerReleased .aborted t s

/-- At a line restart the chain ends ABORTED, the crusher is left to the restart's own rule, no notice is sent and the set is not served
(R152). -/
def abortForRestart (s : State) : State :=
  match s.engine.chain with
  | none => s
  | some _ =>
    (releaseAll reissueAtRestart (recordOutcome .aborted s)).setChain none

/-- The end test of a descriptor (R142). -/
def State.endTestPasses (s : State) (d : Descriptor) : Bool :=
  match d.endTest, d.target with
  | .none, _ => false
  | .currentLow, _ => decide (s.head.current < s.tables.crusher.clearLevel)
  | .dpLow, .drum i => decide ((s.drum i).dp < s.tables.drum[i].dpLimit)
  | .dpLow, _ => false

/-- The greatest number of descriptors in a chain (R143). -/
def chainLimit : Nat := 64

/-- A descriptor is exhausted: it links, or its chain ends (R143). -/
def exhaustDescriptor (c : Chain) (s : State) : State :=
  match c.desc.link with
  | none => endChain .exhausted c s
  | some i =>
    if c.started < chainLimit then startDescriptor i c s
    else endChain .exhausted c (bump .linkLimits (raiseFault .linkLimit none none none s))

/-- A repetition ends: the end test, the next repetition, or exhaustion (R141 to R143). -/
def endRepetition (c : Chain) (s : State) : State :=
  if s.endTestPasses c.desc then endChain .cleared c s
  else if c.repetition < c.desc.repetitions then startRepetition (c.repetition + 1) c s
  else exhaustDescriptor c s

/-- The hold of the step in progress has expired (R141). -/
def stepExpired (c : Chain) (s : State) : State :=
  match c.inB, c.desc.stepB with
  | false, .present st => startStep c true st s
  | _, _ => endRepetition c s

/-- STEP_HOLD_EXPIRY (R141). -/
def opStepHoldExpiry (s : State) : State :=
  match s.engine.chain with
  | none => s
  | some c => if s.reached c.holdEnd then stepExpired c s else s

/-! ### Triggers and the event router -/

/-- A trigger of a source (R148). -/
def trigger (i : SourceNo) (p : ActionNo) (t : Trigger) (s : State) : State :=
  match s.engine.chain with
  | none => startChain p (some i) t s
  | some _ =>
    match s.engine.waiting[i] with
    | none => bump .triggersPended { s with engine := { s.engine with waiting := s.engine.waiting.set i (some t) } }
    | some _ => bump .triggersAbsorbed s

/-- The greatest occurrence count (R135). -/
def countLimit : Nat := 255

/-- Steps 1 and 2 of R136: the occurrence is counted and its flag set. -/
def countOccurrence (i : SourceNo) (s : State) : State :=
  bump (.occurrences i)
    { s with router := { flags := s.router.flags.set i true, counts := s.router.counts.set i (min (s.router.counts[i] + 1) countLimit) } }

/-- Step 4 of R136. -/
def triggerRoute (o : Occurrence) (s : State) : State :=
  match s.tables.route[o.source].program with
  | none => s
  | some p => trigger o.source p { lot := o.lot, cell := o.cell, drum := o.drum } s

/-- Step 3 of R136. -/
def overrideRoute (i : SourceNo) (s : State) : State := if s.tables.route[i].overriding then latchOverride s else s

/-- Step 5 of R136; `wasSet` and `count` are the flag before step 2 and the count after step 1. -/
def noticeRoute (o : Occurrence) (wasSet : Bool) (count : Nat) (s : State) : State :=
  if s.tables.route[o.source].notify && !s.tables.route[o.source].notifyAfter && !wasSet then
    sendNotice (some o.source) count none { lot := o.lot, cell := o.cell, drum := o.drum } s
  else s

/-- The router handles one occurrence (R136); while the line mode is LOADING it is dropped (R135). -/
def takeOccurrence (o : Occurrence) (s : State) : State :=
  if s.mode = .loading then s
  else
    noticeRoute o s.router.flags[o.source] (min (s.router.counts[o.source] + 1) countLimit)
      (triggerRoute o (overrideRoute o.source (countOccurrence o.source s)))

/-- The occurrences an operation raised are taken in the order raised, those raised meanwhile after them (R135). -/
def takeOccurrences : Nat → State → State
  | 0, s => s
  | n + 1, s =>
    match s.raised with
    | [] => s
    | o :: rest => takeOccurrences n (takeOccurrence o { s with raised := rest })

/-- The router's part in the completion of an operation. Taking an occurrence can raise one more (the interlock, when the chain it starts takes
hold of the crusher), and at most one chain can start, so one more turn than there are occurrences is enough. -/
def routeAll (s : State) : State := takeOccurrences (s.raised.length + 1) s

/-- An operation has completed its own steps: its occurrences are taken, and the coalescer makes its test (R135, R166). -/
def complete (s : State) : State := unloadIfHanded (routeAll s)

end Sys2Proof.Machine
end

