-- ==== Sys2Proof/Machine/Belt.lean ====
section
/-! DEFINITION. The belt tracker (Chapter 1): encoder arithmetic, the single-pitch shift and the sample-completed signal. -/

namespace Sys2Proof.Machine

/-- The single-pitch shift: hand-over, move, tail entry, crossings (R15, R17). -/
def shiftPitch (s : State) : State :=
  match s.tracker.map with
  | [] => s
  | p :: rest => crossings (takeDelivered p (bump .pitchesShifted (s.setMap (rest ++ [.empty]))))

/-- A number of shifts, each whole before the next (R12). -/
def shiftPitches : Nat → State → State
  | 0, s => s
  | n + 1, s => shiftPitches n (shiftPitch s)

/-- The three reactions to sample completed (R18). -/
def sampleCompleted (s : State) : State := arbiterPass (issueSetpoint (headReaction s))

/-- The tracker's reference state replaced. -/
def State.setReference (s : State) (count : Word) (acc : Nat) : State :=
  { s with tracker := { s.tracker with last := some count, acc := acc } }

/-- A first sample (R9). -/
def firstSample (count : Word) (s : State) : State :=
  sampleCompleted (bump .samplesAccepted (s.setReference count s.tracker.acc))

/-- An implausible sample is rejected (R11). -/
def rejectSample (s : State) : State :=
  raiseFault .beltImplausible none none none (raisePlain Source.beltImplausible (bump .samplesImplausible s))

/-- A plausible sample is accepted (R12). -/
def acceptSample (count : Word) (delta : Nat) (s : State) : State :=
  let sum := s.tracker.acc + delta
  sampleCompleted (bump .samplesAccepted
    ((shiftPitches (sum / s.tables.belt.cpp) s).setReference count (sum % s.tables.belt.cpp)))

/-- BELT SAMPLE (R9 to R12). -/
def opBeltSample (count : Word) (s : State) : State :=
  match s.tracker.last with
  | none => firstSample count s
  | some last =>
    if s.tables.belt.mpa < (count - last).toNat then rejectSample s else acceptSample count (count - last).toNat s

end Sys2Proof.Machine
end

