-- ==== Sys2Proof/Machine/Image.lean ====
section
/-! DEFINITION. The configuration image (R192): 556 words, the table entries packed between the word count and the check word. -/

namespace Sys2Proof.Machine

/-- The entries' 1,107 bytes, table by table in ascending table code (R192). -/
def Tables.bytes (t : Tables) : List Byte :=
  t.classify.toList.flatMap ClassifyEntry.bytes ++ t.cell.toList.flatMap CellEntry.bytes ++ t.cls.toList.flatMap ClassEntry.bytes ++
    t.plant.bytes ++ t.belt.bytes ++ t.profile.bytes ++ t.crusher.bytes ++ t.drum.toList.flatMap DrumEntry.bytes ++ t.filter.bytes ++
    t.action.toList.flatMap Descriptor.bytes ++ t.route.toList.flatMap RouteEntry.bytes ++
    (byte2 t.silenceCell ++ byte2 t.silencePlant) ++ byte1 t.coalesceAge ++ t.node.bytes

/-- The sum of a byte list's 16-bit words, modulo 65,536. -/
def wordSum : List Byte → Half
  | hi :: lo :: rest => BitVec.ofNat 16 (hi.toNat * 256 + lo.toNat) + wordSum rest
  | [hi] => BitVec.ofNat 16 (hi.toNat * 256)
  | [] => 0

/-- The number of words of the image, and of its bytes. -/
def imageWords : Nat := 556
def imageLength : Nat := 1112

/-- Words 0 to 554: the word count, the entries and one pad byte of 0. -/
def imageBody (t : Tables) : List Byte := byte2 imageWords ++ t.bytes ++ [0]

/-- The whole image; its check word makes the sum of all 556 words 0 modulo 65,536. -/
def imageBytes (t : Tables) : List Byte := imageBody t ++ byte2 (0 - wordSum (imageBody t)).toNat

/-- The i-th piece of `size` bytes. -/
def piece (size : Nat) (l : List Byte) (i : Nat) : List Byte := (l.drop (i * size)).take size

/-- A vector of checked entries, if every one of them is valid. -/
def allValid {α : Type} {n : Nat} (fallback : α) (v : Vector (Option α) n) : Option (Vector α n) :=
  if v.toList.all Option.isSome then some (v.map fun o => o.getD fallback) else none

/-- No node address from 1 to 254 stands in two entries of the cell table (R44). -/
def nodesDistinct (v : Vector CellEntry 24) : Bool :=
  (List.finRange 24).all fun i => (List.finRange 24).all fun j => decide (i = j) || decide (v[i].node = 0) || decide (v[i].node ≠ v[j].node)

/-- A CRUSHER entry of an image: a crush speed above 100 lies outside its range (R95; assumption 9). -/
def checkCrusherImage (r : RawCrusher) : Option CrusherEntry := if 100 < r.speed.toNat then none else checkCrusher r

/-- The tables of an image's entry bytes, if no entry breaks the checks of its table's rule (R192). -/
def Tables.ofBytes (l : List Byte) : Option Tables := do
  let belt ← checkBelt (RawBelt.ofBytes (l.drop 429))
  let classify ← allValid ClassifyEntry.default (Vector.ofFn (n := 32) fun i => checkClassify (RawClassify.ofBytes (piece 9 l i)))
  let cell ← allValid CellEntry.default
    (Vector.ofFn (n := 24) fun i => checkCell belt.length (RawCell.ofBytes (piece 4 (l.drop 288) i)))
  let cls ← allValid (ClassEntry.default 0) (Vector.ofFn (n := 8) fun i => checkClass (RawClass.ofBytes (piece 5 (l.drop 384) i)))
  let plant ← checkPlant (RawPlant.ofBytes (l.drop 424))
  let crusher ← checkCrusherImage (RawCrusher.ofBytes (l.drop 443))
  let drum ← allValid DrumEntry.default (Vector.ofFn (n := 4) fun i => checkDrum (RawDrum.ofBytes (piece 11 (l.drop 458) i)))
  let filter ← checkFilter (RawFilter.ofBytes (l.drop 502))
  let action ← allValid Descriptor.default
    (Vector.ofFn (n := 32) fun i => checkAction (RawAction.ofBytes (piece 16 (l.drop 505) i)))
  let route ← allValid RouteEntry.default (Vector.ofFn (n := 16) fun i => checkRoute (RawRoute.ofBytes (piece 5 (l.drop 1017) i)))
  let silenceCell ← checkPort (RawPort.ofBytes (l.drop 1097))
  let silencePlant ← checkPort (RawPort.ofBytes (l.drop 1099))
  let coalesceAge ← checkCoalesce (RawCoalesce.ofBytes (l.drop 1101))
  let node ← checkNode (RawNode.ofBytes (l.drop 1102))
  if nodesDistinct cell then
    some { classify := classify, cell := cell, cls := cls, plant := plant, belt := belt,
           profile := takenProfile (RawProfile.ofBytes (l.drop 439)), crusher := crusher, drum := drum, filter := filter, action := action,
           route := route, silenceCell := silenceCell, silencePlant := silencePlant, coalesceAge := coalesceAge, node := node }
  else none

/-- The classification of an image that the EEPROM gave (R192): the tables of a valid one, none of a missing or invalid one. -/
def decodeImage (image : List Byte) : Option Tables :=
  if halfAt image 0 ≠ BitVec.ofNat 16 imageWords then none
  else if wordSum image ≠ 0 then none
  else Tables.ofBytes ((image.drop 2).take 1107)

/-- The image read from the EEPROM; one that does not acknowledge its device address is missing (R192). -/
def readImage (ack : Bool) (m : Memory) : Option Tables := if ack then decodeImage (m.readList 0 imageLength) else none

/-! ### Pages (R195) -/

/-- A page is 16 bytes; the image takes 70 pages, the last of which holds the last 8 bytes (assumption 4). -/
def pageSize : Nat := 16
def pageCount : Nat := 70

/-- A page of the image written. -/
def writePage (t : Tables) (page : Nat) (m : Memory) : Memory :=
  m.writeList (page * pageSize) (((imageBytes t).drop (page * pageSize)).take pageSize)

/-- The bytes of the image that a page holds, each a free value (R195 leaves them open; assumption 4). -/
def tornBytes (draw page : Nat) : List Byte :=
  (List.range (min pageSize (imageLength - page * pageSize))).map fun i => Config.tornPageByte draw (page * pageSize + i)

/-- The page being written when the save stops. -/
def tearPage (draw page : Nat) (m : Memory) : Memory := m.writeList (page * pageSize) (tornBytes draw page)

end Sys2Proof.Machine
end

