-- ==== Sys2Proof/Machine/Serve.lean ====
section
/-! DEFINITION. The management responder's frame around every command (R176, R188, R197): what is answered at once, what is refused, what is counted, and when
the reply is placed. -/

namespace Sys2Proof.Machine

/-- The answer of a command: a status with data now, or a reply that is built when the operation ends (R195, R197). -/
inductive Answer where
  | now (st : Status) (data : List Byte)
  | later
deriving DecidableEq, Repr

/-- OK without data. -/
def Answer.ok : Answer := .now .ok []

/-- A MANAGEMENT REPLY from a node address, on the port of the request (R188). -/
def reply (node : Byte) (command : Nat) (r : Req) (st : Status) (data : List Byte) (s : State) : State :=
  placeFrom node r.port r.node 0x41 (replyBody r command st data) s

/-- A served request is counted, and counted as refused when its status is not OK (R188). -/
def countServed (st : Status) (s : State) : State :=
  if st = .ok then bump .requestsServed s else bump .requestsRefused (bump .requestsServed s)

/-- The end of a served request: the occurrences are taken, the reply is placed, the request is counted, and the coalescer makes its test
(R135, R188, R166, R169). -/
def finishRequest (node : Byte) (command : Nat) (r : Req) (a : Answer) (s : State) : State :=
  match a with
  | .now st data => unloadIfHanded (countServed st (reply node command r st data (routeAll s)))
  | .later => unloadIfHanded (bump .requestsServed (routeAll s))

/-- The activity is RELOADING (R197). -/
def Activity.isReloading : Activity → Bool
  | .reloading _ _ => true
  | _ => false

/-- A request at the cell port while cell-side management is off (R176). -/
def refuseCellSide (command : Nat) (r : Req) (s : State) : State :=
  bump (.managementRefused .cell) (reply s.tables.node.node command r .notPermitted [] s)

/-- The request is one that R176 passes to the responder. -/
def State.permits (s : State) (r : Req) : Bool := decide (r.port = .plant) || s.tables.node.cellSide

/-- A request in every activity (READ_IDENT, READ_ENTRY, READ_STATE, and WRITE_ENTRY with its own check). While the line mode is LOADING no
request reaches the responder (R175). -/
def serveAlways (command : Nat) (r : Req) (body : State → State × Answer) (s : State) : State :=
  if s.mode = .loading then s
  else if s.permits r then finishRequest s.tables.node.node command r (body s).2 (body s).1
  else refuseCellSide command r s

/-- A request that is answered BUSY while the activity is RELOADING (R197). -/
def serve (command : Nat) (r : Req) (body : State → State × Answer) (s : State) : State :=
  serveAlways command r (fun t => if t.activity.isReloading then (t, .now .busy []) else body t) s

/-- An operation that comes from a telegram: while the line mode is LOADING the telegram does not reach its block (R175). -/
def operate (op : State → State) (s : State) : State := if s.mode = .loading then s else complete (op s)

end Sys2Proof.Machine
end

