-- ==== Sys2Proof/Machine/Ports.lean ====
section
/-! DEFINITION. Port states and silence supervision (Section 10.1), transmission (R181) and the meanings of the telegram and timer commands that concern one
block each. -/

namespace Sys2Proof.Machine

/-! ### Port states (R171) -/

/-- A port's state replaced. -/
def State.setPortState (s : State) (p : Port) (st : PortState) : State := s.setPort p { s.port p with state := st }

/-- The event of a port that becomes DOWN. -/
def downSource : Port → SourceNo
  | .cell => Source.cellPortDown
  | .plant => Source.plantPortDown

/-- A port becomes DOWN; the plant port sets LINK (R70, R171). -/
def portDown (p : Port) (s : State) : State :=
  let s := raisePlain (downSource p) (bump (.portDown p) (s.setPortState p .down))
  match p with
  | .cell => s
  | .plant => setCause .link s

/-- A port becomes UP; the plant port clears LINK (R70, R171). -/
def portUp (p : Port) (s : State) : State :=
  let s := bump (.portUp p) (s.setPortState p (.up s.now))
  match p with
  | .cell => s
  | .plant => clearCause .link s

/-- A good frame at a port: it makes the port UP or restarts its timer, and is counted (R171, R173). -/
def goodFrame (p : Port) (s : State) : State :=
  let s := bump (.goodFrames p) s
  match (s.port p).state with
  | .down => portUp p s
  | .up _ => s.setPortState p (.up s.now)

/-- An UP port whose silence timer has reached the silence time in force. -/
def State.silenceDue (s : State) (p : Port) : Bool :=
  match (s.port p).state with
  | .down => false
  | .up lastGood => decide (s.tables.silence p ≤ s.since lastGood)

/-- SILENCE_TIMEOUT (R171). -/
def opSilenceTimeout (p : Port) (s : State) : State := if s.silenceDue p then portDown p s else s

/-! ### Transmission (R181) -/

/-- A frame's transmission ends and it leaves its port's queue. -/
def dequeue (p : Port) (rest : List Frame) (s : State) : State :=
  bump (.transmitted p) (s.setPort p { s.port p with queue := rest })

/-- FRAME_TRANSMITTED (R181); room in the plant queue is a test of the coalescer (R166). -/
def opFrameTransmitted (p : Port) (s : State) : State :=
  match (s.port p).queue with
  | [] => s
  | _ :: rest =>
    match p with
    | .cell => dequeue p rest s
    | .plant => unloadTest (dequeue p rest s)

/-! ### Override second and coalescer age -/

/-- A whole second of a latched override has passed (R80). -/
def State.overrideDue (s : State) : Bool := s.belt.latched && decide (1000 ≤ s.since s.belt.secondStart)

/-- OVERRIDE_SECOND (R80). -/
def opOverrideSecond (s : State) : State :=
  if s.overrideDue then
    { s with belt := { s.belt with seconds := min (s.belt.seconds + 1) 65535, secondStart := s.belt.secondStart + 1000 } }
  else s

/-- The age of the oldest entry, absent when the list is empty (R163). -/
def State.oldestAge (s : State) : Option Nat :=
  match s.coalescer.entries with
  | [] => none
  | e :: _ => some (s.since e.created)

/-- COALESCE_AGE_LIMIT (R166): the test is made. -/
def opCoalesceAgeLimit (s : State) : State :=
  match s.oldestAge with
  | none => s
  | some age => if s.tables.coalesceAge ≤ age then unloadTest s else s

/-! ### Meanings -/

/-- DISCHARGE_REQUEST (R46): a request taken at the cell port from a node. -/
def execDischargeRequest (node cls length : Byte) (mass : Half) (s : State) : Host.Outcome State Fault Refusal :=
  .next (operate (opDischargeRequest node cls length mass) s)

/-- DISCHARGE_WITHDRAW (R50). -/
def execDischargeWithdraw (node : Byte) (s : State) : Host.Outcome State Fault Refusal :=
  .next (operate (opDischargeWithdraw node) s)

/-- DISCHARGE_END (R32). -/
def execDischargeEnd (node lot : Byte) (mass : Half) (s : State) : Host.Outcome State Fault Refusal :=
  .next (operate (opDischargeEnd node lot mass) s)

/-- BELT_SAMPLE (R12): a sample that sample acceptance has passed to the tracker. -/
def execBeltSample (count : Word) (s : State) : Host.Outcome State Fault Refusal := .next (operate (opBeltSample count) s)

/-- CRUSHER_STATUS (R97). -/
def execCrusherStatus (current : Half) (confirm : Byte) (s : State) : Host.Outcome State Fault Refusal :=
  .next (operate (opCrusherStatus current confirm) s)

/-- GATE_STATUS (R89). -/
def execGateStatus (position : Byte) (s : State) : Host.Outcome State Fault Refusal := .next (operate (opGateStatus position) s)

/-- FILTER_SAMPLE (R118). -/
def execFilterSample (drum : Byte) (dp : Half) (s : State) : Host.Outcome State Fault Refusal :=
  .next (operate (opFilterSample drum dp) s)

/-- FRAME_TRANSMITTED (R181). -/
def execFrameTransmitted (port : Port) (s : State) : Host.Outcome State Fault Refusal := .next (opFrameTransmitted port s)

/-- SILENCE_TIMEOUT (R171), in every line mode. -/
def execSilenceTimeout (port : Port) (s : State) : Host.Outcome State Fault Refusal := .next (complete (opSilenceTimeout port s))

/-- REQUEST_URGENT (R53). -/
def execRequestUrgent (cell : CellNo) (s : State) : Host.Outcome State Fault Refusal := .next (complete (opRequestUrgent cell s))

/-- REQUEST_EXPIRY (R54). -/
def execRequestExpiry (cell : CellNo) (s : State) : Host.Outcome State Fault Refusal := .next (complete (opRequestExpiry cell s))

/-- OVERRIDE_SECOND (R80). -/
def execOverrideSecond (s : State) : Host.Outcome State Fault Refusal := .next (opOverrideSecond s)

/-- GATE_TIMEOUT (R90). -/
def execGateTimeout (s : State) : Host.Outcome State Fault Refusal := .next (complete (opGateTimeout s))

/-- START_TIMER_EXPIRY (R99). -/
def execStartTimerExpiry (s : State) : Host.Outcome State Fault Refusal := .next (complete (opStartTimerExpiry s))

/-- IDLE_TIMER_EXPIRY (R101). -/
def execIdleTimerExpiry (s : State) : Host.Outcome State Fault Refusal := .next (complete (opIdleTimerExpiry s))

/-- FLUSH_WAIT_LIMIT (R120). -/
def execFlushWaitLimit (drum : DrumNo) (s : State) : Host.Outcome State Fault Refusal := .next (complete (opFlushWaitLimit drum s))

/-- FLUSH_TIME_END (R122). -/
def execFlushTimeEnd (drum : DrumNo) (s : State) : Host.Outcome State Fault Refusal := .next (complete (opFlushTimeEnd drum s))

/-- SETTLE_TIME_END (R123). -/
def execSettleTimeEnd (drum : DrumNo) (s : State) : Host.Outcome State Fault Refusal := .next (complete (opSettleTimeEnd drum s))

/-- STEP_HOLD_EXPIRY (R141). -/
def execStepHoldExpiry (s : State) : Host.Outcome State Fault Refusal := .next (complete (opStepHoldExpiry s))

/-- COALESCE_AGE_LIMIT (R166). -/
def execCoalesceAgeLimit (s : State) : Host.Outcome State Fault Refusal := .next (opCoalesceAgeLimit s)

end Sys2Proof.Machine
end

