-- ==== Sys2Proof/Machine/Reads.lean ====
section
/-! DEFINITION. READ_IDENT, READ_ENTRY and the thirteen areas of READ_STATE, with the reply layouts of R186 (R5, R19, R39, R64, R82, R86, R107, R130, R150, R159, R160,
R162, R189, R191). -/

namespace Sys2Proof.Machine

/-- A read changes no state of its own; its data is of the moment before the operation. -/
def readOnly (f : State → Answer) (s : State) : State × Answer := (s, f s)

/-- OK with data. -/
def okData (data : List Byte) : Answer := .now .ok data

/-- A four-byte timebase value or counter. -/
def wordBytes (w : Word) : List Byte := byte4 w.toNat

/-! ### Identity and entries -/

/-- Part code 3422h, revision 1 (R191). -/
def identData : List Byte := byte2 0x3422 ++ byte1 1

/-- Index range of each table (R187). -/
def tableSize : Nat → Option Nat
  | 0 => some 32
  | 1 => some 24
  | 2 => some 8
  | 3 => some 1
  | 4 => some 1
  | 5 => some 1
  | 6 => some 1
  | 7 => some 4
  | 8 => some 1
  | 9 => some 32
  | 10 => some 16
  | 11 => some 2
  | 12 => some 1
  | 13 => some 1
  | _ => none

/-- An entry as the table holds it (R187). The index is taken to lie in the table's range. -/
def State.entryBytes (s : State) (table index : Nat) : List Byte :=
  match table with
  | 0 => s.tables.classify[Fin.ofNat 32 index].bytes ++ wordBytes (s.counter (.hits (Fin.ofNat 32 index)))
  | 1 => s.tables.cell[Fin.ofNat 24 index].bytes
  | 2 => s.tables.cls[Fin.ofNat 8 index].bytes
  | 3 => s.tables.plant.bytes
  | 4 => s.tables.belt.bytes
  | 5 => s.tables.profile.bytes
  | 6 => s.tables.crusher.bytes
  | 7 => s.tables.drum[Fin.ofNat 4 index].bytes
  | 8 => s.tables.filter.bytes
  | 9 => s.tables.action[Fin.ofNat 32 index].bytes
  | 10 => s.tables.route[Fin.ofNat 16 index].bytes
  | 11 => byte2 (if index = 0 then s.tables.silenceCell else s.tables.silencePlant)
  | 12 => byte1 s.tables.coalesceAge
  | _ => s.tables.node.bytes

/-- READ_ENTRY (R189). -/
def readEntryAnswer (r : Req) (s : State) : Answer :=
  match tableSize r.selector.toNat with
  | none => .now .badTable []
  | some n => if r.index.toNat < n then okData (s.entryBytes r.selector.toNat r.index.toNat) else .now .badIndex []

/-! ### Areas -/

def Pitch.bytes : Pitch → List Byte
  | .empty => byte1 0 ++ byte1 255 ++ byte1 255
  | .reserved l k => byte1 1 ++ byte1 l.val ++ byte1 k.val
  | .loaded l k => byte1 2 ++ byte1 l.val ++ byte1 k.val

/-- PITCHES (R5). DEDUCED (log entry 14): R5 does not say which answer a read gets whose count and start are both out of range; the count is
checked first. -/
def pitchesAnswer (r : Req) (s : State) : Answer :=
  if r.count.toNat < 1 ∨ 16 < r.count.toNat then .now .badValue []
  else if s.tables.belt.length ≤ r.index.toNat ∨ s.tables.belt.length < r.index.toNat + r.count.toNat then .now .badIndex []
  else okData (((s.tracker.map.drop r.index.toNat).take r.count.toNat).flatMap Pitch.bytes)

def LotState.code : LotState → Nat
  | .loading => 1
  | .riding => 2
  | .delivering => 3

/-- A lot record: state, cell or last owner, the fields, the flags, share and tail pitch mass; all but state and cell 0 for a FREE record
(R39). -/
def Lot.bytes : Lot → List Byte
  | .free owner => byte1 0 ++ byte1 (absentOr owner) ++ List.replicate 15 0
  | .active a =>
    byte1 a.state.code ++ byte1 a.cell.val ++ byte1 a.cls.val ++ byte1 a.requested ++ byte1 a.length ++ byte1 a.loaded ++
      byte1 a.delivered ++ byte2 a.mass ++ byte2 a.credited ++ flagByte a.contaminated ++ flagByte a.massFinal ++ byte2 a.share ++
      byte2 a.tailMass

/-- LOT (R39). -/
def lotAnswer (r : Req) (s : State) : Answer :=
  match asIndex 64 r.index.toNat with
  | none => .now .badIndex []
  | some l => okData s.lots[l].bytes

/-- The number of pending requests. -/
def State.requestCount (s : State) : Nat := cellList.countP fun c => (s.request c).isSome

/-- REQUEST (R64). -/
def requestAnswer (r : Req) (s : State) : Answer :=
  match asIndex 24 r.index.toNat with
  | none => .now .badIndex []
  | some c =>
    okData ((match s.request c with
      | none => List.replicate 10 0
      | some q => flagByte true ++ byte1 q.cls.val ++ byte1 q.length ++ byte2 q.mass ++ flagByte q.urgent ++ byte4 (s.since q.arrival)) ++
      byte1 s.requestCount ++ byte1 s.arbiter.pointer.val ++ byte1 (absentOr s.tables.belt.priority))

def CrusherState.code : CrusherState → Nat
  | .off => 0
  | .starting _ _ => 1
  | .running _ => 2
  | .stalled => 3
  | .reversing => 4
  | .fault => 5

/-- CRUSHER (R107). -/
def crusherData (s : State) : List Byte :=
  byte1 s.head.crusher.code ++ byte1 s.head.startMode.code ++ byte1 s.head.jam ++ byte2 s.head.current ++ flagByte s.head.confirm ++
    byte4 s.head.approach ++ flagByte s.head.surge ++ flagByte s.belt.crusher

/-- GATE (R107): an absent last position is 255. The timeout-taken flag is a field of MOVING and reads clear when SETTLED (assumption 10). -/
def gateData (s : State) : List Byte :=
  (match s.head.gate with
   | .settled r => byte1 0 ++ byte1 r.val
   | .moving t _ _ => byte1 1 ++ byte1 (absentOr t)) ++
    byte1 (absentOr s.gateTarget) ++ [s.head.lastPosition.getD 255] ++
    (match s.head.gate with
     | .settled _ => byte4 0 ++ flagByte false
     | .moving _ start taken => byte4 (s.since start) ++ flagByte taken) ++
    flagByte (s.holds .gate)

def DrumState.code : DrumState → Nat
  | .offline => 0
  | .online => 1
  | .flushWait _ => 2
  | .flushing _ => 3
  | .settling _ => 4
  | .fault => 5

/-- The time since wait start, 0 unless FLUSH_WAIT (R130). -/
def State.waitTime (s : State) (d : DrumState) : Nat :=
  match d with
  | .flushWait since => s.since since
  | _ => 0

/-- The time to the phase end, 0 unless FLUSHING or SETTLING (R130). -/
def State.phaseTime (s : State) (d : DrumState) : Nat :=
  match d with
  | .flushing e => (e - s.now).toNat
  | .settling e => (e - s.now).toNat
  | _ => 0

/-- One drum's record (R130). -/
def drumData (d : DrumNo) (s : State) : List Byte :=
  byte1 (s.drum d).state.code ++ byte4 (s.drum d).fines ++ byte2 (s.drum d).dp ++ byte1 (s.drum d).failed ++
    byte4 (s.waitTime (s.drum d).state) ++ byte4 (s.phaseTime (s.drum d).state) ++ flagByte (s.holds (.drum d))

/-- The filtration summary (R130). -/
def filtrationData (s : State) : List Byte :=
  byte1 s.filtration.residue ++ byte1 s.filteringCount ++ byte2 s.filtration.capacity ++ byte4 s.filtration.demand ++
    flagByte s.filtration.low ++ byte1 s.filtration.lastFlushed.val ++ s.filtration.allotments.toList.flatMap byte2

/-- DRUM (R130). -/
def drumAnswer (r : Req) (s : State) : Answer :=
  if r.index = 255 then okData (filtrationData s)
  else match asIndex 4 r.index.toNat with
    | none => .now .badIndex []
    | some d => okData (drumData d s)

def SetpointCase.code : SetpointCase → Nat
  | .hold => 0
  | .program => 1
  | .override => 2
  | .primary => 3

/-- BELT: the tracker state of R19, then the belt speed unit's of R82. The reference flag is 1 for VALID (assumption 10). -/
def beltData (s : State) : List Byte :=
  flagByte s.tracker.last.isSome ++ wordBytes (s.tracker.last.getD 0) ++ byte2 s.tracker.acc ++
    flagByte s.belt.supervisor ++ flagByte s.belt.crusher ++ flagByte s.belt.link ++ flagByte s.belt.latched ++ byte2 s.belt.seconds ++
    byte2 (s.belt.programSetpoint.getD 65535) ++ byte2 s.belt.selected ++ byte1 s.selection.1.code ++ byte2 (s.belt.issued.getD 65535)

/-- The seven held-target flags (R150). -/
def heldFlags (held : List Target) : List Byte := releaseOrder.flatMap fun t => flagByte (held.contains t)

/-- PROGRAM (R150). -/
def programData (s : State) : List Byte :=
  (match s.engine.chain with
   | none => flagByte false ++ byte1 255 ++ byte1 255 ++ byte1 0 ++ byte2 0 ++ byte2 0 ++ byte1 0 ++ byte4 0 ++ heldFlags []
   | some c =>
     flagByte true ++ byte1 (absentOr c.source) ++ byte1 c.index.val ++ byte1 c.started ++ byte2 c.repetition ++ byte2 c.desc.repetitions ++
       flagByte c.inB ++ byte4 (c.holdEnd - s.now).toNat ++ heldFlags c.held) ++
    byte1 (outcomeCode s.engine.lastOutcome) ++ sourceList.flatMap fun i => flagByte s.engine.waiting[i].isSome

/-- EVENT (R150). -/
def eventAnswer (r : Req) (s : State) : Answer :=
  if r.index = 255 then okData (s.router.flags.toList.flatMap flagByte ++ s.router.counts.toList.flatMap byte1)
  else match asIndex 16 r.index.toNat with
    | none => .now .badIndex []
    | some i => okData (flagByte s.router.flags[i] ++ byte1 s.router.counts[i] ++ flagByte s.engine.waiting[i].isSome)

/-- The fault detail's two bytes: its kind (NONE 0, DRUM 1, PORT 2) and its value (R186). DESIGN CHOICE (log entry 29): R159 and R186 give
no value for the byte beside kind NONE in a valid record; it is 0. -/
def detailBytes : Option Detail → List Byte
  | none => byte1 0 ++ byte1 0
  | some (.drum d) => byte1 1 ++ byte1 d.val
  | some (.port .cell) => byte1 2 ++ byte1 0
  | some (.port .plant) => byte1 2 ++ byte1 1

/-- FAULT (R159). -/
def faultData (s : State) : List Byte :=
  (match s.notices.captured with
   | none => flagByte false ++ byte1 0 ++ byte4 0 ++ byte1 255 ++ byte1 255 ++ detailBytes none
   | some f =>
     flagByte true ++ byte1 f.kind.place ++ wordBytes f.time ++ byte1 (absentOr f.lot) ++ byte1 (absentOr f.cell) ++ detailBytes f.detail) ++
    flagByte s.notices.furtherMajor ++ flagByte s.notices.furtherMinor

/-- The values of a run of counters. -/
def counterRun (start n : Nat) (s : State) : List Byte := ((s.counters.toList.drop start).take n).flatMap wordBytes

/-- COUNTERS (R162). DEDUCED (log entry 17): the read's own count in requests served follows its reply. -/
def countersAnswer (r : Req) (s : State) : Answer :=
  match groupRange r.index.toNat with
  | none => .now .badIndex []
  | some (start, n) => okData (counterRun start n s)

/-- ROUTES (R86): the mass and the lots of each route in turn, in route order, then the unrouted total and the contaminated-lots counter.
DEDUCED (log entry 31): the words of R86 could also mean all masses before all lots. -/
def routesData (s : State) : List Byte := counterRun 150 18 s

/-- CAUSES (R160). -/
def causesData (s : State) : List Byte :=
  flagByte s.notices.causePowerOn ++ flagByte s.notices.causePin ++ flagByte s.notices.causeRestart

/-! ### The operations and the meanings -/

def opReadIdent (r : Req) (s : State) : State := serveAlways 1 r (readOnly fun _ => okData identData) s
def opReadEntry (r : Req) (s : State) : State := serveAlways 2 r (readOnly (readEntryAnswer r)) s
def opReadPitches (r : Req) (s : State) : State := serveAlways 4 r (readOnly (pitchesAnswer r)) s
def opReadLot (r : Req) (s : State) : State := serveAlways 4 r (readOnly (lotAnswer r)) s
def opReadRequest (r : Req) (s : State) : State := serveAlways 4 r (readOnly (requestAnswer r)) s
def opReadCrusher (r : Req) (s : State) : State := serveAlways 4 r (readOnly fun t => okData (crusherData t)) s
def opReadGate (r : Req) (s : State) : State := serveAlways 4 r (readOnly fun t => okData (gateData t)) s
def opReadDrum (r : Req) (s : State) : State := serveAlways 4 r (readOnly (drumAnswer r)) s
def opReadBelt (r : Req) (s : State) : State := serveAlways 4 r (readOnly fun t => okData (beltData t)) s
def opReadProgram (r : Req) (s : State) : State := serveAlways 4 r (readOnly fun t => okData (programData t)) s
def opReadEvent (r : Req) (s : State) : State := serveAlways 4 r (readOnly (eventAnswer r)) s
def opReadFault (r : Req) (s : State) : State := serveAlways 4 r (readOnly fun t => okData (faultData t)) s
def opReadCounters (r : Req) (s : State) : State := serveAlways 4 r (readOnly (countersAnswer r)) s
def opReadRoutes (r : Req) (s : State) : State := serveAlways 4 r (readOnly fun t => okData (routesData t)) s
def opReadCauses (r : Req) (s : State) : State := serveAlways 4 r (readOnly fun t => okData (causesData t)) s

/-- READ_IDENT (R191). -/
def execReadIdent (r : Req) (s : State) : Host.Outcome State Fault Refusal := .next (opReadIdent r s)
/-- READ_ENTRY (R189). -/
def execReadEntry (r : Req) (s : State) : Host.Outcome State Fault Refusal := .next (opReadEntry r s)
/-- READ_STATE, area PITCHES (R5). -/
def execReadStatePitches (r : Req) (s : State) : Host.Outcome State Fault Refusal := .next (opReadPitches r s)
/-- READ_STATE, area LOT (R39). -/
def execReadStateLot (r : Req) (s : State) : Host.Outcome State Fault Refusal := .next (opReadLot r s)
/-- READ_STATE, area REQUEST (R64). -/
def execReadStateRequest (r : Req) (s : State) : Host.Outcome State Fault Refusal := .next (opReadRequest r s)
/-- READ_STATE, area CRUSHER (R107). -/
def execReadStateCrusher (r : Req) (s : State) : Host.Outcome State Fault Refusal := .next (opReadCrusher r s)
/-- READ_STATE, area GATE (R107). -/
def execReadStateGate (r : Req) (s : State) : Host.Outcome State Fault Refusal := .next (opReadGate r s)
/-- READ_STATE, area DRUM (R130). -/
def execReadStateDrum (r : Req) (s : State) : Host.Outcome State Fault Refusal := .next (opReadDrum r s)
/-- READ_STATE, area BELT (R19, R82). -/
def execReadStateBelt (r : Req) (s : State) : Host.Outcome State Fault Refusal := .next (opReadBelt r s)
/-- READ_STATE, area PROGRAM (R150). -/
def execReadStateProgram (r : Req) (s : State) : Host.Outcome State Fault Refusal := .next (opReadProgram r s)
/-- READ_STATE, area EVENT (R150). -/
def execReadStateEvent (r : Req) (s : State) : Host.Outcome State Fault Refusal := .next (opReadEvent r s)
/-- READ_STATE, area FAULT (R159). -/
def execReadStateFault (r : Req) (s : State) : Host.Outcome State Fault Refusal := .next (opReadFault r s)
/-- READ_STATE, area COUNTERS (R162). -/
def execReadStateCounters (r : Req) (s : State) : Host.Outcome State Fault Refusal := .next (opReadCounters r s)
/-- READ_STATE, area ROUTES (R86). -/
def execReadStateRoutes (r : Req) (s : State) : Host.Outcome State Fault Refusal := .next (opReadRoutes r s)
/-- READ_STATE, area CAUSES (R160). -/
def execReadStateCauses (r : Req) (s : State) : Host.Outcome State Fault Refusal := .next (opReadCauses r s)

end Sys2Proof.Machine
end

