-- ==== Sys2Proof/Machine/Writes.lean ====
section
/-! DEFINITION. WRITE_ENTRY and the fourteen table writes: the checks of R189 in their order, and each table's own rule. -/

namespace Sys2Proof.Machine

/-- The tables replaced. -/
def State.setTables (s : State) (t : Tables) : State := { s with tables := t }

/-- Checks 2 and 3 of R189, then the table's own checks and effects on the indexed entry. A body answers none for BAD_VALUE (check 4's first
part) and otherwise the state with its status. -/
def writeTable (n : Nat) (r : Req) (body : Fin n → State → Option (State × Status)) (s : State) : State × Answer :=
  match asIndex n r.index.toNat with
  | none => (s, .now .badIndex [])
  | some i =>
    if s.activity ≠ .idle then (s, .now .busy [])
    else match body i s with
      | none => (s, .now .badValue [])
      | some (t, st) => (t, .now st [])

/-- A table with one entry, at index 0. -/
def writeSingle (r : Req) (body : State → Option (State × Status)) (s : State) : State × Answer :=
  writeTable 1 r (fun _ => body) s

/-- A taken write. -/
def taken (s : State) : Option (State × Status) := some (s, .ok)

/-! ### Bodies, one for each table -/

/-- CLASSIFY (R178). -/
def bodyClassify (e : RawClassify) (i : Fin 32) (s : State) : Option (State × Status) :=
  (checkClassify e).bind fun v => taken (s.setTables { s.tables with classify := s.tables.classify.set i v })

/-- Another entry holds the node address (R44, check 2). -/
def State.nodeTaken (s : State) (i : CellNo) (node : Byte) : Bool :=
  cellList.any fun j => decide (j ≠ i) && decide (node ≠ 0) && decide (s.tables.cell[j].node = node)

/-- The cell has a pending request or a lot in LOADING (R8, R44). -/
def State.cellInUse (s : State) (c : CellNo) : Bool := (s.request c).isSome || (s.loadingLot c).isSome

/-- CELL (R8, R44): a changed drop point or node address, or a cleared enrolment, is refused while the cell is in use. -/
def bodyCell (e : RawCell) (i : CellNo) (s : State) : Option (State × Status) :=
  (checkCell s.tables.belt.length e).bind fun v =>
    if s.nodeTaken i v.node then none
    else if s.cellInUse i ∧ (v.dropPoint ≠ s.tables.cell[i].dropPoint ∨ v.node ≠ s.tables.cell[i].node ∨
        (s.tables.cell[i].enrolled = true ∧ v.enrolled = false)) then some (s, .inUse)
    else taken (s.setTables { s.tables with cell := s.tables.cell.set i v })

/-- CLASS (R85): a changed route or crusher mode makes the head controller re-evaluate. -/
def bodyClass (e : RawClass) (i : ClassNo) (s : State) : Option (State × Status) :=
  (checkClass e).bind fun v =>
    let t := s.setTables { s.tables with cls := s.tables.cls.set i v }
    taken (if v.route = s.tables.cls[i].route ∧ v.mode = s.tables.cls[i].mode then t else headReevaluate t)

/-- PLANT (R177). -/
def bodyPlant (e : RawPlant) (s : State) : Option (State × Status) :=
  (checkPlant e).bind fun v => taken (s.setTables { s.tables with plant := v })

/-- Every pitch of the map is EMPTY and the SUPERVISOR hold cause is in force (R6, R7). -/
def State.geometryFree (s : State) : Bool := (s.tracker.map.all fun p => decide (p = .empty)) && s.belt.supervisor

/-- A pending request's window would end above P − 1 (R6, step 4). -/
def State.windowOutside (s : State) (p : Nat) : Bool :=
  cellList.any fun c =>
    match s.request c with
    | some q => decide (p < s.dropPoint c + q.length)
    | none => false

/-- The tracker after a taken BELT entry: a changed P rebuilds the map, a changed CPP sets the accumulator to 0 (R6, R7). -/
def retrack (old new : BeltEntry) (t : Tracker) : Tracker :=
  { t with map := if new.length = old.length then t.map else List.replicate new.length .empty
           acc := if new.cpp = old.cpp then t.acc else 0 }

/-- BELT (R6, R7, R43, R55). -/
def bodyBelt (e : RawBelt) (s : State) : Option (State × Status) :=
  (checkBelt e).bind fun v =>
    let old := s.tables.belt
    if v.length ≠ old.length ∧ (s.tables.cell.toList.any fun c => decide (v.length ≤ c.dropPoint)) then none
    else if (v.length ≠ old.length ∨ v.cpp ≠ old.cpp ∨ v.mpa ≠ old.mpa ∨ v.gap ≠ old.gap) ∧ s.geometryFree = false then some (s, .inUse)
    else if v.length ≠ old.length ∧ s.windowOutside v.length then some (s, .inUse)
    else taken (applyAges { s with tables := { s.tables with belt := v }, tracker := retrack old v s.tracker })

/-- PROFILE (R75): the fields, the release of the override, then the selection. -/
def bodyProfile (e : RawProfile) (s : State) : Option (State × Status) :=
  let t := s.setTables { s.tables with profile := takenProfile e }
  taken (reselect (if t.belt.latched then { t with belt := { t.belt with latched := false, seconds := 0 } } else t))

/-- A written idle time applied to the idle timer running (R95, R101). -/
def applyIdle (s : State) : State := if s.idleDue then idleExpired s else s

/-- CRUSHER (R95). -/
def bodyCrusher (e : RawCrusher) (s : State) : Option (State × Status) :=
  (checkCrusher e).bind fun v => taken (interlock (applyIdle (s.setTables { s.tables with crusher := v })))

/-- DRUM (R111, R112). -/
def bodyDrum (e : RawDrum) (d : DrumNo) (s : State) : Option (State × Status) :=
  (checkDrum e).bind fun v =>
    if s.tables.drum[d].enabled = true ∧ v.enabled = false ∧ (s.drum d).state.busy then some (s, .inUse)
    else
      let written := s.setTables { s.tables with drum := s.tables.drum.set d v }
      let applied := applyDrum d s.tables.drum[d] written
      taken (if drumNeedsArbitration d written applied then arbitrateFlush applied else applied)

/-- FILTER (R113). -/
def bodyFilter (e : RawFilter) (s : State) : Option (State × Status) :=
  (checkFilter e).bind fun v => taken (arbitrateFlush (s.setTables { s.tables with filter := v }))

/-- ACTION (R138). -/
def bodyAction (e : RawAction) (i : ActionNo) (s : State) : Option (State × Status) :=
  (checkAction e).bind fun v => taken (s.setTables { s.tables with action := s.tables.action.set i v })

/-- EVENTROUTE (R134). -/
def bodyEventroute (e : RawRoute) (i : SourceNo) (s : State) : Option (State × Status) :=
  (checkRoute e).bind fun v => taken (s.setTables { s.tables with route := s.tables.route.set i v })

/-- A port's silence time in the tables. -/
def Tables.setSilence (t : Tables) (p : Port) (ms : Nat) : Tables :=
  match p with
  | .cell => { t with silenceCell := ms }
  | .plant => { t with silencePlant := ms }

/-- Index 0 is the cell port, index 1 the plant port (R172). -/
def portOfIndex (i : Fin 2) : Port := if i = 0 then .cell else .plant

/-- PORT (R172): the new silence time applies at once to the running timer. -/
def bodyPort (e : RawPort) (i : Fin 2) (s : State) : Option (State × Status) :=
  (checkPort e).bind fun ms =>
    taken (opSilenceTimeout (portOfIndex i) (s.setTables (s.tables.setSilence (portOfIndex i) ms)))

/-- COALESCE (R169): the test after the write is asked for. -/
def bodyCoalesce (e : RawCoalesce) (s : State) : Option (State × Status) :=
  (checkCoalesce e).bind fun ms => taken { s with tables := { s.tables with coalesceAge := ms }, handed := true }

/-- NODE (R190). -/
def bodyNode (e : RawNode) (s : State) : Option (State × Status) :=
  (checkNode e).bind fun v => taken (s.setTables { s.tables with node := v })

/-! ### Operations -/

/-- WRITE_ENTRY's command code. -/
def writeCode : Nat := 3

def opWriteClassify (r : Req) (e : RawClassify) (s : State) : State := serveAlways writeCode r (writeTable 32 r (bodyClassify e)) s
def opWriteCell (r : Req) (e : RawCell) (s : State) : State := serveAlways writeCode r (writeTable 24 r (bodyCell e)) s
def opWriteClass (r : Req) (e : RawClass) (s : State) : State := serveAlways writeCode r (writeTable 8 r (bodyClass e)) s
def opWritePlant (r : Req) (e : RawPlant) (s : State) : State := serveAlways writeCode r (writeSingle r (bodyPlant e)) s
def opWriteBelt (r : Req) (e : RawBelt) (s : State) : State := serveAlways writeCode r (writeSingle r (bodyBelt e)) s
def opWriteProfile (r : Req) (e : RawProfile) (s : State) : State := serveAlways writeCode r (writeSingle r (bodyProfile e)) s
def opWriteCrusher (r : Req) (e : RawCrusher) (s : State) : State := serveAlways writeCode r (writeSingle r (bodyCrusher e)) s
def opWriteDrum (r : Req) (e : RawDrum) (s : State) : State := serveAlways writeCode r (writeTable 4 r (bodyDrum e)) s
def opWriteFilter (r : Req) (e : RawFilter) (s : State) : State := serveAlways writeCode r (writeSingle r (bodyFilter e)) s
def opWriteAction (r : Req) (e : RawAction) (s : State) : State := serveAlways writeCode r (writeTable 32 r (bodyAction e)) s
def opWriteEventroute (r : Req) (e : RawRoute) (s : State) : State := serveAlways writeCode r (writeTable 16 r (bodyEventroute e)) s
def opWritePort (r : Req) (e : RawPort) (s : State) : State := serveAlways writeCode r (writeTable 2 r (bodyPort e)) s
def opWriteCoalesce (r : Req) (e : RawCoalesce) (s : State) : State := serveAlways writeCode r (writeSingle r (bodyCoalesce e)) s
def opWriteNode (r : Req) (e : RawNode) (s : State) : State := serveAlways writeCode r (writeSingle r (bodyNode e)) s

/-- A WRITE_ENTRY with its 35 bytes of entry data, by its selector; a selector above 13 is answered BAD_TABLE (R187, R189). -/
def opWriteEntry (r : Req) (data : List Byte) (s : State) : State :=
  match r.selector.toNat with
  | 0 => opWriteClassify r (RawClassify.ofBytes data) s
  | 1 => opWriteCell r (RawCell.ofBytes data) s
  | 2 => opWriteClass r (RawClass.ofBytes data) s
  | 3 => opWritePlant r (RawPlant.ofBytes data) s
  | 4 => opWriteBelt r (RawBelt.ofBytes data) s
  | 5 => opWriteProfile r (RawProfile.ofBytes data) s
  | 6 => opWriteCrusher r (RawCrusher.ofBytes data) s
  | 7 => opWriteDrum r (RawDrum.ofBytes data) s
  | 8 => opWriteFilter r (RawFilter.ofBytes data) s
  | 9 => opWriteAction r (RawAction.ofBytes data) s
  | 10 => opWriteEventroute r (RawRoute.ofBytes data) s
  | 11 => opWritePort r (RawPort.ofBytes data) s
  | 12 => opWriteCoalesce r (RawCoalesce.ofBytes data) s
  | 13 => opWriteNode r (RawNode.ofBytes data) s
  | _ => serveAlways writeCode r (readOnly fun _ => .now .badTable []) s

/-! ### Meanings -/

/-- WRITE_ENTRY (R189). -/
def execWriteEntry (r : Req) (data : List Byte) (s : State) : Host.Outcome State Fault Refusal := .next (opWriteEntry r data s)
/-- WRITE_CLASSIFY (R178). -/
def execWriteClassify (r : Req) (e : RawClassify) (s : State) : Host.Outcome State Fault Refusal := .next (opWriteClassify r e s)
/-- WRITE_CELL (R44). -/
def execWriteCell (r : Req) (e : RawCell) (s : State) : Host.Outcome State Fault Refusal := .next (opWriteCell r e s)
/-- WRITE_CLASS (R85). -/
def execWriteClass (r : Req) (e : RawClass) (s : State) : Host.Outcome State Fault Refusal := .next (opWriteClass r e s)
/-- WRITE_PLANT (R177). -/
def execWritePlant (r : Req) (e : RawPlant) (s : State) : Host.Outcome State Fault Refusal := .next (opWritePlant r e s)
/-- WRITE_BELT (R6). -/
def execWriteBelt (r : Req) (e : RawBelt) (s : State) : Host.Outcome State Fault Refusal := .next (opWriteBelt r e s)
/-- WRITE_PROFILE (R75). -/
def execWriteProfile (r : Req) (e : RawProfile) (s : State) : Host.Outcome State Fault Refusal := .next (opWriteProfile r e s)
/-- WRITE_CRUSHER (R95). -/
def execWriteCrusher (r : Req) (e : RawCrusher) (s : State) : Host.Outcome State Fault Refusal := .next (opWriteCrusher r e s)
/-- WRITE_DRUM (R112). -/
def execWriteDrum (r : Req) (e : RawDrum) (s : State) : Host.Outcome State Fault Refusal := .next (opWriteDrum r e s)
/-- WRITE_FILTER (R113). -/
def execWriteFilter (r : Req) (e : RawFilter) (s : State) : Host.Outcome State Fault Refusal := .next (opWriteFilter r e s)
/-- WRITE_ACTION (R138). -/
def execWriteAction (r : Req) (e : RawAction) (s : State) : Host.Outcome State Fault Refusal := .next (opWriteAction r e s)
/-- WRITE_EVENTROUTE (R134). -/
def execWriteEventroute (r : Req) (e : RawRoute) (s : State) : Host.Outcome State Fault Refusal := .next (opWriteEventroute r e s)
/-- WRITE_PORT (R172). -/
def execWritePort (r : Req) (e : RawPort) (s : State) : Host.Outcome State Fault Refusal := .next (opWritePort r e s)
/-- WRITE_COALESCE (R169). -/
def execWriteCoalesce (r : Req) (e : RawCoalesce) (s : State) : Host.Outcome State Fault Refusal := .next (opWriteCoalesce r e s)
/-- WRITE_NODE (R190). -/
def execWriteNode (r : Req) (e : RawNode) (s : State) : Host.Outcome State Fault Refusal := .next (opWriteNode r e s)

end Sys2Proof.Machine
end

