-- ==== Sys2Proof/Machine/Commands.lean ====
section
/-! DEFINITION. The management commands but the reads and the writes (R188), the line restart with its reload (R196, R197), the save (R195), and the start-up of
the part (R193, R194, R198). -/

namespace Sys2Proof.Machine

/-! ### Line commands -/

/-- HALT_LINE (R69). -/
def haltBody (s : State) : State × Answer := (setCause .supervisor s, .ok)

/-- RELEASE_LINE (R69). -/
def releaseBody (s : State) : State × Answer := (clearCause .supervisor s, .ok)

/-- RELEASE_OVERRIDE (R81). -/
def releaseOverrideBody (s : State) : State × Answer := (Sys2Proof.Machine.releaseOverride s, .ok)

/-- One source acknowledged (R137). -/
def acknowledge (i : SourceNo) (s : State) : State :=
  { s with router := { flags := s.router.flags.set i false, counts := s.router.counts.set i 0 } }

/-- Every event flag cleared and every occurrence count 0 (R137, R152). -/
def clearRouter (s : State) : State :=
  { s with router := { flags := Vector.replicate 16 false, counts := Vector.replicate 16 0 } }

/-- ACK_EVENT (R137). -/
def ackBody (r : Req) (s : State) : State × Answer :=
  if r.index = 255 then (clearRouter s, .ok)
  else match asIndex 16 r.index.toNat with
    | none => (s, .now .badIndex [])
    | some i => (acknowledge i s, .ok)

/-- CLEAR_FAULT (R159). -/
def clearFaultBody (s : State) : State × Answer :=
  ({ s with notices := { s.notices with captured := none, furtherMajor := false, furtherMinor := false } }, .ok)

/-- The crusher made OFF with its timers stopped and jam count 0, and STOP handed over (R103, R109). -/
def stopCrusher (s : State) : State :=
  handStop { s with head := { s.head with crusher := .off, jam := 0 } }

/-- CLEAR_CRUSHER (R103). -/
def clearCrusherBody (s : State) : State × Answer :=
  match s.head.crusher with
  | .starting _ _ => (interlock (stopCrusher s), .ok)
  | .stalled => (interlock (stopCrusher s), .ok)
  | .fault => (interlock (stopCrusher s), .ok)
  | .off => (s, .ok)
  | .running _ => (s, .ok)
  | .reversing => (s, .now .inUse [])

/-- CLEAR_DRUM by the drum's state (R124). -/
def clearDrumState (d : DrumNo) (s : State) : State × Answer :=
  let cleared := { s.drum d with fines := 0, failed := 0 }
  match (s.drum d).state with
  | .online => (s.setDrum d cleared, .ok)
  | .offline => (s.setDrum d cleared, .ok)
  | .flushWait _ => (changeDrum d { cleared with state := .online } s, .ok)
  | .fault => (arbitrateFlush (afterCountChange s.filteringCount (changeDrum d { cleared with state := .online } s)), .ok)
  | .flushing _ => (s, .now .inUse [])
  | .settling _ => (s, .now .inUse [])

/-- CLEAR_DRUM (R124). -/
def clearDrumBody (r : Req) (s : State) : State × Answer :=
  match asIndex 4 r.index.toNat with
  | none => (s, .now .badIndex [])
  | some d => clearDrumState d s

/-- The trigger of a chain that no event has triggered (R145). -/
def noTrigger : Trigger := { lot := none, cell := none, drum := none }

/-- START_PROGRAM (R145). -/
def startProgramBody (r : Req) (s : State) : State × Answer :=
  match asIndex 32 r.index.toNat with
  | none => (s, .now .badIndex [])
  | some i =>
    match s.engine.chain with
    | some _ => (s, .now .busy [])
    | none => (startChain i none noTrigger s, .ok)

/-- ABORT_PROGRAM (R145). -/
def abortProgramBody (s : State) : State × Answer :=
  match s.engine.chain with
  | none => (s, .ok)
  | some c => (endChain .aborted c s, .ok)

/-- CLEAR_COUNTERS (R161, R183). -/
def clearCountersBody (s : State) : State × Answer := ({ s with counters := Vector.replicate 200 0 }, .ok)

/-- CLEAR_CAUSES (R160). -/
def clearCausesBody (s : State) : State × Answer :=
  ({ s with notices := { s.notices with causePowerOn := false, causePin := false, causeRestart := false } }, .ok)

/-! ### The line restart (R196) -/

/-- A record after a restart: FREE, with the cell of an active lot as last owner (R41). -/
def Lot.restarted : Lot → Lot
  | .free owner => .free owner
  | .active a => .free (some a.cell)

/-- STOP to the cell of one loading lot (R41). -/
def stopLoading (l : LotNo) (s : State) : State :=
  match s.lots[l].loading? with
  | some a => sendLotOrder .stop l a.cell s
  | none => s

/-- Step 2 (R41). -/
def restartLots (s : State) : State :=
  let s := s.loadingLots.foldl (fun t l => stopLoading l t) s
  { s with lots := s.lots.map Lot.restarted }

/-- Step 3 (R67). -/
def restartArbiter (s : State) : State :=
  let s := restartRequests s
  { s with arbiter := { s.arbiter with pointer := 23 } }

/-- Step 4 (R22). -/
def restartTracker (s : State) : State :=
  { s with tracker := { map := List.replicate s.tables.belt.length .empty, last := none, acc := 0 } }

/-- Step 5 (R152). -/
def restartRouter (s : State) : State :=
  clearRouter { s with engine := { s.engine with waiting := Vector.replicate 16 none } }

/-- Step 6 (R81, R84). -/
def restartBelt (s : State) : State := setCause .supervisor (Sys2Proof.Machine.releaseOverride s)

/-- Step 7 (R170). -/
def restartCoalescer (s : State) : State :=
  bumpBy .entriesDiscarded s.coalescer.entries.length { s with coalescer := { entries := [], waiting := false } }

/-- The MOVE of a gate in travel, handed over again (R109). -/
def restartGate (s : State) : State :=
  match s.head.gate with
  | .moving (some t) _ _ => handMove t s
  | _ => s

/-- The head controller's part of step 8 (R109). -/
def restartHead (s : State) : State :=
  let s := stopCrusher s
  restartGate (clearCause .crusher { s with head := { s.head with approach := 0, surge := false } })

/-- Every drum's command, in drum order (R132, R133). -/
def handDrums (s : State) : State := drumList.foldl (fun t d => handDrum d t) s

/-- Step 9 (R160). -/
def markRestart (s : State) : State := { s with notices := { s.notices with causeRestart := true } }

/-- The nine steps of R196. -/
def restartLine (s : State) : State :=
  markRestart (handDrums (restartHead (issueSetpoint (restartCoalescer (restartBelt (restartRouter (restartTracker (restartArbiter
    (restartLots (abortForRestart s))))))))))

/-- The activity replaced. -/
def State.setActivity (s : State) (a : Activity) : State := { s with activity := a }

/-- RESTART_LINE (R196, R197). -/
def restartBody (r : Req) (s : State) : State × Answer :=
  match s.activity with
  | .idle =>
    if s.tables.node.reload then ((restartLine s).setActivity (.reloading r s.tables.node.node), .later)
    else (bump .restarts (restartLine s), .ok)
  | _ => (s, .now .busy [])

/-! ### The reload (R197) -/

/-- The entries of one drum taken from the image, where its enabled flag changes (R133, R112). -/
def reloadDrum (old : Tables) (d : DrumNo) (s : State) : State :=
  if old.drum[d].enabled = s.tables.drum[d].enabled then s else applyDrum d old.drum[d] s

/-- The DRUM and FILTER entries taken from the image (R133). -/
def reloadFiltration (old : Tables) (s : State) : State :=
  arbitrateFlush (recomputeCapacity (drumList.foldl (fun t d => reloadDrum old d t) s))

/-- The tables of a valid image taken, with the tracker of R6 and R7. -/
def takeTables (t : Tables) (s : State) : State :=
  { s with tables := t, tracker := retrack s.tables.belt t.belt s.tracker }

/-- A valid image at the end of a reload (R197). The test of R169 for the new age limit follows with the reply. -/
def reloadValid (t : Tables) (s : State) : State :=
  let old := s.tables
  let s := reselect (reloadFiltration old (takeTables t (restartRequests s)))
  let s := headReevaluate (applyIdle (opSilenceTimeout .plant (opSilenceTimeout .cell s)))
  bump .reloadsValid { s with handed := true }

/-- A bad image at the end of a reload (R197). -/
def reloadBad (s : State) : State := bump .reloadsBad (raiseFault .imageBad none none none s)

/-- RELOAD_COMPLETE (R197). DEDUCED (log entry 32): where the image changes the node address, the reply's Ethernet source address carries the
old one, as its source node does. -/
def opReloadComplete (ack : Bool) (s : State) : State :=
  match s.activity with
  | .reloading r node =>
    let read := match readImage ack s.eeprom with
      | some t => reloadValid t s
      | none => reloadBad s
    unloadIfHanded (bump .restarts (reply node 16 r .ok [] (routeAll (read.setActivity .idle))))
  | _ => s

/-! ### The save (R195) -/

/-- SAVE_IMAGE (R195). -/
def saveBody (r : Req) (s : State) : State × Answer :=
  match s.activity with
  | .idle => (s.setActivity (.saving r 0), .later)
  | _ => (s, .now .busy [])

/-- The save ends with a status (R195). -/
def endSave (r : Req) (st : Status) (s : State) : State :=
  let s := reply s.tables.node.node 17 r st [] (s.setActivity .idle)
  if st = .ok then bump .savesCompleted s else bump .requestsRefused (bump .savesFailed s)

/-- The page in flight is left torn; its bytes are free values (assumption 4). -/
def tearFlight (page : Nat) (s : State) : State :=
  { s with eeprom := tearPage s.draws page s.eeprom, draws := s.draws + 1 }

/-- SAVE_PAGE_WRITTEN (R195): the page's write cycle has ended, or the EEPROM has not acknowledged. -/
def opSavePageWritten (ack : Bool) (s : State) : State :=
  match s.activity with
  | .saving r page =>
    if ack then
      let s := { s with eeprom := writePage s.tables page s.eeprom }
      if page + 1 < pageCount then s.setActivity (.saving r (page + 1)) else endSave r .ok s
    else endSave r .saveFailed (tearFlight page s)
  | _ => s

/-! ### Start-up (R193, R194, R198) -/

/-- A save that a reset ends leaves its page torn (R195). -/
def endSaveByReset (s : State) : State :=
  match s.activity with
  | .saving _ page => tearFlight page s
  | _ => s

/-- The reset values of every block; the EEPROM is no part of the LC-34 and keeps its contents, and the waiting commands and the count of
free values are the model's. -/
def resetBlocks (s : State) : State :=
  { State.reset with eeprom := s.eeprom, draws := s.draws, pending := s.pending }

/-- POWER_ON (R193, R160). -/
def opPowerOn (s : State) : State := resetBlocks (endSaveByReset s)

/-- PIN_RESET (R198, R160). -/
def opPinReset (s : State) : State :=
  let t := resetBlocks (endSaveByReset s)
  { t with notices := { t.notices with causePowerOn := s.notices.causePowerOn, causePin := true, causeRestart := s.notices.causeRestart } }

/-- The state derived from the tables (R21, R132). -/
def deriveState (t : Tables) (s : State) : State :=
  let s := { s with
    tables := t
    tracker := { map := List.replicate t.belt.length .empty, last := none, acc := 0 }
    filtration := { s.filtration with drums := t.drum.map initialDrum } }
  { s with filtration := { s.filtration with capacity := s.capacityNow } }

/-- The steps of R194: the line mode becomes OPERATING and the owners hand their start-up commands over. -/
def startLine (s : State) : State := handDrums (handStop (issueSetpoint { s with mode := .operating }))

/-- The tables that the start-up read gives, with its counter and its fault (R193). -/
def takeImage : Option Tables → State → State
  | some t, s => deriveState t (bump .loadsValid s)
  | none, s => raiseFault .imageBad none none none (bump .loadsBad (deriveState Tables.default s))

/-- IMAGE_LOAD_COMPLETE (R193, R194). -/
def opImageLoadComplete (ack : Bool) (s : State) : State :=
  if s.mode = .loading then complete (startLine (takeImage (readImage ack s.eeprom) s)) else s

/-! ### Operations and meanings -/

def opHaltLine (r : Req) (s : State) : State := serve 5 r haltBody s
def opReleaseLine (r : Req) (s : State) : State := serve 6 r releaseBody s
def opReleaseOverride (r : Req) (s : State) : State := serve 7 r releaseOverrideBody s
def opAckEvent (r : Req) (s : State) : State := serve 8 r (ackBody r) s
def opClearFault (r : Req) (s : State) : State := serve 9 r clearFaultBody s
def opClearCrusher (r : Req) (s : State) : State := serve 10 r clearCrusherBody s
def opClearDrum (r : Req) (s : State) : State := serve 11 r (clearDrumBody r) s
def opStartProgram (r : Req) (s : State) : State := serve 12 r (startProgramBody r) s
def opAbortProgram (r : Req) (s : State) : State := serve 13 r abortProgramBody s
def opClearCounters (r : Req) (s : State) : State := serve 14 r clearCountersBody s
def opClearCauses (r : Req) (s : State) : State := serve 15 r clearCausesBody s
def opRestartLine (r : Req) (s : State) : State := serve 16 r (restartBody r) s
def opSaveImage (r : Req) (s : State) : State := serve 17 r (saveBody r) s

/-- POWER_ON (R193). -/
def execPowerOn (s : State) : Host.Outcome State Fault Refusal := .next (opPowerOn s)
/-- PIN_RESET (R198). -/
def execPinReset (s : State) : Host.Outcome State Fault Refusal := .next (opPinReset s)
/-- IMAGE_LOAD_COMPLETE (R193). -/
def execImageLoadComplete (ack : Bool) (s : State) : Host.Outcome State Fault Refusal := .next (opImageLoadComplete ack s)
/-- HALT_LINE (R69). -/
def execHaltLine (r : Req) (s : State) : Host.Outcome State Fault Refusal := .next (opHaltLine r s)
/-- RELEASE_LINE (R69). -/
def execReleaseLine (r : Req) (s : State) : Host.Outcome State Fault Refusal := .next (opReleaseLine r s)
/-- RELEASE_OVERRIDE (R81). -/
def execReleaseOverride (r : Req) (s : State) : Host.Outcome State Fault Refusal := .next (opReleaseOverride r s)
/-- ACK_EVENT (R137). -/
def execAckEvent (r : Req) (s : State) : Host.Outcome State Fault Refusal := .next (opAckEvent r s)
/-- CLEAR_FAULT (R159). -/
def execClearFault (r : Req) (s : State) : Host.Outcome State Fault Refusal := .next (opClearFault r s)
/-- CLEAR_CRUSHER (R103). -/
def execClearCrusher (r : Req) (s : State) : Host.Outcome State Fault Refusal := .next (opClearCrusher r s)
/-- CLEAR_DRUM (R124). -/
def execClearDrum (r : Req) (s : State) : Host.Outcome State Fault Refusal := .next (opClearDrum r s)
/-- START_PROGRAM (R145). -/
def execStartProgram (r : Req) (s : State) : Host.Outcome State Fault Refusal := .next (opStartProgram r s)
/-- ABORT_PROGRAM (R145). -/
def execAbortProgram (r : Req) (s : State) : Host.Outcome State Fault Refusal := .next (opAbortProgram r s)
/-- CLEAR_COUNTERS (R161). -/
def execClearCounters (r : Req) (s : State) : Host.Outcome State Fault Refusal := .next (opClearCounters r s)
/-- CLEAR_CAUSES (R160). -/
def execClearCauses (r : Req) (s : State) : Host.Outcome State Fault Refusal := .next (opClearCauses r s)
/-- RESTART_LINE (R196). -/
def execRestartLine (r : Req) (s : State) : Host.Outcome State Fault Refusal := .next (opRestartLine r s)
/-- RELOAD_COMPLETE (R197). -/
def execReloadComplete (ack : Bool) (s : State) : Host.Outcome State Fault Refusal := .next (opReloadComplete ack s)
/-- SAVE_IMAGE (R195). -/
def execSaveImage (r : Req) (s : State) : Host.Outcome State Fault Refusal := .next (opSaveImage r s)
/-- SAVE_PAGE_WRITTEN (R195). -/
def execSavePageWritten (ack : Bool) (s : State) : Host.Outcome State Fault Refusal := .next (opSavePageWritten ack s)

end Sys2Proof.Machine
end

