-- ==== Sys2Proof/Machine/Frames.lean ====
section
/-! DEFINITION. Frames at the ports (Sections 10.2 to 10.4): the frame check, the frames of LOADING, telegrams addressed to the part, sample acceptance, the
classification table, and the coolant allotments that a CLAMP entry hands over (Section 6.5). -/

namespace Sys2Proof.Machine

/-! ### Coolant allotments (R128, R129) -/

/-- The cell an allotment names: the cell whose entry holds the node, and none for the fields 0 and 255 (R128). -/
def State.allotmentCell (s : State) (node : Byte) : Option CellNo := if node = 255 then none else s.cellOf node

/-- A cell's ceiling: floor(capacity × share / 256) (R128). -/
def State.ceiling (s : State) (c : CellNo) : Nat := s.filtration.capacity * s.tables.cell[c].share / 256

/-- The flow as decided (R128). -/
def State.decidedFlow (s : State) (c : CellNo) (flow : Half) : Nat := min flow.toNat (s.ceiling c)

/-- The frame with its flow field, payload bytes 5 and 6, rewritten; every other byte is kept (R179). -/
def withFlow (flow : Nat) (f : Frame) : Frame :=
  { f with payload := (f.payload.set 5 (BitVec.ofNat 8 (flow / 256))).set 6 (BitVec.ofNat 8 flow) }

/-- The frame as it is forwarded: rewritten where the flow exceeds the ceiling (R128). -/
def State.clampedFrame (s : State) (c : CellNo) (flow : Half) (f : Frame) : Frame :=
  if s.ceiling c < flow.toNat then withFlow (s.ceiling c) f else f

/-- An allotment of a known cell: clamped, placed where there is room, and then the cell's last allotment (R128, R129). -/
def clampAllotment (p : Port) (f : Frame) (c : CellNo) (flow : Half) (s : State) : State :=
  let decided := if s.ceiling c < flow.toNat then bump .allotmentsClamped s else s
  if s.hasRoom p.other then
    recordAllotment c (s.decidedFlow c flow) (forwardTo p.other (s.clampedFrame c flow f) decided)
  else forwardTo p.other (s.clampedFrame c flow f) decided

/-- A well-formed allotment that a CLAMP entry hands over (R128). -/
def takeAllotment (p : Port) (f : Frame) (t : Telegram) (s : State) : State :=
  let seen := bump .allotmentsSeen s
  match s.allotmentCell (byteAt t.body 0) with
  | none => forwardTo p.other f (bump .allotmentsUnknown seen)
  | some c => clampAllotment p f c (halfAt t.body 1) seen

/-- COOLANT ALLOTMENT (R128, R174): tested as consumed, and then handed over. -/
def opCoolantAllotment (p : Port) (f : Frame) (s : State) : State :=
  match Telegram.parse f.payload with
  | none => bump (.malformed p) s
  | some t => if t.kind = 0x28 ∧ t.body.length = 3 then takeAllotment p f t s else bump (.malformed p) s

/-! ### Sample acceptance (R177) -/

/-- A foreign sample (R177). -/
def foreignSample (p : Port) (s : State) : State := raiseFault .foreignSample none none (some (.port p)) (bump (.foreign p) s)

/-- A sample is accepted from the node the PLANT table holds for its kind, and is foreign otherwise. -/
def acceptFrom (p : Port) (src node : Byte) (op : State → State) (s : State) : State :=
  if src ≠ 0 ∧ src = node then complete (op s) else foreignSample p s

/-! ### Management requests (R176, R186, R188) -/

/-- The request a body of 40 bytes carries. -/
def requestOf (p : Port) (t : Telegram) : Req :=
  { port := p, node := t.src, tag := byteAt t.body 0, selector := byteAt t.body 2, index := byteAt t.body 3, count := byteAt t.body 4 }

/-- READ_STATE by its area code; an area above 12 is answered BAD_TABLE (R191). -/
def opReadState (r : Req) (s : State) : State :=
  match r.selector.toNat with
  | 0 => opReadPitches r s
  | 1 => opReadLot r s
  | 2 => opReadRequest r s
  | 3 => opReadCrusher r s
  | 4 => opReadGate r s
  | 5 => opReadDrum r s
  | 6 => opReadBelt r s
  | 7 => opReadProgram r s
  | 8 => opReadEvent r s
  | 9 => opReadFault r s
  | 10 => opReadCounters r s
  | 11 => opReadRoutes r s
  | 12 => opReadCauses r s
  | _ => serveAlways 4 r (readOnly fun _ => .now .badTable []) s

/-- The command of a request; a code of 0 or above 17 is answered BAD_COMMAND (R188). DESIGN CHOICE (log entry 33): a command that takes no
selector ignores one that is not 0. -/
def opManagement (command : Byte) (r : Req) (data : List Byte) (s : State) : State :=
  match command.toNat with
  | 1 => opReadIdent r s
  | 2 => opReadEntry r s
  | 3 => opWriteEntry r data s
  | 4 => opReadState r s
  | 5 => opHaltLine r s
  | 6 => opReleaseLine r s
  | 7 => opReleaseOverride r s
  | 8 => opAckEvent r s
  | 9 => opClearFault r s
  | 10 => opClearCrusher r s
  | 11 => opClearDrum r s
  | 12 => opStartProgram r s
  | 13 => opAbortProgram r s
  | 14 => opClearCounters r s
  | 15 => opClearCauses r s
  | 16 => opRestartLine r s
  | 17 => opSaveImage r s
  | n => serveAlways n r (readOnly fun _ => .now .badCommand []) s

/-! ### Consumed telegrams (R176, R179) -/

/-- How a telegram came to be consumed: addressed to the part (R176), or through a classification entry (R179). -/
inductive Consumption where
  | addressed
  | classified
deriving DecidableEq, Repr

/-- A discharge telegram: taken when it is addressed to the part and arrives at the cell port (R45, R176). -/
def takeDischarge (p : Port) (by_ : Consumption) (op : State → State) (s : State) : State :=
  if p = .cell ∧ by_ = .addressed then complete (op s) else discardDischarge s

/-- A telegram of a kind the part does not take (R176, R179). -/
def unusableTelegram (p : Port) (s : State) : State := bump (.unusable p) s

/-- A consumed, well-formed telegram by its kind (R176, R179). -/
def dispatch (p : Port) (by_ : Consumption) (t : Telegram) (s : State) : State :=
  match t.kind.toNat with
  | 0x10 => takeDischarge p by_ (opDischargeRequest t.src (byteAt t.body 0) (byteAt t.body 1) (halfAt t.body 2)) s
  | 0x11 => takeDischarge p by_ (opDischargeWithdraw t.src) s
  | 0x12 => takeDischarge p by_ (opDischargeEnd t.src (byteAt t.body 0) (halfAt t.body 1)) s
  | 0x20 => acceptFrom p t.src s.tables.plant.encoder (opBeltSample (wordAt t.body 0)) s
  | 0x21 => acceptFrom p t.src s.tables.plant.crusher (opCrusherStatus (halfAt t.body 0) (byteAt t.body 2)) s
  | 0x22 => acceptFrom p t.src s.tables.plant.gate (opGateStatus (byteAt t.body 0)) s
  | 0x23 => acceptFrom p t.src s.tables.plant.skid (opFilterSample (byteAt t.body 0) (halfAt t.body 1)) s
  | 0x40 =>
    if by_ = .addressed then opManagement (byteAt t.body 1) (requestOf p t) (t.body.drop 5) s else unusableTelegram p s
  | _ => unusableTelegram p s

/-- A telegram the part consumes: the last two tests of R174, then the count and the dispatch. -/
def consume (p : Port) (by_ : Consumption) (t : Telegram) (s : State) : State :=
  if t.consumable then dispatch p by_ t (bump (.consumed p) s) else bump (.malformed p) s

/-! ### The classification table (R178, R179) -/

/-- An entry's arrival port is the telegram's, or EITHER. -/
def Arrival.covers : Arrival → Port → Bool
  | .either, _ => true
  | .cell, p => decide (p = .cell)
  | .plant, p => decide (p = .plant)

/-- An entry matches a telegram (R179). -/
def ClassifyEntry.matches (e : ClassifyEntry) (p : Port) (t : Telegram) : Bool :=
  e.valid && e.arrival.covers p && (e.kindAny || decide (e.kind = t.kind)) && (e.sourceAny || decide (e.source = t.src)) &&
    (e.destAny || decide (e.dest = t.dst))

/-- The entry of the lowest index that matches. -/
def State.classEntry (s : State) (p : Port) (t : Telegram) : Option (Fin 32) :=
  (List.finRange 32).find? fun i => s.tables.classify[i].matches p t

/-- The action of the entry that applies (R179). -/
def applyAction (a : Action) (p : Port) (f : Frame) (t : Telegram) (s : State) : State :=
  match a with
  | .forward => forwardTo p.other f s
  | .drop => s
  | .consume => consume p .classified t s
  | .snoop => consume p .classified t (forwardTo p.other f s)
  | .clamp => complete (opCoolantAllotment p f s)

/-- A telegram that is not addressed to the part is classified; one that matches no entry is forwarded (R179). -/
def classify (p : Port) (f : Frame) (t : Telegram) (s : State) : State :=
  match s.classEntry p t with
  | none => forwardTo p.other f s
  | some i => applyAction s.tables.classify[i].action p f t (bump (.hits i) s)

/-! ### Frames (R173 to R175) -/

/-- A bad frame: a wrong frame check sequence, or a length outside 64 to 1518 bytes (R173). -/
def badFrame (fcsOk : Bool) (f : Frame) : Bool := !fcsOk || decide (f.length < 64) || decide (1518 < f.length)

/-- A good frame in LOADING: a telegram with the part's node as its destination is dropped and every other frame is forwarded unchanged; a
frame of another type is counted as such (R173, R175). -/
def loadingFrame (p : Port) (f : Frame) (s : State) : State :=
  if f.etherType ≠ lineType then forwardTo p.other f (bump (.otherProtocol p) s)
  else if f.payload.head? = some s.tables.node.node then bump (.loadingDrops p) s
  else forwardTo p.other f s

/-- A line telegram in OPERATING (R174, R176, R179). -/
def lineFrame (p : Port) (f : Frame) (s : State) : State :=
  match Telegram.parse f.payload with
  | none => bump (.malformed p) s
  | some t => if t.dst = s.tables.node.node then consume p .addressed t s else classify p f t s

/-- A good frame, by the line mode and the frame's type (R173, R175). -/
def handleFrame (p : Port) (f : Frame) (s : State) : State :=
  if s.mode = .loading then loadingFrame p f s
  else if f.etherType ≠ lineType then forwardTo p.other f (bump (.otherProtocol p) s)
  else lineFrame p f s

/-- FRAME_RECEIVED (R173). The port's change of state is complete before the frame is handled. -/
def opFrameReceived (p : Port) (fcsOk : Bool) (f : Frame) (s : State) : State :=
  if badFrame fcsOk f then bump (.badFrames p) s else handleFrame p f (complete (goodFrame p s))

/-! ### Meanings -/

/-- FRAME_RECEIVED (R173). -/
def execFrameReceived (port : Port) (fcsOk : Bool) (frame : Frame) (s : State) : Host.Outcome State Fault Refusal :=
  .next (opFrameReceived port fcsOk frame s)

/-- COOLANT_ALLOTMENT (R128): the frame of a telegram that a CLAMP entry hands over, with its arrival port. -/
def execCoolantAllotment (port : Port) (frame : Frame) (s : State) : Host.Outcome State Fault Refusal :=
  .next (operate (opCoolantAllotment port frame) s)

end Sys2Proof.Machine
end

