-- ==== Sys2Proof/Machine/Dispatch.lean ====
section
/-! DEFINITION. The meaning of every command: one arm per constructor of Instr, in the order of spec/opcode_table.json. -/

namespace Sys2Proof.Machine

/-- The effect of a command on everything but the queue of waiting commands. -/
def exec (i : Instr) (s : State) : Host.Outcome State Fault Refusal :=
  match i with
  | .powerOn => Sys2Proof.Machine.execPowerOn s
  | .pinReset => Sys2Proof.Machine.execPinReset s
  | .imageLoadComplete ack => Sys2Proof.Machine.execImageLoadComplete ack s
  | .frameReceived port fcsOk frame => Sys2Proof.Machine.execFrameReceived port fcsOk frame s
  | .dischargeRequest node cls length mass => Sys2Proof.Machine.execDischargeRequest node cls length mass s
  | .dischargeWithdraw node => Sys2Proof.Machine.execDischargeWithdraw node s
  | .dischargeEnd node lot mass => Sys2Proof.Machine.execDischargeEnd node lot mass s
  | .beltSample count => Sys2Proof.Machine.execBeltSample count s
  | .crusherStatus current confirm => Sys2Proof.Machine.execCrusherStatus current confirm s
  | .gateStatus position => Sys2Proof.Machine.execGateStatus position s
  | .filterSample drum dp => Sys2Proof.Machine.execFilterSample drum dp s
  | .coolantAllotment port frame => Sys2Proof.Machine.execCoolantAllotment port frame s
  | .frameTransmitted port => Sys2Proof.Machine.execFrameTransmitted port s
  | .silenceTimeout port => Sys2Proof.Machine.execSilenceTimeout port s
  | .requestUrgent cell => Sys2Proof.Machine.execRequestUrgent cell s
  | .requestExpiry cell => Sys2Proof.Machine.execRequestExpiry cell s
  | .overrideSecond => Sys2Proof.Machine.execOverrideSecond s
  | .gateTimeout => Sys2Proof.Machine.execGateTimeout s
  | .startTimerExpiry => Sys2Proof.Machine.execStartTimerExpiry s
  | .idleTimerExpiry => Sys2Proof.Machine.execIdleTimerExpiry s
  | .flushWaitLimit drum => Sys2Proof.Machine.execFlushWaitLimit drum s
  | .flushTimeEnd drum => Sys2Proof.Machine.execFlushTimeEnd drum s
  | .settleTimeEnd drum => Sys2Proof.Machine.execSettleTimeEnd drum s
  | .stepHoldExpiry => Sys2Proof.Machine.execStepHoldExpiry s
  | .coalesceAgeLimit => Sys2Proof.Machine.execCoalesceAgeLimit s
  | .readIdent req => Sys2Proof.Machine.execReadIdent req s
  | .readEntry req => Sys2Proof.Machine.execReadEntry req s
  | .writeEntry req data => Sys2Proof.Machine.execWriteEntry req data s
  | .writeClassify req entry => Sys2Proof.Machine.execWriteClassify req entry s
  | .writeCell req entry => Sys2Proof.Machine.execWriteCell req entry s
  | .writeClass req entry => Sys2Proof.Machine.execWriteClass req entry s
  | .writePlant req entry => Sys2Proof.Machine.execWritePlant req entry s
  | .writeBelt req entry => Sys2Proof.Machine.execWriteBelt req entry s
  | .writeProfile req entry => Sys2Proof.Machine.execWriteProfile req entry s
  | .writeCrusher req entry => Sys2Proof.Machine.execWriteCrusher req entry s
  | .writeDrum req entry => Sys2Proof.Machine.execWriteDrum req entry s
  | .writeFilter req entry => Sys2Proof.Machine.execWriteFilter req entry s
  | .writeAction req entry => Sys2Proof.Machine.execWriteAction req entry s
  | .writeEventroute req entry => Sys2Proof.Machine.execWriteEventroute req entry s
  | .writePort req entry => Sys2Proof.Machine.execWritePort req entry s
  | .writeCoalesce req entry => Sys2Proof.Machine.execWriteCoalesce req entry s
  | .writeNode req entry => Sys2Proof.Machine.execWriteNode req entry s
  | .readStatePitches req => Sys2Proof.Machine.execReadStatePitches req s
  | .readStateLot req => Sys2Proof.Machine.execReadStateLot req s
  | .readStateRequest req => Sys2Proof.Machine.execReadStateRequest req s
  | .readStateCrusher req => Sys2Proof.Machine.execReadStateCrusher req s
  | .readStateGate req => Sys2Proof.Machine.execReadStateGate req s
  | .readStateDrum req => Sys2Proof.Machine.execReadStateDrum req s
  | .readStateBelt req => Sys2Proof.Machine.execReadStateBelt req s
  | .readStateProgram req => Sys2Proof.Machine.execReadStateProgram req s
  | .readStateEvent req => Sys2Proof.Machine.execReadStateEvent req s
  | .readStateFault req => Sys2Proof.Machine.execReadStateFault req s
  | .readStateCounters req => Sys2Proof.Machine.execReadStateCounters req s
  | .readStateRoutes req => Sys2Proof.Machine.execReadStateRoutes req s
  | .readStateCauses req => Sys2Proof.Machine.execReadStateCauses req s
  | .haltLine req => Sys2Proof.Machine.execHaltLine req s
  | .releaseLine req => Sys2Proof.Machine.execReleaseLine req s
  | .releaseOverride req => Sys2Proof.Machine.execReleaseOverride req s
  | .ackEvent req => Sys2Proof.Machine.execAckEvent req s
  | .clearFault req => Sys2Proof.Machine.execClearFault req s
  | .clearCrusher req => Sys2Proof.Machine.execClearCrusher req s
  | .clearDrum req => Sys2Proof.Machine.execClearDrum req s
  | .startProgram req => Sys2Proof.Machine.execStartProgram req s
  | .abortProgram req => Sys2Proof.Machine.execAbortProgram req s
  | .clearCounters req => Sys2Proof.Machine.execClearCounters req s
  | .clearCauses req => Sys2Proof.Machine.execClearCauses req s
  | .restartLine req => Sys2Proof.Machine.execRestartLine req s
  | .reloadComplete ack => Sys2Proof.Machine.execReloadComplete ack s
  | .saveImage req => Sys2Proof.Machine.execSaveImage req s
  | .savePageWritten ack => Sys2Proof.Machine.execSavePageWritten ack s

end Sys2Proof.Machine
end

