-- ==== Sys2Proof/Machine/Tick.lean ====
section
/-! DEFINITION. The 1 ms timebase (Section 1.2 of the introduction). On an empty queue a step is one millisecond: the timebase advances, and the expiries that
have come due are queued as commands (assumption 1). -/

namespace Sys2Proof.Machine

/-- The port's silence timer has expired (R171). -/
def dueSilence (p : Port) (s : State) : List Instr := if s.silenceDue p then [.silenceTimeout p] else []

/-- The requests that are to become urgent, in cell order (R53). -/
def dueUrgent (s : State) : List Instr := (cellList.filter fun c => s.urgentDue c).map .requestUrgent

/-- The requests that expire, in cell order (R54). -/
def dueExpiry (s : State) : List Instr := (cellList.filter fun c => s.expiryDue c).map .requestExpiry

/-- A whole second of the override (R80). -/
def dueOverride (s : State) : List Instr := if s.overrideDue then [.overrideSecond] else []

/-- A gate travel reaches its limit (R90). -/
def State.gateDue (s : State) : Bool :=
  match s.head.gate with
  | .moving (some _) start false => !s.holds .gate && decide (travelLimit ≤ s.since start)
  | _ => false

def dueGate (s : State) : List Instr := if s.gateDue then [.gateTimeout] else []

/-- The start timer (R99). -/
def State.startDue (s : State) : Bool :=
  match s.head.crusher with
  | .starting at_ limit => decide (limit ≤ s.since at_)
  | _ => false

def dueStart (s : State) : List Instr := if s.startDue then [.startTimerExpiry] else []

/-- The idle timer (R101). -/
def dueIdle (s : State) : List Instr := if s.idleDue then [.idleTimerExpiry] else []

/-- The wait of a drum reaches the flush wait limit in this millisecond (R120). -/
def State.waitDue (s : State) (d : DrumNo) : Bool :=
  match (s.drum d).state with
  | .flushWait since => decide (s.since since = s.tables.filter.waitLimit * 1000)
  | _ => false

/-- The phase of a drum ends (R122, R123). -/
def duePhase (s : State) (d : DrumNo) : List Instr :=
  match (s.drum d).state with
  | .flushing e => if s.reached e then [.flushTimeEnd d] else []
  | .settling e => if s.reached e then [.settleTimeEnd d] else []
  | _ => []

/-- The waits and the phases of the drums, in drum order. -/
def dueDrums (s : State) : List Instr :=
  ((drumList.filter fun d => s.waitDue d).map .flushWaitLimit) ++ drumList.flatMap fun d => duePhase s d

/-- The hold of the step in progress (R141). -/
def State.holdDue (s : State) : Bool :=
  match s.engine.chain with
  | none => false
  | some c => s.reached c.holdEnd

def dueHold (s : State) : List Instr := if s.holdDue then [.stepHoldExpiry] else []

/-- The age of the oldest entry reaches the age limit in this millisecond (R166). -/
def dueCoalesce (s : State) : List Instr := if s.oldestAge = some s.tables.coalesceAge then [.coalesceAgeLimit] else []

/-- Every expiry that is due, in the order of the opcode table. -/
def expiriesDue (s : State) : List Instr :=
  dueSilence .cell s ++ dueSilence .plant s ++ dueUrgent s ++ dueExpiry s ++ dueOverride s ++ dueGate s ++ dueStart s ++ dueIdle s ++
    dueDrums s ++ dueHold s ++ dueCoalesce s

/-- An expiry put into a list by its rank, before those of an equal rank. -/
def insertRanked (r : Nat) (i : Instr) : List (Nat × Instr) → List (Nat × Instr)
  | [] => [(r, i)]
  | (q, j) :: rest => if q < r then (q, j) :: insertRanked r i rest else (r, i) :: (q, j) :: rest

/-- The list in the order of its ranks, which are free values (assumption 2); `k` numbers the next expiry. -/
def rankAll (draw : Nat) : Nat → List Instr → List (Nat × Instr)
  | _, [] => []
  | k, i :: rest => insertRanked (Config.expiryRank draw k) i (rankAll draw (k + 1) rest)

/-- The expiries that are due in the order in which they are taken: one alone needs no rank. -/
def orderDue (draw : Nat) (due : List Instr) : List Instr :=
  match due with
  | [] => []
  | [i] => [i]
  | _ => (rankAll draw 0 due).map Prod.snd

/-- The timebase one millisecond on. -/
def State.nextMs (s : State) : State := { s with now := s.now + 1 }

/-- One millisecond: the timebase advances, and what is due is queued. -/
def tick (s : State) : State :=
  { s.nextMs with
    draws := if (expiriesDue s.nextMs).length < 2 then s.draws else s.draws + 1
    pending := orderDue s.draws (expiriesDue s.nextMs) }

end Sys2Proof.Machine
end

