-- ==== Sys2Proof/Safety.lean ====
section
/-! DEFINITION. What the statements say about whole states: the laws of the part that every step keeps, and the outcomes that are no stop. -/

namespace Sys2Proof.Machine

/-- The outcome is a next state. -/
def isNext : Host.Outcome State Fault Refusal → Bool
  | .next _ => true
  | _ => false

/-- The map holds exactly P records (R1). -/
def State.mapLaw (s : State) : Prop := s.tracker.map.length = s.tables.belt.length

/-- Each transmit queue holds at most 32 frames (R180). -/
def State.queueLaw (s : State) : Prop := s.cellPort.queue.length ≤ queueCapacity ∧ s.plantPort.queue.length ≤ queueCapacity

/-- The coalescer never holds two entries for the same target (R163). -/
def State.entryLaw (s : State) : Prop := (s.coalescer.entries.map Entry.target).Nodup

/-- At most one drum is FLUSHING or SETTLING (R110). -/
def State.flushLaw (s : State) : Prop := drumList.countP (fun d => (s.drum d).state.busy) ≤ 1

/-- The EEPROM's contents stand in their one form. -/
def State.eepromLaw (s : State) : Prop := s.eeprom.wf = true

/-- Nothing is left over from an operation: every occurrence has been taken and the coalescer has made its test (R135, R166). -/
def State.settledLaw (s : State) : Prop := s.raised = [] ∧ s.handed = false

/-- A request that R176 passes to the responder in OPERATING, with nothing left over and with room for its reply. -/
def State.readyFor (s : State) (r : Req) : Prop :=
  s.mode = .operating ∧ s.permits r = true ∧ s.settledLaw ∧ s.hasRoom r.port = true

/-- Each counter of the list grows by one as a counter does (R161), and every other counter keeps its value. -/
def State.onlyGrew (s t : State) (cs : List Counter) : Prop :=
  ∀ c, t.counter c = if c ∈ cs then saturatingAdd (s.counter c) 1 else s.counter c

/-- The counters of the list grow by their amounts (R161), and every other counter keeps its value. -/
def State.grewBy (s t : State) (cs : List (Counter × Nat)) : Prop :=
  ∀ c, t.counter c = match cs.lookup c with
    | some n => saturatingAdd (s.counter c) n
    | none => s.counter c

/-- What one fault leaves in the fault record and the counters, beside the counters of the list (R157, R158). -/
def State.faulted (s t : State) (k : FaultKind) (lot : Option LotNo) (cell : Option CellNo) (detail : Option Detail)
    (cs : List Counter) : Prop :=
  if k.isMajor = false ∧ s.tables.node.suppressMinor = true then
    t.notices = s.notices ∧ s.onlyGrew t (cs ++ [.raised k, .faultsSuppressed])
  else if s.notices.captured = none then
    t.notices = { s.notices with captured := some { kind := k, time := s.now, lot := lot, cell := cell, detail := detail },
                                 furtherMajor := false, furtherMinor := false } ∧
      s.onlyGrew t (cs ++ [.raised k, .faultsCaptured])
  else
    t.notices = (if k.isMajor then { s.notices with furtherMajor := true } else { s.notices with furtherMinor := true }) ∧
      s.onlyGrew t (cs ++ [.raised k])

/-- The frame of a DISCHARGE ORDER of the part (R180, R184, R185). -/
def State.orderFrame (s : State) (o : Order) (node : Byte) (lot : Option LotNo) (length : Nat) (reason : Option Reason) : Frame :=
  ownFrame s.tables.node.node node 0x18 (orderBody o lot length reason)

/-- An order to the cell of every lot in LOADING, in ascending lot number (R72, R73). -/
def State.loadingOrders (s : State) (o : Order) : List Frame :=
  (List.finRange 64).filterMap fun l =>
    match s.lots[l] with
    | .active a => if a.state = .loading then some (s.orderFrame o s.tables.cell[a.cell].node (some l) 0 none) else none
    | .free _ => none

/-- The frame of a MANAGEMENT REPLY of the part (R180, R184, R186). -/
def State.replyFrame (s : State) (r : Req) (command : Nat) (st : Status) (data : List Byte) : Frame :=
  ownFrame s.tables.node.node r.node 0x41 (replyBody r command st data)

/-- The frame of a DRIVE COMMAND of the part (R167, R180, R184, R185). -/
def State.driveFrame (s : State) (t : Target) (m : Mode) (setpoint : Nat) : Frame :=
  ownFrame s.tables.node.node (s.driveNode t) 0x30 (byte1 t.code ++ byte1 m.code ++ byte2 setpoint)

/-- A request has been answered: its reply stands last in the queue of the request's port, the other port is untouched, and the counters of
R188, with those of the list, have grown by one. -/
def State.answered (s t : State) (r : Req) (command : Nat) (st : Status) (data : List Byte) (cs : List Counter) : Prop :=
  (t.port r.port).queue = (s.port r.port).queue ++ [s.replyFrame r command st data] ∧
    (t.port r.port).state = (s.port r.port).state ∧ t.port r.port.other = s.port r.port.other ∧
    s.onlyGrew t ((if st = .ok then [.requestsServed] else [.requestsServed, .requestsRefused]) ++ cs)

/-- A request has been answered, and besides the reply and the counters nothing has changed (R188). -/
def State.onlyAnswered (s t : State) (r : Req) (command : Nat) (st : Status) (data : List Byte) : Prop :=
  s.answered t r command st data [] ∧
    { t with cellPort := s.cellPort, plantPort := s.plantPort, counters := s.counters } = s

/-- A good frame of the line protocol: a right frame check sequence, a length in 64 to 1518 bytes and type 9A4Ch (R173, R184). -/
def goodLineFrame (f : Frame) : Prop := 64 ≤ f.length ∧ f.length ≤ 1518 ∧ f.etherType = 0x9A4C

/-- A good frame arrives at a port that is UP: the timer restarts and the frame is counted (R171, R173). -/
def State.heard (s : State) (p : Port) : State := bump (.goodFrames p) (s.setPort p { s.port p with state := .up s.now })

/-- A port is UP. -/
def State.isUp (s : State) (p : Port) : Prop := ∃ g, (s.port p).state = .up g

/-- The three cause flags POWER_ON, PIN and RESTART (R160). -/
def State.causes (s : State) : Bool × Bool × Bool := (s.notices.causePowerOn, s.notices.causePin, s.notices.causeRestart)

/-! ### Laws of the tables, the lots and the belt -/

/-- A classification entry in its ranges: a CLAMP entry matches kind 28h alone (R178). -/
def ClassifyEntry.inRange (e : ClassifyEntry) : Prop := e.action = .clamp → e.kindAny = false ∧ e.kind = 0x28

/-- A CELL entry in its ranges, for a belt of length `p` (R8, R44, R128). -/
def CellEntry.inRange (p : Nat) (e : CellEntry) : Prop :=
  17 ≤ e.dropPoint ∧ e.dropPoint < p ∧ e.node ≠ 255 ∧ (e.enrolled = true → e.node ≠ 0) ∧ e.share ≤ 255

/-- A CLASS entry in its ranges (R85). -/
def ClassEntry.inRange (e : ClassEntry) : Prop := e.fines ≤ 1023

/-- The PLANT entry in its ranges (R177). -/
def PlantEntry.inRange (e : PlantEntry) : Prop :=
  e.encoder ≠ 255 ∧ e.beltDrive ≠ 255 ∧ e.crusher ≠ 255 ∧ e.gate ≠ 255 ∧ e.skid ≠ 255

/-- The BELT entry in its ranges (Section 1.2, R42). -/
def BeltEntry.inRange (e : BeltEntry) : Prop :=
  32 ≤ e.length ∧ e.length ≤ 256 ∧ 16 ≤ e.cpp ∧ e.cpp ≤ 4095 ∧ 1 ≤ e.mpa ∧ e.mpa ≤ 65535 ∧ 1 ≤ e.gap ∧ e.gap ≤ 15 ∧
    1 ≤ e.ageLimit ∧ e.ageLimit ≤ 120 ∧ e.threshold ≤ 120

/-- The PROFILE entry in its ranges (R75). -/
def ProfileEntry.inRange (e : ProfileEntry) : Prop := e.primary ≤ 1000 ∧ e.overriding ≤ 1000

/-- The CRUSHER entry in its ranges (R95). -/
def CrusherEntry.inRange (e : CrusherEntry) : Prop :=
  (e.startDelay = 128 ∨ e.startDelay = 256 ∨ e.startDelay = 512) ∧ e.speed ≤ 100 ∧ 1 ≤ e.jamThreshold ∧ e.jamThreshold ≤ 65535 ∧
    1 ≤ e.jamCount ∧ e.jamCount ≤ 15 ∧ e.clearLevel ≤ 65535 ∧ e.idle ≤ 600 ∧ 1 ≤ e.margin ∧ e.margin ≤ 15 ∧ e.margin ≤ e.window ∧
    e.window ≤ 32 ∧ 1 ≤ e.limit ∧ e.limit ≤ 65535

/-- A DRUM entry in its ranges (R111). -/
def DrumEntry.inRange (e : DrumEntry) : Prop :=
  e.flow ≤ 4000 ∧ 1 ≤ e.dpLimit ∧ e.dpLimit ≤ 65535 ∧ 1 ≤ e.threshold ∧ e.threshold ≤ 16777215 ∧ 1 ≤ e.flush ∧ e.flush ≤ 120 ∧
    1 ≤ e.settle ∧ e.settle ≤ 120

/-- The FILTER entry in its ranges (R113). -/
def FilterEntry.inRange (e : FilterEntry) : Prop := e.minOnline ≤ 3 ∧ 10 ≤ e.waitLimit ∧ e.waitLimit ≤ 600

/-- A step whose mode and setpoint its target takes (R138). -/
def StepEntry.inRange (t : Target) (st : StepEntry) : Prop :=
  1 ≤ st.hold ∧ st.hold ≤ 60000 ∧
    match t with
    | .belt => st.mode = .run ∧ st.setpoint ≤ 1000
    | .crusher => (st.mode = .stop ∨ st.mode = .forward ∨ st.mode = .reverse) ∧ st.setpoint ≤ 100
    | .gate => st.mode = .move ∧ st.setpoint ≤ 7
    | .drum _ => (st.mode = .stop ∨ st.mode = .run ∨ st.mode = .flush) ∧ st.setpoint = 0

/-- A step B that is present is in range; an absent one stands as the target stores it (R138; assumption 7). -/
def StepB.inRange (t : Target) : StepB → Prop
  | .present st => st.inRange t
  | .absent mode setpoint _ =>
    match t with
    | .belt => mode = 1 ∧ setpoint.toNat ≤ 1000
    | .crusher => setpoint.toNat ≤ 100
    | .gate => True
    | .drum _ => setpoint = 0

/-- An ACTION descriptor in its ranges (R138). -/
def Descriptor.inRange (d : Descriptor) : Prop :=
  d.stepA.inRange d.target ∧ d.stepB.inRange d.target ∧ (d.endTest = .dpLow → ∃ i, d.target = .drum i)

/-- An EVENTROUTE entry in its ranges (R134). -/
def RouteEntry.inRange (e : RouteEntry) : Prop := e.notifyAfter = true → e.notify = true ∧ e.program ≠ none

/-- The NODE entry in its ranges (R190). -/
def NodeEntry.inRange (e : NodeEntry) : Prop := e.node ≠ 0 ∧ e.node ≠ 255 ∧ e.supervisor ≠ 255

/-- Every entry of the fourteen tables lies in its ranges, and no two cells hold one node address (R44). -/
def Tables.inRange (t : Tables) : Prop :=
  (∀ i : Fin 32, t.classify[i].inRange) ∧ (∀ c : CellNo, t.cell[c].inRange t.belt.length) ∧
    (∀ c d : CellNo, t.cell[c].node = t.cell[d].node → t.cell[c].node ≠ 0 → c = d) ∧ (∀ k : ClassNo, t.cls[k].inRange) ∧
    t.plant.inRange ∧ t.belt.inRange ∧ t.profile.inRange ∧ t.crusher.inRange ∧ (∀ d : DrumNo, t.drum[d].inRange) ∧ t.filter.inRange ∧
    (∀ i : ActionNo, t.action[i].inRange) ∧ (∀ i : SourceNo, t.route[i].inRange) ∧ (20 ≤ t.silenceCell ∧ t.silenceCell ≤ 2000) ∧
    (20 ≤ t.silencePlant ∧ t.silencePlant ≤ 2000) ∧ (1 ≤ t.coalesceAge ∧ t.coalesceAge ≤ 15) ∧ t.node.inRange

/-- The selected setpoint is the one R76 selects, and a BELT command that waits in the coalescer carries it, so that no belt setpoint but 0
waits once a hold is in force (R164). -/
def State.setpointLaw (s : State) : Prop :=
  s.belt.selected = s.selection.2 ∧ ∀ e ∈ s.coalescer.entries, e.target = .belt → e.setpoint = s.belt.selected

/-- One lot record against the map. The pitches that name an active lot number its length less its delivered count (R4). The pitches of a
LOADING lot stand around its cell's drop point: those still RESERVED from the drop point upward, the LOADED ones just below it; a
sealed lot has no RESERVED pitch. No pitch names a FREE record. -/
def State.lotAgrees (s : State) (l : LotNo) : Lot → Prop
  | .free _ => ∀ p ∈ s.tracker.map, p.lot ≠ some l
  | .active a =>
    a.length ≤ 16 ∧ a.delivered < a.length ∧ (s.tracker.map.countP fun p => p.lot = some l) + a.delivered = a.length ∧
      (a.state = .loading →
        a.delivered = 0 ∧ a.loaded < a.length ∧
        (∀ i k, s.tracker.map[i]? = some (.reserved l k) ↔
          k = a.cls ∧ s.tables.cell[a.cell].dropPoint ≤ i ∧ i + a.loaded < s.tables.cell[a.cell].dropPoint + a.length) ∧
        (∀ i k, s.tracker.map[i]? = some (.loaded l k) ↔
          k = a.cls ∧ s.tables.cell[a.cell].dropPoint ≤ i + a.loaded ∧ i < s.tables.cell[a.cell].dropPoint)) ∧
      (a.state ≠ .loading → ∀ k, .reserved l k ∉ s.tracker.map)

/-- The law of the lots (R4, R42): every record agrees with the map; a cell has at most one lot in LOADING, and none while it has a pending
request; in LOADING and in RELOADING no lot is active and the SUPERVISOR cause stands (R193, R197). -/
def State.lotLaw (s : State) : Prop :=
  (∀ l, s.lotAgrees l s.lots[l]) ∧
    (∀ (l m : LotNo) (a b : ActiveLot), s.lots[l] = .active a → s.lots[m] = .active b → a.state = .loading → b.state = .loading →
      a.cell = b.cell → l = m) ∧
    (∀ c q, s.request c = some q → s.loadingLot c = none ∧ 1 ≤ q.length ∧ q.length ≤ 16) ∧
    (s.mode = .loading → s.belt.supervisor = true ∧ ∀ l : LotNo, ∃ o, s.lots[l] = .free o) ∧
    (s.activity.isReloading = true → s.belt.supervisor = true ∧ ∀ l : LotNo, ∃ o, s.lots[l] = .free o)

/-- Two pitches of different classes always keep at least G EMPTY pitches between them (R61, R7). -/
def State.gapLaw (s : State) : Prop :=
  ∀ (i j : Nat) (p q : Pitch) (k m : ClassNo), i < j → s.tracker.map[i]? = some p → s.tracker.map[j]? = some q → p.cls = some k →
    q.cls = some m → k ≠ m → i + s.tables.belt.gap < j

end Sys2Proof.Machine
end

