-- ==== Sys2Proof/WellFormed.lean ====
section
/-! DEFINITION. The commands whose operands agree with the row they stand for. The part has an effect for the others too; a well-formed command is one that a
telegram, a timer or an event can give (R185 to R187). -/

namespace Sys2Proof

open Sys2Proof.Machine

/-- The table code each table write is sent with (R187); absent for the other commands. -/
def Instr.tableCode : Instr → Option (Req × Nat)
  | .writeClassify r _ => some (r, 0)
  | .writeCell r _ => some (r, 1)
  | .writeClass r _ => some (r, 2)
  | .writePlant r _ => some (r, 3)
  | .writeBelt r _ => some (r, 4)
  | .writeProfile r _ => some (r, 5)
  | .writeCrusher r _ => some (r, 6)
  | .writeDrum r _ => some (r, 7)
  | .writeFilter r _ => some (r, 8)
  | .writeAction r _ => some (r, 9)
  | .writeEventroute r _ => some (r, 10)
  | .writePort r _ => some (r, 11)
  | .writeCoalesce r _ => some (r, 12)
  | .writeNode r _ => some (r, 13)
  | _ => none

/-- The area code each READ_STATE row is sent with (R186); absent for the other commands. -/
def Instr.areaCode : Instr → Option (Req × Nat)
  | .readStatePitches r => some (r, 0)
  | .readStateLot r => some (r, 1)
  | .readStateRequest r => some (r, 2)
  | .readStateCrusher r => some (r, 3)
  | .readStateGate r => some (r, 4)
  | .readStateDrum r => some (r, 5)
  | .readStateBelt r => some (r, 6)
  | .readStateProgram r => some (r, 7)
  | .readStateEvent r => some (r, 8)
  | .readStateFault r => some (r, 9)
  | .readStateCounters r => some (r, 10)
  | .readStateRoutes r => some (r, 11)
  | .readStateCauses r => some (r, 12)
  | _ => none

/-- A selector, where the row fixes one, is the row's code. -/
def selectorAgrees : Option (Req × Nat) → Bool
  | none => true
  | some (r, code) => decide (r.selector.toNat = code)

/-- The frame of an allotment that a CLAMP entry hands over carries one: kind 28h with a body of 3 bytes (R128, R174). -/
def carriesAllotment (f : Frame) : Bool :=
  match Telegram.parse f.payload with
  | none => false
  | some t => decide (f.etherType = lineType) && decide (t.kind = 0x28) && decide (t.body.length = 3)

/-- The well-formed commands. -/
def Instr.wellFormed (i : Instr) : Bool :=
  selectorAgrees i.tableCode && selectorAgrees i.areaCode &&
    (match i with
     | .writeEntry _ data => decide (data.length = 35)
     | .coolantAllotment _ f => carriesAllotment f
     | _ => true)

end Sys2Proof
end

