-- ==== Sys2Proof/Certificates/Slice0/Obligations.lean ====
section
/-! DEFINITION. The statements for the provers. -/

open Sys2Proof Sys2Proof.Machine

/-! ### The step -/

/-- The step of a block: the command at the front of the queue is carried out on the part with the queue's rest. -/
def Obligations.StepTakesFront : Prop :=
  ∀ (c : Instr) (rest : List Instr) (s : State), s.pending = c :: rest → step s = exec c (s.withPending rest)

/-- The model's choice (assumption 1): a step on an empty queue is one millisecond of the timebase, and exactly the expiries that are due
then are queued, each once, in an order that is a free value (assumption 2). -/
def Obligations.TickQueuesExpiries : Prop :=
  ∀ s : State, s.pending = [] →
    ∃ t, step s = .next t ∧ t.now = s.now + 1 ∧ { t with now := s.now, draws := s.draws, pending := [] } = s ∧
      t.pending.Perm (expiriesDue { s with now := s.now + 1 }) ∧ t.pending.Nodup ∧
      (∀ p, .silenceTimeout p ∈ t.pending ↔ t.silenceDue p = true) ∧
      (∀ c, .requestUrgent c ∈ t.pending ↔ t.urgentDue c = true) ∧
      (∀ c, .requestExpiry c ∈ t.pending ↔ t.expiryDue c = true) ∧
      (.overrideSecond ∈ t.pending ↔ t.overrideDue = true) ∧
      (.gateTimeout ∈ t.pending ↔ t.gateDue = true) ∧
      (.startTimerExpiry ∈ t.pending ↔ t.startDue = true) ∧
      (.idleTimerExpiry ∈ t.pending ↔ t.idleDue = true) ∧
      (∀ d, .flushWaitLimit d ∈ t.pending ↔ t.waitDue d = true) ∧
      (∀ d, .flushTimeEnd d ∈ t.pending ↔ ∃ e, (t.drum d).state = .flushing e ∧ t.reached e = true) ∧
      (∀ d, .settleTimeEnd d ∈ t.pending ↔ ∃ e, (t.drum d).state = .settling e ∧ t.reached e = true) ∧
      (.stepHoldExpiry ∈ t.pending ↔ t.holdDue = true) ∧
      (.coalesceAgeLimit ∈ t.pending ↔ t.oldestAge = some t.tables.coalesceAge)

/-- Every command ends in a next state; none touches the waiting commands, and only the two resets touch the timebase. The model's choice:
no command stops the part (log entry 28), a reset keeps the waiting commands (log entry 25), and time stands still while a command is
carried out (log entry 1). -/
def Obligations.EveryCommandCompletes : Prop :=
  ∀ (c : Instr) (s : State),
    ∃ t, exec c s = .next t ∧ t.pending = s.pending ∧ (c ≠ .powerOn → c ≠ .pinReset → t.now = s.now)

/-! ### Resets and start-up -/

/-- What every block holds after a power-on and after a pin reset, but for the cause flags and what the tables give. The model's choice: the
default tables, and the map, the drums and the capacity derived from them, stand until the start-up read ends (log entry 6); the selected
setpoint and the start of the override's second are 0 (log entry 16); the waiting commands and the EEPROM survive a reset (log entry 25). -/
def Obligations.ResetValues : Prop :=
  ∀ (s : State) (c : Instr), c = .powerOn ∨ c = .pinReset →
    ∃ t, exec c s = .next t ∧ t.now = 0 ∧ t.mode = .loading ∧ t.activity = .idle ∧
      t.cellPort = { state := .down, queue := [] } ∧ t.plantPort = { state := .down, queue := [] } ∧
      t.tables = Tables.default ∧ t.tracker = { map := List.replicate 128 .empty, last := none, acc := 0 } ∧ (∀ l : LotNo, t.lots[l] = .free none) ∧
      (∀ c, t.request c = none) ∧ t.arbiter.pointer = 23 ∧
      t.belt.supervisor = true ∧ t.belt.crusher = false ∧ t.belt.link = true ∧ t.belt.latched = false ∧ t.belt.seconds = 0 ∧
      t.belt.programSetpoint = none ∧ t.belt.issued = none ∧ t.belt.selected = 0 ∧ t.belt.secondStart = 0 ∧
      t.head.gate = .moving none 0 false ∧ t.head.lastPosition = none ∧ t.head.crusher = .off ∧ t.head.jam = 0 ∧ t.head.current = 0 ∧
      t.head.confirm = false ∧ t.head.startMode = .confirm ∧ t.head.approach = 0 ∧ t.head.surge = false ∧
      (∀ d, t.drum d = { state := .online, fines := 0, dp := 0, failed := 0 }) ∧ t.filtration.capacity = 4000 ∧ t.filtration.residue = 0 ∧ t.filtration.lastFlushed = 3 ∧ (∀ c : CellNo, t.filtration.allotments[c] = 0) ∧
      t.filtration.demand = 0 ∧ t.filtration.low = false ∧
      t.engine.chain = none ∧ t.engine.lastOutcome = none ∧ (∀ i : SourceNo, t.engine.waiting[i] = none) ∧
      (∀ i : SourceNo, t.router.flags[i] = false ∧ t.router.counts[i] = 0) ∧
      t.notices.captured = none ∧ t.notices.furtherMajor = false ∧ t.notices.furtherMinor = false ∧
      t.coalescer = { entries := [], waiting := false } ∧ (∀ k, t.counter k = 0) ∧ t.settledLaw ∧ t.pending = s.pending ∧
      (s.activity.isReloading = true ∨ s.activity = .idle → t.eeprom = s.eeprom)

/-- The three cause flags after each kind of start, after CLEAR_CAUSES and in a read of area CAUSES. The model's choice (log entry 33): a
selector other than 0 is ignored in a command that takes none. -/
def Obligations.CauseFlags : Prop :=
  (∀ s : State, ∃ t, exec .powerOn s = .next t ∧ t.causes = (true, false, false)) ∧
  (∀ s : State, ∃ t, exec .pinReset s = .next t ∧ t.causes = (s.notices.causePowerOn, true, s.notices.causeRestart)) ∧
  (∀ (r : Req) (s : State), s.readyFor r → s.activity = .idle →
    ∃ t, exec (.restartLine r) s = .next t ∧ t.causes = (s.notices.causePowerOn, s.notices.causePin, true)) ∧
  (∀ (ack : Bool) (s : State), ∃ t, exec (.reloadComplete ack) s = .next t ∧ t.causes = s.causes) ∧
  (∀ (r : Req) (s : State), s.readyFor r → s.activity.isReloading = false →
    ∃ t, exec (.clearCauses r) s = .next t ∧ t.causes = (false, false, false) ∧ s.answered t r 15 .ok [] [] ∧
      { t with notices := s.notices, cellPort := s.cellPort, plantPort := s.plantPort, counters := s.counters } = s ∧
      t.notices.captured = s.notices.captured ∧ t.notices.furtherMajor = s.notices.furtherMajor ∧
      t.notices.furtherMinor = s.notices.furtherMinor) ∧
  (∀ (r : Req) (s : State), s.readyFor r →
    ∃ t, exec (.readStateCauses r) s = .next t ∧
      s.onlyAnswered t r 4 .ok [if s.notices.causePowerOn then 1 else 0, if s.notices.causePin then 1 else 0,
        if s.notices.causeRestart then 1 else 0])

/-- The start-up read ends with a bad image: the default tables are taken and IMAGE_BAD is raised. The last clauses hold for the state that
a reset leaves, which has SUPERVISOR in force, no chain and an empty coalescer. The start-up read ends with a valid image: its tables are
taken, the state derived from them is built, and the six start-up commands leave in their order where every drive node is configured and the
plant queue has room for them. The model's choice (log entry 27): the read of the image ends, whole, at this command. -/
def Obligations.ImageStarts : Prop :=
  (∀ (ack : Bool) (s : State), s.mode = .loading → readImage ack s.eeprom = none →
     ∃ t, exec (.imageLoadComplete ack) s = .next t ∧ t.mode = .operating ∧ t.tables = Tables.default ∧ t.eeprom = s.eeprom ∧
       t.now = s.now ∧
       (s.notices.captured = none → s.belt.supervisor = true → s.settledLaw → s.engine.chain = none → s.coalescer.entries = [] →
         t.counter .loadsBad = saturatingAdd (s.counter .loadsBad) 1 ∧ t.counter .loadsValid = s.counter .loadsValid ∧
         t.counter (.raised .imageBad) = saturatingAdd (s.counter (.raised .imageBad)) 1 ∧
         t.notices.captured = some { kind := .imageBad, time := s.now, lot := none, cell := none, detail := none } ∧
         t.coalescer.entries = [] ∧ t.plantPort = s.plantPort ∧ t.cellPort = s.cellPort ∧
         t.tracker = { map := List.replicate 128 .empty, last := none, acc := 0 } ∧
         (∀ d, t.drum d = { state := .online, fines := 0, dp := 0, failed := 0 }) ∧ t.filtration.capacity = 4000 ∧
         t.belt = { s.belt with selected := 0, issued := some 0 } ∧ t.lots = s.lots ∧ t.arbiter = s.arbiter ∧ t.head = s.head ∧
         t.engine = s.engine ∧ t.router = s.router)) ∧
  (∀ (ack : Bool) (tb : Tables) (s : State), s.mode = .loading → readImage ack s.eeprom = some tb →
     s.belt.supervisor = true → s.settledLaw → s.engine.chain = none → s.coalescer = { entries := [], waiting := false } →
     tb.plant.beltDrive ≠ 0 → tb.plant.crusher ≠ 0 → tb.plant.skid ≠ 0 → s.plantPort.queue.length ≤ 26 →
     ∃ t, exec (.imageLoadComplete ack) s = .next t ∧ t.mode = .operating ∧ t.tables = tb ∧
       t.counter .loadsValid = saturatingAdd (s.counter .loadsValid) 1 ∧ t.counter .loadsBad = s.counter .loadsBad ∧
       t.tracker = { map := List.replicate tb.belt.length .empty, last := none, acc := 0 } ∧
       (∀ d : DrumNo, t.drum d =
         { state := if tb.drum[d].enabled then .online else .offline, fines := 0, dp := 0, failed := 0 }) ∧
       t.filtration.capacity = ((List.finRange 4).map fun d => if tb.drum[d].enabled then tb.drum[d].flow else 0).sum ∧
       t.plantPort.queue = s.plantPort.queue ++
         (t.driveFrame .belt .run 0 :: t.driveFrame .crusher .stop 0 ::
           (List.finRange 4).map fun d => t.driveFrame (.drum d) (if tb.drum[d].enabled then .run else .stop) 0) ∧
       t.coalescer = { entries := [], waiting := false } ∧ t.cellPort = s.cellPort ∧ t.belt = { s.belt with selected := 0, issued := some 0 } ∧
       t.lots = s.lots ∧ t.arbiter = s.arbiter ∧ t.head = s.head ∧ t.engine = s.engine ∧ t.router = s.router ∧ t.notices = s.notices ∧
       t.eeprom = s.eeprom ∧ t.now = s.now)

/-! ### Frames and telegrams -/

/-- A bad frame is discarded and counted, and restarts no timer. Frames that are not classified, at a port that is UP: another protocol in
OPERATING, and everything in LOADING. The model's choice (log entry 21): a frame of another protocol is counted as such in LOADING too. -/
def Obligations.BadAndOtherFrames : Prop :=
  (∀ (p : Port) (fcsOk : Bool) (f : Frame) (s : State), fcsOk = false ∨ f.length < 64 ∨ 1518 < f.length →
     ∃ t, exec (.frameReceived p fcsOk f) s = .next t ∧ s.onlyGrew t [.badFrames p] ∧ { t with counters := s.counters } = s) ∧
  (∀ (p : Port) (f : Frame) (s : State), 64 ≤ f.length → f.length ≤ 1518 → s.isUp p → s.settledLaw →
     ∃ t, exec (.frameReceived p true f) s = .next t ∧
       (s.mode = .operating → f.etherType ≠ 0x9A4C → s.hasRoom p.other = true →
         t.port p = { s.port p with state := .up s.now } ∧
         t.port p.other = { s.port p.other with queue := (s.port p.other).queue ++ [f] } ∧
         s.onlyGrew t [.goodFrames p, .otherProtocol p] ∧
         { t with cellPort := s.cellPort, plantPort := s.plantPort, counters := s.counters } = s) ∧
       (s.mode = .operating → f.etherType ≠ 0x9A4C → s.hasRoom p.other = false →
         t.port p = { s.port p with state := .up s.now } ∧ t.port p.other = s.port p.other ∧
         s.onlyGrew t [.goodFrames p, .otherProtocol p, .forwardDropped p.other] ∧
         { t with cellPort := s.cellPort, plantPort := s.plantPort, counters := s.counters } = s) ∧
       (s.mode = .loading → f.etherType = 0x9A4C → f.payload.head? = some s.tables.node.node →
         t.port p = { s.port p with state := .up s.now } ∧ t.port p.other = s.port p.other ∧
         s.onlyGrew t [.goodFrames p, .loadingDrops p] ∧
         { t with cellPort := s.cellPort, plantPort := s.plantPort, counters := s.counters } = s) ∧
       (s.mode = .loading → f.etherType ≠ 0x9A4C ∨ f.payload.head? ≠ some s.tables.node.node → s.hasRoom p.other = true →
         t.port p = { s.port p with state := .up s.now } ∧
         t.port p.other = { s.port p.other with queue := (s.port p.other).queue ++ [f] } ∧
         s.onlyGrew t ([.goodFrames p] ++ if f.etherType = 0x9A4C then [] else [.otherProtocol p]) ∧
         { t with cellPort := s.cellPort, plantPort := s.plantPort, counters := s.counters } = s))

/-- A good frame restarts an UP port's timer and makes a DOWN port UP, which at the plant port clears LINK; the frame is handled after that.
The model's choice (log entry 12): the port's change of state is a whole operation of its own, complete before the frame is handled. -/
def Obligations.GoodFramesAndPorts : Prop :=
  ∀ (f : Frame) (s : State), 64 ≤ f.length → f.length ≤ 1518 → s.settledLaw →
    (∀ p, s.isUp p → exec (.frameReceived p true f) s = .next (handleFrame p f (s.heard p))) ∧
    (s.cellPort.state = .down →
      exec (.frameReceived .cell true f) s = .next (handleFrame .cell f (bump (.portUp .cell) (s.heard .cell)))) ∧
    (s.plantPort.state = .down →
      exec (.frameReceived .plant true f) s =
        .next (handleFrame .plant f (complete (clearCause .link (bump (.portUp .plant) (s.heard .plant)))))) ∧
    (s.plantPort.state = .down → s.belt.supervisor = true → f.etherType ≠ 0x9A4C →
      ∃ t, exec (.frameReceived .plant true f) s = .next t ∧ t.plantPort = { s.plantPort with state := .up s.now } ∧
        t.belt = { s.belt with link := false } ∧ t.lots = s.lots ∧ t.arbiter = s.arbiter ∧ t.coalescer = s.coalescer ∧
        t.router = s.router ∧ t.counter (.portUp .plant) = saturatingAdd (s.counter (.portUp .plant)) 1)

/-- A well-formed telegram addressed to the part is counted as consumed and is what the row of its kind does with the fields of its body.
The model's choice (log entry 12): the frame's row does the telegram's own row in the same step. -/
def Obligations.TelegramsReachTheirBlocks : Prop :=
  ∀ (p : Port) (f : Frame) (tg : Telegram) (s : State), goodLineFrame f → s.mode = .operating → s.isUp p → s.settledLaw →
    Telegram.parse f.payload = some tg → tg.dst = s.tables.node.node →
    (p = .cell → tg.kind = 0x10 → tg.body.length = 4 →
      exec (.frameReceived p true f) s =
        exec (.dischargeRequest tg.src (byteAt tg.body 0) (byteAt tg.body 1) (halfAt tg.body 2)) (bump (.consumed p) (s.heard p))) ∧
    (p = .cell → tg.kind = 0x11 → tg.body.length = 0 →
      exec (.frameReceived p true f) s = exec (.dischargeWithdraw tg.src) (bump (.consumed p) (s.heard p))) ∧
    (p = .cell → tg.kind = 0x12 → tg.body.length = 3 →
      exec (.frameReceived p true f) s =
        exec (.dischargeEnd tg.src (byteAt tg.body 0) (halfAt tg.body 1)) (bump (.consumed p) (s.heard p))) ∧
    (tg.kind = 0x20 → tg.body.length = 4 → tg.src ≠ 0 → tg.src = s.tables.plant.encoder →
      exec (.frameReceived p true f) s = exec (.beltSample (wordAt tg.body 0)) (bump (.consumed p) (s.heard p))) ∧
    (tg.kind = 0x21 → tg.body.length = 3 → tg.src ≠ 0 → tg.src = s.tables.plant.crusher →
      exec (.frameReceived p true f) s =
        exec (.crusherStatus (halfAt tg.body 0) (byteAt tg.body 2)) (bump (.consumed p) (s.heard p))) ∧
    (tg.kind = 0x22 → tg.body.length = 1 → tg.src ≠ 0 → tg.src = s.tables.plant.gate →
      exec (.frameReceived p true f) s = exec (.gateStatus (byteAt tg.body 0)) (bump (.consumed p) (s.heard p))) ∧
    (tg.kind = 0x23 → tg.body.length = 3 → tg.src ≠ 0 → tg.src = s.tables.plant.skid →
      exec (.frameReceived p true f) s =
        exec (.filterSample (byteAt tg.body 0) (halfAt tg.body 1)) (bump (.consumed p) (s.heard p)))

/-- A management request addressed to the part is what the row of its command does. The model's choice (log entry 12): the frame's row does
the request's own row in the same step. The model's choice (log entry 33): a selector other than 0 is ignored in a command that takes none.
-/
def Obligations.RequestsReachTheirRows : Prop :=
  ∀ (p : Port) (f : Frame) (tg : Telegram) (s : State), goodLineFrame f → s.mode = .operating → s.isUp p → s.settledLaw →
    Telegram.parse f.payload = some tg → tg.dst = s.tables.node.node → tg.kind = 0x40 → tg.body.length = 40 →
    ∀ (r : Req), r = { port := p, node := tg.src, tag := byteAt tg.body 0, selector := byteAt tg.body 2, index := byteAt tg.body 3,
                       count := byteAt tg.body 4 } →
      (∀ k row, (k, row) ∈
          [(1, Instr.readIdent r), (2, .readEntry r), (3, .writeEntry r (tg.body.drop 5)), (5, .haltLine r), (6, .releaseLine r),
           (7, .releaseOverride r), (8, .ackEvent r), (9, .clearFault r), (10, .clearCrusher r), (11, .clearDrum r),
           (12, .startProgram r), (13, .abortProgram r), (14, .clearCounters r), (15, .clearCauses r), (16, .restartLine r),
           (17, .saveImage r)] →
        byteAt tg.body 1 = BitVec.ofNat 8 k →
          exec (.frameReceived p true f) s = exec row (bump (.consumed p) (s.heard p))) ∧
      (∀ k row, (k, row) ∈
          [(0, Instr.readStatePitches r), (1, .readStateLot r), (2, .readStateRequest r), (3, .readStateCrusher r),
           (4, .readStateGate r), (5, .readStateDrum r), (6, .readStateBelt r), (7, .readStateProgram r), (8, .readStateEvent r),
           (9, .readStateFault r), (10, .readStateCounters r), (11, .readStateRoutes r), (12, .readStateCauses r)] →
        byteAt tg.body 1 = 4 → r.selector = BitVec.ofNat 8 k →
          exec (.frameReceived p true f) s = exec row (bump (.consumed p) (s.heard p)))

/-- Telegrams that end at the port: malformed ones, kinds the part does not take, and discharge telegrams by another path than the cell
port. A sample from another node than the PLANT table's is discarded and counted, and raises FOREIGN_SAMPLE with the port as its detail. The
model's choice (log entry 11): a foreign sample is counted as consumed besides. -/
def Obligations.TelegramsDiscarded : Prop :=
  (∀ (p : Port) (f : Frame) (s : State), goodLineFrame f → s.mode = .operating → s.isUp p → s.settledLaw →
     ∃ t, exec (.frameReceived p true f) s = .next t ∧
       (Telegram.parse f.payload = none →
         s.onlyGrew t [.goodFrames p, .malformed p] ∧ { t with counters := s.counters } = s.setPort p { s.port p with state := .up s.now }) ∧
       (∀ tg, Telegram.parse f.payload = some tg → tg.dst = s.tables.node.node →
         ((tg.kind ∉ [0x10#8, 0x11#8, 0x12#8, 0x18#8, 0x20#8, 0x21#8, 0x22#8, 0x23#8, 0x28#8, 0x30#8, 0x40#8, 0x41#8, 0x48#8] ∨
             (∃ k n, (k, n) ∈ [(0x10#8, 4), (0x11#8, 0), (0x12#8, 3), (0x18#8, 4), (0x20#8, 4), (0x21#8, 3), (0x22#8, 1), (0x23#8, 3),
                 (0x28#8, 3), (0x30#8, 4), (0x40#8, 40), (0x48#8, 6)] ∧ tg.kind = k ∧ tg.body.length ≠ n) →
           s.onlyGrew t [.goodFrames p, .malformed p] ∧ { t with counters := s.counters } = s.setPort p { s.port p with state := .up s.now }) ∧
          ((tg.kind, tg.body.length) ∈ [(0x18#8, 4), (0x28#8, 3), (0x30#8, 4), (0x48#8, 6)] ∨ tg.kind = 0x41#8 →
           s.onlyGrew t [.goodFrames p, .consumed p, .unusable p] ∧
             { t with counters := s.counters } = s.setPort p { s.port p with state := .up s.now }) ∧
          (p = .plant → (tg.kind, tg.body.length) ∈ [(0x10#8, 4), (0x11#8, 0), (0x12#8, 3)] →
           s.onlyGrew t [.goodFrames p, .consumed p, .dischargeDiscarded] ∧
             { t with counters := s.counters } = s.setPort p { s.port p with state := .up s.now })))) ∧
  (∀ (p : Port) (f : Frame) (tg : Telegram) (s : State), goodLineFrame f → s.mode = .operating → s.isUp p → s.settledLaw →
     Telegram.parse f.payload = some tg → tg.dst = s.tables.node.node →
     (tg.kind, tg.body.length) ∈ [(0x20#8, 4), (0x21#8, 3), (0x22#8, 1), (0x23#8, 3)] →
     (tg.src = 0 ∨ (tg.kind = 0x20 ∧ tg.src ≠ s.tables.plant.encoder) ∨ (tg.kind = 0x21 ∧ tg.src ≠ s.tables.plant.crusher) ∨
       (tg.kind = 0x22 ∧ tg.src ≠ s.tables.plant.gate) ∨ (tg.kind = 0x23 ∧ tg.src ≠ s.tables.plant.skid)) →
     ∃ t, exec (.frameReceived p true f) s = .next t ∧
       { t with counters := s.counters, notices := s.notices } = s.setPort p { s.port p with state := .up s.now } ∧
       s.faulted t .foreignSample none none (some (.port p)) [.goodFrames p, .consumed p, .foreign p])

/-- A telegram for another node: the entry of the lowest index that matches applies, and with none the frame is forwarded. The model's
choice: the frame's row does the telegram's own row in the same step (log entry 12), and a discharge telegram that comes through an entry is
discarded and counted (log entry 21). -/
def Obligations.ClassifiedTelegrams : Prop :=
  ∀ (p : Port) (f : Frame) (tg : Telegram) (s : State), goodLineFrame f → s.mode = .operating → s.isUp p → s.settledLaw →
    Telegram.parse f.payload = some tg → tg.dst ≠ s.tables.node.node →
    ((∀ i : Fin 32, s.tables.classify[i].matches p tg = false) →
      exec (.frameReceived p true f) s = .next (forwardTo p.other f (s.heard p))) ∧
    (∀ (i : Fin 32) (e : ClassifyEntry), s.tables.classify[i] = e → e.valid = true → (e.arrival = .either ∨ e.arrival.covers p = true) →
      (e.kindAny = true ∨ e.kind = tg.kind) → (e.sourceAny = true ∨ e.source = tg.src) → (e.destAny = true ∨ e.dest = tg.dst) →
      (∀ j < i, s.tables.classify[j].matches p tg = false) →
      (e.action = .forward → exec (.frameReceived p true f) s = .next (forwardTo p.other f (bump (.hits i) (s.heard p)))) ∧
      (e.action = .drop → exec (.frameReceived p true f) s = .next (bump (.hits i) (s.heard p))) ∧
      (e.action = .clamp →
        exec (.frameReceived p true f) s = exec (.coolantAllotment p f) (bump (.hits i) (s.heard p))) ∧
      (tg.kind = 0x20 → tg.body.length = 4 → tg.src ≠ 0 → tg.src = s.tables.plant.encoder →
        (e.action = .consume → exec (.frameReceived p true f) s =
          exec (.beltSample (wordAt tg.body 0)) (bump (.consumed p) (bump (.hits i) (s.heard p)))) ∧
        (e.action = .snoop → exec (.frameReceived p true f) s =
          exec (.beltSample (wordAt tg.body 0)) (bump (.consumed p) (forwardTo p.other f (bump (.hits i) (s.heard p)))))) ∧
      (tg.kind = 0x10 → tg.body.length = 4 →
        (e.action = .consume → exec (.frameReceived p true f) s =
          .next (bump .dischargeDiscarded (bump (.consumed p) (bump (.hits i) (s.heard p))))) ∧
        (e.action = .snoop → exec (.frameReceived p true f) s =
          .next (bump .dischargeDiscarded (bump (.consumed p) (forwardTo p.other f (bump (.hits i) (s.heard p))))))))

/-- A request at the cell port with cell-side management off, a command code of 0 or above 17, and a READ_STATE with an area above 12. The
model's choice (log entry 14): NOT_PERMITTED comes before every other refusal, and BAD_COMMAND before the BUSY of RELOADING. -/
def Obligations.RequestsTurnedAway : Prop :=
  ∀ (p : Port) (f : Frame) (tg : Telegram) (s : State), goodLineFrame f → s.mode = .operating → s.isUp p → s.settledLaw →
    s.hasRoom p = true → Telegram.parse f.payload = some tg → tg.dst = s.tables.node.node → tg.kind = 0x40 → tg.body.length = 40 →
    ∀ (r : Req), r = { port := p, node := tg.src, tag := byteAt tg.body 0, selector := byteAt tg.body 2, index := byteAt tg.body 3,
                       count := byteAt tg.body 4 } →
      (p = .cell → s.tables.node.cellSide = false →
        ∃ t, exec (.frameReceived p true f) s = .next t ∧
          t.cellPort = { state := .up s.now, queue := s.cellPort.queue ++ [s.replyFrame r (byteAt tg.body 1).toNat .notPermitted []] } ∧
          s.onlyGrew t [.goodFrames .cell, .consumed .cell, .managementRefused .cell] ∧
          { t with cellPort := s.cellPort, counters := s.counters } = s) ∧
      (p = .plant ∨ s.tables.node.cellSide = true → (byteAt tg.body 1 = 0 ∨ 17 < (byteAt tg.body 1).toNat) →
        ∃ t, exec (.frameReceived p true f) s = .next t ∧
          t.port p = { state := .up s.now, queue := (s.port p).queue ++ [s.replyFrame r (byteAt tg.body 1).toNat .badCommand []] } ∧
          t.port p.other = s.port p.other ∧
          s.onlyGrew t [.goodFrames p, .consumed p, .requestsServed, .requestsRefused] ∧
          { t with cellPort := s.cellPort, plantPort := s.plantPort, counters := s.counters } = s) ∧
      (p = .plant ∨ s.tables.node.cellSide = true → byteAt tg.body 1 = 4 → 12 < r.selector.toNat →
        ∃ t, exec (.frameReceived p true f) s = .next t ∧
          t.port p = { state := .up s.now, queue := (s.port p).queue ++ [s.replyFrame r 4 .badTable []] } ∧
          t.port p.other = s.port p.other ∧
          s.onlyGrew t [.goodFrames p, .consumed p, .requestsServed, .requestsRefused] ∧
          { t with cellPort := s.cellPort, plantPort := s.plantPort, counters := s.counters } = s)

/-- While RELOADING every command but the reads is answered BUSY and changes nothing, and so are the table writes, SAVE_IMAGE and
RESTART_LINE while SAVING. Writes that are refused for their index or for a value outside its range: BAD_INDEX or BAD_VALUE, and nothing
changes. The model's choice (log entry 14): the BUSY of RELOADING comes before a command's own checks. The model's choice (log entry 33): a
selector other than 0 is ignored in a command that takes none. -/
def Obligations.RequestsRefusedInPlace : Prop :=
  (∀ (r : Req) (s : State), s.readyFor r →
     (s.activity.isReloading = true → ∀ k row, (k, row) ∈
         [(5, Instr.haltLine r), (6, .releaseLine r), (7, .releaseOverride r), (8, .ackEvent r), (9, .clearFault r), (10, .clearCrusher r),
          (11, .clearDrum r), (12, .startProgram r), (13, .abortProgram r), (14, .clearCounters r), (15, .clearCauses r),
          (16, .restartLine r), (17, .saveImage r)] →
       ∃ t, exec row s = .next t ∧ s.onlyAnswered t r k .busy []) ∧
     (s.activity ≠ .idle → ∀ k row, (k, row) ∈ [(16, Instr.restartLine r), (17, .saveImage r)] →
       ∃ t, exec row s = .next t ∧ s.onlyAnswered t r k .busy []) ∧
     (s.activity ≠ .idle → r.index = 0 → ∀ e0 e1 e2 e3 e4 e5 e6 e7 e8 e9 e10 e11 e12 e13 row, row ∈
         [Instr.writeClassify r e0, .writeCell r e1, .writeClass r e2, .writePlant r e3, .writeBelt r e4, .writeProfile r e5,
          .writeCrusher r e6, .writeDrum r e7, .writeFilter r e8, .writeAction r e9, .writeEventroute r e10, .writePort r e11,
          .writeCoalesce r e12, .writeNode r e13] →
       ∃ t, exec row s = .next t ∧ s.onlyAnswered t r 3 .busy [])) ∧
  (∀ (r : Req) (s : State), s.readyFor r → s.activity = .idle →
     (∀ e, 31 < r.index.toNat → ∃ t, exec (.writeClassify r e) s = .next t ∧ s.onlyAnswered t r 3 .badIndex []) ∧
     (∀ e, 23 < r.index.toNat → ∃ t, exec (.writeCell r e) s = .next t ∧ s.onlyAnswered t r 3 .badIndex []) ∧
     (∀ e, 7 < r.index.toNat → ∃ t, exec (.writeClass r e) s = .next t ∧ s.onlyAnswered t r 3 .badIndex []) ∧
     (∀ e, 3 < r.index.toNat → ∃ t, exec (.writeDrum r e) s = .next t ∧ s.onlyAnswered t r 3 .badIndex []) ∧
     (∀ e, 31 < r.index.toNat → ∃ t, exec (.writeAction r e) s = .next t ∧ s.onlyAnswered t r 3 .badIndex []) ∧
     (∀ e, 15 < r.index.toNat → ∃ t, exec (.writeEventroute r e) s = .next t ∧ s.onlyAnswered t r 3 .badIndex []) ∧
     (∀ e, 1 < r.index.toNat → ∃ t, exec (.writePort r e) s = .next t ∧ s.onlyAnswered t r 3 .badIndex []) ∧
     (r.index ≠ 0 → ∀ e3 e4 e5 e6 e8 e12 e13 row, row ∈ [Instr.writePlant r e3, .writeBelt r e4, .writeProfile r e5, .writeCrusher r e6,
         .writeFilter r e8, .writeCoalesce r e12, .writeNode r e13] →
       ∃ t, exec row s = .next t ∧ s.onlyAnswered t r 3 .badIndex []) ∧
     (r.index = 0 → ∀ row,
       (∃ e, row = Instr.writeClassify r e ∧ (1 < e.valid.toNat ∨ 2 < e.arrival.toNat ∨ 1 < e.kindAny.toNat ∨ 1 < e.sourceAny.toNat ∨
         1 < e.destAny.toNat ∨ 4 < e.action.toNat ∨ (e.action = 4 ∧ (e.kindAny = 1 ∨ e.kind ≠ 0x28)))) ∨
       (∃ e, row = .writeCell r e ∧ (1 < e.enrolled.toNat ∨ e.dropPoint.toNat < 17 ∨ s.tables.belt.length ≤ e.dropPoint.toNat ∨
         e.node = 255 ∨ (e.enrolled = 1 ∧ e.node = 0) ∨
         (e.node ≠ 0 ∧ ∃ j : CellNo, j ≠ 0 ∧ s.tables.cell[j].node = e.node))) ∨
       (∃ e, row = .writeClass r e ∧ (1 < e.enabled.toNat ∨ 7 < e.route.toNat ∨ 1 < e.mode.toNat ∨ 1023 < e.fines.toNat)) ∨
       (∃ e, row = .writePlant r e ∧ (e.encoder = 255 ∨ e.beltDrive = 255 ∨ e.crusher = 255 ∨ e.gate = 255 ∨ e.skid = 255)) ∨
       (∃ e, row = .writeBelt r e ∧ (e.length.toNat < 32 ∨ 256 < e.length.toNat ∨ e.cpp.toNat < 16 ∨ 4095 < e.cpp.toNat ∨ e.mpa = 0 ∨
         e.gap = 0 ∨ 15 < e.gap.toNat ∨ e.ageLimit = 0 ∨ 120 < e.ageLimit.toNat ∨ 120 < e.threshold.toNat ∨
         (23 < e.priority.toNat ∧ e.priority ≠ 255))) ∨
       (∃ e, row = .writeCrusher r e ∧ (1 < e.startMode.toNat ∨ (e.startDelay ≠ 128 ∧ e.startDelay ≠ 256 ∧ e.startDelay ≠ 512) ∨
         e.jamThreshold = 0 ∨ e.jamCount = 0 ∨ 15 < e.jamCount.toNat ∨ 600 < e.idle.toNat ∨ e.window = 0 ∨ 32 < e.window.toNat ∨
         e.margin = 0 ∨ 15 < e.margin.toNat ∨ e.limit = 0 ∨ e.window.toNat < e.margin.toNat)) ∨
       (∃ e, row = .writeDrum r e ∧ (1 < e.enabled.toNat ∨ 4000 < e.flow.toNat ∨ e.dpLimit = 0 ∨ e.threshold = 0 ∨
         16777215 < e.threshold.toNat ∨ e.flush = 0 ∨ 120 < e.flush.toNat ∨ e.settle = 0 ∨ 120 < e.settle.toNat)) ∨
       (∃ e, row = .writeFilter r e ∧ (3 < e.minOnline.toNat ∨ e.waitLimit.toNat < 10 ∨ 600 < e.waitLimit.toNat)) ∨
       (∃ e, row = .writeAction r e ∧ (6 < e.target.toNat ∨ e.holdA = 0 ∨ 60000 < e.holdA.toNat ∨ 1 < e.presentB.toNat ∨
         (e.presentB = 1 ∧ (e.holdB = 0 ∨ 60000 < e.holdB.toNat)) ∨ 2 < e.endTest.toNat ∨ (31 < e.link.toNat ∧ e.link ≠ 255) ∨
         1 < e.notifyAtEnd.toNat ∨ (e.endTest = 2 ∧ e.target.toNat < 3) ∨ (e.target = 2 ∧ (e.modeA ≠ 5 ∨ 7 < e.setpointA.toNat)) ∨
         (e.target = 1 ∧ e.modeA ≠ 0 ∧ e.modeA ≠ 2 ∧ e.modeA ≠ 3) ∨ (3 ≤ e.target.toNat ∧ e.modeA ≠ 0 ∧ e.modeA ≠ 1 ∧ e.modeA ≠ 4))) ∨
       (∃ e, row = .writeEventroute r e ∧ (1 < e.notify.toNat ∨ (31 < e.program.toNat ∧ e.program ≠ 255) ∨ 1 < e.notifyAfter.toNat ∨
         1 < e.urgent.toNat ∨ 1 < e.overriding.toNat ∨ (e.notifyAfter = 1 ∧ (e.notify = 0 ∨ e.program = 255)))) ∨
       (∃ e, row = .writePort r e ∧ (e.silence.toNat < 20 ∨ 2000 < e.silence.toNat)) ∨
       (∃ e, row = .writeCoalesce r e ∧ (e.ageLimit = 0 ∨ 15 < e.ageLimit.toNat)) ∨
       (∃ e, row = .writeNode r e ∧ (e.node = 0 ∨ e.node = 255 ∨ e.supervisor = 255 ∨ 1 < e.suppressMinor.toNat ∨
         1 < e.cellSide.toNat ∨ 1 < e.reload.toNat)) →
       ∃ t, exec row s = .next t ∧ s.onlyAnswered t r 3 .badValue []))

/-- A frame's transmission ends: it leaves its queue, and at the plant port the coalescer makes its test. The timer of an UP port reaches
the silence time: the port is DOWN, its event is raised and the plant port sets LINK. Before that, and on a DOWN port, nothing happens. The
model's choice (log entry 24): a SILENCE_TIMEOUT taken before its time has no effect. -/
def Obligations.PortsAndQueues : Prop :=
  ((∀ (p : Port) (s : State), (s.port p).queue = [] → exec (.frameTransmitted p) s = .next s) ∧
   (∀ (s : State) (f : Frame) (rest : List Frame), s.cellPort.queue = f :: rest →
     ∃ t, exec (.frameTransmitted .cell) s = .next t ∧ t.cellPort = { s.cellPort with queue := rest } ∧
       s.onlyGrew t [.transmitted .cell] ∧ { t with cellPort := s.cellPort, counters := s.counters } = s) ∧
   (∀ (s : State) (f : Frame) (rest : List Frame), s.plantPort.queue = f :: rest →
     ∃ u, exec (.frameTransmitted .plant) s = .next (unloadTest u) ∧ u.plantPort = { s.plantPort with queue := rest } ∧
       s.onlyGrew u [.transmitted .plant] ∧ { u with plantPort := s.plantPort, counters := s.counters } = s ∧
       (s.coalescer.entries = [] → unloadTest u = u))) ∧
  ((∀ (p : Port) (s : State) (g : Word), (s.port p).state = .up g →
      (s.tables.silence p ≤ s.since g →
        ∃ u, exec (.silenceTimeout p) s = .next (complete (match p with | .cell => u | .plant => setCause .link u)) ∧
          u.port p = { s.port p with state := .down } ∧ u.port p.other = s.port p.other ∧ s.onlyGrew u [.portDown p] ∧
          u.raised = s.raised ++ [{ source := match p with | .cell => 12 | .plant => 13, lot := none, cell := none, drum := none }] ∧
          { u with cellPort := s.cellPort, plantPort := s.plantPort, counters := s.counters, raised := s.raised } = s) ∧
      (s.since g < s.tables.silence p → s.settledLaw → exec (.silenceTimeout p) s = .next s)) ∧
   (∀ (p : Port) (s : State), (s.port p).state = .down → s.settledLaw → exec (.silenceTimeout p) s = .next s))

/-! ### Requests, grants and lots -/

/-- The first four tests of a DISCHARGE REQUEST, in their order: each failure is answered to the sender and changes no request. -/
def Obligations.RequestsRefused : Prop :=
  ∀ (node cls len : Byte) (mass : Half) (s : State), s.mode = .operating → s.settledLaw → s.hasRoom .cell = true →
    ∀ reason : Reason,
      ((reason = .notEnrolled ∧ (node = 0 ∨ ∀ c : CellNo, s.tables.cell[c].node = node → s.tables.cell[c].enrolled = false)) ∨
       ∃ c : CellNo, s.cellOf node = some c ∧ s.tables.cell[c].enrolled = true ∧
        ((reason = .classDisabled ∧ (7 < cls.toNat ∨ ∃ k : ClassNo, k.val = cls.toNat ∧ s.tables.cls[k].enabled = false)) ∨
         ∃ k : ClassNo, k.val = cls.toNat ∧ s.tables.cls[k].enabled = true ∧
          ((reason = .badLength ∧ (len = 0 ∨ 16 < len.toNat ∨ s.tables.belt.length < s.tables.cell[c].dropPoint + len.toNat)) ∨
           (reason = .busy ∧ 1 ≤ len.toNat ∧ len.toNat ≤ 16 ∧ s.tables.cell[c].dropPoint + len.toNat ≤ s.tables.belt.length ∧
             ∃ (l : LotNo) (a : ActiveLot), s.lots[l] = .active a ∧ a.state = .loading ∧ a.cell = c)))) →
      ∃ t, exec (.dischargeRequest node cls len mass) s = .next t ∧
        t.cellPort = { s.cellPort with queue := s.cellPort.queue ++ [s.orderFrame .refuse node none 0 (some reason)] } ∧
        s.onlyGrew t [.refusals reason] ∧ { t with cellPort := s.cellPort, counters := s.counters } = s

/-- A request that passes the four tests replaces the cell's pending one, which keeps its arrival time and its urgent flag, or is added with
the present timebase; no order is sent, and an arbiter pass follows. -/
def Obligations.RequestsTaken : Prop :=
  ∀ (node cls len : Byte) (mass : Half) (s : State) (c : CellNo) (k : ClassNo), s.mode = .operating →
    s.cellOf node = some c → s.tables.cell[c].enrolled = true → k.val = cls.toNat → s.tables.cls[k].enabled = true →
    1 ≤ len.toNat → len.toNat ≤ 16 → s.tables.cell[c].dropPoint + len.toNat ≤ s.tables.belt.length → s.loadingLot c = none →
    ∃ u, exec (.dischargeRequest node cls len mass) s = .next (complete (arbiterPass u)) ∧
      (∀ q, s.request c = some q →
        u.request c = some { cls := k, length := len.toNat, mass := mass.toNat, arrival := q.arrival, urgent := q.urgent } ∧
        s.onlyGrew u [.requestsReplaced]) ∧
      (s.request c = none →
        u.request c = some { cls := k, length := len.toNat, mass := mass.toNat, arrival := s.now, urgent := false } ∧
        s.onlyGrew u [.requestsAdded]) ∧
      (∀ d, d ≠ c → u.request d = s.request d) ∧ u.arbiter.pointer = s.arbiter.pointer ∧
      { u with arbiter := s.arbiter, counters := s.counters } = s

/-- A request becomes urgent when its age reaches the hold threshold, unless the threshold is 0 or not below the age limit. A request whose
age reaches the request age limit is removed, answered REFUSE EXPIRED and raises REQUEST_EXPIRED with its cell. The model's choice (log
entry 24): a REQUEST_URGENT or REQUEST_EXPIRY taken before its time has no effect. -/
def Obligations.RequestAges : Prop :=
  (∀ (c : CellNo) (q : Request) (s : State), s.request c = some q → s.settledLaw →
     (q.urgent = false → s.tables.belt.threshold ≠ 0 → s.tables.belt.threshold < s.tables.belt.ageLimit →
       s.tables.belt.threshold * 1000 ≤ (s.now - q.arrival).toNat →
       ∃ t, exec (.requestUrgent c) s = .next t ∧ t.request c = some { q with urgent := true } ∧
         (∀ d, d ≠ c → t.request d = s.request d) ∧ t.arbiter.pointer = s.arbiter.pointer ∧ s.onlyGrew t [.requestsUrgent] ∧
         { t with arbiter := s.arbiter, counters := s.counters } = s) ∧
     (q.urgent = true ∨ s.tables.belt.threshold = 0 ∨ s.tables.belt.ageLimit ≤ s.tables.belt.threshold ∨
         (s.now - q.arrival).toNat < s.tables.belt.threshold * 1000 →
       exec (.requestUrgent c) s = .next s)) ∧
  (∀ (c : CellNo) (q : Request) (s : State), s.request c = some q →
     (s.tables.belt.ageLimit * 1000 ≤ (s.now - q.arrival).toNat → s.hasRoom .cell = true →
       ∃ u, exec (.requestExpiry c) s = .next (complete u) ∧ u.request c = none ∧ (∀ d, d ≠ c → u.request d = s.request d) ∧
         u.arbiter.pointer = s.arbiter.pointer ∧
         u.cellPort = { s.cellPort with queue := s.cellPort.queue ++ [s.orderFrame .refuse s.tables.cell[c].node none 0 (some .expired)] } ∧
         u.raised = s.raised ++ [{ source := 11, lot := none, cell := some c, drum := none }] ∧ s.onlyGrew u [.refusals .expired] ∧
         { u with arbiter := s.arbiter, cellPort := s.cellPort, counters := s.counters, raised := s.raised } = s) ∧
     ((s.now - q.arrival).toNat < s.tables.belt.ageLimit * 1000 → s.settledLaw → exec (.requestExpiry c) s = .next s))

/-- A pass that begins while a hold cause is in force ends at once: it grants, considers and removes nothing. The sweep visits every cell
but the priority cell once, in ascending number modulo 24 from the cell after the pointer. A whole pass that no hold cause stands against:
the priority cell is considered first, then the sweep's cells in the order that begins after the pointer as it stands by then, each on the
state that the one before it left; a cell with no pending request is passed over. What a grant among several requests writes. When a request
is feasible: a FREE record, an EMPTY window, and no pitch of another class within the guard gap of it. The upstream hold: a request of an
enabled class is skipped exactly while an urgent request stands at a lower drop point; one that is not skipped and not feasible stays in the
list; one of a disabled class is removed and refused. -/
def Obligations.PassesAndWindows : Prop :=
  ((∀ s : State, (s.belt.supervisor = true ∨ s.belt.crusher = true ∨ s.belt.link = true) →
     s.onlyGrew (arbiterPass s) [.passes] ∧ { arbiterPass s with counters := s.counters } = s) ∧
   (∀ (node cls len : Byte) (mass : Half) (s : State) (c : CellNo) (k : ClassNo), s.mode = .operating → s.settledLaw →
     s.cellOf node = some c → s.tables.cell[c].enrolled = true → k.val = cls.toNat → s.tables.cls[k].enabled = true →
     1 ≤ len.toNat → len.toNat ≤ 16 → s.tables.cell[c].dropPoint + len.toNat ≤ s.tables.belt.length → s.loadingLot c = none →
     s.request c = none → (s.belt.supervisor = true ∨ s.belt.crusher = true ∨ s.belt.link = true) →
     ∃ t, exec (.dischargeRequest node cls len mass) s = .next t ∧ s.onlyGrew t [.requestsAdded, .passes] ∧
       t.request c = some { cls := k, length := len.toNat, mass := mass.toNat, arrival := s.now, urgent := false } ∧
       (∀ d, d ≠ c → t.request d = s.request d) ∧ t.arbiter.pointer = s.arbiter.pointer ∧
       { t with arbiter := s.arbiter, counters := s.counters } = s)) ∧
  (∀ (pointer : CellNo) (priority : Option CellNo),
     (sweepOrder pointer priority).Nodup ∧ (∀ c, c ∈ sweepOrder pointer priority ↔ priority ≠ some c) ∧
     (sweepOrder pointer priority).Pairwise fun a b => a - pointer - 1 < b - pointer - 1) ∧
  ((∀ s : State, s.belt.supervisor = false → s.belt.crusher = false → s.belt.link = false →
      ∃ u, { u with counters := s.counters } = s ∧ s.onlyGrew u [.passes] ∧
        (s.tables.belt.priority = none →
          arbiterPass s = (sweepOrder s.arbiter.pointer none).foldl (fun t c => considerCell c t) u) ∧
        (∀ c, s.tables.belt.priority = some c →
          (s.request c = none →
            arbiterPass s = (sweepOrder s.arbiter.pointer (some c)).foldl (fun t d => considerCell d t) u) ∧
          (s.request c ≠ none →
            arbiterPass s =
              (sweepOrder (considerCell c u).arbiter.pointer (some c)).foldl (fun t d => considerCell d t) (considerCell c u)))) ∧
   (∀ (c : CellNo) (s : State), s.request c = none → considerCell c s = s) ∧
   (∀ (c : CellNo) (q : Request) (l : LotNo) (o : Option CellNo) (s : State), s.request c = some q → s.tables.cls[q.cls].enabled = true →
      (∀ (d : CellNo) (o : Request), s.request d = some o → o.urgent = true →
        s.tables.cell[c].dropPoint ≤ s.tables.cell[d].dropPoint) →
      s.feasible c q = true → s.hasRoom .cell = true → s.lots[l] = .free o → (∀ m, m < l → ∃ a, s.lots[m] = .active a) →
      (considerCell c s).lots = s.lots.set l (.active
        { state := .loading, cell := c, cls := q.cls, requested := q.length, length := q.length, loaded := 0, delivered := 0,
          mass := q.mass, credited := 0, contaminated := false, massFinal := false }) ∧
      (∀ i, (considerCell c s).tracker.map[i]? =
        if s.tables.cell[c].dropPoint ≤ i ∧ i < s.tables.cell[c].dropPoint + q.length then some (.reserved l q.cls)
        else s.tracker.map[i]?) ∧
      (considerCell c s).cellPort =
        { s.cellPort with queue := s.cellPort.queue ++ [s.orderFrame .start s.tables.cell[c].node (some l) q.length none] } ∧
      (considerCell c s).request c = none ∧ (∀ d, d ≠ c → (considerCell c s).request d = s.request d) ∧
      (considerCell c s).arbiter.pointer = c ∧
      (considerCell c s).counter .lotsGranted = saturatingAdd (s.counter .lotsGranted) 1)) ∧
  (∀ (c : CellNo) (q : Request) (s : State),
     s.feasible c q = true ↔
       (∃ (l : LotNo) (o : Option CellNo), s.lots[l] = .free o) ∧
       (∀ i, s.tables.cell[c].dropPoint ≤ i → i < s.tables.cell[c].dropPoint + q.length → s.tracker.map[i]? = some .empty) ∧
       (∀ i p, s.tables.cell[c].dropPoint ≤ i + s.tables.belt.gap →
         i < s.tables.cell[c].dropPoint + q.length + s.tables.belt.gap → s.tracker.map[i]? = some p →
         p.cls = none ∨ p.cls = some q.cls)) ∧
  (∀ (c : CellNo) (q : Request) (s : State), s.request c = some q →
     (s.tables.cls[q.cls].enabled = true →
       (∃ (d : CellNo) (o : Request), s.request d = some o ∧ o.urgent = true ∧ s.tables.cell[d].dropPoint < s.tables.cell[c].dropPoint) →
       s.onlyGrew (considerCell c s) [.upstreamSkips] ∧ { considerCell c s with counters := s.counters } = s) ∧
     (s.tables.cls[q.cls].enabled = true →
       (∀ (d : CellNo) (o : Request), s.request d = some o → o.urgent = true →
         s.tables.cell[c].dropPoint ≤ s.tables.cell[d].dropPoint) →
       (s.feasible c q = false →
         s.onlyGrew (considerCell c s) [.notFeasible] ∧ { considerCell c s with counters := s.counters } = s) ∧
       (s.feasible c q = true → (considerCell c s).request c = none ∧ (considerCell c s).arbiter.pointer = c)) ∧
     (s.tables.cls[q.cls].enabled = false → s.hasRoom .cell = true →
       (considerCell c s).request c = none ∧ (∀ d, d ≠ c → (considerCell c s).request d = s.request d) ∧
       (considerCell c s).cellPort.queue =
         s.cellPort.queue ++ [s.orderFrame .refuse s.tables.cell[c].node none 0 (some .classDisabled)] ∧
       s.onlyGrew (considerCell c s) [.refusals .classDisabled]))

/-- A request that no other request, hold or pitch stands against is granted in the pass that follows it: lowest FREE record, window
RESERVED, START order, pointer and list. -/
def Obligations.SoleRequestGranted : Prop :=
  ∀ (node cls len : Byte) (mass : Half) (s : State) (c : CellNo) (k : ClassNo) (l : LotNo) (o : Option CellNo),
    s.mode = .operating → s.settledLaw → s.hasRoom .cell = true →
    s.belt.supervisor = false → s.belt.crusher = false → s.belt.link = false →
    s.cellOf node = some c → s.tables.cell[c].enrolled = true → k.val = cls.toNat → s.tables.cls[k].enabled = true →
    1 ≤ len.toNat → len.toNat ≤ 16 → s.tables.cell[c].dropPoint + len.toNat ≤ s.tables.belt.length → s.loadingLot c = none →
    (∀ d, s.request d = none) →
    s.lots[l] = .free o → (∀ m, m < l → ∃ a, s.lots[m] = .active a) →
    (∀ i, s.tables.cell[c].dropPoint ≤ i → i < s.tables.cell[c].dropPoint + len.toNat → s.tracker.map[i]? = some .empty) →
    (∀ i p, s.tables.cell[c].dropPoint ≤ i + s.tables.belt.gap →
      i < s.tables.cell[c].dropPoint + len.toNat + s.tables.belt.gap → s.tracker.map[i]? = some p → p.cls = none ∨ p.cls = some k) →
    ∃ t, exec (.dischargeRequest node cls len mass) s = .next t ∧
      t.lots = s.lots.set l (.active
        { state := .loading, cell := c, cls := k, requested := len.toNat, length := len.toNat, loaded := 0, delivered := 0,
          mass := mass.toNat, credited := 0, contaminated := false, massFinal := false }) ∧
      (∀ i, t.tracker.map[i]? =
        if s.tables.cell[c].dropPoint ≤ i ∧ i < s.tables.cell[c].dropPoint + len.toNat then some (.reserved l k)
        else s.tracker.map[i]?) ∧
      t.cellPort = { s.cellPort with queue := s.cellPort.queue ++ [s.orderFrame .start s.tables.cell[c].node (some l) len.toNat none] } ∧
      t.arbiter.pointer = c ∧ (∀ d, t.request d = none) ∧
      t.tracker.last = s.tracker.last ∧ t.tracker.acc = s.tracker.acc ∧ t.belt = s.belt ∧ t.filtration = s.filtration ∧
      t.engine = s.engine ∧ t.router = s.router ∧ t.notices = s.notices ∧ t.tables = s.tables

/-- A withdraw by the state of the sender's cell: a pending request, a lot in LOADING, or neither. -/
def Obligations.Withdraws : Prop :=
  ∀ (node : Byte) (s : State), s.mode = .operating → s.hasRoom .cell = true →
    (∀ (c : CellNo) (q : Request), s.cellOf node = some c → s.request c = some q →
      ∃ u, exec (.dischargeWithdraw node) s = .next (complete (arbiterPass u)) ∧ u.request c = none ∧
        (∀ d, d ≠ c → u.request d = s.request d) ∧ u.arbiter.pointer = s.arbiter.pointer ∧
        u.cellPort = { s.cellPort with queue := s.cellPort.queue ++ [s.orderFrame .refuse node none 0 (some .withdrawn)] } ∧
        s.onlyGrew u [.refusals .withdrawn] ∧ { u with arbiter := s.arbiter, cellPort := s.cellPort, counters := s.counters } = s) ∧
    (∀ (c : CellNo) (l : LotNo) (a : ActiveLot), s.cellOf node = some c → s.request c = none → s.loadingLot c = some l →
      s.lots[l] = .active a →
      ∃ u, exec (.dischargeWithdraw node) s = .next (complete (arbiterPass u)) ∧ u.arbiter = s.arbiter ∧
        u.cellPort = { s.cellPort with queue := s.cellPort.queue ++ [s.orderFrame .stop s.tables.cell[c].node (some l) 0 none] } ∧
        (∀ i : Nat, u.tracker.map[i]? = (s.tracker.map[i]?).map fun p =>
          match p with
          | .reserved m _ => if m = l then Pitch.empty else p
          | _ => p) ∧
        (a.loaded = 0 → u.lots = s.lots.set l (.free (some c)) ∧ u.filtration = s.filtration) ∧
        (a.loaded ≠ 0 →
          u.lots = s.lots.set l (.active { a with state := .riding, mass := a.mass * a.loaded / a.length, length := a.loaded }))) ∧
    (s.settledLaw → (s.cellOf node = none ∨ ∃ c, s.cellOf node = some c ∧ s.request c = none ∧ s.loadingLot c = none) →
      ∃ t, exec (.dischargeWithdraw node) s = .next t ∧
        t.cellPort = { s.cellPort with queue := s.cellPort.queue ++ [s.orderFrame .refuse node none 0 (some .noRequest)] } ∧
        s.onlyGrew t [.refusals .noRequest] ∧ { t with cellPort := s.cellPort, counters := s.counters } = s)

/-- The three classes of a mass report. -/
def Obligations.MassReports : Prop :=
  ∀ (node lot : Byte) (mass : Half) (s : State), s.mode = .operating → s.settledLaw →
    (∀ (c : CellNo) (l : LotNo) (a : ActiveLot), s.cellOf node = some c → l.val = lot.toNat → s.lots[l] = .active a → a.cell = c →
      a.state = .loading ∨ a.state = .riding →
      ∃ t, exec (.dischargeEnd node lot mass) s = .next t ∧ t.lots = s.lots.set l (.active { a with mass := mass.toNat }) ∧
        s.onlyGrew t [.massAccepted] ∧ { t with lots := s.lots, counters := s.counters } = s) ∧
    (∀ (c : CellNo) (l : LotNo), s.cellOf node = some c → l.val = lot.toNat →
      (s.lots[l] = .free (some c) ∨ ∃ a, s.lots[l] = .active a ∧ a.cell = c ∧ a.state = .delivering) →
      ∃ t, exec (.dischargeEnd node lot mass) s = .next t ∧ { t with notices := s.notices, counters := s.counters } = s ∧
        s.faulted t .lateMass (some l) (some c) none [.lateReports]) ∧
    ((s.cellOf node = none ∨ 63 < lot.toNat ∨
        ∃ (c : CellNo) (l : LotNo), s.cellOf node = some c ∧ l.val = lot.toNat ∧
          ((∃ o, s.lots[l] = .free o ∧ o ≠ some c) ∨ ∃ a, s.lots[l] = .active a ∧ a.cell ≠ c)) →
      ∃ t, exec (.dischargeEnd node lot mass) s = .next t ∧ { t with notices := s.notices, counters := s.counters } = s ∧
        s.faulted t .strayReport (if h : lot.toNat < 64 then some ⟨lot.toNat, h⟩ else none) (s.cellOf node) none [.strayReports])

/-- A pitch that reaches the index below its cell's drop point loads; the pitch that fills the lot seals it with a STOP order. A shift moves
every record one index toward the head and puts an EMPTY one at the tail; with no lot in LOADING nothing else happens to the map. An EMPTY
pitch that leaves changes no lot and no total. -/
def Obligations.CrossingAndShift : Prop :=
  (∀ (c : CellNo) (l : LotNo) (a : ActiveLot) (k : ClassNo) (s : State), s.loadingLot c = some l → s.lots[l] = .active a →
     s.tracker.map[s.tables.cell[c].dropPoint - 1]? = some (.reserved l k) →
     (crossCell c s).tracker.map = s.tracker.map.set (s.tables.cell[c].dropPoint - 1) (.loaded l k) ∧
     (a.loaded + 1 < a.length →
       (crossCell c s).lots = s.lots.set l (.active { a with loaded := a.loaded + 1 }) ∧
       { crossCell c s with tracker := s.tracker, lots := s.lots } = s) ∧
     (a.length ≤ a.loaded + 1 → s.hasRoom .cell = true →
       (crossCell c s).lots = s.lots.set l (.active { a with loaded := a.loaded + 1, state := .riding }) ∧
       (crossCell c s).cellPort.queue = s.cellPort.queue ++ [s.orderFrame .stop s.tables.cell[c].node (some l) 0 none])) ∧
  (∀ (p : Pitch) (rest : List Pitch) (s : State), s.tracker.map = p :: rest → (∀ c, s.loadingLot c = none) →
     (shiftPitch s).tracker = { s.tracker with map := rest ++ [.empty] } ∧
     (p = .empty →
       (shiftPitch s).lots = s.lots ∧ (shiftPitch s).notices = s.notices ∧ (shiftPitch s).raised = s.raised ∧
       (shiftPitch s).counter .pitchesShifted = saturatingAdd (s.counter .pitchesShifted) 1 ∧
       (∀ r, (shiftPitch s).counter (.routeMass r) = s.counter (.routeMass r)) ∧
       (shiftPitch s).counter .unrouted = s.counter .unrouted))

/-- The credits of a lot's pitches, from the first delivered to the last, add up to its mass. -/
def Obligations.LotCreditsSumToMass : Prop :=
  ∀ a : ActiveLot, a.delivered = 0 → a.credited = 0 → 0 < a.length →
    ((List.range a.length).map fun i => ((ActiveLot.afterDelivery^[i]) a).credit).sum = a.mass ∧
    (∀ i, i + 1 < a.length → ((ActiveLot.afterDelivery^[i]) a).credit = a.mass / a.length)

/-! ### The belt: samples, deliveries, holds and the setpoint -/

/-- BELT SAMPLE: the first one, an implausible one, and a plausible one, whose distance with the accumulator makes whole pitches. -/
def Obligations.BeltSamples : Prop :=
  ∀ (count : Word) (s : State), s.mode = .operating →
    (s.tracker.last = none →
      ∃ u t, exec (.beltSample count) s = .next t ∧ t = complete (arbiterPass (issueSetpoint (headReaction u))) ∧
        u.tracker = { s.tracker with last := some count } ∧ s.onlyGrew u [.samplesAccepted] ∧
        { u with tracker := s.tracker, counters := s.counters } = s ∧ t.tracker.last = some count ∧ t.tracker.acc = s.tracker.acc) ∧
    (∀ last, s.tracker.last = some last → s.tables.belt.mpa < (count - last).toNat →
      ∃ u, exec (.beltSample count) s = .next (complete u) ∧
        { u with notices := s.notices, counters := s.counters, raised := s.raised } = s ∧
        u.raised = s.raised ++ [{ source := 4, lot := none, cell := none, drum := none }] ∧
        s.faulted u .beltImplausible none none none [.samplesImplausible]) ∧
    (∀ last, s.tracker.last = some last → (count - last).toNat ≤ s.tables.belt.mpa →
      ∃ u t, exec (.beltSample count) s = .next t ∧ t = complete (arbiterPass (issueSetpoint (headReaction u))) ∧
        t.tracker.last = some count ∧ t.tracker.acc = (s.tracker.acc + (count - last).toNat) % s.tables.belt.cpp ∧
        (s.tracker.acc + (count - last).toNat < s.tables.belt.cpp →
          s.onlyGrew u [.samplesAccepted] ∧ u.tracker.map = s.tracker.map ∧
          { u with tracker := s.tracker, counters := s.counters } = s) ∧
        (∀ n, (s.tracker.acc + (count - last).toNat) / s.tables.belt.cpp = n →
          u.tracker.map = ((shiftPitch^[n]) s).tracker.map ∧ u.lots = ((shiftPitch^[n]) s).lots ∧
          u.head = ((shiftPitch^[n]) s).head ∧ u.cellPort = ((shiftPitch^[n]) s).cellPort))

/-- A LOADED pitch that leaves the map, by the gate state and by what its lot has left: the total it is credited to, the misroute, the lot
record and the completion. The uncrushed test is the next statement's. The uncrushed test of a delivered pitch, here of a pitch that leaves
past its own route before its lot's last. -/
def Obligations.DeliveredPitches : Prop :=
  (∀ (l : LotNo) (k : ClassNo) (a : ActiveLot) (s : State), s.lots[l] = .active a → s.tables.cls[k].mode = .bypass →
     (∀ r : RouteNo, s.head.gate = .settled r → s.tables.cls[k].route = r → a.delivered + 1 < a.length →
       ∃ v, takeDelivered (.loaded l k) s = evalGate v ∧
         v.lots = s.lots.set l (.active { a with
           state := .delivering, delivered := a.delivered + 1, credited := a.credited + a.mass / a.length, massFinal := true }) ∧
         s.grewBy v [(.routeMass r, a.mass / a.length)] ∧ { v with lots := s.lots, counters := s.counters } = s) ∧
     (∀ r : RouteNo, s.head.gate = .settled r → s.tables.cls[k].route = r → a.length ≤ a.delivered + 1 → a.contaminated = false →
       a.cls = k →
       ∃ v, takeDelivered (.loaded l k) s = evalGate v ∧ v.lots = s.lots.set l (.free (some a.cell)) ∧
         v.raised = s.raised ++ [{ source := 14, lot := some l, cell := some a.cell, drum := none }] ∧
         s.grewBy v [(.lotsDelivered, 1), (.routeMass r, a.mass - a.credited), (.routeLots r, 1)] ∧
         { v with lots := s.lots, counters := s.counters, raised := s.raised } = s) ∧
     (∀ r : RouteNo, s.head.gate = .settled r → s.tables.cls[k].route ≠ r → a.delivered + 1 < a.length →
       ∃ v, takeDelivered (.loaded l k) s = evalGate v ∧
         v.lots = s.lots.set l (.active { a with
           state := .delivering, delivered := a.delivered + 1, credited := a.credited + a.mass / a.length, massFinal := true,
           contaminated := true }) ∧
         v.raised = s.raised ++ [{ source := 3, lot := some l, cell := some a.cell, drum := none }] ∧
         v.counter (.routeMass r) = saturatingAdd (s.counter (.routeMass r)) (a.mass / a.length) ∧
         v.counter .misrouted = saturatingAdd (s.counter .misrouted) 1 ∧
         v.counter (.raised .misroute) = saturatingAdd (s.counter (.raised .misroute)) 1 ∧
         { v with lots := s.lots, counters := s.counters, raised := s.raised, notices := s.notices } = s) ∧
     (∀ toward start taken, s.head.gate = .moving toward start taken → a.length ≤ a.delivered + 1 →
       ∃ v, takeDelivered (.loaded l k) s = evalGate v ∧ v.lots = s.lots.set l (.free (some a.cell)) ∧
         v.raised = s.raised ++ [{ source := 3, lot := some l, cell := some a.cell, drum := none },
           { source := 14, lot := some l, cell := some a.cell, drum := none }] ∧
         v.counter .unrouted = saturatingAdd (s.counter .unrouted) (a.mass - a.credited) ∧
         v.counter .contaminated = saturatingAdd (s.counter .contaminated) 1 ∧
         v.counter .misrouted = saturatingAdd (s.counter .misrouted) 1 ∧
         v.counter .lotsDelivered = saturatingAdd (s.counter .lotsDelivered) 1 ∧
         { v with lots := s.lots, counters := s.counters, raised := s.raised, notices := s.notices } = s)) ∧
  (∀ (l : LotNo) (k : ClassNo) (a : ActiveLot) (r : RouteNo) (s : State), s.lots[l] = .active a → s.tables.cls[k].mode = .crush →
     s.head.gate = .settled r → s.tables.cls[k].route = r → a.delivered + 1 < a.length →
     ∃ v, takeDelivered (.loaded l k) s = evalGate v ∧
       v.lots = s.lots.set l (.active { a with
         state := .delivering, delivered := a.delivered + 1, credited := a.credited + a.mass / a.length, massFinal := true }) ∧
       (∀ i, s.head.crusher = .running i →
         s.grewBy v [(.routeMass r, a.mass / a.length)] ∧ { v with lots := s.lots, counters := s.counters } = s) ∧
       ((∀ i, s.head.crusher ≠ .running i) →
         v.counter .uncrushed = saturatingAdd (s.counter .uncrushed) 1 ∧
         v.counter (.raised .uncrushedDelivery) = saturatingAdd (s.counter (.raised .uncrushedDelivery)) 1 ∧
         v.raised = s.raised ∧ { v with lots := s.lots, counters := s.counters, notices := s.notices } = s))

/-- HALT_LINE on a line that runs: the cause is set, every loading cell receives HOLD in ascending lot number, the belt is commanded to 0
and the reply is placed; and RELEASE_LINE that empties the set sends RESUME, issues the selected value and makes a pass. While another cause
stands, each only writes its flag and is answered. The model's choice (log entry 33): a selector other than 0 is ignored in a command that
takes none. -/
def Obligations.HaltAndRelease : Prop :=
  ∀ (r : Req) (s : State), s.readyFor r → s.activity.isReloading = false →
    (s.holdInForce = true → ∃ t, exec (.haltLine r) s = .next t ∧ s.answered t r 5 .ok [] [] ∧
      t.belt = { s.belt with supervisor := true } ∧
      { t with belt := s.belt, cellPort := s.cellPort, plantPort := s.plantPort, counters := s.counters } = s) ∧
    (s.holdInForce = false →
      ∃ u, exec (.haltLine r) s = .next (finishRequest s.tables.node.node 5 r (.now .ok []) (reselect u)) ∧
        u.belt = { s.belt with supervisor := true } ∧
        (s.cellPort.queue.length + (s.loadingOrders .hold).length ≤ 32 →
          u.cellPort = { s.cellPort with queue := s.cellPort.queue ++ s.loadingOrders .hold } ∧
          { u with belt := s.belt, cellPort := s.cellPort, counters := s.counters } = s)) ∧
    (s.belt.supervisor = true → (s.belt.crusher = true ∨ s.belt.link = true) →
      ∃ t, exec (.releaseLine r) s = .next t ∧ s.answered t r 6 .ok [] [] ∧ t.belt = { s.belt with supervisor := false } ∧
        { t with belt := s.belt, cellPort := s.cellPort, plantPort := s.plantPort, counters := s.counters } = s) ∧
    (s.belt.supervisor = true → s.belt.crusher = false → s.belt.link = false →
      ∃ u, exec (.releaseLine r) s = .next (finishRequest s.tables.node.node 6 r (.now .ok []) (arbiterPass (reselect u))) ∧
        u.belt = { s.belt with supervisor := false } ∧
        (s.cellPort.queue.length + (s.loadingOrders .resume).length ≤ 32 →
          u.cellPort = { s.cellPort with queue := s.cellPort.queue ++ s.loadingOrders .resume } ∧
          { u with belt := s.belt, cellPort := s.cellPort, counters := s.counters } = s)) ∧
    (s.belt.supervisor = false → ∃ t, exec (.releaseLine r) s = .next t ∧ s.onlyAnswered t r 6 .ok [])

/-- The setpoint's selection: a hold, the program, the override, the primary speed. The belt command: the selected value is handed over,
counted and kept as selected and as last issued; a selection that is made again is issued only if its value has changed. The override is
latched by an occurrence; one that finds it latched changes nothing. The override: RELEASE_OVERRIDE clears the latch and the time counter,
and selects again only where the latch was latched; a whole second counts up to 65535. The model's choice (log entry 24): an OVERRIDE_SECOND
taken before its time has no effect. The model's choice (log entry 33): a selector other than 0 is ignored in a command that takes none. -/
def Obligations.Setpoints : Prop :=
  (∀ s : State,
     ((s.belt.supervisor = true ∨ s.belt.crusher = true ∨ s.belt.link = true) → s.selection.2 = 0) ∧
     (s.belt.supervisor = false → s.belt.crusher = false → s.belt.link = false →
       (∀ v, s.belt.programSetpoint = some v → s.selection.2 = v) ∧
       (s.belt.programSetpoint = none → s.belt.latched = true → s.selection.2 = s.tables.profile.overriding) ∧
       (s.belt.programSetpoint = none → s.belt.latched = false → s.selection.2 = s.tables.profile.primary))) ∧
  (∀ s : State,
     (issueSetpoint s).belt = { s.belt with selected := s.selection.2, issued := some s.selection.2 } ∧
     (issueSetpoint s).coalescer = (hand .belt .run s.selection.2 s).coalescer ∧
     (issueSetpoint s).counter .setpointsIssued = saturatingAdd (s.counter .setpointsIssued) 1 ∧
     (s.selection.2 = s.belt.selected → reselect s = s) ∧ (s.selection.2 ≠ s.belt.selected → reselect s = issueSetpoint s)) ∧
  (∀ s : State, (s.belt.latched = true → latchOverride s = s) ∧
     (s.belt.latched = false →
       ∃ u, latchOverride s = reselect u ∧ u.belt = { s.belt with latched := true, seconds := 0, secondStart := s.now } ∧
         s.onlyGrew u [.overridesLatched] ∧ { u with belt := s.belt, counters := s.counters } = s)) ∧
  ((∀ (r : Req) (s : State), s.readyFor r → s.activity.isReloading = false →
     (s.belt.latched = false → ∃ t, exec (.releaseOverride r) s = .next t ∧ s.onlyAnswered t r 7 .ok []) ∧
     (s.belt.latched = true →
       exec (.releaseOverride r) s = .next (finishRequest s.tables.node.node 7 r (.now .ok [])
         (reselect { s with belt := { s.belt with latched := false, seconds := 0 } })))) ∧
   (∀ s : State, s.belt.latched = true → 1000 ≤ (s.now - s.belt.secondStart).toNat →
     exec .overrideSecond s = .next { s with belt := { s.belt with
       seconds := min (s.belt.seconds + 1) 65535, secondStart := s.belt.secondStart + 1000 } }) ∧
   (∀ s : State, s.belt.latched = false ∨ (s.now - s.belt.secondStart).toNat < 1000 → exec .overrideSecond s = .next s))

/-! ### The gate and the crusher -/

/-- GATE STATUS by the reported position and the gate state. -/
def Obligations.GateStatuses : Prop :=
  ∀ (p : Byte) (s : State), s.mode = .operating → s.settledLaw →
    ((7 < p.toNat ∧ p ≠ 15) →
      ∃ t, exec (.gateStatus p) s = .next t ∧ s.onlyGrew t [.gateInvalid] ∧ { t with counters := s.counters } = s) ∧
    (∀ (g : RouteNo) start taken, s.head.gate = .moving (some g) start taken →
      (p.toNat = g.val → exec (.gateStatus p) s = .next { s with head := { s.head with gate := .settled g, lastPosition := some p } }) ∧
      (p.toNat ≤ 7 ∨ p = 15 → p.toNat ≠ g.val →
        exec (.gateStatus p) s = .next { s with head := { s.head with lastPosition := some p } })) ∧
    (∀ start taken, s.head.gate = .moving none start taken →
      (∀ g : RouteNo, p.toNat = g.val →
        exec (.gateStatus p) s = .next { s with head := { s.head with gate := .settled g, lastPosition := some p } }) ∧
      (p = 15 → exec (.gateStatus p) s = .next { s with head := { s.head with lastPosition := some p } })) ∧
    (∀ g : RouteNo, s.head.gate = .settled g →
      (p.toNat = g.val → exec (.gateStatus p) s = .next { s with head := { s.head with lastPosition := some p } }) ∧
      (p.toNat ≤ 7 ∨ p = 15 → p.toNat ≠ g.val →
        ∃ u, exec (.gateStatus p) s = .next (complete u) ∧
          u.head = { s.head with lastPosition := some p, gate := .moving (some (s.gateTarget.getD g)) s.now false } ∧
          u.raised = [] ∧ u.counter .gateLost = saturatingAdd (s.counter .gateLost) 1 ∧
          (s.holds .gate = true → u.coalescer = s.coalescer ∧ s.onlyGrew u [.gateLost]) ∧
          (s.holds .gate = false → u.coalescer = (hand .gate .move (s.gateTarget.getD g).val s).coalescer ∧
            u.counter .gateMoves = saturatingAdd (s.counter .gateMoves) 1) ∧
          { u with head := s.head, coalescer := s.coalescer, counters := s.counters, handed := s.handed } = s))

/-- The gate target: the route of the class of the lowest-indexed pitch that is not EMPTY. A gate travel of 3,000 ms expires once: the
event, the fault and the MOVE once more, in a state that stays MOVING. The model's choice (log entry 24): a GATE_TIMEOUT taken before its
time has no effect. -/
def Obligations.GateTargets : Prop :=
  (∀ s : State,
     ((∀ p ∈ s.tracker.map, p = .empty) → s.gateTarget = none ∧ evalGate s = s) ∧
     (∀ (i : Nat) (p : Pitch) (k : ClassNo), s.tracker.map[i]? = some p → p.cls = some k →
       (∀ j < i, s.tracker.map[j]? = some .empty) →
       s.gateTarget = some s.tables.cls[k].route ∧
       (s.head.gate = .settled s.tables.cls[k].route → evalGate s = s) ∧
       (∀ start taken, s.head.gate = .moving (some s.tables.cls[k].route) start taken → evalGate s = s) ∧
       (s.head.gate ≠ .settled s.tables.cls[k].route →
         (∀ start taken, s.head.gate ≠ .moving (some s.tables.cls[k].route) start taken) →
         (evalGate s).head = { s.head with gate := .moving (some s.tables.cls[k].route) s.now false } ∧
         (evalGate s).coalescer =
           (if s.holds .gate then s else hand .gate .move s.tables.cls[k].route.val s).coalescer))) ∧
  (∀ (g : RouteNo) (start : Word) (taken : Bool) (s : State), s.head.gate = .moving (some g) start taken →
     (taken = false → s.holds .gate = false → 3000 ≤ (s.now - start).toNat →
       ∃ u, exec .gateTimeout s = .next (complete u) ∧ u.head = { s.head with gate := .moving (some g) start true } ∧
         u.raised = s.raised ++ [{ source := 15, lot := none, cell := none, drum := none }] ∧
         u.coalescer = (hand .gate .move g.val s).coalescer ∧ u.handed = true ∧
         u.counter .gateTimeouts = saturatingAdd (s.counter .gateTimeouts) 1 ∧
         u.counter .gateMoves = saturatingAdd (s.counter .gateMoves) 1 ∧
         u.counter (.raised .gateTimeout) = saturatingAdd (s.counter (.raised .gateTimeout)) 1 ∧
         { u with head := s.head, coalescer := s.coalescer, counters := s.counters, notices := s.notices, raised := s.raised,
                  handed := s.handed } = s) ∧
     (taken = true ∨ s.holds .gate = true ∨ (s.now - start).toNat < 3000 → s.settledLaw → exec .gateTimeout s = .next s))

/-- CRUSHER STATUS by the crusher's state: recorded in every state, the end of a confirmed start, the trip, and the jam count with its
stall. The model's choice (log entry 18): the change, its STOP and its own event and fault come before the INTERLOCK_HOLD of the interlock.
-/
def Obligations.CrusherStatuses : Prop :=
  ∀ (current : Half) (confirm : Byte) (s : State) (h : Head), s.mode = .operating → s.settledLaw →
    h = { s.head with current := current.toNat, confirm := decide (confirm ≠ 0) } →
    (∀ since limit, s.head.crusher = .starting since limit →
      (s.head.startMode = .confirm → confirm ≠ 0 →
        exec (.crusherStatus current confirm) s =
          .next (complete (interlock { s with head := { h with crusher := .running s.now, jam := 0 } }))) ∧
      (s.head.startMode = .delay ∨ confirm = 0 → exec (.crusherStatus current confirm) s = .next { s with head := h })) ∧
    (s.head.crusher = .off ∨ s.head.crusher = .stalled ∨ s.head.crusher = .reversing ∨ s.head.crusher = .fault →
      exec (.crusherStatus current confirm) s = .next { s with head := h }) ∧
    (∀ idleSince, s.head.crusher = .running idleSince →
      (s.head.startMode = .confirm → confirm = 0 →
        ∃ u, exec (.crusherStatus current confirm) s = .next (complete (interlock u)) ∧ u.head = { h with crusher := .fault } ∧
          u.coalescer = (hand .crusher .stop 0 s).coalescer ∧ u.handed = true ∧
          u.raised = [{ source := 2, lot := none, cell := none, drum := none }] ∧
          u.counter .crusherTrips = saturatingAdd (s.counter .crusherTrips) 1 ∧
          u.counter (.raised .crusherFault) = saturatingAdd (s.counter (.raised .crusherFault)) 1 ∧
          { u with head := s.head, coalescer := s.coalescer, handed := s.handed, raised := s.raised, counters := s.counters,
                   notices := s.notices } = s) ∧
      (s.head.startMode = .delay ∨ confirm ≠ 0 → current.toNat < s.tables.crusher.jamThreshold →
        exec (.crusherStatus current confirm) s = .next { s with head := { h with jam := 0 } }) ∧
      (s.head.startMode = .delay ∨ confirm ≠ 0 → s.tables.crusher.jamThreshold ≤ current.toNat →
        min (s.head.jam + 1) 15 < s.tables.crusher.jamCount →
        exec (.crusherStatus current confirm) s = .next { s with head := { h with jam := min (s.head.jam + 1) 15 } }) ∧
      (s.head.startMode = .delay ∨ confirm ≠ 0 → s.tables.crusher.jamThreshold ≤ current.toNat →
        s.tables.crusher.jamCount ≤ min (s.head.jam + 1) 15 →
        ∃ u, exec (.crusherStatus current confirm) s = .next (complete (interlock u)) ∧
          u.head = { h with jam := min (s.head.jam + 1) 15, crusher := .stalled } ∧
          u.coalescer = (hand .crusher .stop 0 s).coalescer ∧ u.handed = true ∧
          u.raised = [{ source := 0, lot := none, cell := none, drum := none }] ∧
          u.counter .crusherJams = saturatingAdd (s.counter .crusherJams) 1 ∧
          { u with head := s.head, coalescer := s.coalescer, handed := s.handed, raised := s.raised, counters := s.counters } = s))

/-- The start timer and the idle timer. CLEAR_CRUSHER by the crusher's state. The model's choice (log entry 24): a START_TIMER_EXPIRY or
IDLE_TIMER_EXPIRY taken before its time has no effect. The model's choice (log entry 18): the failed start's own event and fault come before
the INTERLOCK_HOLD of the interlock. The model's choice (log entry 33): a selector other than 0 is ignored in a command that takes none. -/
def Obligations.CrusherTimersAndClear : Prop :=
  ((∀ (since : Word) (limit : Nat) (s : State), s.head.crusher = .starting since limit → s.settledLaw →
     ((s.now - since).toNat < limit → exec .startTimerExpiry s = .next s) ∧
     (limit ≤ (s.now - since).toNat → s.head.startMode = .delay →
       exec .startTimerExpiry s =
         .next (complete (interlock { s with head := { s.head with crusher := .running s.now, jam := 0 } }))) ∧
     (limit ≤ (s.now - since).toNat → s.head.startMode = .confirm →
       ∃ u, exec .startTimerExpiry s = .next (complete (interlock u)) ∧ u.head = { s.head with crusher := .fault } ∧
         u.coalescer = (hand .crusher .stop 0 s).coalescer ∧
         u.raised = [{ source := 1, lot := none, cell := none, drum := none }] ∧
         u.counter .startFailures = saturatingAdd (s.counter .startFailures) 1 ∧
         u.counter (.raised .crusherFault) = saturatingAdd (s.counter (.raised .crusherFault)) 1 ∧
         { u with head := s.head, coalescer := s.coalescer, handed := s.handed, raised := s.raised, counters := s.counters,
                  notices := s.notices } = s)) ∧
   (∀ (idleSince : Word) (s : State), s.head.crusher = .running idleSince → s.settledLaw →
     (s.tables.crusher.idle = 0 ∨ (s.now - idleSince).toNat < s.tables.crusher.idle * 1000 → exec .idleTimerExpiry s = .next s) ∧
     (s.tables.crusher.idle ≠ 0 → s.tables.crusher.idle * 1000 ≤ (s.now - idleSince).toNat →
       (∀ (i : Nat) (p : Pitch) (k : ClassNo), i < s.tables.crusher.window → s.tracker.map[i]? = some p → p.cls = some k →
         s.tables.cls[k].mode = .crush →
         exec .idleTimerExpiry s = .next { s with head := { s.head with crusher := .running s.now } }) ∧
       ((∀ (i : Nat) (p : Pitch) (k : ClassNo), i < s.tables.crusher.window → s.tracker.map[i]? = some p → p.cls = some k →
         s.tables.cls[k].mode = .bypass) →
         ∃ u, exec .idleTimerExpiry s = .next (complete (interlock u)) ∧ u.head = { s.head with crusher := .off } ∧
           u.coalescer = (hand .crusher .stop 0 s).coalescer ∧ u.counter .idleStops = saturatingAdd (s.counter .idleStops) 1 ∧
           { u with head := s.head, coalescer := s.coalescer, handed := s.handed, counters := s.counters } = s)))) ∧
  (∀ (r : Req) (s : State), s.readyFor r → s.activity.isReloading = false →
     (s.head.crusher = .stalled ∨ s.head.crusher = .fault ∨ (∃ since limit, s.head.crusher = .starting since limit) →
       ∃ u, exec (.clearCrusher r) s = .next (finishRequest s.tables.node.node 10 r (.now .ok []) (interlock u)) ∧
         u.head = { s.head with crusher := .off, jam := 0 } ∧ u.coalescer = (hand .crusher .stop 0 s).coalescer ∧ u.handed = true ∧
         { u with head := s.head, coalescer := s.coalescer, handed := s.handed, counters := s.counters } = s) ∧
     (s.head.crusher = .off ∨ (∃ idle, s.head.crusher = .running idle) →
       ∃ t, exec (.clearCrusher r) s = .next t ∧ s.onlyAnswered t r 10 .ok []) ∧
     (s.head.crusher = .reversing → ∃ t, exec (.clearCrusher r) s = .next t ∧ s.onlyAnswered t r 10 .inUse []))

/-- The head's reaction to a completed sample starts a crusher that is OFF where crush material lies below A, with the start mode and the
time in force; it starts no other crusher. A crusher's start hands FORWARD at the crush speed over and is counted; no other command for the
crusher waits. In RUNNING the idle timer starts anew exactly while crush material lies below A. The interlock: the CRUSHER cause stands
exactly while crush material lies within the stop margin and the crusher is not RUNNING; its setting raises INTERLOCK_HOLD for the
lowest-indexed crush pitch. The approach load and SURGE. -/
def Obligations.HeadReactions : Prop :=
  (∀ s : State,
     (∀ (i : Nat) (p : Pitch) (k : ClassNo), s.head.crusher = .off → i < s.tables.crusher.window → s.tracker.map[i]? = some p →
       p.cls = some k → s.tables.cls[k].mode = .crush →
       (headReaction s).head.startMode = s.tables.crusher.startMode ∧
       (headReaction s).head.crusher =
         .starting s.now (match s.tables.crusher.startMode with | .confirm => 2000 | .delay => s.tables.crusher.startDelay)) ∧
     (s.head.crusher = .off →
       (∀ (i : Nat) (p : Pitch) (k : ClassNo), i < s.tables.crusher.window → s.tracker.map[i]? = some p → p.cls = some k →
         s.tables.cls[k].mode = .bypass) → (headReaction s).head.crusher = .off) ∧
     (∀ since limit, s.head.crusher = .starting since limit → (headReaction s).head.crusher = .starting since limit) ∧
     (s.head.crusher = .stalled ∨ s.head.crusher = .reversing ∨ s.head.crusher = .fault →
       (headReaction s).head.crusher = s.head.crusher)) ∧
  (∀ s : State,
     (∀ (i : Nat) (p : Pitch) (k : ClassNo), s.head.crusher = .off → i < s.tables.crusher.window → s.tracker.map[i]? = some p →
       p.cls = some k → s.tables.cls[k].mode = .crush →
       (∃ e ∈ (headReaction s).coalescer.entries, e.target = .crusher) ∧
       (∀ e ∈ (headReaction s).coalescer.entries, e.target = .crusher → e.mode = .forward ∧ e.setpoint = s.tables.crusher.speed) ∧
       (headReaction s).handed = true ∧
       (headReaction s).counter .crusherStarts = saturatingAdd (s.counter .crusherStarts) 1) ∧
     (∀ idle, s.head.crusher = .running idle →
       (∀ (i : Nat) (p : Pitch) (k : ClassNo), i < s.tables.crusher.window → s.tracker.map[i]? = some p → p.cls = some k →
         s.tables.cls[k].mode = .crush → (headReaction s).head.crusher = .running s.now) ∧
       ((∀ (i : Nat) (p : Pitch) (k : ClassNo), i < s.tables.crusher.window → s.tracker.map[i]? = some p → p.cls = some k →
         s.tables.cls[k].mode = .bypass) → (headReaction s).head.crusher = .running idle))) ∧
  (∀ s : State,
     (∀ (i : Nat) (p : Pitch) (k : ClassNo), (∀ idle, s.head.crusher ≠ .running idle) → i < s.tables.crusher.margin →
       s.tracker.map[i]? = some p → p.cls = some k → s.tables.cls[k].mode = .crush →
       (interlock s).belt.crusher = true ∧ (s.belt.crusher = true → interlock s = s) ∧
       (s.belt.crusher = false →
         (∀ (j : Nat) (p' : Pitch) (k' : ClassNo), j < i → s.tracker.map[j]? = some p' → p'.cls = some k' →
           s.tables.cls[k'].mode = .bypass) →
         (interlock s).raised = s.raised ++
           [{ source := 5, lot := p.lot, cell := p.lot.bind fun l => match s.lots[l] with | .active a => some a.cell | .free _ => none, drum := none }] ∧
         (interlock s).counter .interlockHolds = saturatingAdd (s.counter .interlockHolds) 1 ∧
         (s.belt.supervisor = true ∨ s.belt.link = true →
           { interlock s with belt := s.belt, counters := s.counters, raised := s.raised } = s))) ∧
     (((∃ idle, s.head.crusher = .running idle) ∨
         ∀ (i : Nat) (p : Pitch) (k : ClassNo), i < s.tables.crusher.margin → s.tracker.map[i]? = some p → p.cls = some k →
           s.tables.cls[k].mode = .bypass) →
       (interlock s).belt.crusher = false ∧ (s.belt.crusher = false → interlock s = s) ∧
       (s.belt.supervisor = true ∨ s.belt.link = true → interlock s = { s with belt := { s.belt with crusher := false } }))) ∧
  (∀ s : State,
     (computeApproach s).head = { s.head with
       approach := ((List.range s.tables.crusher.window).map fun i =>
         match s.tracker.map[i]? with
         | some (.loaded l k) =>
           if s.tables.cls[k].mode = .crush then
             match s.lots[l] with
             | .active a =>
               if (s.tracker.map.drop (i + 1)).any (fun p => p.lot = some l) then a.mass / a.length
               else a.mass / a.length + a.mass % a.length
             | .free _ => 0
           else 0
         | _ => 0).sum
       surge := decide (s.tables.crusher.limit < s.approachNow) } ∧
     (s.approachNow ≤ s.tables.crusher.limit ∨ s.head.surge = true → { computeApproach s with head := s.head } = s) ∧
     (s.tables.crusher.limit < s.approachNow → s.head.surge = false →
       (computeApproach s).raised = s.raised ++ [{ source := 6, lot := none, cell := none, drum := none }] ∧
       s.onlyGrew (computeApproach s) [.surges] ∧
       { computeApproach s with head := s.head, raised := s.raised, counters := s.counters } = s))

/-! ### Coolant filtration -/

/-- FILTER SAMPLE: invalid, recorded only, and the pressure that sends an ONLINE drum to FLUSH_WAIT. -/
def Obligations.FilterSamples : Prop :=
  ∀ (drum : Byte) (dp : Half) (s : State), s.mode = .operating → s.settledLaw →
    (3 < drum.toNat → ∃ t, exec (.filterSample drum dp) s = .next t ∧ s.onlyGrew t [.filterInvalid] ∧ { t with counters := s.counters } = s) ∧
    (∀ d : DrumNo, d.val = drum.toNat →
      ((s.drum d).state ≠ .online ∨ dp.toNat < s.tables.drum[d].dpLimit →
        exec (.filterSample drum dp) s = .next { s with filtration := { s.filtration with
          drums := s.filtration.drums.set d { s.drum d with dp := dp.toNat } } }) ∧
      ((s.drum d).state = .online → s.tables.drum[d].dpLimit ≤ dp.toNat →
        ∃ u, exec (.filterSample drum dp) s = .next (complete (arbitrateFlush u)) ∧
          u.filtration = { s.filtration with
            drums := s.filtration.drums.set d { s.drum d with dp := dp.toNat, state := .flushWait s.now } } ∧
          u.raised = [{ source := 7, lot := none, cell := none, drum := some d }] ∧ s.onlyGrew u [.dpHigh] ∧
          { u with filtration := s.filtration, raised := s.raised, counters := s.counters } = s))

/-- A run of the flush arbitration: nothing while a drum is FLUSHING or SETTLING; otherwise the first drum of the round-robin order that may
be granted becomes FLUSHING and leaves the filtering drums. The test of capacity against demand raises CAPACITY_LOW once for each time that
demand passes capacity. -/
def Obligations.FlushArbitration : Prop :=
  (∀ s : State,
     ((∃ (d : DrumNo) (e : Word), (s.drum d).state = .flushing e ∨ (s.drum d).state = .settling e) →
       s.onlyGrew (arbitrateFlush s) [.flushArbitrations] ∧ { arbitrateFlush s with counters := s.counters } = s) ∧
     ((∀ d, (s.drum d).state.busy = false) →
       ((∀ d, s.flushVerdict d = .passedOver) →
         s.onlyGrew (arbitrateFlush s) [.flushArbitrations] ∧ { arbitrateFlush s with counters := s.counters } = s) ∧
       (∀ (d : DrumNo) (before rest : List DrumNo) (since : Word) (others : Nat),
         [s.filtration.lastFlushed + 1, s.filtration.lastFlushed + 2, s.filtration.lastFlushed + 3, s.filtration.lastFlushed] =
           before ++ d :: rest →
         (∀ e ∈ before, s.flushVerdict e = .passedOver) → (s.drum d).state = .flushWait since →
         others = ((List.finRange 4).filter fun e => decide (e ≠ d) && (s.drum e).state.filtering).length →
         (s.tables.filter.minOnline ≤ others ∨ s.tables.filter.waitLimit * 1000 ≤ (s.now - since).toNat) →
         (arbitrateFlush s).filtration.drums =
           s.filtration.drums.set d { s.drum d with state := .flushing (s.now + BitVec.ofNat 32 (s.tables.drum[d].flush * 1000)) } ∧
         (arbitrateFlush s).filtration.lastFlushed = d ∧
         (arbitrateFlush s).filtration.residue = s.filtration.residue % max others 1 ∧
         (arbitrateFlush s).filtration.capacity =
           ((List.finRange 4).map fun e => if e ≠ d ∧ (s.drum e).state.filtering = true then s.tables.drum[e].flow else 0).sum ∧
         (arbitrateFlush s).coalescer = (if s.holds (.drum d) then s else hand (.drum d) .flush 0 s).coalescer ∧
         (arbitrateFlush s).counter .flushesStarted = saturatingAdd (s.counter .flushesStarted) 1 ∧
         (arbitrateFlush s).counter .forcedFlushes =
           (if s.tables.filter.minOnline ≤ others then s.counter .forcedFlushes else saturatingAdd (s.counter .forcedFlushes) 1) ∧
          (arbitrateFlush s).raised = s.raised ++
            (if s.tables.filter.minOnline ≤ others then [] else [{ source := 10, lot := none, cell := none, drum := some d }]) ++
            (if (arbitrateFlush s).filtration.capacity < s.filtration.demand ∧ s.filtration.low = false
             then [{ source := 9, lot := none, cell := none, drum := none }] else [])))) ∧
  (∀ s : State,
     (s.filtration.demand ≤ s.filtration.capacity →
       testCapacity s = { s with filtration := { s.filtration with low := false } }) ∧
     (s.filtration.capacity < s.filtration.demand → s.filtration.low = true → testCapacity s = s) ∧
     (s.filtration.capacity < s.filtration.demand → s.filtration.low = false →
       (testCapacity s).filtration = { s.filtration with low := true } ∧
       (testCapacity s).raised = s.raised ++ [{ source := 9, lot := none, cell := none, drum := none }] ∧
       s.onlyGrew (testCapacity s) [.capacityLow] ∧
       { testCapacity s with filtration := s.filtration, raised := s.raised, counters := s.counters } = s))

/-- The fines of a sealed lot: computed in full width, split evenly among the filtering drums with the residue, and unfiltered where none
filters. -/
def Obligations.FinesCredit : Prop :=
  ∀ (mass : Nat) (k : ClassNo) (s : State) (fines n : Nat), fines = mass * s.tables.cls[k].fines * 100 / 1024 →
    n = ((List.finRange 4).filter fun d => (s.drum d).state.filtering).length →
    (n = 0 →
      s.grewBy (creditFines mass k s) [(.lotFines, 1), (.finesComputed, fines), (.finesUnfiltered, fines)] ∧
      { creditFines mass k s with counters := s.counters } = s) ∧
    (n ≠ 0 →
      ∃ u, creditFines mass k s = testFines u ∧
        (∀ d, (s.drum d).state.filtering = true →
          u.drum d = { s.drum d with fines := min ((s.drum d).fines + (fines + s.filtration.residue) / n) 16777215 }) ∧
        (∀ d, (s.drum d).state.filtering = false → u.drum d = s.drum d) ∧
        u.filtration.residue = (fines + s.filtration.residue) % n ∧
        s.grewBy u [(.lotFines, 1), (.finesComputed, fines), (.finesCredited, (fines + s.filtration.residue) / n * n)] ∧
        { u with filtration := s.filtration, counters := s.counters } = s)

/-- The ends of a FLUSHING and of a SETTLING phase. A wait in FLUSH_WAIT that reaches the flush wait limit runs the arbitration; before the
limit nothing happens. The model's choice (log entry 24): a FLUSH_WAIT_LIMIT taken before its time has no effect. The model's choice (log
entry 23): an end time is reached while it lies less than 2^31 ms in the past. -/
def Obligations.DrumPhases : Prop :=
  (∀ (d : DrumNo) (e : Word) (s : State), (s.now - e).toNat < 2147483648 →
     ((s.drum d).state = .flushing e →
       ∃ u, exec (.flushTimeEnd d) s = .next (complete u) ∧
         u.filtration = { s.filtration with
           drums := s.filtration.drums.set d
             { s.drum d with state := .settling (s.now + BitVec.ofNat 32 (s.tables.drum[d].settle * 1000)) } } ∧
         (s.holds (.drum d) = true → { u with filtration := s.filtration } = s) ∧
         (s.holds (.drum d) = false → u.coalescer = (hand (.drum d) .run 0 s).coalescer ∧ u.handed = true ∧
           { u with filtration := s.filtration, coalescer := s.coalescer, handed := s.handed, counters := s.counters } = s)) ∧
     ((s.drum d).state = .settling e →
       ∃ u, exec (.settleTimeEnd d) s = .next (complete (arbitrateFlush (afterCountChange s.filteringCount u))) ∧
         (s.tables.drum[d].enabled = false →
           u.drum d = { s.drum d with fines := 0, state := .offline } ∧
           u.coalescer = (if s.holds (.drum d) then s else hand (.drum d) .stop 0 s).coalescer ∧ u.raised = s.raised) ∧
         (s.tables.drum[d].enabled = true → (s.drum d).dp < s.tables.drum[d].dpLimit →
           u.drum d = { s.drum d with fines := 0, state := .online, failed := 0 } ∧ s.onlyGrew u [.flushesGood] ∧
           { u with filtration := s.filtration, counters := s.counters } = s) ∧
         (s.tables.drum[d].enabled = true → s.tables.drum[d].dpLimit ≤ (s.drum d).dp → (s.drum d).failed + 1 < 3 →
           u.drum d = { s.drum d with fines := 0, state := .flushWait s.now, failed := (s.drum d).failed + 1 } ∧
           s.onlyGrew u [.flushesFailed] ∧ { u with filtration := s.filtration, counters := s.counters } = s) ∧
         (s.tables.drum[d].enabled = true → s.tables.drum[d].dpLimit ≤ (s.drum d).dp → 3 ≤ (s.drum d).failed + 1 →
           u.drum d = { s.drum d with fines := 0, state := .fault, failed := (s.drum d).failed + 1 } ∧
           u.raised = s.raised ++ [{ source := 8, lot := none, cell := none, drum := some d }] ∧
           u.coalescer = (if s.holds (.drum d) then s else hand (.drum d) .stop 0 s).coalescer ∧
           u.counter .drumFaults = saturatingAdd (s.counter .drumFaults) 1 ∧
           u.counter .flushesFailed = saturatingAdd (s.counter .flushesFailed) 1 ∧
           (s.notices.captured = none →
             u.notices.captured = some { kind := .drumFault, time := s.now, lot := none, cell := none, detail := some (.drum d) })) ∧
         (∀ d', d' ≠ d → u.drum d' = s.drum d'))) ∧
  (∀ (d : DrumNo) (since : Word) (s : State), (s.drum d).state = .flushWait since →
     (s.tables.filter.waitLimit * 1000 ≤ (s.now - since).toNat → exec (.flushWaitLimit d) s = .next (complete (arbitrateFlush s))) ∧
     ((s.now - since).toNat < s.tables.filter.waitLimit * 1000 → s.settledLaw → exec (.flushWaitLimit d) s = .next s))

/-- CLEAR_DRUM by the operand and the drum's state. The model's choice (log entry 33): a selector other than 0 is ignored in a command that
takes none. -/
def Obligations.ClearDrum : Prop :=
  ∀ (r : Req) (s : State), s.readyFor r → s.activity.isReloading = false →
    (3 < r.index.toNat → ∃ t, exec (.clearDrum r) s = .next t ∧ s.onlyAnswered t r 11 .badIndex []) ∧
    (∀ d : DrumNo, d.val = r.index.toNat →
      ((s.drum d).state = .online ∨ (s.drum d).state = .offline →
        ∃ t, exec (.clearDrum r) s = .next t ∧ s.answered t r 11 .ok [] [] ∧
          t.filtration = { s.filtration with drums := s.filtration.drums.set d { s.drum d with fines := 0, failed := 0 } } ∧
          { t with filtration := s.filtration, cellPort := s.cellPort, plantPort := s.plantPort, counters := s.counters } = s) ∧
      (∀ since, (s.drum d).state = .flushWait since →
        ∃ t, exec (.clearDrum r) s = .next t ∧ s.answered t r 11 .ok [] [] ∧
          t.filtration = { s.filtration with drums := s.filtration.drums.set d { s.drum d with fines := 0, failed := 0, state := .online } } ∧
          { t with filtration := s.filtration, cellPort := s.cellPort, plantPort := s.plantPort, counters := s.counters } = s) ∧
      ((s.drum d).state = .fault →
        ∃ u, exec (.clearDrum r) s =
            .next (finishRequest s.tables.node.node 11 r (.now .ok []) (arbitrateFlush (recomputeCapacity u))) ∧
          u.filtration = { s.filtration with drums := s.filtration.drums.set d { s.drum d with fines := 0, failed := 0, state := .online } } ∧
          u.coalescer = (if s.holds (.drum d) then s else hand (.drum d) .run 0 s).coalescer ∧
          { u with filtration := s.filtration, coalescer := s.coalescer, handed := s.handed, counters := s.counters } = s) ∧
      (∀ e, (s.drum d).state = .flushing e ∨ (s.drum d).state = .settling e →
        ∃ t, exec (.clearDrum r) s = .next t ∧ s.onlyAnswered t r 11 .inUse []))

/-- A COOLANT ALLOTMENT that a CLAMP entry hands over: an unknown cell node, a flow within the cell's ceiling, a flow above it, and a full
transmit queue. -/
def Obligations.CoolantClamp : Prop :=
  ∀ (p : Port) (f : Frame) (tg : Telegram) (s : State), s.mode = .operating → s.settledLaw → Telegram.parse f.payload = some tg →
    tg.kind = 0x28 → tg.body.length = 3 →
    ((byteAt tg.body 0 = 0 ∨ byteAt tg.body 0 = 255 ∨ ∀ c : CellNo, s.tables.cell[c].node ≠ byteAt tg.body 0) → s.hasRoom p.other = true →
      ∃ t, exec (.coolantAllotment p f) s = .next t ∧
        t.port p.other = { s.port p.other with queue := (s.port p.other).queue ++ [f] } ∧ t.port p = s.port p ∧
        s.onlyGrew t [.allotmentsSeen, .allotmentsUnknown] ∧
        { t with cellPort := s.cellPort, plantPort := s.plantPort, counters := s.counters } = s) ∧
    (∀ (c : CellNo) (flow ceiling : Nat), byteAt tg.body 0 ≠ 255 → s.cellOf (byteAt tg.body 0) = some c →
      flow = (halfAt tg.body 1).toNat → ceiling = s.filtration.capacity * s.tables.cell[c].share / 256 →
      (s.hasRoom p.other = true →
        ∃ u, exec (.coolantAllotment p f) s = .next (complete (testCapacity u)) ∧
          u.filtration = { s.filtration with
            allotments := s.filtration.allotments.set c (min flow ceiling)
            demand := (s.filtration.allotments.set c (min flow ceiling)).toList.sum } ∧
          u.port p = s.port p ∧
          (flow ≤ ceiling →
            u.port p.other = { s.port p.other with queue := (s.port p.other).queue ++ [f] } ∧ s.onlyGrew u [.allotmentsSeen]) ∧
          (ceiling < flow →
            u.port p.other = { s.port p.other with queue := (s.port p.other).queue ++
              [{ f with payload := (f.payload.set 5 (BitVec.ofNat 8 (ceiling / 256))).set 6 (BitVec.ofNat 8 ceiling) }] } ∧
            s.onlyGrew u [.allotmentsSeen, .allotmentsClamped]) ∧
          { u with filtration := s.filtration, cellPort := s.cellPort, plantPort := s.plantPort, counters := s.counters } = s) ∧
      (s.hasRoom p.other = false →
        ∃ t, exec (.coolantAllotment p f) s = .next t ∧
          s.onlyGrew t ([.allotmentsSeen, .forwardDropped p.other] ++ if ceiling < flow then [.allotmentsClamped] else []) ∧
          { t with counters := s.counters } = s))

/-! ### Programs, events, faults and drive commands -/

/-- START_PROGRAM: the operand, a busy engine, and a chain started with the descriptor of the table, its target held and step A issued. The
model's choice (log entry 21): the hold of GATE takes the timeout only of a travel that has a target. The model's choice (log entry 33): a
selector other than 0 is ignored in a command that takes none. -/
def Obligations.ProgramStarts : Prop :=
  ∀ (r : Req) (s : State), s.readyFor r → s.activity.isReloading = false →
    (31 < r.index.toNat → ∃ t, exec (.startProgram r) s = .next t ∧ s.onlyAnswered t r 12 .badIndex []) ∧
    (r.index.toNat ≤ 31 → s.engine.chain ≠ none → ∃ t, exec (.startProgram r) s = .next t ∧ s.onlyAnswered t r 12 .busy []) ∧
    (∀ i : ActionNo, i.val = r.index.toNat → s.engine.chain = none →
      ∃ u, exec (.startProgram r) s = .next (finishRequest s.tables.node.node 12 r (.now .ok []) u) ∧
        u.engine = { s.engine with
          chain := some {
            source := none, trigger := { lot := none, cell := none, drum := none }, desc := s.tables.action[i], index := i,
            started := 1, repetition := 1, inB := false, holdEnd := s.now + BitVec.ofNat 32 s.tables.action[i].stepA.hold,
            held := [s.tables.action[i].target] } } ∧
        (∀ sp, s.tables.action[i].target = .belt →
          sp = (if s.belt.supervisor || s.belt.crusher || s.belt.link then 0 else min s.tables.action[i].stepA.setpoint 1000) →
          u.belt = { s.belt with
            programSetpoint := some (min s.tables.action[i].stepA.setpoint 1000), selected := sp, issued := some sp } ∧
          u.coalescer = (hand .belt .run sp s).coalescer ∧
          { u with engine := s.engine, belt := s.belt, coalescer := s.coalescer, handed := s.handed, counters := s.counters } = s) ∧
        (s.tables.action[i].target = .crusher → u.head.crusher = .reversing ∧
          (∃ e ∈ u.coalescer.entries, e.target = .crusher) ∧
          ∀ e ∈ u.coalescer.entries, e.target = .crusher →
            e.mode = s.tables.action[i].stepA.mode ∧ e.setpoint = s.tables.action[i].stepA.setpoint) ∧
        (s.tables.action[i].target = .gate →
          u.head = { s.head with gate := match s.head.gate with
            | .moving (some r) start _ => .moving (some r) start true
            | g => g } ∧
          u.coalescer = (hand .gate s.tables.action[i].stepA.mode s.tables.action[i].stepA.setpoint s).coalescer ∧
          u.counter .gateMoves = s.counter .gateMoves ∧
          { u with engine := s.engine, head := s.head, coalescer := s.coalescer, handed := s.handed, counters := s.counters } = s) ∧
        (∀ d, s.tables.action[i].target = .drum d →
          u.coalescer = (hand (.drum d) s.tables.action[i].stepA.mode s.tables.action[i].stepA.setpoint s).coalescer ∧
          s.grewBy u ([(.chainsStarted, 1), (.descriptorsStarted, 1), (.stepsIssued, 1), (.commandsHanded, 1)] ++
            if s.coalescer.entries.any (fun e => e.target = .drum d) then [(.commandsMerged, 1)] else [(.entriesCreated, 1)]) ∧
          { u with engine := s.engine, coalescer := s.coalescer, handed := s.handed, counters := s.counters } = s))

/-- The expiry of a step's hold: step B, the next repetition, and nothing before the hold has passed. The model's choice (log entry 24): a
STEP_HOLD_EXPIRY taken before its time has no effect. The model's choice (log entry 23): an end time is reached while it lies less than 2^31
ms in the past. -/
def Obligations.ProgramSteps : Prop :=
  ∀ (c : Chain) (s : State), s.engine.chain = some c →
    (2147483648 ≤ (s.now - c.holdEnd).toNat → s.settledLaw → exec .stepHoldExpiry s = .next s) ∧
    (∀ st, (s.now - c.holdEnd).toNat < 2147483648 → c.inB = false → c.desc.stepB = .present st →
      ∃ u, exec .stepHoldExpiry s = .next (complete u) ∧
        u.engine = { s.engine with chain := some { c with inB := true, holdEnd := s.now + BitVec.ofNat 32 st.hold } } ∧
        (c.desc.target = .belt → u.belt.programSetpoint = some (min st.setpoint 1000)) ∧
        (c.desc.target ≠ .belt → u.coalescer = (hand c.desc.target st.mode st.setpoint s).coalescer ∧
          { u with engine := s.engine, coalescer := s.coalescer, handed := s.handed, counters := s.counters } = s)) ∧
    ((s.now - c.holdEnd).toNat < 2147483648 → (c.inB = true ∨ ∃ m sp h, c.desc.stepB = .absent m sp h) →
      s.endTestPasses c.desc = false → c.repetition < (if c.desc.repeats = 0 then 256 else c.desc.repeats.toNat) →
      ∃ u, exec .stepHoldExpiry s = .next (complete u) ∧
        u.engine = { s.engine with
          chain := some { c with
            repetition := c.repetition + 1, inB := false, holdEnd := s.now + BitVec.ofNat 32 c.desc.stepA.hold } } ∧
        (c.desc.target = .belt → u.belt.programSetpoint = some (min c.desc.stepA.setpoint 1000)) ∧
        (c.desc.target ≠ .belt → u.coalescer = (hand c.desc.target c.desc.stepA.mode c.desc.stepA.setpoint s).coalescer ∧
          { u with engine := s.engine, coalescer := s.coalescer, handed := s.handed, counters := s.counters } = s))

/-- The end of a chain with nothing pending: CLEARED by a passed end test, EXHAUSTED after the last repetition without a link or at the link
limit, ABORTED by ABORT_PROGRAM. The engine is free and keeps the outcome. The end of a chain that does not hold the crusher, with nothing
pending and no notice asked for: the held targets are released in their order, and each owner, and no other, hands its command over again:
the belt speed unit the setpoint selected without the program, the gate its target, or its route or last target where the map has none, and
each drum the command of its state. The end of a chain that holds the crusher: CLEARED starts it anew, with the start mode and the time in
force, FORWARD at the crush speed and the start counted; EXHAUSTED and ABORTED make it FAULT with STOP, the event CRUSHER_FAULT and the
major fault. No other command for the crusher waits. The notice of a chain's end: one is sent where the descriptor that runs at the end asks
for it, or the triggering source's route asks for a notice after, and none otherwise. It carries the source and its count as it stands, or
255 and 0, the outcome, and the trigger's lot, cell and drum. A freed engine serves the pending set: the trigger that is next starts its
route's present descriptor with its source and its data, and leaves the set; one whose route has no program any more is discarded and
counted, and the next one is served. The model's choice: an end time is reached while it lies less than 2^31 ms in the past (log entry 23),
and CRUSHER_FAULT is raised before an INTERLOCK_HOLD (log entry 18). The model's choice (log entry 33): a selector other than 0 is ignored
in a command that takes none. -/
def Obligations.ChainEnds : Prop :=
  ((∀ (c : Chain) (s : State), s.engine.chain = some c → (s.now - c.holdEnd).toNat < 2147483648 →
     (c.inB = true ∨ ∃ m sp h, c.desc.stepB = .absent m sp h) → (∀ i : SourceNo, s.engine.waiting[i] = none) →
     ((c.desc.endTest = .currentLow ∧ s.head.current < s.tables.crusher.clearLevel ∨
         (∃ d : DrumNo, c.desc.target = .drum d ∧ c.desc.endTest = .dpLow ∧ (s.drum d).dp < s.tables.drum[d].dpLimit)) →
       ∃ u, exec .stepHoldExpiry s = .next (complete u) ∧ u = endChain .cleared c s ∧
         u.engine = { s.engine with chain := none, lastOutcome := some .cleared } ∧
         u.counter (.chainsEnded .cleared) = saturatingAdd (s.counter (.chainsEnded .cleared)) 1) ∧
     (c.desc.endTest = .none → (if c.desc.repeats = 0 then 256 else c.desc.repeats.toNat) ≤ c.repetition → c.desc.link = none →
       ∃ u, exec .stepHoldExpiry s = .next (complete u) ∧ u = endChain .exhausted c s ∧
         u.engine = { s.engine with chain := none, lastOutcome := some .exhausted } ∧
         u.counter (.chainsEnded .exhausted) = saturatingAdd (s.counter (.chainsEnded .exhausted)) 1) ∧
     (∀ i, c.desc.endTest = .none → (if c.desc.repeats = 0 then 256 else c.desc.repeats.toNat) ≤ c.repetition → c.desc.link = some i →
       64 ≤ c.started →
       ∃ u v, exec .stepHoldExpiry s = .next (complete u) ∧ u = endChain .exhausted c v ∧
         { v with notices := s.notices, counters := s.counters } = s ∧ s.faulted v .linkLimit none none none [.linkLimits] ∧
         u.engine = { s.engine with chain := none, lastOutcome := some .exhausted } ∧
         u.counter .linkLimits = saturatingAdd (s.counter .linkLimits) 1) ∧
     (∀ i, c.desc.endTest = .none → (if c.desc.repeats = 0 then 256 else c.desc.repeats.toNat) ≤ c.repetition → c.desc.link = some i →
       c.started < 64 →
       ∃ u, exec .stepHoldExpiry s = .next (complete u) ∧
         u.engine = { s.engine with
           chain := some { c with
             desc := s.tables.action[i], index := i, started := c.started + 1, repetition := 1, inB := false,
             holdEnd := s.now + BitVec.ofNat 32 s.tables.action[i].stepA.hold,
             held := if c.held.contains s.tables.action[i].target then c.held else c.held ++ [s.tables.action[i].target] } })) ∧
   (∀ (r : Req) (s : State), s.readyFor r → s.activity.isReloading = false →
     (s.engine.chain = none → ∃ t, exec (.abortProgram r) s = .next t ∧ s.onlyAnswered t r 13 .ok []) ∧
     (∀ c, s.engine.chain = some c → (∀ i : SourceNo, s.engine.waiting[i] = none) →
       ∃ u, exec (.abortProgram r) s = .next (finishRequest s.tables.node.node 13 r (.now .ok []) u) ∧ u = endChain .aborted c s ∧
         u.engine = { s.engine with chain := none, lastOutcome := some .aborted } ∧
         u.counter (.chainsEnded .aborted) = saturatingAdd (s.counter (.chainsEnded .aborted)) 1))) ∧
  (∀ (o : ChainOutcome) (c : Chain) (s : State), s.engine.chain = some c → (∀ i : SourceNo, s.engine.waiting[i] = none) →
     c.desc.notifyAtEnd = false →
     (∀ i, c.source = some i → s.tables.route[i].notify = false ∨ s.tables.route[i].notifyAfter = false) → .crusher ∉ c.held →
     (endChain o c s).engine = { s.engine with chain := none, lastOutcome := some o } ∧
     (.belt ∉ c.held → (endChain o c s).belt = s.belt) ∧
     (∀ sp, .belt ∈ c.held →
       sp = (if s.belt.supervisor || s.belt.crusher || s.belt.link then 0
             else if s.belt.latched then s.tables.profile.overriding else s.tables.profile.primary) →
       (endChain o c s).belt = { s.belt with programSetpoint := none, selected := sp, issued := some sp } ∧
       (∃ e ∈ (endChain o c s).coalescer.entries, e.target = .belt ∧ e.mode = .run ∧ e.setpoint = sp) ∧
       (endChain o c s).counter .setpointsIssued = saturatingAdd (s.counter .setpointsIssued) 1) ∧
     (.gate ∉ c.held → (endChain o c s).head = s.head) ∧
     (.gate ∈ c.held →
       (∀ r : RouteNo,
         (s.gateTarget = some r ∨ (s.gateTarget = none ∧
           (s.head.gate = .settled r ∨ ∃ start taken, s.head.gate = .moving (some r) start taken))) →
         (endChain o c s).head = { s.head with gate := .moving (some r) s.now false } ∧
         (∃ e ∈ (endChain o c s).coalescer.entries, e.target = .gate ∧ e.mode = .move ∧ e.setpoint = r.val) ∧
         (endChain o c s).counter .gateMoves = saturatingAdd (s.counter .gateMoves) 1) ∧
       (∀ start taken, s.gateTarget = none → s.head.gate = .moving none start taken → (endChain o c s).head = s.head)) ∧
     (∀ d : DrumNo, .drum d ∈ c.held →
       ∃ e ∈ (endChain o c s).coalescer.entries, e.target = .drum d ∧ e.setpoint = 0 ∧
         e.mode = (match (s.drum d).state with
           | .online | .flushWait _ | .settling _ => .run
           | .flushing _ => .flush
           | .offline | .fault => .stop)) ∧
     (∀ t, t ∉ c.held →
       (endChain o c s).coalescer.entries.filter (fun e => e.target = t) = s.coalescer.entries.filter (fun e => e.target = t)) ∧
     (endChain o c s).counter (.chainsEnded o) = saturatingAdd (s.counter (.chainsEnded o)) 1 ∧
     { endChain o c s with
       engine := s.engine, belt := s.belt, head := s.head, coalescer := s.coalescer, counters := s.counters, handed := s.handed } = s) ∧
  (∀ (o : ChainOutcome) (c : Chain) (s : State), s.engine.chain = some c → (∀ i : SourceNo, s.engine.waiting[i] = none) →
     c.desc.notifyAtEnd = false →
     (∀ i, c.source = some i → s.tables.route[i].notify = false ∨ s.tables.route[i].notifyAfter = false) → .crusher ∈ c.held →
     (endChain o c s).engine = { s.engine with chain := none, lastOutcome := some o } ∧
     (∃ e ∈ (endChain o c s).coalescer.entries, e.target = .crusher) ∧
     (o = .cleared →
       (endChain o c s).head.startMode = s.tables.crusher.startMode ∧
       (endChain o c s).head.crusher =
         .starting s.now (match s.tables.crusher.startMode with | .confirm => 2000 | .delay => s.tables.crusher.startDelay) ∧
       (∀ e ∈ (endChain o c s).coalescer.entries, e.target = .crusher → e.mode = .forward ∧ e.setpoint = s.tables.crusher.speed) ∧
       (endChain o c s).counter .crusherStarts = saturatingAdd (s.counter .crusherStarts) 1) ∧
     (o ≠ .cleared →
       (endChain o c s).head.crusher = .fault ∧
       (∀ e ∈ (endChain o c s).coalescer.entries, e.target = .crusher → e.mode = .stop ∧ e.setpoint = 0) ∧
       (∃ more, (endChain o c s).raised = s.raised ++ { source := 2, lot := none, cell := none, drum := none } :: more) ∧
       (endChain o c s).counter (.raised .crusherFault) = saturatingAdd (s.counter (.raised .crusherFault)) 1)) ∧
  (∀ (o : ChainOutcome) (c : Chain) (s : State), s.engine.chain = some c → (∀ i : SourceNo, s.engine.waiting[i] = none) →
     ((c.desc.notifyAtEnd = true ∨ ∃ i, c.source = some i ∧ s.tables.route[i].notify = true ∧ s.tables.route[i].notifyAfter = true) →
       s.tables.node.supervisor ≠ 0 → s.hasRoom .plant = true →
       (endChain o c s).plantPort = { s.plantPort with queue := s.plantPort.queue ++
         [ownFrame s.tables.node.node s.tables.node.supervisor 0x48
           [BitVec.ofNat 8 (match c.source with | some i => i.val | none => 255),
            BitVec.ofNat 8 (match c.source with | some i => s.router.counts[i] | none => 0),
            (match o with | .cleared => 1 | .exhausted => 2 | .aborted => 3),
            BitVec.ofNat 8 (match c.trigger.lot with | some l => l.val | none => 255),
            BitVec.ofNat 8 (match c.trigger.cell with | some k => k.val | none => 255),
            BitVec.ofNat 8 (match c.trigger.drum with | some d => d.val | none => 255)]] } ∧
       (endChain o c s).counter .noticesQueued = saturatingAdd (s.counter .noticesQueued) 1) ∧
     (c.desc.notifyAtEnd = false →
       (∀ i, c.source = some i → s.tables.route[i].notify = false ∨ s.tables.route[i].notifyAfter = false) →
       (endChain o c s).plantPort = s.plantPort ∧ (endChain o c s).counter .noticesQueued = s.counter .noticesQueued)) ∧
  (∀ (o : ChainOutcome) (c : Chain) (i : SourceNo) (t : Trigger) (s : State), s.engine.chain = some c → s.nextTrigger = some i →
     s.engine.waiting[i] = some t →
     (∀ p, s.tables.route[i].program = some p →
       (endChain o c s).engine = {
         chain := some {
           source := some i, trigger := t, desc := s.tables.action[p], index := p, started := 1, repetition := 1, inB := false,
           holdEnd := s.now + BitVec.ofNat 32 s.tables.action[p].stepA.hold, held := [s.tables.action[p].target] }
         lastOutcome := some o, waiting := s.engine.waiting.set i none } ∧
       (endChain o c s).counter .chainsStarted = saturatingAdd (s.counter .chainsStarted) 1) ∧
     (s.tables.route[i].program = none →
       ((∀ j, j ≠ i → s.engine.waiting[j] = none) →
         (endChain o c s).engine = { chain := none, lastOutcome := some o, waiting := s.engine.waiting.set i none } ∧
         (endChain o c s).counter .triggersDiscarded = saturatingAdd (s.counter .triggersDiscarded) 1) ∧
       (∀ j tj p, (dropTrigger i s).nextTrigger = some j → s.engine.waiting[j] = some tj → s.tables.route[j].program = some p →
         (endChain o c s).engine = {
           chain := some {
             source := some j, trigger := tj, desc := s.tables.action[p], index := p, started := 1, repetition := 1, inB := false,
             holdEnd := s.now + BitVec.ofNat 32 s.tables.action[p].stepA.hold, held := [s.tables.action[p].target] }
           lastOutcome := some o, waiting := (s.engine.waiting.set i none).set j none } ∧
         (endChain o c s).counter .triggersDiscarded = saturatingAdd (s.counter .triggersDiscarded) 1)))

/-- An occurrence that a completed operation raised: dropped in LOADING, and otherwise counted and flagged, with the override latched, and
with a notice where the route asks for one and the flag was clear. The route here starts no program. An occurrence whose route starts a
program: after the count and the override, the trigger starts the route's descriptor in a free engine, with the occurrence's source and
data, and pends in a busy one; the notice that the route asks for is sent last. An override and a notice of one route, in that order. The
pending trigger served next: the lowest-numbered urgent source, or with none urgent the lowest-numbered source. A LINE NOTICE: its frame,
the supervisor address 0, and a full plant transmit queue. -/
def Obligations.OccurrencesAndNotices : Prop :=
  (∀ (o : Occurrence) (s : State), s.raised = [o] →
     (s.mode = .loading → routeAll s = { s with raised := [] }) ∧
     (s.mode = .operating → s.tables.route[o.source].program = none →
       ∃ u, u.router = { flags := s.router.flags.set o.source true,
                         counts := s.router.counts.set o.source (min (s.router.counts[o.source] + 1) 255) } ∧
         s.onlyGrew u [.occurrences o.source] ∧ u.raised = [] ∧ { u with router := s.router, counters := s.counters, raised := s.raised } = s ∧
         (s.tables.route[o.source].overriding = true → s.tables.route[o.source].notify = false → routeAll s = latchOverride u) ∧
         (s.tables.route[o.source].overriding = false →
           (s.tables.route[o.source].notify = true → s.tables.route[o.source].notifyAfter = false → s.router.flags[o.source] = false →
             routeAll s = sendNotice (some o.source) (min (s.router.counts[o.source] + 1) 255) none
               { lot := o.lot, cell := o.cell, drum := o.drum } u) ∧
           (s.tables.route[o.source].notify = false ∨ s.tables.route[o.source].notifyAfter = true ∨ s.router.flags[o.source] = true →
             routeAll s = u)))) ∧
  ((∀ (o : Occurrence) (s : State), s.raised = [o] → s.mode = .operating →
      ∃ u v, u.router = { flags := s.router.flags.set o.source true,
                          counts := s.router.counts.set o.source (min (s.router.counts[o.source] + 1) 255) } ∧
        s.onlyGrew u [.occurrences o.source] ∧ { u with router := s.router, counters := s.counters, raised := [o] } = s ∧ u.raised = [] ∧
        v = (if s.tables.route[o.source].overriding = true then latchOverride u else u) ∧
        (s.tables.route[o.source].program = none →
          (s.tables.route[o.source].notify = true → s.tables.route[o.source].notifyAfter = false → s.router.flags[o.source] = false →
            routeAll s = sendNotice (some o.source) (min (s.router.counts[o.source] + 1) 255) none
              { lot := o.lot, cell := o.cell, drum := o.drum } v) ∧
          (s.tables.route[o.source].notify = false ∨ s.tables.route[o.source].notifyAfter = true ∨ s.router.flags[o.source] = true →
            routeAll s = v)) ∧
        (∀ p w, s.tables.route[o.source].program = some p → w = trigger o.source p { lot := o.lot, cell := o.cell, drum := o.drum } v →
          (s.engine.chain ≠ none ∨ s.tables.action[p].target ≠ .crusher) →
          (s.tables.route[o.source].notify = true → s.tables.route[o.source].notifyAfter = false → s.router.flags[o.source] = false →
            routeAll s = sendNotice (some o.source) (min (s.router.counts[o.source] + 1) 255) none
              { lot := o.lot, cell := o.cell, drum := o.drum } w) ∧
          (s.tables.route[o.source].notify = false ∨ s.tables.route[o.source].notifyAfter = true ∨ s.router.flags[o.source] = true →
            routeAll s = w))) ∧
   (∀ (i : SourceNo) (p : ActionNo) (t : Trigger) (s : State), s.engine.chain = none →
      (trigger i p t s).engine = { s.engine with
        chain := some {
          source := some i, trigger := t, desc := s.tables.action[p], index := p, started := 1, repetition := 1, inB := false,
          holdEnd := s.now + BitVec.ofNat 32 s.tables.action[p].stepA.hold, held := [s.tables.action[p].target] } } ∧
      (trigger i p t s).counter .chainsStarted = saturatingAdd (s.counter .chainsStarted) 1 ∧
      (∀ d, s.tables.action[p].target = .drum d →
        (trigger i p t s).coalescer = (hand (.drum d) s.tables.action[p].stepA.mode s.tables.action[p].stepA.setpoint s).coalescer ∧
        { trigger i p t s with engine := s.engine, coalescer := s.coalescer, handed := s.handed, counters := s.counters } = s))) ∧
  ((∀ (i : SourceNo) (t : Trigger) (s : State), s.engine.waiting[i] = some t →
     (s.tables.route[i].urgent = true →
       (∀ j < i, s.engine.waiting[j] ≠ none → s.tables.route[j].urgent = false) → s.nextTrigger = some i) ∧
     ((∀ j : SourceNo, s.engine.waiting[j] ≠ none → s.tables.route[j].urgent = false) →
       (∀ j < i, s.engine.waiting[j] = none) → s.nextTrigger = some i)) ∧
   (∀ (i : SourceNo) (p : ActionNo) (t : Trigger) (s : State), s.engine.chain ≠ none →
     (s.engine.waiting[i] = none →
       (trigger i p t s).engine = { s.engine with waiting := s.engine.waiting.set i (some t) } ∧
       s.onlyGrew (trigger i p t s) [.triggersPended] ∧ { trigger i p t s with engine := s.engine, counters := s.counters } = s) ∧
     (s.engine.waiting[i] ≠ none →
       s.onlyGrew (trigger i p t s) [.triggersAbsorbed] ∧ { trigger i p t s with counters := s.counters } = s))) ∧
  (∀ (src : Option SourceNo) (count : Nat) (outcome : Option ChainOutcome) (tr : Trigger) (s : State),
     (s.tables.node.supervisor = 0 →
       s.onlyGrew (sendNotice src count outcome tr s) [.noticesUnaddressed] ∧
       { sendNotice src count outcome tr s with counters := s.counters } = s) ∧
     (s.tables.node.supervisor ≠ 0 → s.hasRoom .plant = true →
       (sendNotice src count outcome tr s).plantPort = { s.plantPort with queue := s.plantPort.queue ++
         [ownFrame s.tables.node.node s.tables.node.supervisor 0x48 [BitVec.ofNat 8 (absentOr src), BitVec.ofNat 8 count,
           BitVec.ofNat 8 (outcomeCode outcome), BitVec.ofNat 8 (absentOr tr.lot), BitVec.ofNat 8 (absentOr tr.cell),
           BitVec.ofNat 8 (absentOr tr.drum)]] } ∧
       s.onlyGrew (sendNotice src count outcome tr s) [.noticesQueued] ∧
       { sendNotice src count outcome tr s with plantPort := s.plantPort, counters := s.counters } = s) ∧
     (s.tables.node.supervisor ≠ 0 → s.hasRoom .plant = false →
       s.faulted (sendNotice src count outcome tr s) .ownTelegramLost none none (some (.port .plant)) [.ownLost .plant] ∧
       { sendNotice src count outcome tr s with notices := s.notices, counters := s.counters } = s))

/-- ACK_EVENT clears the flag and the count of one source, or with 255 of all, and nothing else. CLEAR_FAULT empties the record, and
CLEAR_COUNTERS every counter; the count of the CLEAR_COUNTERS request itself follows the clear (the model's order). First-fault capture: the
record takes the first fault, a later one only sets its further flag, and a suppressed minor fault is only counted. A counter grows by the
whole amount or up to its maximum, and no other counter changes. The model's choice (log entry 33): a selector other than 0 is ignored in a
command that takes none. -/
def Obligations.ClearingCommands : Prop :=
  (∀ (r : Req) (s : State), s.readyFor r → s.activity.isReloading = false →
     (∀ i : SourceNo, i.val = r.index.toNat →
       ∃ t, exec (.ackEvent r) s = .next t ∧ s.answered t r 8 .ok [] [] ∧
         t.router = { flags := s.router.flags.set i false, counts := s.router.counts.set i 0 } ∧
         { t with router := s.router, cellPort := s.cellPort, plantPort := s.plantPort, counters := s.counters } = s) ∧
     (r.index = 255 →
       ∃ t, exec (.ackEvent r) s = .next t ∧ s.answered t r 8 .ok [] [] ∧
         (∀ i : SourceNo, t.router.flags[i] = false ∧ t.router.counts[i] = 0) ∧
         { t with router := s.router, cellPort := s.cellPort, plantPort := s.plantPort, counters := s.counters } = s) ∧
     (15 < r.index.toNat → r.index ≠ 255 → ∃ t, exec (.ackEvent r) s = .next t ∧ s.onlyAnswered t r 8 .badIndex [])) ∧
  (∀ (r : Req) (s : State), s.readyFor r → s.activity.isReloading = false →
     (∃ t, exec (.clearFault r) s = .next t ∧ s.answered t r 9 .ok [] [] ∧
       t.notices = { s.notices with captured := none, furtherMajor := false, furtherMinor := false } ∧
       { t with notices := s.notices, cellPort := s.cellPort, plantPort := s.plantPort, counters := s.counters } = s) ∧
     (∃ t, exec (.clearCounters r) s = .next t ∧
       (∀ c, t.counter c = if c = .requestsServed then 1 else 0) ∧
       (t.port r.port).queue = (s.port r.port).queue ++ [s.replyFrame r 14 .ok []] ∧ t.port r.port.other = s.port r.port.other ∧
       { t with cellPort := s.cellPort, plantPort := s.plantPort, counters := s.counters } = s)) ∧
  (∀ (k : FaultKind) (lot : Option LotNo) (cell : Option CellNo) (detail : Option Detail) (s : State),
     (k ∈ [FaultKind.misroute, .crusherFault, .drumFault, .ownTelegramLost, .linkLimit, .imageBad] ↔ k.isMajor = true) ∧
     s.faulted (raiseFault k lot cell detail s) k lot cell detail [] ∧
     { raiseFault k lot cell detail s with notices := s.notices, counters := s.counters } = s) ∧
  (∀ (c d : Counter) (n : Nat) (s : State),
     ((bumpBy c n s).counter c).toNat = min ((s.counter c).toNat + n) 4294967295 ∧
     (d ≠ c → (bumpBy c n s).counter d = s.counter d) ∧ { bumpBy c n s with counters := s.counters } = s)

/-- A drive command handed to the coalescer is merged into its target's entry or creates one at the end of the list. The entry an unload
takes, and the counter of its condition. The coalescer's test unloads until no unload is called for, or the plant transmit queue is full and
the waiting flag stands. It touches nothing but its list, the plant transmit queue and the counters. A single entry that is not urgent
leaves when its age reaches the age limit: its DRIVE COMMAND goes to the target's drive node, or the entry is removed unaddressed where that
node is 0, or it waits for room. The model's choice (log entry 24): a COALESCE_AGE_LIMIT taken before its time has no effect. -/
def Obligations.DriveCommands : Prop :=
  (∀ (tg : Target) (m : Mode) (sp : Nat) (urgent : Bool) (s : State), urgent = (decide (m = .stop) || decide (sp = 0)) →
     ((∀ e ∈ s.coalescer.entries, e.target ≠ tg) →
       (hand tg m sp s).coalescer = { s.coalescer with entries := s.coalescer.entries ++
         [{ target := tg, mode := m, setpoint := sp, created := s.now, urgent := urgent }] } ∧
       s.onlyGrew (hand tg m sp s) [.commandsHanded, .entriesCreated]) ∧
     (∀ (before rest : List Entry) (e : Entry), s.coalescer.entries = before ++ e :: rest → e.target = tg →
       (∀ x ∈ before ++ rest, x.target ≠ tg) →
       (hand tg m sp s).coalescer = { s.coalescer with entries :=
         before ++ { e with mode := m, setpoint := sp, urgent := e.urgent || urgent } :: rest } ∧
       s.onlyGrew (hand tg m sp s) [.commandsHanded, .commandsMerged]) ∧
     (hand tg m sp s).handed = true ∧
     { hand tg m sp s with coalescer := s.coalescer, counters := s.counters, handed := s.handed } = s) ∧
  (∀ s : State,
     (s.coalescer.entries = [] → s.unloadCalled = none) ∧
     (∀ (before rest : List Entry) (e : Entry), s.coalescer.entries = before ++ e :: rest → (∀ x ∈ before, x.urgent = false) →
       e.urgent = true → s.unloadCalled = some (e, .unloadsUrgent)) ∧
     (∀ (e : Entry) (rest : List Entry), s.coalescer.entries = e :: rest → (∀ x ∈ e :: rest, x.urgent = false) →
       (rest ≠ [] → s.unloadCalled = some (e, .unloadsByCount)) ∧
       (rest = [] → s.tables.coalesceAge ≤ (s.now - e.created).toNat → s.unloadCalled = some (e, .unloadsByAge)) ∧
       (rest = [] → (s.now - e.created).toNat < s.tables.coalesceAge → s.unloadCalled = none))) ∧
  (∀ s : State,
     ((unloadTest s).unloadCalled = none ∨ ((unloadTest s).hasRoom .plant = false ∧ (unloadTest s).coalescer.waiting = true)) ∧
     (∀ e ∈ (unloadTest s).coalescer.entries, e ∈ s.coalescer.entries) ∧
     (∃ fs, (unloadTest s).plantPort = { s.plantPort with queue := s.plantPort.queue ++ fs }) ∧
     { unloadTest s with coalescer := s.coalescer, plantPort := s.plantPort, counters := s.counters } = s) ∧
  (∀ (e : Entry) (s : State), s.coalescer = { entries := [e], waiting := false } → e.urgent = false →
     ((s.now - e.created).toNat < s.tables.coalesceAge → exec .coalesceAgeLimit s = .next s) ∧
     (s.tables.coalesceAge ≤ (s.now - e.created).toNat →
       (s.driveNode e.target ≠ 0 → s.hasRoom .plant = true →
         ∃ t, exec .coalesceAgeLimit s = .next t ∧ t.coalescer = { entries := [], waiting := false } ∧
           t.plantPort = { s.plantPort with queue := s.plantPort.queue ++ [s.driveFrame e.target e.mode e.setpoint] } ∧
           s.onlyGrew t [.unloadsByAge, .commandsSent] ∧
           { t with coalescer := s.coalescer, plantPort := s.plantPort, counters := s.counters } = s) ∧
       (s.driveNode e.target = 0 →
         ∃ t, exec .coalesceAgeLimit s = .next t ∧ t.coalescer = { entries := [], waiting := false } ∧
           s.onlyGrew t [.commandsUnaddressed] ∧ { t with coalescer := s.coalescer, counters := s.counters } = s) ∧
       (s.driveNode e.target ≠ 0 → s.hasRoom .plant = false →
         ∃ t, exec .coalesceAgeLimit s = .next t ∧ t.coalescer = { entries := [e], waiting := true } ∧
           s.onlyGrew t [.unloadWaits] ∧ { t with coalescer := s.coalescer, counters := s.counters } = s)))

/-! ### Reads and writes -/

/-- READ_IDENT, READ_ENTRY and the areas of READ_STATE are answered, each area byte by byte as its rule lists it, and change nothing else.
The areas of READ_STATE that take an operand, with the operands that each refuses. The model's choice: the two flags and the order of the
two halves of area BELT and the timeout-taken flag of area GATE (log entry 10), the count of a PITCHES read checked before its start (log
entry 14), a COUNTERS read that shows requests served without its own count (log entry 17), the value byte 0 beside detail kind NONE in a
valid fault record (log entry 29), and the mass and the lots of each route in turn in area ROUTES (log entry 31). The model's choice (log
entry 33): a selector other than 0 is ignored in a command that takes none. -/
def Obligations.ReadsAnswered : Prop :=
  (∀ (r : Req) (s : State), s.readyFor r →
     (∃ t, exec (.readIdent r) s = .next t ∧ s.onlyAnswered t r 1 .ok [0x34, 0x22, 0x01]) ∧
     (13 < r.selector.toNat → ∃ t, exec (.readEntry r) s = .next t ∧ s.onlyAnswered t r 2 .badTable []) ∧
     (∀ n, tableSize r.selector.toNat = some n →
       (n ≤ r.index.toNat → ∃ t, exec (.readEntry r) s = .next t ∧ s.onlyAnswered t r 2 .badIndex []) ∧
       (r.index.toNat < n →
         ∃ t, exec (.readEntry r) s = .next t ∧ s.onlyAnswered t r 2 .ok (s.entryBytes r.selector.toNat r.index.toNat))) ∧
     (∃ t, exec (.readStateCrusher r) s = .next t ∧ s.onlyAnswered t r 4 .ok
       ([(match s.head.crusher with | .off => 0 | .starting _ _ => 1 | .running _ => 2 | .stalled => 3 | .reversing => 4 | .fault => 5),
         (match s.head.startMode with | .confirm => 0 | .delay => 1), BitVec.ofNat 8 s.head.jam] ++ byte2 s.head.current ++
         [if s.head.confirm then 1 else 0] ++ byte4 s.head.approach ++ [if s.head.surge then 1 else 0, if s.belt.crusher then 1 else 0])) ∧
     (∃ t, exec (.readStateGate r) s = .next t ∧ s.onlyAnswered t r 4 .ok
       ((match s.head.gate with
         | .settled g => [0, BitVec.ofNat 8 g.val]
         | .moving (some g) _ _ => [1, BitVec.ofNat 8 g.val]
         | .moving none _ _ => [1, 255]) ++
         [(match s.gateTarget with | some g => BitVec.ofNat 8 g.val | none => 255),
          (match s.head.lastPosition with | some p => p | none => 255)] ++
         (match s.head.gate with
          | .settled _ => [0, 0, 0, 0, 0]
          | .moving _ start taken => byte4 (s.now - start).toNat ++ [if taken then 1 else 0]) ++
         [if s.holds .gate then 1 else 0])) ∧
     (∃ t, exec (.readStateBelt r) s = .next t ∧ s.onlyAnswered t r 4 .ok
       ((match s.tracker.last with | some w => [1] ++ byte4 w.toNat | none => [0, 0, 0, 0, 0]) ++ byte2 s.tracker.acc ++
         [if s.belt.supervisor then 1 else 0, if s.belt.crusher then 1 else 0, if s.belt.link then 1 else 0,
          if s.belt.latched then 1 else 0] ++ byte2 s.belt.seconds ++
         (match s.belt.programSetpoint with | some v => byte2 v | none => [255, 255]) ++ byte2 s.belt.selected ++
         [if s.belt.supervisor || s.belt.crusher || s.belt.link then 0
          else if s.belt.programSetpoint.isSome then 1 else if s.belt.latched then 2 else 3] ++
         (match s.belt.issued with | some v => byte2 v | none => [255, 255]))) ∧
     (∃ t, exec (.readStateProgram r) s = .next t ∧ s.onlyAnswered t r 4 .ok
       ((match s.engine.chain with
         | none => ([0, 255, 255, 0, 0, 0, 0, 0, 0, 0, 0, 0, 0] : List Byte) ++ List.replicate 7 0
         | some c =>
           ([1, (match c.source with | some i => BitVec.ofNat 8 i.val | none => 255), BitVec.ofNat 8 c.index.val,
             BitVec.ofNat 8 c.started] : List Byte) ++ byte2 c.repetition ++ byte2 (if c.desc.repeats = 0 then 256 else c.desc.repeats.toNat) ++
             [if c.inB then 1 else 0] ++ byte4 (c.holdEnd - s.now).toNat ++
             [Target.belt, .crusher, .gate, .drum 0, .drum 1, .drum 2, .drum 3].map fun t => (if t ∈ c.held then 1 else 0 : Byte)) ++
         ([(match s.engine.lastOutcome with | none => 0 | some .cleared => 1 | some .exhausted => 2 | some .aborted => 3)] : List Byte) ++
         (List.finRange 16).map fun i => (if s.engine.waiting[i].isSome then 1 else 0 : Byte))) ∧
     (∃ t, exec (.readStateFault r) s = .next t ∧ s.onlyAnswered t r 4 .ok
       ((match s.notices.captured with
         | none => [0, 0, 0, 0, 0, 0, 255, 255, 0, 0]
         | some f =>
           [1, BitVec.ofNat 8 ([FaultKind.misroute, .crusherFault, .drumFault, .ownTelegramLost, .linkLimit, .imageBad,
               .uncrushedDelivery, .beltImplausible, .lateMass, .strayReport, .foreignSample, .gateTimeout].idxOf f.kind)] ++
             byte4 f.time.toNat ++
             [(match f.lot with | some l => BitVec.ofNat 8 l.val | none => 255),
              (match f.cell with | some c => BitVec.ofNat 8 c.val | none => 255)] ++
             (match f.detail with
              | none => [0, 0]
              | some (.drum d) => [1, BitVec.ofNat 8 d.val]
              | some (.port .cell) => [2, 0]
              | some (.port .plant) => [2, 1])) ++
         [if s.notices.furtherMajor then 1 else 0, if s.notices.furtherMinor then 1 else 0])) ∧
     (∃ t, exec (.readStateRoutes r) s = .next t ∧ s.onlyAnswered t r 4 .ok
       ((List.finRange 8).flatMap (fun i => byte4 (s.counter (.routeMass i)).toNat ++ byte4 (s.counter (.routeLots i)).toNat) ++
         byte4 (s.counter .unrouted).toNat ++ byte4 (s.counter .contaminated).toNat)) ∧
     (∃ t, exec (.readStateCauses r) s = .next t ∧ s.onlyAnswered t r 4 .ok
       [if s.notices.causePowerOn then 1 else 0, if s.notices.causePin then 1 else 0, if s.notices.causeRestart then 1 else 0])) ∧
  (∀ (r : Req) (s : State), s.readyFor r →
     (r.count = 0 ∨ 16 < r.count.toNat → ∃ t, exec (.readStatePitches r) s = .next t ∧ s.onlyAnswered t r 4 .badValue []) ∧
     (1 ≤ r.count.toNat → r.count.toNat ≤ 16 →
       (s.tables.belt.length ≤ r.index.toNat ∨ s.tables.belt.length < r.index.toNat + r.count.toNat →
         ∃ t, exec (.readStatePitches r) s = .next t ∧ s.onlyAnswered t r 4 .badIndex []) ∧
       (r.index.toNat + r.count.toNat ≤ s.tables.belt.length →
         ∃ t, exec (.readStatePitches r) s = .next t ∧
           s.onlyAnswered t r 4 .ok (((s.tracker.map.drop r.index.toNat).take r.count.toNat).flatMap fun p => match p with
             | .empty => [0, 255, 255]
             | .reserved l k => [1, BitVec.ofNat 8 l.val, BitVec.ofNat 8 k.val]
             | .loaded l k => [2, BitVec.ofNat 8 l.val, BitVec.ofNat 8 k.val]))) ∧
     (63 < r.index.toNat → ∃ t, exec (.readStateLot r) s = .next t ∧ s.onlyAnswered t r 4 .badIndex []) ∧
     (∀ l : LotNo, l.val = r.index.toNat → ∃ t, exec (.readStateLot r) s = .next t ∧ s.onlyAnswered t r 4 .ok
       (match s.lots[l] with
        | .free o => [0, (match o with | some c => BitVec.ofNat 8 c.val | none => 255)] ++ List.replicate 15 0
        | .active a =>
          [(match a.state with | .loading => 1 | .riding => 2 | .delivering => 3), BitVec.ofNat 8 a.cell.val, BitVec.ofNat 8 a.cls.val,
            BitVec.ofNat 8 a.requested, BitVec.ofNat 8 a.length, BitVec.ofNat 8 a.loaded, BitVec.ofNat 8 a.delivered] ++
            byte2 a.mass ++ byte2 a.credited ++ [if a.contaminated then 1 else 0, if a.massFinal then 1 else 0] ++
            byte2 (a.mass / a.length) ++ byte2 (a.mass / a.length + a.mass % a.length))) ∧
     (23 < r.index.toNat → ∃ t, exec (.readStateRequest r) s = .next t ∧ s.onlyAnswered t r 4 .badIndex []) ∧
     (∀ (c : CellNo) (q : Request), c.val = r.index.toNat → s.request c = some q →
       ∃ t, exec (.readStateRequest r) s = .next t ∧ s.onlyAnswered t r 4 .ok
         (byte1 1 ++ byte1 q.cls.val ++ byte1 q.length ++ byte2 q.mass ++ byte1 (if q.urgent then 1 else 0) ++
           byte4 (s.now - q.arrival).toNat ++ byte1 s.requestCount ++ byte1 s.arbiter.pointer.val ++
           byte1 (absentOr s.tables.belt.priority))) ∧
     (∀ c : CellNo, c.val = r.index.toNat → s.request c = none →
       ∃ t, exec (.readStateRequest r) s = .next t ∧ s.onlyAnswered t r 4 .ok
         (List.replicate 10 0 ++ byte1 s.requestCount ++ byte1 s.arbiter.pointer.val ++ byte1 (absentOr s.tables.belt.priority))) ∧
     (3 < r.index.toNat → r.index ≠ 255 → ∃ t, exec (.readStateDrum r) s = .next t ∧ s.onlyAnswered t r 4 .badIndex []) ∧
     (∀ d : DrumNo, d.val = r.index.toNat → ∃ t, exec (.readStateDrum r) s = .next t ∧ s.onlyAnswered t r 4 .ok
       ([(match (s.drum d).state with
          | .offline => 0 | .online => 1 | .flushWait _ => 2 | .flushing _ => 3 | .settling _ => 4 | .fault => 5)] ++
         byte4 (s.drum d).fines ++ byte2 (s.drum d).dp ++ [BitVec.ofNat 8 (s.drum d).failed] ++
         (match (s.drum d).state with | .flushWait since => byte4 (s.now - since).toNat | _ => [0, 0, 0, 0]) ++
         (match (s.drum d).state with
          | .flushing e => byte4 (e - s.now).toNat
          | .settling e => byte4 (e - s.now).toNat
          | _ => [0, 0, 0, 0]) ++
         [if s.holds (.drum d) then 1 else 0])) ∧
     (r.index = 255 → ∃ t, exec (.readStateDrum r) s = .next t ∧ s.onlyAnswered t r 4 .ok
       ([BitVec.ofNat 8 s.filtration.residue,
         BitVec.ofNat 8 ((List.finRange 4).filter fun d => (s.drum d).state.filtering).length] ++ byte2 s.filtration.capacity ++
         byte4 s.filtration.demand ++ [if s.filtration.low then 1 else 0, BitVec.ofNat 8 s.filtration.lastFlushed.val] ++
         (List.finRange 24).flatMap fun c => byte2 s.filtration.allotments[c])) ∧
     (15 < r.index.toNat → r.index ≠ 255 → ∃ t, exec (.readStateEvent r) s = .next t ∧ s.onlyAnswered t r 4 .badIndex []) ∧
     (∀ i : SourceNo, i.val = r.index.toNat →
       ∃ t, exec (.readStateEvent r) s = .next t ∧ s.onlyAnswered t r 4 .ok
         [if s.router.flags[i] then 1 else 0, BitVec.ofNat 8 s.router.counts[i], if s.engine.waiting[i].isSome then 1 else 0]) ∧
     (r.index = 255 →
       ∃ t, exec (.readStateEvent r) s = .next t ∧ s.onlyAnswered t r 4 .ok
         ((List.finRange 16).map (fun i => (if s.router.flags[i] then 1 else 0 : Byte)) ++
           (List.finRange 16).map (fun i => BitVec.ofNat 8 s.router.counts[i]))) ∧
     (10 < r.index.toNat → ∃ t, exec (.readStateCounters r) s = .next t ∧ s.onlyAnswered t r 4 .badIndex []) ∧
     (∀ start n, groupRange r.index.toNat = some (start, n) →
       ∃ t, exec (.readStateCounters r) s = .next t ∧ s.onlyAnswered t r 4 .ok (counterRun start n s)) ∧
     (r.index = 2 →
       ∃ t, exec (.readStateCounters r) s = .next t ∧ s.onlyAnswered t r 4 .ok
         (([Counter.requestsAdded, .requestsReplaced, .requestsUrgent] ++ Reason.all.map Counter.refusals ++
           [Counter.passes, Counter.upstreamSkips, Counter.notFeasible, Counter.dischargeDiscarded]).flatMap fun c => byte4 (s.counter c).toNat)))

/-- WRITE_ENTRY is the write of the table its selector names, with the fields of its entry data, and is answered BAD_TABLE above 13. -/
def Obligations.WriteEntryIsItsTable : Prop :=
  ∀ (r : Req) (l : List Byte) (s : State),
    (∀ k row, (k, row) ∈
        [(0, Instr.writeClassify r (RawClassify.ofBytes l)), (1, .writeCell r (RawCell.ofBytes l)), (2, .writeClass r (RawClass.ofBytes l)),
         (3, .writePlant r (RawPlant.ofBytes l)), (4, .writeBelt r (RawBelt.ofBytes l)), (5, .writeProfile r (RawProfile.ofBytes l)),
         (6, .writeCrusher r (RawCrusher.ofBytes l)), (7, .writeDrum r (RawDrum.ofBytes l)), (8, .writeFilter r (RawFilter.ofBytes l)),
         (9, .writeAction r (RawAction.ofBytes l)), (10, .writeEventroute r (RawRoute.ofBytes l)), (11, .writePort r (RawPort.ofBytes l)),
         (12, .writeCoalesce r (RawCoalesce.ofBytes l)), (13, .writeNode r (RawNode.ofBytes l))] →
      r.selector = BitVec.ofNat 8 k → exec (.writeEntry r l) s = exec row s) ∧
    (13 < r.selector.toNat → s.readyFor r → ∃ t, exec (.writeEntry r l) s = .next t ∧ s.onlyAnswered t r 3 .badTable []) ∧
    (∀ i : Fin 32, r.selector = 0 → r.index = BitVec.ofNat 8 i.val → s.readyFor r → s.activity = .idle →
      ∀ v, checkClassify (RawClassify.ofBytes l) = some v →
      ∃ t, exec (.writeEntry r l) s = .next t ∧ t.tables = { s.tables with classify := s.tables.classify.set i v } ∧
        s.answered t r 3 .ok [] [] ∧
        { t with tables := s.tables, cellPort := s.cellPort, plantPort := s.plantPort, counters := s.counters } = s)

/-- The writes that change nothing but their entry: CLASSIFY, PLANT, ACTION, EVENTROUTE and NODE, and CELL where its rule allows it. The
reply to a NODE write still carries the old node address. -/
def Obligations.PlainWrites : Prop :=
  ∀ (r : Req) (s : State), s.readyFor r → s.activity = .idle →
    (∀ (i : Fin 32) e v, i.val = r.index.toNat → checkClassify e = some v →
      ∃ t, exec (.writeClassify r e) s = .next t ∧ t.tables = { s.tables with classify := s.tables.classify.set i v } ∧
        s.answered t r 3 .ok [] [] ∧
        { t with tables := s.tables, cellPort := s.cellPort, plantPort := s.plantPort, counters := s.counters } = s) ∧
    (∀ (i : CellNo) e v, i.val = r.index.toNat → checkCell s.tables.belt.length e = some v →
      (∀ j : CellNo, j ≠ i → v.node ≠ 0 → s.tables.cell[j].node ≠ v.node) →
      ((s.request i = none ∧ s.loadingLot i = none) ∨
        (v.dropPoint = s.tables.cell[i].dropPoint ∧ v.node = s.tables.cell[i].node ∧
          (s.tables.cell[i].enrolled = true → v.enrolled = true)) →
        ∃ t, exec (.writeCell r e) s = .next t ∧ t.tables = { s.tables with cell := s.tables.cell.set i v } ∧
          s.answered t r 3 .ok [] [] ∧
          { t with tables := s.tables, cellPort := s.cellPort, plantPort := s.plantPort, counters := s.counters } = s) ∧
      (¬(s.request i = none ∧ s.loadingLot i = none) →
        (v.dropPoint ≠ s.tables.cell[i].dropPoint ∨ v.node ≠ s.tables.cell[i].node ∨
          (s.tables.cell[i].enrolled = true ∧ v.enrolled = false)) →
        ∃ t, exec (.writeCell r e) s = .next t ∧ s.onlyAnswered t r 3 .inUse [])) ∧
    (∀ e, r.index = 0 → e.encoder ≠ 255 → e.beltDrive ≠ 255 → e.crusher ≠ 255 → e.gate ≠ 255 → e.skid ≠ 255 →
      ∃ t, exec (.writePlant r e) s = .next t ∧
        t.tables = { s.tables with
          plant := { encoder := e.encoder, beltDrive := e.beltDrive, crusher := e.crusher, gate := e.gate, skid := e.skid } } ∧
        s.answered t r 3 .ok [] [] ∧
        { t with tables := s.tables, cellPort := s.cellPort, plantPort := s.plantPort, counters := s.counters } = s) ∧
    (∀ (i : ActionNo) e v, i.val = r.index.toNat → checkAction e = some v →
      ∃ t, exec (.writeAction r e) s = .next t ∧ t.tables = { s.tables with action := s.tables.action.set i v } ∧
        s.answered t r 3 .ok [] [] ∧
        { t with tables := s.tables, cellPort := s.cellPort, plantPort := s.plantPort, counters := s.counters } = s) ∧
    (∀ (i : SourceNo) e v, i.val = r.index.toNat → checkRoute e = some v →
      ∃ t, exec (.writeEventroute r e) s = .next t ∧ t.tables = { s.tables with route := s.tables.route.set i v } ∧
        s.answered t r 3 .ok [] [] ∧
        { t with tables := s.tables, cellPort := s.cellPort, plantPort := s.plantPort, counters := s.counters } = s) ∧
    (∀ e v, r.index = 0 → checkNode e = some v →
      ∃ t, exec (.writeNode r e) s = .next t ∧ t.tables = { s.tables with node := v } ∧ s.answered t r 3 .ok [] [] ∧
        { t with tables := s.tables, cellPort := s.cellPort, plantPort := s.plantPort, counters := s.counters } = s)

/-- The writes with effects beside their entry, each taken on the state with the new entry: CLASS, BELT, PROFILE, CRUSHER, FILTER, PORT and
COALESCE. The model's choice (log entry 19): where a BELT write changes both P and CPP, the map is rebuilt and the accumulator set to 0. -/
def Obligations.WritesWithEffects : Prop :=
  ∀ (r : Req) (s : State), s.readyFor r → s.activity = .idle →
    (∀ (i : ClassNo) e v u, i.val = r.index.toNat → checkClass e = some v →
      u = { s with tables := { s.tables with cls := s.tables.cls.set i v } } →
      (v.route = s.tables.cls[i].route → v.mode = s.tables.cls[i].mode →
        exec (.writeClass r e) s = .next (finishRequest s.tables.node.node 3 r (.now .ok []) u)) ∧
      (v.route ≠ s.tables.cls[i].route ∨ v.mode ≠ s.tables.cls[i].mode →
        exec (.writeClass r e) s = .next (finishRequest s.tables.node.node 3 r (.now .ok []) (interlock (evalGate u))))) ∧
    (∀ e v, r.index = 0 → checkBelt e = some v →
      (v.length ≠ s.tables.belt.length → (∃ c : CellNo, v.length ≤ s.tables.cell[c].dropPoint) →
        ∃ t, exec (.writeBelt r e) s = .next t ∧ s.onlyAnswered t r 3 .badValue []) ∧
      ((v.length = s.tables.belt.length ∨ ∀ c : CellNo, s.tables.cell[c].dropPoint < v.length) →
        (v.length ≠ s.tables.belt.length ∨ v.cpp ≠ s.tables.belt.cpp ∨ v.mpa ≠ s.tables.belt.mpa ∨ v.gap ≠ s.tables.belt.gap) →
        (s.belt.supervisor = false ∨ ∃ p ∈ s.tracker.map, p ≠ .empty) →
        ∃ t, exec (.writeBelt r e) s = .next t ∧ s.onlyAnswered t r 3 .inUse []) ∧
      (v.length = s.tables.belt.length → v.cpp = s.tables.belt.cpp → v.mpa = s.tables.belt.mpa → v.gap = s.tables.belt.gap →
        exec (.writeBelt r e) s = .next (finishRequest s.tables.node.node 3 r (.now .ok [])
          (applyAges { s with tables := { s.tables with belt := v } }))) ∧
      (v.length ≠ s.tables.belt.length → (∀ c : CellNo, s.tables.cell[c].dropPoint < v.length) → s.belt.supervisor = true →
        (∀ p ∈ s.tracker.map, p = .empty) → (∀ c, s.request c = none) →
        ∃ u, exec (.writeBelt r e) s = .next (finishRequest s.tables.node.node 3 r (.now .ok []) u) ∧ u.tables = { s.tables with belt := v } ∧
          u.tracker = { map := List.replicate v.length .empty, last := s.tracker.last,
                        acc := if v.cpp = s.tables.belt.cpp then s.tracker.acc else 0 } ∧
          { u with tables := s.tables, tracker := s.tracker } = s)) ∧
    (∀ e, r.index = 0 →
      ∃ u, exec (.writeProfile r e) s = .next (finishRequest s.tables.node.node 3 r (.now .ok []) (reselect u)) ∧
        u.tables = { s.tables with profile := { primary := min e.primary.toNat 1000, overriding := min e.overriding.toNat 1000 } } ∧
        (s.belt.latched = true → u.belt = { s.belt with latched := false, seconds := 0 }) ∧ (s.belt.latched = false → u.belt = s.belt) ∧
        { u with tables := s.tables, belt := s.belt } = s) ∧
    (∀ e v u, r.index = 0 → checkCrusher e = some v → u = { s with tables := { s.tables with crusher := v } } →
      (u.idleDue = false →
        exec (.writeCrusher r e) s = .next (finishRequest s.tables.node.node 3 r (.now .ok []) (interlock u))) ∧
      (u.idleDue = true →
        exec (.writeCrusher r e) s = .next (finishRequest s.tables.node.node 3 r (.now .ok []) (interlock (idleExpired u))))) ∧
    (∀ e v u, r.index = 0 → checkFilter e = some v → u = { s with tables := { s.tables with filter := v } } →
      exec (.writeFilter r e) s = .next (finishRequest s.tables.node.node 3 r (.now .ok []) (arbitrateFlush u))) ∧
    (∀ (p : Port) e v u, r.index = (match p with | .cell => 0 | .plant => 1) → checkPort e = some v →
      u = { s with tables := match p with
        | .cell => { s.tables with silenceCell := v }
        | .plant => { s.tables with silencePlant := v } } →
      (u.silenceDue p = false →
        ∃ t, exec (.writePort r e) s = .next t ∧ t.tables = u.tables ∧ s.answered t r 3 .ok [] [] ∧
          { t with tables := s.tables, cellPort := s.cellPort, plantPort := s.plantPort, counters := s.counters } = s) ∧
      (u.silenceDue p = true →
        exec (.writePort r e) s = .next (finishRequest s.tables.node.node 3 r (.now .ok []) (portDown p u)))) ∧
    (∀ e v, r.index = 0 → checkCoalesce e = some v →
      exec (.writeCoalesce r e) s = .next (finishRequest s.tables.node.node 3 r (.now .ok [])
        { s with tables := { s.tables with coalesceAge := v }, handed := true }))

/-- A DRUM write: a running phase refuses the clearing of enabled, and takes the setting of it as a change of the entry alone; disabling a
drum that stands still, in FAULT too, and enabling one; a new flow; and a lowered threshold or dp limit. The model's choice (log entry 8):
the fines threshold is tested first, and a drum that reaches it raises no DRUM_DP_HIGH in the same write. -/
def Obligations.DrumWrites : Prop :=
  ∀ (r : Req) (e : RawDrum) (v : DrumEntry) (d : DrumNo) (s : State), s.readyFor r → s.activity = .idle → d.val = r.index.toNat →
    checkDrum e = some v →
    (s.tables.drum[d].enabled = true → v.enabled = false → (s.drum d).state.busy = true →
      ∃ t, exec (.writeDrum r e) s = .next t ∧ s.onlyAnswered t r 3 .inUse []) ∧
    (s.tables.drum[d].enabled = true → v.enabled = false → (s.drum d).state = .online ∨ (∃ w, (s.drum d).state = .flushWait w) →
      ∃ u, exec (.writeDrum r e) s = .next (finishRequest s.tables.node.node 3 r (.now .ok [])
          (arbitrateFlush (recomputeCapacity (cutResidue (s.filteringCount - 1) u)))) ∧
        u.tables = { s.tables with drum := s.tables.drum.set d v } ∧ u.drum d = { s.drum d with state := .offline } ∧
        u.coalescer = (if s.holds (.drum d) then s else hand (.drum d) .stop 0 s).coalescer ∧ (∀ d', d' ≠ d → u.drum d' = s.drum d')) ∧
    (s.tables.drum[d].enabled = true → v.enabled = false → (s.drum d).state = .fault →
      ∃ t, exec (.writeDrum r e) s = .next t ∧ t.tables = { s.tables with drum := s.tables.drum.set d v } ∧
        t.filtration = { s.filtration with drums := s.filtration.drums.set d { s.drum d with state := .offline } } ∧
        s.answered t r 3 .ok [] [] ∧
        { t with tables := s.tables, filtration := s.filtration, cellPort := s.cellPort, plantPort := s.plantPort,
                 counters := s.counters } = s) ∧
    (s.tables.drum[d].enabled = false → v.enabled = true → (s.drum d).state = .offline → v.dpLimit ≤ (s.drum d).dp →
      ∃ u, exec (.writeDrum r e) s = .next (finishRequest s.tables.node.node 3 r (.now .ok []) (arbitrateFlush (recomputeCapacity u))) ∧
        u.tables = { s.tables with drum := s.tables.drum.set d v } ∧
        u.drum d = { s.drum d with state := .flushWait s.now, fines := 0, failed := 0 } ∧
        u.raised = [{ source := 7, lot := none, cell := none, drum := some d }] ∧
        u.counter .dpHigh = saturatingAdd (s.counter .dpHigh) 1 ∧
        u.coalescer = (if s.holds (.drum d) then s else hand (.drum d) .run 0 s).coalescer ∧ (∀ d', d' ≠ d → u.drum d' = s.drum d')) ∧
    (s.tables.drum[d].enabled = false → v.enabled = true → (s.drum d).state.busy = true →
      ∃ t, exec (.writeDrum r e) s = .next t ∧ t.tables = { s.tables with drum := s.tables.drum.set d v } ∧ s.answered t r 3 .ok [] [] ∧
        { t with tables := s.tables, cellPort := s.cellPort, plantPort := s.plantPort, counters := s.counters } = s) ∧
    (s.tables.drum[d].enabled = v.enabled → v.flow ≠ s.tables.drum[d].flow →
      ((s.drum d).state.filtering = true →
        ((s.drum d).state = .online → (s.drum d).fines < v.threshold ∧ (s.drum d).dp < v.dpLimit) →
        ∃ u, exec (.writeDrum r e) s = .next (finishRequest s.tables.node.node 3 r (.now .ok []) (testCapacity u)) ∧
          u.tables = { s.tables with drum := s.tables.drum.set d v } ∧
          u.filtration = { s.filtration with capacity :=
            ((List.finRange 4).map fun x =>
              if (s.drum x).state.filtering then (if x = d then v.flow else s.tables.drum[x].flow) else 0).sum } ∧
          { u with tables := s.tables, filtration := s.filtration } = s) ∧
      ((s.drum d).state.filtering = false →
        ∃ t, exec (.writeDrum r e) s = .next t ∧ t.tables = { s.tables with drum := s.tables.drum.set d v } ∧ s.answered t r 3 .ok [] [] ∧
          { t with tables := s.tables, cellPort := s.cellPort, plantPort := s.plantPort, counters := s.counters } = s)) ∧
    (s.tables.drum[d].enabled = false → v.enabled = true → (s.drum d).state = .offline → (s.drum d).dp < v.dpLimit →
      ∃ u, exec (.writeDrum r e) s = .next (finishRequest s.tables.node.node 3 r (.now .ok []) (arbitrateFlush (recomputeCapacity u))) ∧
        u.tables = { s.tables with drum := s.tables.drum.set d v } ∧ u.drum d = { s.drum d with state := .online, fines := 0, failed := 0 } ∧
        u.coalescer = (if s.holds (.drum d) then s else hand (.drum d) .run 0 s).coalescer ∧ (∀ d', d' ≠ d → u.drum d' = s.drum d')) ∧
    (s.tables.drum[d].enabled = true → v.enabled = true → v.flow = s.tables.drum[d].flow → (s.drum d).state = .online →
      (v.threshold ≤ (s.drum d).fines →
        ∃ u, exec (.writeDrum r e) s = .next (finishRequest s.tables.node.node 3 r (.now .ok []) (arbitrateFlush u)) ∧
          u.drum d = { s.drum d with state := .flushWait s.now } ∧
          { u with tables := s.tables, filtration := s.filtration } = s) ∧
      ((s.drum d).fines < v.threshold → v.dpLimit ≤ (s.drum d).dp →
        ∃ u, exec (.writeDrum r e) s = .next (finishRequest s.tables.node.node 3 r (.now .ok []) (arbitrateFlush u)) ∧
          u.tables = { s.tables with drum := s.tables.drum.set d v } ∧ u.drum d = { s.drum d with state := .flushWait s.now } ∧
          u.raised = [{ source := 7, lot := none, cell := none, drum := some d }] ∧ s.onlyGrew u [.dpHigh] ∧
          { u with tables := s.tables, filtration := s.filtration, raised := s.raised, counters := s.counters } = s) ∧
      ((s.drum d).fines < v.threshold → (s.drum d).dp < v.dpLimit →
        ∃ t, exec (.writeDrum r e) s = .next t ∧ t.tables = { s.tables with drum := s.tables.drum.set d v } ∧ s.answered t r 3 .ok [] [] ∧
          { t with tables := s.tables, cellPort := s.cellPort, plantPort := s.plantPort, counters := s.counters } = s))

/-! ### Restart, reload and save -/

/-- RESTART_LINE without reload: what it clears, what it keeps, the orders it sends, its reply in the queue of the request's port, and the
drive commands behind it. RESTART_LINE with reload-on-restart makes the activity RELOADING and places orders and drive commands alone, no
reply; the end of a read that finds a bad image keeps the tables and answers OK, and one that finds a valid image takes its tables and
answers OK, behind the refusals in the cell queue where they fit, and behind any notices in the plant queue unless it is full by then. The
model's choice: the coalescer's test, and so the drive commands, follow the reply (log entry 15), a reloading restart is counted as served
when it is taken, not at its end (log entry 17), its read ends, whole, at RELOAD_COMPLETE (log entry 27), the Ethernet source address of the
reply at its end carries the node address in force at the restart, as the source node does (log entry 32), and a changed P with a changed
CPP rebuilds the map and sets the accumulator to 0 (log entry 19). The model's choice (log entry 33): a selector other than 0 is ignored in
a command that takes none. -/
def Obligations.RestartLine : Prop :=
  (∀ (r : Req) (s : State), s.readyFor r → s.activity = .idle → s.tables.node.reload = false →
     ∃ t, exec (.restartLine r) s = .next t ∧ t.activity = .idle ∧
       (∀ l : LotNo, t.lots[l] = .free (match s.lots[l] with | .free o => o | .active a => some a.cell)) ∧
       (∀ c, t.request c = none) ∧ t.arbiter.pointer = 23 ∧
       t.tracker = { map := List.replicate s.tables.belt.length .empty, last := none, acc := 0 } ∧
       t.engine.chain = none ∧ (∀ i : SourceNo, t.engine.waiting[i] = none) ∧
       (∀ i : SourceNo, t.router.flags[i] = false ∧ t.router.counts[i] = 0) ∧
       t.belt.supervisor = true ∧ t.belt.crusher = false ∧ t.belt.link = s.belt.link ∧ t.belt.latched = false ∧ t.belt.seconds = 0 ∧
       t.belt.selected = 0 ∧ t.belt.issued = some 0 ∧
       t.head.crusher = .off ∧ t.head.jam = 0 ∧ t.head.approach = 0 ∧ t.head.surge = false ∧
       t.filtration = s.filtration ∧ t.tables = s.tables ∧ t.cellPort.state = s.cellPort.state ∧ t.plantPort.state = s.plantPort.state ∧
       t.notices.causeRestart = true ∧ t.eeprom = s.eeprom ∧
       (∀ rs, rs = (List.finRange 24).filterMap (fun c =>
           if (s.request c).isSome then some (s.orderFrame .refuse s.tables.cell[c].node none 0 (some .restarted)) else none) →
         s.cellPort.queue.length + (s.loadingOrders .stop).length + rs.length ≤ 31 →
         t.cellPort.queue = s.cellPort.queue ++ s.loadingOrders .stop ++ rs ++
           (if r.port = .cell then [s.replyFrame r 16 .ok []] else [])) ∧
       (∃ drives : List Frame, (∀ f ∈ drives, f.payload[2]? = some 0x30) ∧
         t.plantPort.queue = s.plantPort.queue ++ (if r.port = .plant then [s.replyFrame r 16 .ok []] else []) ++ drives)) ∧
  ((∀ (r : Req) (s : State), s.readyFor r → s.activity = .idle → s.tables.node.reload = true →
     ∃ t, exec (.restartLine r) s = .next t ∧ t.activity = .reloading r s.tables.node.node ∧
       (∀ l : LotNo, ∃ o, t.lots[l] = .free o) ∧ (∀ c, t.request c = none) ∧ (∀ p ∈ t.tracker.map, p = .empty) ∧ t.tables = s.tables ∧
       t.belt.supervisor = true ∧ t.notices.causeRestart = true ∧
       (∀ rs, rs = (List.finRange 24).filterMap (fun c =>
           if (s.request c).isSome then some (s.orderFrame .refuse s.tables.cell[c].node none 0 (some .restarted)) else none) →
         s.cellPort.queue.length + (s.loadingOrders .stop).length + rs.length ≤ 32 →
         t.cellPort.queue = s.cellPort.queue ++ s.loadingOrders .stop ++ rs) ∧
       (∃ orders drives : List Frame, (∀ f ∈ orders, f.payload[2]? = some 0x18) ∧ (∀ f ∈ drives, f.payload[2]? = some 0x30) ∧
         t.cellPort.queue = s.cellPort.queue ++ orders ∧ t.plantPort.queue = s.plantPort.queue ++ drives)) ∧
   (∀ (ack : Bool) (r : Req) (node : Byte) (s : State), s.activity = .reloading r node → readImage ack s.eeprom = none → s.settledLaw →
     s.hasRoom r.port = true →
     ∃ t, exec (.reloadComplete ack) s = .next t ∧ t.activity = .idle ∧
       (t.port r.port).queue = (s.port r.port).queue ++ [ownFrame node r.node 0x41 (replyBody r 16 .ok [])] ∧
       t.port r.port.other = s.port r.port.other ∧ s.faulted t .imageBad none none none [.reloadsBad, .restarts] ∧
       { t with activity := s.activity, cellPort := s.cellPort, plantPort := s.plantPort, counters := s.counters, notices := s.notices } = s) ∧
   (∀ (ack : Bool) (r : Req) (node : Byte) (tb : Tables) (s : State), s.activity = .reloading r node → readImage ack s.eeprom = some tb →
     s.belt.supervisor = true → (∀ p ∈ s.tracker.map, p = .empty) →
     ∃ t, exec (.reloadComplete ack) s = .next t ∧ t.activity = .idle ∧ t.tables = tb ∧ (∀ c, t.request c = none) ∧
       t.tracker = { map := if tb.belt.length = s.tables.belt.length then s.tracker.map else List.replicate tb.belt.length .empty,
                     last := s.tracker.last, acc := if tb.belt.cpp = s.tables.belt.cpp then s.tracker.acc else 0 } ∧
       t.lots = s.lots ∧ t.belt.supervisor = true ∧ t.belt.selected = 0 ∧ t.eeprom = s.eeprom ∧
       t.counter .reloadsValid = saturatingAdd (s.counter .reloadsValid) 1 ∧ t.counter .restarts = saturatingAdd (s.counter .restarts) 1 ∧
       (∀ rs, rs = (List.finRange 24).filterMap (fun c =>
           if (s.request c).isSome then some (s.orderFrame .refuse s.tables.cell[c].node none 0 (some .restarted)) else none) →
         s.cellPort.queue.length + rs.length ≤ 31 →
         t.cellPort.queue = s.cellPort.queue ++ rs ++
           (if r.port = .cell then [ownFrame node r.node 0x41 (replyBody r 16 .ok [])] else [])) ∧
       (∃ notices drives : List Frame, (∀ f ∈ notices, f.payload[2]? = some 0x48) ∧ (∀ f ∈ drives, f.payload[2]? = some 0x30) ∧
         t.plantPort.queue = s.plantPort.queue ++ notices ++
           (if r.port = .plant ∧ s.plantPort.queue.length + notices.length < 32 then [ownFrame node r.node 0x41 (replyBody r 16 .ok [])]
            else []) ++ drives)) ∧
   (∀ (ack : Bool) (s : State), s.activity.isReloading = false → exec (.reloadComplete ack) s = .next s))

/-- SAVE_IMAGE and its pages: a page's write puts the bytes of the image at its addresses and no others; the last page's end answers OK; an
EEPROM that does not acknowledge ends the save with SAVE_FAILED and no page changed but the one in flight. The model's choice: a save is
counted as served when it is taken and as refused where it fails (log entry 17), the last page writes the image's last 8 bytes alone, and a
page that was being written when the save failed may hold any bytes (log entry 4). The model's choice (log entry 33): a selector other than
0 is ignored in a command that takes none. -/
def Obligations.SaveImage : Prop :=
  (∀ (r : Req) (s : State), s.readyFor r → s.activity = .idle →
    ∃ t, exec (.saveImage r) s = .next t ∧ t.activity = .saving r 0 ∧ s.onlyGrew t [.requestsServed] ∧
      { t with activity := s.activity, counters := s.counters } = s) ∧
  (∀ (r : Req) (page : Nat) (s : State), s.activity = .saving r page → page < 70 → s.eepromLaw →
    (∃ t, exec (.savePageWritten true) s = .next t ∧ t.tables = s.tables ∧
      (∀ a, t.eeprom.read a =
        if page * 16 ≤ a ∧ a < page * 16 + 16 ∧ a < 1112 then (imageBytes s.tables).getD a 0 else s.eeprom.read a) ∧
      (page < 69 → t.activity = .saving r (page + 1) ∧ { t with activity := s.activity, eeprom := s.eeprom } = s) ∧
      (page = 69 → s.hasRoom r.port = true → t.activity = .idle ∧
        (t.port r.port).queue = (s.port r.port).queue ++ [s.replyFrame r 17 .ok []] ∧ s.onlyGrew t [.savesCompleted] ∧
        t.port r.port.other = s.port r.port.other ∧
        { t with activity := s.activity, eeprom := s.eeprom, cellPort := s.cellPort, plantPort := s.plantPort, counters := s.counters } = s)) ∧
    (s.hasRoom r.port = true →
      ∃ t, exec (.savePageWritten false) s = .next t ∧ t.activity = .idle ∧
        (∀ a, a < page * 16 ∨ page * 16 + 16 ≤ a ∨ 1112 ≤ a → t.eeprom.read a = s.eeprom.read a) ∧
        (t.port r.port).queue = (s.port r.port).queue ++ [s.replyFrame r 17 .saveFailed []] ∧
        s.onlyGrew t [.savesFailed, .requestsRefused] ∧ t.port r.port.other = s.port r.port.other ∧ t.tables = s.tables)) ∧
  (∀ (ack : Bool) (s : State), (∀ r page, s.activity ≠ .saving r page) → exec (.savePageWritten ack) s = .next s)

/-! ### What every command and every step keeps -/

/-- Only the resets and a save's pages touch the EEPROM, only the resets and the end of the start-up read touch the line mode, and only the
resets, the ends of the image reads, the table writes and the frames that can carry one touch the tables. While the line mode is LOADING no
telegram reaches a block and no request is served. -/
def Obligations.TablesAndImageKept : Prop :=
  (∀ (c : Instr) (s t : State), exec c s = .next t → c ≠ .powerOn → c ≠ .pinReset →
     ((∀ ack, c ≠ .savePageWritten ack) → t.eeprom = s.eeprom) ∧
     ((∀ ack, c ≠ .imageLoadComplete ack) → t.mode = s.mode) ∧
     ((∀ ack, c ≠ .imageLoadComplete ack) → (∀ ack, c ≠ .reloadComplete ack) → (∀ p ok f, c ≠ .frameReceived p ok f) →
       c.tableCode = none → (∀ r l, c ≠ .writeEntry r l) → t.tables = s.tables)) ∧
  (∀ (c : Instr) (s : State), s.mode = .loading →
     (∀ a, c ≠ .imageLoadComplete a) → (∀ p ok f, c ≠ .frameReceived p ok f) → (∀ p, c ≠ .frameTransmitted p) →
     c ∉ [Instr.powerOn, .pinReset, .silenceTimeout .cell, .silenceTimeout .plant, .overrideSecond, .gateTimeout, .startTimerExpiry,
       .idleTimerExpiry, .stepHoldExpiry, .coalesceAgeLimit] →
     (∀ k, c ≠ .requestUrgent k ∧ c ≠ .requestExpiry k) → (∀ d, c ≠ .flushWaitLimit d ∧ c ≠ .flushTimeEnd d ∧ c ≠ .settleTimeEnd d) →
     (∀ a, c ≠ .reloadComplete a ∧ c ≠ .savePageWritten a) → exec c s = .next s)

/-- The laws that hold right after power-on. -/
def Obligations.LawsAtReset : Prop :=
  State.reset.mapLaw ∧ State.reset.queueLaw ∧ State.reset.entryLaw ∧ State.reset.flushLaw ∧ State.reset.eepromLaw ∧
    State.reset.settledLaw ∧ State.reset.setpointLaw ∧ State.reset.tables.inRange ∧ State.reset.lotLaw ∧ State.reset.gapLaw

/-- Every step keeps the blocks' own laws: P records in the map, at most 32 frames in a queue, one entry for a target, and at most one drum
FLUSHING or SETTLING. Every step keeps the EEPROM's contents in their one form, and leaves no occurrence and no hand-over behind. -/
def Obligations.BlockLawsKept : Prop :=
  (∀ s t : State, step s = .next t →
     (s.mapLaw → t.mapLaw) ∧ (s.queueLaw → t.queueLaw) ∧ (s.entryLaw → t.entryLaw) ∧ (s.flushLaw → t.flushLaw)) ∧
  (∀ s t : State, step s = .next t → (s.eepromLaw → t.eepromLaw) ∧ (s.settledLaw → t.settledLaw))

/-- Every step keeps the setpoint's law: no belt command but the selected setpoint waits in the coalescer. -/
def Obligations.SetpointLawKept : Prop :=
  ∀ s t : State, s.setpointLaw → step s = .next t → t.setpointLaw

/-- Every step keeps every table entry in its ranges. -/
def Obligations.TablesStayInRange : Prop :=
  ∀ s t : State, s.tables.inRange → step s = .next t → t.tables.inRange

/-- Every step keeps the lots in agreement with the map. -/
def Obligations.LotLawKept : Prop :=
  ∀ s t : State, s.tables.inRange → s.lotLaw → step s = .next t → t.lotLaw

/-- Every step keeps the guard gap between pitches of different classes. -/
def Obligations.GapLawKept : Prop :=
  ∀ s t : State, s.tables.inRange → s.lotLaw → s.gapLaw → step s = .next t → t.gapLaw

/-- The image of tables in their ranges is 1,112 bytes whose 16-bit words sum to 0 modulo 65,536, and reading it gives the tables back. -/
def Obligations.ImageRoundTrip : Prop :=
  ∀ tb : Tables, tb.inRange →
    (imageBytes tb).length = 1112 ∧ wordSum (imageBytes tb) = 0 ∧ decodeImage (imageBytes tb) = some tb ∧
    ∀ m : Memory, (∀ a < 1112, m.read a = (imageBytes tb).getD a 0) → readImage true m = some tb
end

