-- ==== Sys2Proof/Laws/State.lean ====
section
/-! SUPPORT. One lemma per field that each update of the state leaves alone, and what each update writes. -/

namespace Sys2Proof.Machine

@[simp] theorem State.setPort_now (s : State) (p : Port) (r : PortRec) : (s.setPort p r).now = s.now := by cases p <;> rfl
@[simp] theorem State.setPort_mode (s : State) (p : Port) (r : PortRec) : (s.setPort p r).mode = s.mode := by cases p <;> rfl
@[simp] theorem State.setPort_activity (s : State) (p : Port) (r : PortRec) : (s.setPort p r).activity = s.activity := by cases p <;> rfl
@[simp] theorem State.setPort_tables (s : State) (p : Port) (r : PortRec) : (s.setPort p r).tables = s.tables := by cases p <;> rfl
@[simp] theorem State.setPort_tracker (s : State) (p : Port) (r : PortRec) : (s.setPort p r).tracker = s.tracker := by cases p <;> rfl
@[simp] theorem State.setPort_lots (s : State) (p : Port) (r : PortRec) : (s.setPort p r).lots = s.lots := by cases p <;> rfl
@[simp] theorem State.setPort_arbiter (s : State) (p : Port) (r : PortRec) : (s.setPort p r).arbiter = s.arbiter := by cases p <;> rfl
@[simp] theorem State.setPort_belt (s : State) (p : Port) (r : PortRec) : (s.setPort p r).belt = s.belt := by cases p <;> rfl
@[simp] theorem State.setPort_head (s : State) (p : Port) (r : PortRec) : (s.setPort p r).head = s.head := by cases p <;> rfl
@[simp] theorem State.setPort_filtration (s : State) (p : Port) (r : PortRec) : (s.setPort p r).filtration = s.filtration := by cases p <;> rfl
@[simp] theorem State.setPort_engine (s : State) (p : Port) (r : PortRec) : (s.setPort p r).engine = s.engine := by cases p <;> rfl
@[simp] theorem State.setPort_router (s : State) (p : Port) (r : PortRec) : (s.setPort p r).router = s.router := by cases p <;> rfl
@[simp] theorem State.setPort_notices (s : State) (p : Port) (r : PortRec) : (s.setPort p r).notices = s.notices := by cases p <;> rfl
@[simp] theorem State.setPort_coalescer (s : State) (p : Port) (r : PortRec) : (s.setPort p r).coalescer = s.coalescer := by cases p <;> rfl
@[simp] theorem State.setPort_counters (s : State) (p : Port) (r : PortRec) : (s.setPort p r).counters = s.counters := by cases p <;> rfl
@[simp] theorem State.setPort_eeprom (s : State) (p : Port) (r : PortRec) : (s.setPort p r).eeprom = s.eeprom := by cases p <;> rfl
@[simp] theorem State.setPort_draws (s : State) (p : Port) (r : PortRec) : (s.setPort p r).draws = s.draws := by cases p <;> rfl
@[simp] theorem State.setPort_raised (s : State) (p : Port) (r : PortRec) : (s.setPort p r).raised = s.raised := by cases p <;> rfl
@[simp] theorem State.setPort_handed (s : State) (p : Port) (r : PortRec) : (s.setPort p r).handed = s.handed := by cases p <;> rfl
@[simp] theorem State.setPort_pending (s : State) (p : Port) (r : PortRec) : (s.setPort p r).pending = s.pending := by cases p <;> rfl

@[simp] theorem State.setDrum_now (s : State) (d : DrumNo) (r : DrumRec) : (s.setDrum d r).now = s.now := rfl
@[simp] theorem State.setDrum_mode (s : State) (d : DrumNo) (r : DrumRec) : (s.setDrum d r).mode = s.mode := rfl
@[simp] theorem State.setDrum_activity (s : State) (d : DrumNo) (r : DrumRec) : (s.setDrum d r).activity = s.activity := rfl
@[simp] theorem State.setDrum_tables (s : State) (d : DrumNo) (r : DrumRec) : (s.setDrum d r).tables = s.tables := rfl
@[simp] theorem State.setDrum_tracker (s : State) (d : DrumNo) (r : DrumRec) : (s.setDrum d r).tracker = s.tracker := rfl
@[simp] theorem State.setDrum_lots (s : State) (d : DrumNo) (r : DrumRec) : (s.setDrum d r).lots = s.lots := rfl
@[simp] theorem State.setDrum_arbiter (s : State) (d : DrumNo) (r : DrumRec) : (s.setDrum d r).arbiter = s.arbiter := rfl
@[simp] theorem State.setDrum_belt (s : State) (d : DrumNo) (r : DrumRec) : (s.setDrum d r).belt = s.belt := rfl
@[simp] theorem State.setDrum_head (s : State) (d : DrumNo) (r : DrumRec) : (s.setDrum d r).head = s.head := rfl
@[simp] theorem State.setDrum_engine (s : State) (d : DrumNo) (r : DrumRec) : (s.setDrum d r).engine = s.engine := rfl
@[simp] theorem State.setDrum_router (s : State) (d : DrumNo) (r : DrumRec) : (s.setDrum d r).router = s.router := rfl
@[simp] theorem State.setDrum_notices (s : State) (d : DrumNo) (r : DrumRec) : (s.setDrum d r).notices = s.notices := rfl
@[simp] theorem State.setDrum_coalescer (s : State) (d : DrumNo) (r : DrumRec) : (s.setDrum d r).coalescer = s.coalescer := rfl
@[simp] theorem State.setDrum_cellPort (s : State) (d : DrumNo) (r : DrumRec) : (s.setDrum d r).cellPort = s.cellPort := rfl
@[simp] theorem State.setDrum_plantPort (s : State) (d : DrumNo) (r : DrumRec) : (s.setDrum d r).plantPort = s.plantPort := rfl
@[simp] theorem State.setDrum_counters (s : State) (d : DrumNo) (r : DrumRec) : (s.setDrum d r).counters = s.counters := rfl
@[simp] theorem State.setDrum_eeprom (s : State) (d : DrumNo) (r : DrumRec) : (s.setDrum d r).eeprom = s.eeprom := rfl
@[simp] theorem State.setDrum_draws (s : State) (d : DrumNo) (r : DrumRec) : (s.setDrum d r).draws = s.draws := rfl
@[simp] theorem State.setDrum_raised (s : State) (d : DrumNo) (r : DrumRec) : (s.setDrum d r).raised = s.raised := rfl
@[simp] theorem State.setDrum_handed (s : State) (d : DrumNo) (r : DrumRec) : (s.setDrum d r).handed = s.handed := rfl
@[simp] theorem State.setDrum_pending (s : State) (d : DrumNo) (r : DrumRec) : (s.setDrum d r).pending = s.pending := rfl

@[simp] theorem State.setGate_now (s : State) (g : GateState) : (s.setGate g).now = s.now := rfl
@[simp] theorem State.setGate_mode (s : State) (g : GateState) : (s.setGate g).mode = s.mode := rfl
@[simp] theorem State.setGate_activity (s : State) (g : GateState) : (s.setGate g).activity = s.activity := rfl
@[simp] theorem State.setGate_tables (s : State) (g : GateState) : (s.setGate g).tables = s.tables := rfl
@[simp] theorem State.setGate_tracker (s : State) (g : GateState) : (s.setGate g).tracker = s.tracker := rfl
@[simp] theorem State.setGate_lots (s : State) (g : GateState) : (s.setGate g).lots = s.lots := rfl
@[simp] theorem State.setGate_arbiter (s : State) (g : GateState) : (s.setGate g).arbiter = s.arbiter := rfl
@[simp] theorem State.setGate_belt (s : State) (g : GateState) : (s.setGate g).belt = s.belt := rfl
@[simp] theorem State.setGate_filtration (s : State) (g : GateState) : (s.setGate g).filtration = s.filtration := rfl
@[simp] theorem State.setGate_engine (s : State) (g : GateState) : (s.setGate g).engine = s.engine := rfl
@[simp] theorem State.setGate_router (s : State) (g : GateState) : (s.setGate g).router = s.router := rfl
@[simp] theorem State.setGate_notices (s : State) (g : GateState) : (s.setGate g).notices = s.notices := rfl
@[simp] theorem State.setGate_coalescer (s : State) (g : GateState) : (s.setGate g).coalescer = s.coalescer := rfl
@[simp] theorem State.setGate_cellPort (s : State) (g : GateState) : (s.setGate g).cellPort = s.cellPort := rfl
@[simp] theorem State.setGate_plantPort (s : State) (g : GateState) : (s.setGate g).plantPort = s.plantPort := rfl
@[simp] theorem State.setGate_counters (s : State) (g : GateState) : (s.setGate g).counters = s.counters := rfl
@[simp] theorem State.setGate_eeprom (s : State) (g : GateState) : (s.setGate g).eeprom = s.eeprom := rfl
@[simp] theorem State.setGate_draws (s : State) (g : GateState) : (s.setGate g).draws = s.draws := rfl
@[simp] theorem State.setGate_raised (s : State) (g : GateState) : (s.setGate g).raised = s.raised := rfl
@[simp] theorem State.setGate_handed (s : State) (g : GateState) : (s.setGate g).handed = s.handed := rfl
@[simp] theorem State.setGate_pending (s : State) (g : GateState) : (s.setGate g).pending = s.pending := rfl

@[simp] theorem State.setCrusher_now (s : State) (c : CrusherState) : (s.setCrusher c).now = s.now := rfl
@[simp] theorem State.setCrusher_mode (s : State) (c : CrusherState) : (s.setCrusher c).mode = s.mode := rfl
@[simp] theorem State.setCrusher_activity (s : State) (c : CrusherState) : (s.setCrusher c).activity = s.activity := rfl
@[simp] theorem State.setCrusher_tables (s : State) (c : CrusherState) : (s.setCrusher c).tables = s.tables := rfl
@[simp] theorem State.setCrusher_tracker (s : State) (c : CrusherState) : (s.setCrusher c).tracker = s.tracker := rfl
@[simp] theorem State.setCrusher_lots (s : State) (c : CrusherState) : (s.setCrusher c).lots = s.lots := rfl
@[simp] theorem State.setCrusher_arbiter (s : State) (c : CrusherState) : (s.setCrusher c).arbiter = s.arbiter := rfl
@[simp] theorem State.setCrusher_belt (s : State) (c : CrusherState) : (s.setCrusher c).belt = s.belt := rfl
@[simp] theorem State.setCrusher_filtration (s : State) (c : CrusherState) : (s.setCrusher c).filtration = s.filtration := rfl
@[simp] theorem State.setCrusher_engine (s : State) (c : CrusherState) : (s.setCrusher c).engine = s.engine := rfl
@[simp] theorem State.setCrusher_router (s : State) (c : CrusherState) : (s.setCrusher c).router = s.router := rfl
@[simp] theorem State.setCrusher_notices (s : State) (c : CrusherState) : (s.setCrusher c).notices = s.notices := rfl
@[simp] theorem State.setCrusher_coalescer (s : State) (c : CrusherState) : (s.setCrusher c).coalescer = s.coalescer := rfl
@[simp] theorem State.setCrusher_cellPort (s : State) (c : CrusherState) : (s.setCrusher c).cellPort = s.cellPort := rfl
@[simp] theorem State.setCrusher_plantPort (s : State) (c : CrusherState) : (s.setCrusher c).plantPort = s.plantPort := rfl
@[simp] theorem State.setCrusher_counters (s : State) (c : CrusherState) : (s.setCrusher c).counters = s.counters := rfl
@[simp] theorem State.setCrusher_eeprom (s : State) (c : CrusherState) : (s.setCrusher c).eeprom = s.eeprom := rfl
@[simp] theorem State.setCrusher_draws (s : State) (c : CrusherState) : (s.setCrusher c).draws = s.draws := rfl
@[simp] theorem State.setCrusher_raised (s : State) (c : CrusherState) : (s.setCrusher c).raised = s.raised := rfl
@[simp] theorem State.setCrusher_handed (s : State) (c : CrusherState) : (s.setCrusher c).handed = s.handed := rfl
@[simp] theorem State.setCrusher_pending (s : State) (c : CrusherState) : (s.setCrusher c).pending = s.pending := rfl

@[simp] theorem State.setLot_now (s : State) (l : LotNo) (r : Lot) : (s.setLot l r).now = s.now := rfl
@[simp] theorem State.setLot_mode (s : State) (l : LotNo) (r : Lot) : (s.setLot l r).mode = s.mode := rfl
@[simp] theorem State.setLot_activity (s : State) (l : LotNo) (r : Lot) : (s.setLot l r).activity = s.activity := rfl
@[simp] theorem State.setLot_tables (s : State) (l : LotNo) (r : Lot) : (s.setLot l r).tables = s.tables := rfl
@[simp] theorem State.setLot_tracker (s : State) (l : LotNo) (r : Lot) : (s.setLot l r).tracker = s.tracker := rfl
@[simp] theorem State.setLot_arbiter (s : State) (l : LotNo) (r : Lot) : (s.setLot l r).arbiter = s.arbiter := rfl
@[simp] theorem State.setLot_belt (s : State) (l : LotNo) (r : Lot) : (s.setLot l r).belt = s.belt := rfl
@[simp] theorem State.setLot_head (s : State) (l : LotNo) (r : Lot) : (s.setLot l r).head = s.head := rfl
@[simp] theorem State.setLot_filtration (s : State) (l : LotNo) (r : Lot) : (s.setLot l r).filtration = s.filtration := rfl
@[simp] theorem State.setLot_engine (s : State) (l : LotNo) (r : Lot) : (s.setLot l r).engine = s.engine := rfl
@[simp] theorem State.setLot_router (s : State) (l : LotNo) (r : Lot) : (s.setLot l r).router = s.router := rfl
@[simp] theorem State.setLot_notices (s : State) (l : LotNo) (r : Lot) : (s.setLot l r).notices = s.notices := rfl
@[simp] theorem State.setLot_coalescer (s : State) (l : LotNo) (r : Lot) : (s.setLot l r).coalescer = s.coalescer := rfl
@[simp] theorem State.setLot_cellPort (s : State) (l : LotNo) (r : Lot) : (s.setLot l r).cellPort = s.cellPort := rfl
@[simp] theorem State.setLot_plantPort (s : State) (l : LotNo) (r : Lot) : (s.setLot l r).plantPort = s.plantPort := rfl
@[simp] theorem State.setLot_counters (s : State) (l : LotNo) (r : Lot) : (s.setLot l r).counters = s.counters := rfl
@[simp] theorem State.setLot_eeprom (s : State) (l : LotNo) (r : Lot) : (s.setLot l r).eeprom = s.eeprom := rfl
@[simp] theorem State.setLot_draws (s : State) (l : LotNo) (r : Lot) : (s.setLot l r).draws = s.draws := rfl
@[simp] theorem State.setLot_raised (s : State) (l : LotNo) (r : Lot) : (s.setLot l r).raised = s.raised := rfl
@[simp] theorem State.setLot_handed (s : State) (l : LotNo) (r : Lot) : (s.setLot l r).handed = s.handed := rfl
@[simp] theorem State.setLot_pending (s : State) (l : LotNo) (r : Lot) : (s.setLot l r).pending = s.pending := rfl

@[simp] theorem State.setMap_now (s : State) (m : List Pitch) : (s.setMap m).now = s.now := rfl
@[simp] theorem State.setMap_mode (s : State) (m : List Pitch) : (s.setMap m).mode = s.mode := rfl
@[simp] theorem State.setMap_activity (s : State) (m : List Pitch) : (s.setMap m).activity = s.activity := rfl
@[simp] theorem State.setMap_tables (s : State) (m : List Pitch) : (s.setMap m).tables = s.tables := rfl
@[simp] theorem State.setMap_last (s : State) (m : List Pitch) : (s.setMap m).tracker.last = s.tracker.last := rfl
@[simp] theorem State.setMap_acc (s : State) (m : List Pitch) : (s.setMap m).tracker.acc = s.tracker.acc := rfl
@[simp] theorem State.setMap_lots (s : State) (m : List Pitch) : (s.setMap m).lots = s.lots := rfl
@[simp] theorem State.setMap_arbiter (s : State) (m : List Pitch) : (s.setMap m).arbiter = s.arbiter := rfl
@[simp] theorem State.setMap_belt (s : State) (m : List Pitch) : (s.setMap m).belt = s.belt := rfl
@[simp] theorem State.setMap_head (s : State) (m : List Pitch) : (s.setMap m).head = s.head := rfl
@[simp] theorem State.setMap_filtration (s : State) (m : List Pitch) : (s.setMap m).filtration = s.filtration := rfl
@[simp] theorem State.setMap_engine (s : State) (m : List Pitch) : (s.setMap m).engine = s.engine := rfl
@[simp] theorem State.setMap_router (s : State) (m : List Pitch) : (s.setMap m).router = s.router := rfl
@[simp] theorem State.setMap_notices (s : State) (m : List Pitch) : (s.setMap m).notices = s.notices := rfl
@[simp] theorem State.setMap_coalescer (s : State) (m : List Pitch) : (s.setMap m).coalescer = s.coalescer := rfl
@[simp] theorem State.setMap_cellPort (s : State) (m : List Pitch) : (s.setMap m).cellPort = s.cellPort := rfl
@[simp] theorem State.setMap_plantPort (s : State) (m : List Pitch) : (s.setMap m).plantPort = s.plantPort := rfl
@[simp] theorem State.setMap_counters (s : State) (m : List Pitch) : (s.setMap m).counters = s.counters := rfl
@[simp] theorem State.setMap_eeprom (s : State) (m : List Pitch) : (s.setMap m).eeprom = s.eeprom := rfl
@[simp] theorem State.setMap_draws (s : State) (m : List Pitch) : (s.setMap m).draws = s.draws := rfl
@[simp] theorem State.setMap_raised (s : State) (m : List Pitch) : (s.setMap m).raised = s.raised := rfl
@[simp] theorem State.setMap_handed (s : State) (m : List Pitch) : (s.setMap m).handed = s.handed := rfl
@[simp] theorem State.setMap_pending (s : State) (m : List Pitch) : (s.setMap m).pending = s.pending := rfl

@[simp] theorem State.setRequest_now (s : State) (c : CellNo) (q : Option Request) : (s.setRequest c q).now = s.now := rfl
@[simp] theorem State.setRequest_mode (s : State) (c : CellNo) (q : Option Request) : (s.setRequest c q).mode = s.mode := rfl
@[simp] theorem State.setRequest_activity (s : State) (c : CellNo) (q : Option Request) : (s.setRequest c q).activity = s.activity := rfl
@[simp] theorem State.setRequest_tables (s : State) (c : CellNo) (q : Option Request) : (s.setRequest c q).tables = s.tables := rfl
@[simp] theorem State.setRequest_tracker (s : State) (c : CellNo) (q : Option Request) : (s.setRequest c q).tracker = s.tracker := rfl
@[simp] theorem State.setRequest_lots (s : State) (c : CellNo) (q : Option Request) : (s.setRequest c q).lots = s.lots := rfl
@[simp] theorem State.setRequest_belt (s : State) (c : CellNo) (q : Option Request) : (s.setRequest c q).belt = s.belt := rfl
@[simp] theorem State.setRequest_head (s : State) (c : CellNo) (q : Option Request) : (s.setRequest c q).head = s.head := rfl
@[simp] theorem State.setRequest_filtration (s : State) (c : CellNo) (q : Option Request) : (s.setRequest c q).filtration = s.filtration := rfl
@[simp] theorem State.setRequest_engine (s : State) (c : CellNo) (q : Option Request) : (s.setRequest c q).engine = s.engine := rfl
@[simp] theorem State.setRequest_router (s : State) (c : CellNo) (q : Option Request) : (s.setRequest c q).router = s.router := rfl
@[simp] theorem State.setRequest_notices (s : State) (c : CellNo) (q : Option Request) : (s.setRequest c q).notices = s.notices := rfl
@[simp] theorem State.setRequest_coalescer (s : State) (c : CellNo) (q : Option Request) : (s.setRequest c q).coalescer = s.coalescer := rfl
@[simp] theorem State.setRequest_cellPort (s : State) (c : CellNo) (q : Option Request) : (s.setRequest c q).cellPort = s.cellPort := rfl
@[simp] theorem State.setRequest_plantPort (s : State) (c : CellNo) (q : Option Request) : (s.setRequest c q).plantPort = s.plantPort := rfl
@[simp] theorem State.setRequest_counters (s : State) (c : CellNo) (q : Option Request) : (s.setRequest c q).counters = s.counters := rfl
@[simp] theorem State.setRequest_eeprom (s : State) (c : CellNo) (q : Option Request) : (s.setRequest c q).eeprom = s.eeprom := rfl
@[simp] theorem State.setRequest_draws (s : State) (c : CellNo) (q : Option Request) : (s.setRequest c q).draws = s.draws := rfl
@[simp] theorem State.setRequest_raised (s : State) (c : CellNo) (q : Option Request) : (s.setRequest c q).raised = s.raised := rfl
@[simp] theorem State.setRequest_handed (s : State) (c : CellNo) (q : Option Request) : (s.setRequest c q).handed = s.handed := rfl
@[simp] theorem State.setRequest_pending (s : State) (c : CellNo) (q : Option Request) : (s.setRequest c q).pending = s.pending := rfl

@[simp] theorem State.setCauseFlag_now (s : State) (c : HoldCause) (b : Bool) : (s.setCauseFlag c b).now = s.now := by cases c <;> rfl
@[simp] theorem State.setCauseFlag_mode (s : State) (c : HoldCause) (b : Bool) : (s.setCauseFlag c b).mode = s.mode := by cases c <;> rfl
@[simp] theorem State.setCauseFlag_activity (s : State) (c : HoldCause) (b : Bool) : (s.setCauseFlag c b).activity = s.activity := by cases c <;> rfl
@[simp] theorem State.setCauseFlag_tables (s : State) (c : HoldCause) (b : Bool) : (s.setCauseFlag c b).tables = s.tables := by cases c <;> rfl
@[simp] theorem State.setCauseFlag_tracker (s : State) (c : HoldCause) (b : Bool) : (s.setCauseFlag c b).tracker = s.tracker := by cases c <;> rfl
@[simp] theorem State.setCauseFlag_lots (s : State) (c : HoldCause) (b : Bool) : (s.setCauseFlag c b).lots = s.lots := by cases c <;> rfl
@[simp] theorem State.setCauseFlag_arbiter (s : State) (c : HoldCause) (b : Bool) : (s.setCauseFlag c b).arbiter = s.arbiter := by cases c <;> rfl
@[simp] theorem State.setCauseFlag_head (s : State) (c : HoldCause) (b : Bool) : (s.setCauseFlag c b).head = s.head := by cases c <;> rfl
@[simp] theorem State.setCauseFlag_filtration (s : State) (c : HoldCause) (b : Bool) : (s.setCauseFlag c b).filtration = s.filtration := by cases c <;> rfl
@[simp] theorem State.setCauseFlag_engine (s : State) (c : HoldCause) (b : Bool) : (s.setCauseFlag c b).engine = s.engine := by cases c <;> rfl
@[simp] theorem State.setCauseFlag_router (s : State) (c : HoldCause) (b : Bool) : (s.setCauseFlag c b).router = s.router := by cases c <;> rfl
@[simp] theorem State.setCauseFlag_notices (s : State) (c : HoldCause) (b : Bool) : (s.setCauseFlag c b).notices = s.notices := by cases c <;> rfl
@[simp] theorem State.setCauseFlag_coalescer (s : State) (c : HoldCause) (b : Bool) : (s.setCauseFlag c b).coalescer = s.coalescer := by cases c <;> rfl
@[simp] theorem State.setCauseFlag_cellPort (s : State) (c : HoldCause) (b : Bool) : (s.setCauseFlag c b).cellPort = s.cellPort := by cases c <;> rfl
@[simp] theorem State.setCauseFlag_plantPort (s : State) (c : HoldCause) (b : Bool) : (s.setCauseFlag c b).plantPort = s.plantPort := by cases c <;> rfl
@[simp] theorem State.setCauseFlag_counters (s : State) (c : HoldCause) (b : Bool) : (s.setCauseFlag c b).counters = s.counters := by cases c <;> rfl
@[simp] theorem State.setCauseFlag_eeprom (s : State) (c : HoldCause) (b : Bool) : (s.setCauseFlag c b).eeprom = s.eeprom := by cases c <;> rfl
@[simp] theorem State.setCauseFlag_draws (s : State) (c : HoldCause) (b : Bool) : (s.setCauseFlag c b).draws = s.draws := by cases c <;> rfl
@[simp] theorem State.setCauseFlag_raised (s : State) (c : HoldCause) (b : Bool) : (s.setCauseFlag c b).raised = s.raised := by cases c <;> rfl
@[simp] theorem State.setCauseFlag_handed (s : State) (c : HoldCause) (b : Bool) : (s.setCauseFlag c b).handed = s.handed := by cases c <;> rfl
@[simp] theorem State.setCauseFlag_pending (s : State) (c : HoldCause) (b : Bool) : (s.setCauseFlag c b).pending = s.pending := by cases c <;> rfl

@[simp] theorem State.setChain_now (s : State) (c : Option Chain) : (s.setChain c).now = s.now := rfl
@[simp] theorem State.setChain_mode (s : State) (c : Option Chain) : (s.setChain c).mode = s.mode := rfl
@[simp] theorem State.setChain_activity (s : State) (c : Option Chain) : (s.setChain c).activity = s.activity := rfl
@[simp] theorem State.setChain_tables (s : State) (c : Option Chain) : (s.setChain c).tables = s.tables := rfl
@[simp] theorem State.setChain_tracker (s : State) (c : Option Chain) : (s.setChain c).tracker = s.tracker := rfl
@[simp] theorem State.setChain_lots (s : State) (c : Option Chain) : (s.setChain c).lots = s.lots := rfl
@[simp] theorem State.setChain_arbiter (s : State) (c : Option Chain) : (s.setChain c).arbiter = s.arbiter := rfl
@[simp] theorem State.setChain_belt (s : State) (c : Option Chain) : (s.setChain c).belt = s.belt := rfl
@[simp] theorem State.setChain_head (s : State) (c : Option Chain) : (s.setChain c).head = s.head := rfl
@[simp] theorem State.setChain_filtration (s : State) (c : Option Chain) : (s.setChain c).filtration = s.filtration := rfl
@[simp] theorem State.setChain_router (s : State) (c : Option Chain) : (s.setChain c).router = s.router := rfl
@[simp] theorem State.setChain_notices (s : State) (c : Option Chain) : (s.setChain c).notices = s.notices := rfl
@[simp] theorem State.setChain_coalescer (s : State) (c : Option Chain) : (s.setChain c).coalescer = s.coalescer := rfl
@[simp] theorem State.setChain_cellPort (s : State) (c : Option Chain) : (s.setChain c).cellPort = s.cellPort := rfl
@[simp] theorem State.setChain_plantPort (s : State) (c : Option Chain) : (s.setChain c).plantPort = s.plantPort := rfl
@[simp] theorem State.setChain_counters (s : State) (c : Option Chain) : (s.setChain c).counters = s.counters := rfl
@[simp] theorem State.setChain_eeprom (s : State) (c : Option Chain) : (s.setChain c).eeprom = s.eeprom := rfl
@[simp] theorem State.setChain_draws (s : State) (c : Option Chain) : (s.setChain c).draws = s.draws := rfl
@[simp] theorem State.setChain_raised (s : State) (c : Option Chain) : (s.setChain c).raised = s.raised := rfl
@[simp] theorem State.setChain_handed (s : State) (c : Option Chain) : (s.setChain c).handed = s.handed := rfl
@[simp] theorem State.setChain_pending (s : State) (c : Option Chain) : (s.setChain c).pending = s.pending := rfl

@[simp] theorem State.setReference_now (s : State) (count : Word) (acc : Nat) : (s.setReference count acc).now = s.now := rfl
@[simp] theorem State.setReference_mode (s : State) (count : Word) (acc : Nat) : (s.setReference count acc).mode = s.mode := rfl
@[simp] theorem State.setReference_activity (s : State) (count : Word) (acc : Nat) : (s.setReference count acc).activity = s.activity := rfl
@[simp] theorem State.setReference_tables (s : State) (count : Word) (acc : Nat) : (s.setReference count acc).tables = s.tables := rfl
@[simp] theorem State.setReference_map (s : State) (count : Word) (acc : Nat) : (s.setReference count acc).tracker.map = s.tracker.map := rfl
@[simp] theorem State.setReference_lots (s : State) (count : Word) (acc : Nat) : (s.setReference count acc).lots = s.lots := rfl
@[simp] theorem State.setReference_arbiter (s : State) (count : Word) (acc : Nat) : (s.setReference count acc).arbiter = s.arbiter := rfl
@[simp] theorem State.setReference_belt (s : State) (count : Word) (acc : Nat) : (s.setReference count acc).belt = s.belt := rfl
@[simp] theorem State.setReference_head (s : State) (count : Word) (acc : Nat) : (s.setReference count acc).head = s.head := rfl
@[simp] theorem State.setReference_filtration (s : State) (count : Word) (acc : Nat) : (s.setReference count acc).filtration = s.filtration := rfl
@[simp] theorem State.setReference_engine (s : State) (count : Word) (acc : Nat) : (s.setReference count acc).engine = s.engine := rfl
@[simp] theorem State.setReference_router (s : State) (count : Word) (acc : Nat) : (s.setReference count acc).router = s.router := rfl
@[simp] theorem State.setReference_notices (s : State) (count : Word) (acc : Nat) : (s.setReference count acc).notices = s.notices := rfl
@[simp] theorem State.setReference_coalescer (s : State) (count : Word) (acc : Nat) : (s.setReference count acc).coalescer = s.coalescer := rfl
@[simp] theorem State.setReference_cellPort (s : State) (count : Word) (acc : Nat) : (s.setReference count acc).cellPort = s.cellPort := rfl
@[simp] theorem State.setReference_plantPort (s : State) (count : Word) (acc : Nat) : (s.setReference count acc).plantPort = s.plantPort := rfl
@[simp] theorem State.setReference_counters (s : State) (count : Word) (acc : Nat) : (s.setReference count acc).counters = s.counters := rfl
@[simp] theorem State.setReference_eeprom (s : State) (count : Word) (acc : Nat) : (s.setReference count acc).eeprom = s.eeprom := rfl
@[simp] theorem State.setReference_draws (s : State) (count : Word) (acc : Nat) : (s.setReference count acc).draws = s.draws := rfl
@[simp] theorem State.setReference_raised (s : State) (count : Word) (acc : Nat) : (s.setReference count acc).raised = s.raised := rfl
@[simp] theorem State.setReference_handed (s : State) (count : Word) (acc : Nat) : (s.setReference count acc).handed = s.handed := rfl
@[simp] theorem State.setReference_pending (s : State) (count : Word) (acc : Nat) : (s.setReference count acc).pending = s.pending := rfl

@[simp] theorem State.setPortState_now (s : State) (p : Port) (st : PortState) : (s.setPortState p st).now = s.now := by cases p <;> rfl
@[simp] theorem State.setPortState_mode (s : State) (p : Port) (st : PortState) : (s.setPortState p st).mode = s.mode := by cases p <;> rfl
@[simp] theorem State.setPortState_activity (s : State) (p : Port) (st : PortState) : (s.setPortState p st).activity = s.activity := by cases p <;> rfl
@[simp] theorem State.setPortState_tables (s : State) (p : Port) (st : PortState) : (s.setPortState p st).tables = s.tables := by cases p <;> rfl
@[simp] theorem State.setPortState_tracker (s : State) (p : Port) (st : PortState) : (s.setPortState p st).tracker = s.tracker := by cases p <;> rfl
@[simp] theorem State.setPortState_lots (s : State) (p : Port) (st : PortState) : (s.setPortState p st).lots = s.lots := by cases p <;> rfl
@[simp] theorem State.setPortState_arbiter (s : State) (p : Port) (st : PortState) : (s.setPortState p st).arbiter = s.arbiter := by cases p <;> rfl
@[simp] theorem State.setPortState_belt (s : State) (p : Port) (st : PortState) : (s.setPortState p st).belt = s.belt := by cases p <;> rfl
@[simp] theorem State.setPortState_head (s : State) (p : Port) (st : PortState) : (s.setPortState p st).head = s.head := by cases p <;> rfl
@[simp] theorem State.setPortState_filtration (s : State) (p : Port) (st : PortState) : (s.setPortState p st).filtration = s.filtration := by cases p <;> rfl
@[simp] theorem State.setPortState_engine (s : State) (p : Port) (st : PortState) : (s.setPortState p st).engine = s.engine := by cases p <;> rfl
@[simp] theorem State.setPortState_router (s : State) (p : Port) (st : PortState) : (s.setPortState p st).router = s.router := by cases p <;> rfl
@[simp] theorem State.setPortState_notices (s : State) (p : Port) (st : PortState) : (s.setPortState p st).notices = s.notices := by cases p <;> rfl
@[simp] theorem State.setPortState_coalescer (s : State) (p : Port) (st : PortState) : (s.setPortState p st).coalescer = s.coalescer := by cases p <;> rfl
@[simp] theorem State.setPortState_cellQueue (s : State) (p : Port) (st : PortState) : (s.setPortState p st).cellPort.queue = s.cellPort.queue := by cases p <;> rfl
@[simp] theorem State.setPortState_plantQueue (s : State) (p : Port) (st : PortState) : (s.setPortState p st).plantPort.queue = s.plantPort.queue := by cases p <;> rfl
@[simp] theorem State.setPortState_counters (s : State) (p : Port) (st : PortState) : (s.setPortState p st).counters = s.counters := by cases p <;> rfl
@[simp] theorem State.setPortState_eeprom (s : State) (p : Port) (st : PortState) : (s.setPortState p st).eeprom = s.eeprom := by cases p <;> rfl
@[simp] theorem State.setPortState_draws (s : State) (p : Port) (st : PortState) : (s.setPortState p st).draws = s.draws := by cases p <;> rfl
@[simp] theorem State.setPortState_raised (s : State) (p : Port) (st : PortState) : (s.setPortState p st).raised = s.raised := by cases p <;> rfl
@[simp] theorem State.setPortState_handed (s : State) (p : Port) (st : PortState) : (s.setPortState p st).handed = s.handed := by cases p <;> rfl
@[simp] theorem State.setPortState_pending (s : State) (p : Port) (st : PortState) : (s.setPortState p st).pending = s.pending := by cases p <;> rfl

@[simp] theorem State.setTables_now (s : State) (t : Tables) : (s.setTables t).now = s.now := rfl
@[simp] theorem State.setTables_mode (s : State) (t : Tables) : (s.setTables t).mode = s.mode := rfl
@[simp] theorem State.setTables_activity (s : State) (t : Tables) : (s.setTables t).activity = s.activity := rfl
@[simp] theorem State.setTables_tracker (s : State) (t : Tables) : (s.setTables t).tracker = s.tracker := rfl
@[simp] theorem State.setTables_lots (s : State) (t : Tables) : (s.setTables t).lots = s.lots := rfl
@[simp] theorem State.setTables_arbiter (s : State) (t : Tables) : (s.setTables t).arbiter = s.arbiter := rfl
@[simp] theorem State.setTables_belt (s : State) (t : Tables) : (s.setTables t).belt = s.belt := rfl
@[simp] theorem State.setTables_head (s : State) (t : Tables) : (s.setTables t).head = s.head := rfl
@[simp] theorem State.setTables_filtration (s : State) (t : Tables) : (s.setTables t).filtration = s.filtration := rfl
@[simp] theorem State.setTables_engine (s : State) (t : Tables) : (s.setTables t).engine = s.engine := rfl
@[simp] theorem State.setTables_router (s : State) (t : Tables) : (s.setTables t).router = s.router := rfl
@[simp] theorem State.setTables_notices (s : State) (t : Tables) : (s.setTables t).notices = s.notices := rfl
@[simp] theorem State.setTables_coalescer (s : State) (t : Tables) : (s.setTables t).coalescer = s.coalescer := rfl
@[simp] theorem State.setTables_cellPort (s : State) (t : Tables) : (s.setTables t).cellPort = s.cellPort := rfl
@[simp] theorem State.setTables_plantPort (s : State) (t : Tables) : (s.setTables t).plantPort = s.plantPort := rfl
@[simp] theorem State.setTables_counters (s : State) (t : Tables) : (s.setTables t).counters = s.counters := rfl
@[simp] theorem State.setTables_eeprom (s : State) (t : Tables) : (s.setTables t).eeprom = s.eeprom := rfl
@[simp] theorem State.setTables_draws (s : State) (t : Tables) : (s.setTables t).draws = s.draws := rfl
@[simp] theorem State.setTables_raised (s : State) (t : Tables) : (s.setTables t).raised = s.raised := rfl
@[simp] theorem State.setTables_handed (s : State) (t : Tables) : (s.setTables t).handed = s.handed := rfl
@[simp] theorem State.setTables_pending (s : State) (t : Tables) : (s.setTables t).pending = s.pending := rfl

@[simp] theorem State.setActivity_now (s : State) (a : Activity) : (s.setActivity a).now = s.now := rfl
@[simp] theorem State.setActivity_mode (s : State) (a : Activity) : (s.setActivity a).mode = s.mode := rfl
@[simp] theorem State.setActivity_tables (s : State) (a : Activity) : (s.setActivity a).tables = s.tables := rfl
@[simp] theorem State.setActivity_tracker (s : State) (a : Activity) : (s.setActivity a).tracker = s.tracker := rfl
@[simp] theorem State.setActivity_lots (s : State) (a : Activity) : (s.setActivity a).lots = s.lots := rfl
@[simp] theorem State.setActivity_arbiter (s : State) (a : Activity) : (s.setActivity a).arbiter = s.arbiter := rfl
@[simp] theorem State.setActivity_belt (s : State) (a : Activity) : (s.setActivity a).belt = s.belt := rfl
@[simp] theorem State.setActivity_head (s : State) (a : Activity) : (s.setActivity a).head = s.head := rfl
@[simp] theorem State.setActivity_filtration (s : State) (a : Activity) : (s.setActivity a).filtration = s.filtration := rfl
@[simp] theorem State.setActivity_engine (s : State) (a : Activity) : (s.setActivity a).engine = s.engine := rfl
@[simp] theorem State.setActivity_router (s : State) (a : Activity) : (s.setActivity a).router = s.router := rfl
@[simp] theorem State.setActivity_notices (s : State) (a : Activity) : (s.setActivity a).notices = s.notices := rfl
@[simp] theorem State.setActivity_coalescer (s : State) (a : Activity) : (s.setActivity a).coalescer = s.coalescer := rfl
@[simp] theorem State.setActivity_cellPort (s : State) (a : Activity) : (s.setActivity a).cellPort = s.cellPort := rfl
@[simp] theorem State.setActivity_plantPort (s : State) (a : Activity) : (s.setActivity a).plantPort = s.plantPort := rfl
@[simp] theorem State.setActivity_counters (s : State) (a : Activity) : (s.setActivity a).counters = s.counters := rfl
@[simp] theorem State.setActivity_eeprom (s : State) (a : Activity) : (s.setActivity a).eeprom = s.eeprom := rfl
@[simp] theorem State.setActivity_draws (s : State) (a : Activity) : (s.setActivity a).draws = s.draws := rfl
@[simp] theorem State.setActivity_raised (s : State) (a : Activity) : (s.setActivity a).raised = s.raised := rfl
@[simp] theorem State.setActivity_handed (s : State) (a : Activity) : (s.setActivity a).handed = s.handed := rfl
@[simp] theorem State.setActivity_pending (s : State) (a : Activity) : (s.setActivity a).pending = s.pending := rfl

@[simp] theorem State.withPending_now (s : State) (q : List Instr) : (s.withPending q).now = s.now := rfl
@[simp] theorem State.withPending_mode (s : State) (q : List Instr) : (s.withPending q).mode = s.mode := rfl
@[simp] theorem State.withPending_activity (s : State) (q : List Instr) : (s.withPending q).activity = s.activity := rfl
@[simp] theorem State.withPending_tables (s : State) (q : List Instr) : (s.withPending q).tables = s.tables := rfl
@[simp] theorem State.withPending_tracker (s : State) (q : List Instr) : (s.withPending q).tracker = s.tracker := rfl
@[simp] theorem State.withPending_lots (s : State) (q : List Instr) : (s.withPending q).lots = s.lots := rfl
@[simp] theorem State.withPending_arbiter (s : State) (q : List Instr) : (s.withPending q).arbiter = s.arbiter := rfl
@[simp] theorem State.withPending_belt (s : State) (q : List Instr) : (s.withPending q).belt = s.belt := rfl
@[simp] theorem State.withPending_head (s : State) (q : List Instr) : (s.withPending q).head = s.head := rfl
@[simp] theorem State.withPending_filtration (s : State) (q : List Instr) : (s.withPending q).filtration = s.filtration := rfl
@[simp] theorem State.withPending_engine (s : State) (q : List Instr) : (s.withPending q).engine = s.engine := rfl
@[simp] theorem State.withPending_router (s : State) (q : List Instr) : (s.withPending q).router = s.router := rfl
@[simp] theorem State.withPending_notices (s : State) (q : List Instr) : (s.withPending q).notices = s.notices := rfl
@[simp] theorem State.withPending_coalescer (s : State) (q : List Instr) : (s.withPending q).coalescer = s.coalescer := rfl
@[simp] theorem State.withPending_cellPort (s : State) (q : List Instr) : (s.withPending q).cellPort = s.cellPort := rfl
@[simp] theorem State.withPending_plantPort (s : State) (q : List Instr) : (s.withPending q).plantPort = s.plantPort := rfl
@[simp] theorem State.withPending_counters (s : State) (q : List Instr) : (s.withPending q).counters = s.counters := rfl
@[simp] theorem State.withPending_eeprom (s : State) (q : List Instr) : (s.withPending q).eeprom = s.eeprom := rfl
@[simp] theorem State.withPending_draws (s : State) (q : List Instr) : (s.withPending q).draws = s.draws := rfl
@[simp] theorem State.withPending_raised (s : State) (q : List Instr) : (s.withPending q).raised = s.raised := rfl
@[simp] theorem State.withPending_handed (s : State) (q : List Instr) : (s.withPending q).handed = s.handed := rfl

@[simp] theorem State.nextMs_mode (s : State) : (s.nextMs).mode = s.mode := rfl
@[simp] theorem State.nextMs_activity (s : State) : (s.nextMs).activity = s.activity := rfl
@[simp] theorem State.nextMs_tables (s : State) : (s.nextMs).tables = s.tables := rfl
@[simp] theorem State.nextMs_tracker (s : State) : (s.nextMs).tracker = s.tracker := rfl
@[simp] theorem State.nextMs_lots (s : State) : (s.nextMs).lots = s.lots := rfl
@[simp] theorem State.nextMs_arbiter (s : State) : (s.nextMs).arbiter = s.arbiter := rfl
@[simp] theorem State.nextMs_belt (s : State) : (s.nextMs).belt = s.belt := rfl
@[simp] theorem State.nextMs_head (s : State) : (s.nextMs).head = s.head := rfl
@[simp] theorem State.nextMs_filtration (s : State) : (s.nextMs).filtration = s.filtration := rfl
@[simp] theorem State.nextMs_engine (s : State) : (s.nextMs).engine = s.engine := rfl
@[simp] theorem State.nextMs_router (s : State) : (s.nextMs).router = s.router := rfl
@[simp] theorem State.nextMs_notices (s : State) : (s.nextMs).notices = s.notices := rfl
@[simp] theorem State.nextMs_coalescer (s : State) : (s.nextMs).coalescer = s.coalescer := rfl
@[simp] theorem State.nextMs_cellPort (s : State) : (s.nextMs).cellPort = s.cellPort := rfl
@[simp] theorem State.nextMs_plantPort (s : State) : (s.nextMs).plantPort = s.plantPort := rfl
@[simp] theorem State.nextMs_counters (s : State) : (s.nextMs).counters = s.counters := rfl
@[simp] theorem State.nextMs_eeprom (s : State) : (s.nextMs).eeprom = s.eeprom := rfl
@[simp] theorem State.nextMs_draws (s : State) : (s.nextMs).draws = s.draws := rfl
@[simp] theorem State.nextMs_raised (s : State) : (s.nextMs).raised = s.raised := rfl
@[simp] theorem State.nextMs_handed (s : State) : (s.nextMs).handed = s.handed := rfl
@[simp] theorem State.nextMs_pending (s : State) : (s.nextMs).pending = s.pending := rfl

/-! ### What each update writes -/

@[simp] theorem State.setMap_map (s : State) (m : List Pitch) : (s.setMap m).tracker.map = m := rfl
@[simp] theorem State.setReference_last (s : State) (count : Word) (acc : Nat) : (s.setReference count acc).tracker.last = some count := rfl
@[simp] theorem State.setReference_acc (s : State) (count : Word) (acc : Nat) : (s.setReference count acc).tracker.acc = acc := rfl
@[simp] theorem State.setChain_chain (s : State) (c : Option Chain) : (s.setChain c).engine.chain = c := rfl
@[simp] theorem State.setChain_waiting (s : State) (c : Option Chain) : (s.setChain c).engine.waiting = s.engine.waiting := rfl
@[simp] theorem State.setChain_lastOutcome (s : State) (c : Option Chain) : (s.setChain c).engine.lastOutcome = s.engine.lastOutcome := rfl
@[simp] theorem State.setGate_gate (s : State) (g : GateState) : (s.setGate g).head.gate = g := rfl
@[simp] theorem State.setGate_crusher (s : State) (g : GateState) : (s.setGate g).head.crusher = s.head.crusher := rfl
@[simp] theorem State.setGate_jam (s : State) (g : GateState) : (s.setGate g).head.jam = s.head.jam := rfl
@[simp] theorem State.setCrusher_crusher (s : State) (c : CrusherState) : (s.setCrusher c).head.crusher = c := rfl
@[simp] theorem State.setCrusher_gate (s : State) (c : CrusherState) : (s.setCrusher c).head.gate = s.head.gate := rfl
@[simp] theorem State.setTables_tables (s : State) (t : Tables) : (s.setTables t).tables = t := rfl
@[simp] theorem State.setActivity_activity (s : State) (a : Activity) : (s.setActivity a).activity = a := rfl
@[simp] theorem State.withPending_pending (s : State) (q : List Instr) : (s.withPending q).pending = q := rfl
@[simp] theorem State.nextMs_now (s : State) : s.nextMs.now = s.now + 1 := rfl
@[simp] theorem State.setPort_port (s : State) (p : Port) (r : PortRec) : (s.setPort p r).port p = r := by cases p <;> rfl

/-- A port's update leaves the other port alone. -/
theorem State.setPort_other (s : State) (p q : Port) (r : PortRec) (h : q ≠ p) : (s.setPort p r).port q = s.port q := by
  cases p <;> cases q <;> first | rfl | exact absurd rfl h

@[simp] theorem State.setPort_state (s : State) (p q : Port) (l : List Frame) :
    ((s.setPort p { s.port p with queue := l }).port q).state = (s.port q).state := by cases p <;> cases q <;> rfl

@[simp] theorem State.setLot_same (s : State) (l : LotNo) (r : Lot) : (s.setLot l r).lots[l] = r := by simp [State.setLot]

/-- A lot's update leaves the other records alone. -/
theorem State.setLot_other (s : State) (l m : LotNo) (r : Lot) (h : m ≠ l) : (s.setLot l r).lots[m] = s.lots[m] := by
  simp [State.setLot, Fin.val_inj, Ne.symm h]

@[simp] theorem State.setDrum_same (s : State) (d : DrumNo) (r : DrumRec) : (s.setDrum d r).drum d = r := by
  simp [State.setDrum, State.drum]

/-- A drum's update leaves the other drums alone. -/
theorem State.setDrum_other (s : State) (d e : DrumNo) (r : DrumRec) (h : e ≠ d) : (s.setDrum d r).drum e = s.drum e := by
  simp [State.setDrum, State.drum, Fin.val_inj, Ne.symm h]

@[simp] theorem State.setRequest_same (s : State) (c : CellNo) (q : Option Request) : (s.setRequest c q).request c = q := by
  simp [State.setRequest, State.request]

/-- A request's update leaves the other cells alone. -/
theorem State.setRequest_other (s : State) (c d : CellNo) (q : Option Request) (h : d ≠ c) :
    (s.setRequest c q).request d = s.request d := by
  simp [State.setRequest, State.request, Fin.val_inj, Ne.symm h]

@[simp] theorem State.setRequest_pointer (s : State) (c : CellNo) (q : Option Request) :
    (s.setRequest c q).arbiter.pointer = s.arbiter.pointer := rfl

end Sys2Proof.Machine
end

