-- ==== Sys2Proof/Laws/Counters.lean ====
section
/-! SUPPORT. The counter file: no two counters share a place, a counter that grows saturates (R161), and every other counter keeps
its value. -/

namespace Sys2Proof.Machine

/-! The counters in the order of their numbers, in pieces of ten. -/

def counterPiece0 : List Counter :=
  [.samplesAccepted, .samplesImplausible, .pitchesShifted, .lotsGranted, .lotsSealedFull, .lotsCutShort,
   .lotsAbandoned, .lotsDelivered, .massAccepted, .lateReports]

def counterPiece1 : List Counter :=
  [.strayReports, .requestsAdded, .requestsReplaced, .requestsUrgent, .refusals .notEnrolled,
   .refusals .classDisabled, .refusals .badLength, .refusals .busy, .refusals .expired, .refusals .withdrawn]

def counterPiece2 : List Counter :=
  [.refusals .noRequest, .refusals .restarted, .passes, .upstreamSkips, .notFeasible, .dischargeDiscarded,
   .holdsBegun, .holdOrders, .resumeOrders, .overridesLatched]

def counterPiece3 : List Counter :=
  [.setpointsIssued, .gateMoves, .gateTimeouts, .gateLost, .gateInvalid, .misrouted, .uncrushed, .crusherStarts,
   .startFailures, .crusherTrips]

def counterPiece4 : List Counter :=
  [.crusherJams, .idleStops, .surges, .interlockHolds, .lotFines, .finesComputed, .finesCredited, .finesUnfiltered,
   .dpHigh, .flushArbitrations]

def counterPiece5 : List Counter :=
  [.flushesStarted, .forcedFlushes, .flushesGood, .flushesFailed, .drumFaults, .drumCommands, .filterInvalid,
   .capacityLow, .allotmentsSeen, .allotmentsUnknown]

def counterPiece6 : List Counter :=
  [.allotmentsClamped, .occurrences 0, .occurrences 1, .occurrences 2, .occurrences 3, .occurrences 4,
   .occurrences 5, .occurrences 6, .occurrences 7, .occurrences 8]

def counterPiece7 : List Counter :=
  [.occurrences 9, .occurrences 10, .occurrences 11, .occurrences 12, .occurrences 13, .occurrences 14,
   .occurrences 15, .chainsStarted, .descriptorsStarted, .stepsIssued]

def counterPiece8 : List Counter :=
  [.chainsEnded .cleared, .chainsEnded .exhausted, .chainsEnded .aborted, .linkLimits, .triggersPended,
   .triggersAbsorbed, .triggersDiscarded, .noticesQueued, .noticesUnaddressed, .raised .misroute]

def counterPiece9 : List Counter :=
  [.raised .crusherFault, .raised .drumFault, .raised .ownTelegramLost, .raised .linkLimit, .raised .imageBad,
   .raised .uncrushedDelivery, .raised .beltImplausible, .raised .lateMass, .raised .strayReport,
   .raised .foreignSample]

def counterPiece10 : List Counter :=
  [.raised .gateTimeout, .faultsCaptured, .faultsSuppressed, .commandsHanded, .entriesCreated, .commandsMerged,
   .unloadsUrgent, .unloadsByCount, .unloadsByAge, .unloadWaits]

def counterPiece11 : List Counter :=
  [.commandsSent, .commandsUnaddressed, .entriesDiscarded, .goodFrames .cell, .badFrames .cell, .otherProtocol .cell,
   .malformed .cell, .loadingDrops .cell, .consumed .cell, .unusable .cell]

def counterPiece12 : List Counter :=
  [.foreign .cell, .managementRefused .cell, .forwardDropped .cell, .ownLost .cell, .transmitted .cell,
   .portDown .cell, .portUp .cell, .goodFrames .plant, .badFrames .plant, .otherProtocol .plant]

def counterPiece13 : List Counter :=
  [.malformed .plant, .loadingDrops .plant, .consumed .plant, .unusable .plant, .foreign .plant,
   .managementRefused .plant, .forwardDropped .plant, .ownLost .plant, .transmitted .plant, .portDown .plant]

def counterPiece14 : List Counter :=
  [.portUp .plant, .requestsServed, .requestsRefused, .loadsValid, .loadsBad, .savesCompleted, .savesFailed,
   .restarts, .reloadsValid, .reloadsBad]

def counterPiece15 : List Counter :=
  [.routeMass 0, .routeLots 0, .routeMass 1, .routeLots 1, .routeMass 2, .routeLots 2, .routeMass 3, .routeLots 3,
   .routeMass 4, .routeLots 4]

def counterPiece16 : List Counter :=
  [.routeMass 5, .routeLots 5, .routeMass 6, .routeLots 6, .routeMass 7, .routeLots 7, .unrouted, .contaminated,
   .hits 0, .hits 1]

def counterPiece17 : List Counter :=
  [.hits 2, .hits 3, .hits 4, .hits 5, .hits 6, .hits 7, .hits 8, .hits 9, .hits 10, .hits 11]

def counterPiece18 : List Counter :=
  [.hits 12, .hits 13, .hits 14, .hits 15, .hits 16, .hits 17, .hits 18, .hits 19, .hits 20, .hits 21]

def counterPiece19 : List Counter :=
  [.hits 22, .hits 23, .hits 24, .hits 25, .hits 26, .hits 27, .hits 28, .hits 29, .hits 30, .hits 31]

/-- The two hundred counters in the order of their numbers. -/
def counterList : List Counter :=
  counterPiece0 ++ counterPiece1 ++ counterPiece2 ++ counterPiece3 ++ counterPiece4 ++ counterPiece5 ++ counterPiece6 ++ counterPiece7 ++ counterPiece8 ++ counterPiece9 ++
    counterPiece10 ++ counterPiece11 ++ counterPiece12 ++ counterPiece13 ++ counterPiece14 ++ counterPiece15 ++ counterPiece16 ++ counterPiece17 ++ counterPiece18 ++ counterPiece19

/-- The list holds every counter under its number. -/
theorem counterList_number (c : Counter) : counterList[c.number]? = some c := by
  cases c with
  | refusals r => cases r <;> rfl
  | occurrences i => revert i; decide
  | chainsEnded o => cases o <;> rfl
  | raised k => cases k <;> rfl
  | goodFrames p => cases p <;> rfl
  | badFrames p => cases p <;> rfl
  | otherProtocol p => cases p <;> rfl
  | malformed p => cases p <;> rfl
  | loadingDrops p => cases p <;> rfl
  | consumed p => cases p <;> rfl
  | unusable p => cases p <;> rfl
  | foreign p => cases p <;> rfl
  | managementRefused p => cases p <;> rfl
  | forwardDropped p => cases p <;> rfl
  | ownLost p => cases p <;> rfl
  | transmitted p => cases p <;> rfl
  | portDown p => cases p <;> rfl
  | portUp p => cases p <;> rfl
  | routeMass r => revert r; decide
  | routeLots r => revert r; decide
  | hits i => revert i; decide
  | _ => rfl

theorem Counter.number_lt (c : Counter) : c.number < 200 := by
  cases c with
  | refusals r => cases r <;> decide
  | occurrences i => revert i; decide
  | chainsEnded o => cases o <;> decide
  | raised k => cases k <;> decide
  | goodFrames p => cases p <;> decide
  | badFrames p => cases p <;> decide
  | otherProtocol p => cases p <;> decide
  | malformed p => cases p <;> decide
  | loadingDrops p => cases p <;> decide
  | consumed p => cases p <;> decide
  | unusable p => cases p <;> decide
  | foreign p => cases p <;> decide
  | managementRefused p => cases p <;> decide
  | forwardDropped p => cases p <;> decide
  | ownLost p => cases p <;> decide
  | transmitted p => cases p <;> decide
  | portDown p => cases p <;> decide
  | portUp p => cases p <;> decide
  | routeMass r => revert r; decide
  | routeLots r => revert r; decide
  | hits i => revert i; decide
  | _ => decide

theorem Counter.slot_val (c : Counter) : c.slot.val = c.number := Nat.mod_eq_of_lt c.number_lt

/-- No two counters share a place. -/
theorem Counter.slot_inj {c d : Counter} : c.slot = d.slot ↔ c = d := by
  constructor
  · intro h
    have hn : c.number = d.number := by rw [← c.slot_val, ← d.slot_val, h]
    exact Option.some.inj ((counterList_number c).symm.trans (hn ▸ counterList_number d))
  · rintro rfl; rfl

theorem State.counter_of_counters {s t : State} (c : Counter) (h : t.counters = s.counters) : t.counter c = s.counter c := by
  simp [State.counter, h]

/-- Everything a growing counter does to the counter file (R161). -/
@[simp] theorem counter_bumpBy (c d : Counter) (n : Nat) (s : State) :
    (bumpBy c n s).counter d = if c = d then saturatingAdd (s.counter c) n else s.counter d := by
  by_cases h : c = d
  · subst h; simp [bumpBy, State.counter]
  · have hs : c.slot ≠ d.slot := fun e => h (Counter.slot_inj.mp e)
    have hv : c.slot.val ≠ d.slot.val := fun e => hs (Fin.ext e)
    simp [bumpBy, State.counter, h, Vector.getElem_set_ne, hv]

@[simp] theorem counter_bump (c d : Counter) (s : State) :
    (bump c s).counter d = if c = d then saturatingAdd (s.counter c) 1 else s.counter d := counter_bumpBy c d 1 s

/-- A counter holds at its maximum, and otherwise grows by the whole amount (R161). -/
theorem saturatingAdd_toNat (w : Word) (n : Nat) : (saturatingAdd w n).toNat = min (w.toNat + n) 4294967295 := by
  simp only [saturatingAdd, BitVec.toNat_ofNat]
  omega

end Sys2Proof.Machine
end

