-- ==== Sys2Proof/Laws/Ops.lean ====
section
/-! SUPPORT. What the shared operations leave alone: counters, faults, transmit queues, the coalescer and the setpoint (Machine/Flags.lean and Machine/Ops.lean). -/

namespace Sys2Proof.Machine

theorem bumpBy_frame (c : Counter) (n : Nat) (s : State) :
    (bumpBy c n s).now = s.now ∧
    (bumpBy c n s).mode = s.mode ∧
    (bumpBy c n s).activity = s.activity ∧
    (bumpBy c n s).tables = s.tables ∧
    (bumpBy c n s).tracker = s.tracker ∧
    (bumpBy c n s).lots = s.lots ∧
    (bumpBy c n s).arbiter = s.arbiter ∧
    (bumpBy c n s).belt = s.belt ∧
    (bumpBy c n s).head = s.head ∧
    (bumpBy c n s).filtration = s.filtration ∧
    (bumpBy c n s).engine = s.engine ∧
    (bumpBy c n s).router = s.router ∧
    (bumpBy c n s).notices = s.notices ∧
    (bumpBy c n s).coalescer = s.coalescer ∧
    (bumpBy c n s).cellPort = s.cellPort ∧
    (bumpBy c n s).plantPort = s.plantPort ∧
    (bumpBy c n s).eeprom = s.eeprom ∧
    (bumpBy c n s).draws = s.draws ∧
    (bumpBy c n s).raised = s.raised ∧
    (bumpBy c n s).handed = s.handed ∧
    (bumpBy c n s).pending = s.pending := by
  simp [bumpBy]
@[simp] theorem bumpBy_now (c : Counter) (n : Nat) (s : State) : (bumpBy c n s).now = s.now := (bumpBy_frame c n s).1
@[simp] theorem bumpBy_mode (c : Counter) (n : Nat) (s : State) : (bumpBy c n s).mode = s.mode := (bumpBy_frame c n s).2.1
@[simp] theorem bumpBy_activity (c : Counter) (n : Nat) (s : State) : (bumpBy c n s).activity = s.activity := (bumpBy_frame c n s).2.2.1
@[simp] theorem bumpBy_tables (c : Counter) (n : Nat) (s : State) : (bumpBy c n s).tables = s.tables := (bumpBy_frame c n s).2.2.2.1
@[simp] theorem bumpBy_tracker (c : Counter) (n : Nat) (s : State) : (bumpBy c n s).tracker = s.tracker := (bumpBy_frame c n s).2.2.2.2.1
@[simp] theorem bumpBy_lots (c : Counter) (n : Nat) (s : State) : (bumpBy c n s).lots = s.lots := (bumpBy_frame c n s).2.2.2.2.2.1
@[simp] theorem bumpBy_arbiter (c : Counter) (n : Nat) (s : State) : (bumpBy c n s).arbiter = s.arbiter := (bumpBy_frame c n s).2.2.2.2.2.2.1
@[simp] theorem bumpBy_belt (c : Counter) (n : Nat) (s : State) : (bumpBy c n s).belt = s.belt := (bumpBy_frame c n s).2.2.2.2.2.2.2.1
@[simp] theorem bumpBy_head (c : Counter) (n : Nat) (s : State) : (bumpBy c n s).head = s.head := (bumpBy_frame c n s).2.2.2.2.2.2.2.2.1
@[simp] theorem bumpBy_filtration (c : Counter) (n : Nat) (s : State) : (bumpBy c n s).filtration = s.filtration := (bumpBy_frame c n s).2.2.2.2.2.2.2.2.2.1
@[simp] theorem bumpBy_engine (c : Counter) (n : Nat) (s : State) : (bumpBy c n s).engine = s.engine := (bumpBy_frame c n s).2.2.2.2.2.2.2.2.2.2.1
@[simp] theorem bumpBy_router (c : Counter) (n : Nat) (s : State) : (bumpBy c n s).router = s.router := (bumpBy_frame c n s).2.2.2.2.2.2.2.2.2.2.2.1
@[simp] theorem bumpBy_notices (c : Counter) (n : Nat) (s : State) : (bumpBy c n s).notices = s.notices := (bumpBy_frame c n s).2.2.2.2.2.2.2.2.2.2.2.2.1
@[simp] theorem bumpBy_coalescer (c : Counter) (n : Nat) (s : State) : (bumpBy c n s).coalescer = s.coalescer := (bumpBy_frame c n s).2.2.2.2.2.2.2.2.2.2.2.2.2.1
@[simp] theorem bumpBy_cellPort (c : Counter) (n : Nat) (s : State) : (bumpBy c n s).cellPort = s.cellPort := (bumpBy_frame c n s).2.2.2.2.2.2.2.2.2.2.2.2.2.2.1
@[simp] theorem bumpBy_plantPort (c : Counter) (n : Nat) (s : State) : (bumpBy c n s).plantPort = s.plantPort := (bumpBy_frame c n s).2.2.2.2.2.2.2.2.2.2.2.2.2.2.2.1
@[simp] theorem bumpBy_eeprom (c : Counter) (n : Nat) (s : State) : (bumpBy c n s).eeprom = s.eeprom := (bumpBy_frame c n s).2.2.2.2.2.2.2.2.2.2.2.2.2.2.2.2.1
@[simp] theorem bumpBy_draws (c : Counter) (n : Nat) (s : State) : (bumpBy c n s).draws = s.draws := (bumpBy_frame c n s).2.2.2.2.2.2.2.2.2.2.2.2.2.2.2.2.2.1
@[simp] theorem bumpBy_raised (c : Counter) (n : Nat) (s : State) : (bumpBy c n s).raised = s.raised := (bumpBy_frame c n s).2.2.2.2.2.2.2.2.2.2.2.2.2.2.2.2.2.2.1
@[simp] theorem bumpBy_handed (c : Counter) (n : Nat) (s : State) : (bumpBy c n s).handed = s.handed := (bumpBy_frame c n s).2.2.2.2.2.2.2.2.2.2.2.2.2.2.2.2.2.2.2.1
@[simp] theorem bumpBy_pending (c : Counter) (n : Nat) (s : State) : (bumpBy c n s).pending = s.pending := (bumpBy_frame c n s).2.2.2.2.2.2.2.2.2.2.2.2.2.2.2.2.2.2.2.2

theorem bump_frame (c : Counter) (s : State) :
    (bump c s).now = s.now ∧
    (bump c s).mode = s.mode ∧
    (bump c s).activity = s.activity ∧
    (bump c s).tables = s.tables ∧
    (bump c s).tracker = s.tracker ∧
    (bump c s).lots = s.lots ∧
    (bump c s).arbiter = s.arbiter ∧
    (bump c s).belt = s.belt ∧
    (bump c s).head = s.head ∧
    (bump c s).filtration = s.filtration ∧
    (bump c s).engine = s.engine ∧
    (bump c s).router = s.router ∧
    (bump c s).notices = s.notices ∧
    (bump c s).coalescer = s.coalescer ∧
    (bump c s).cellPort = s.cellPort ∧
    (bump c s).plantPort = s.plantPort ∧
    (bump c s).eeprom = s.eeprom ∧
    (bump c s).draws = s.draws ∧
    (bump c s).raised = s.raised ∧
    (bump c s).handed = s.handed ∧
    (bump c s).pending = s.pending := by
  simp [bump]
@[simp] theorem bump_now (c : Counter) (s : State) : (bump c s).now = s.now := (bump_frame c s).1
@[simp] theorem bump_mode (c : Counter) (s : State) : (bump c s).mode = s.mode := (bump_frame c s).2.1
@[simp] theorem bump_activity (c : Counter) (s : State) : (bump c s).activity = s.activity := (bump_frame c s).2.2.1
@[simp] theorem bump_tables (c : Counter) (s : State) : (bump c s).tables = s.tables := (bump_frame c s).2.2.2.1
@[simp] theorem bump_tracker (c : Counter) (s : State) : (bump c s).tracker = s.tracker := (bump_frame c s).2.2.2.2.1
@[simp] theorem bump_lots (c : Counter) (s : State) : (bump c s).lots = s.lots := (bump_frame c s).2.2.2.2.2.1
@[simp] theorem bump_arbiter (c : Counter) (s : State) : (bump c s).arbiter = s.arbiter := (bump_frame c s).2.2.2.2.2.2.1
@[simp] theorem bump_belt (c : Counter) (s : State) : (bump c s).belt = s.belt := (bump_frame c s).2.2.2.2.2.2.2.1
@[simp] theorem bump_head (c : Counter) (s : State) : (bump c s).head = s.head := (bump_frame c s).2.2.2.2.2.2.2.2.1
@[simp] theorem bump_filtration (c : Counter) (s : State) : (bump c s).filtration = s.filtration := (bump_frame c s).2.2.2.2.2.2.2.2.2.1
@[simp] theorem bump_engine (c : Counter) (s : State) : (bump c s).engine = s.engine := (bump_frame c s).2.2.2.2.2.2.2.2.2.2.1
@[simp] theorem bump_router (c : Counter) (s : State) : (bump c s).router = s.router := (bump_frame c s).2.2.2.2.2.2.2.2.2.2.2.1
@[simp] theorem bump_notices (c : Counter) (s : State) : (bump c s).notices = s.notices := (bump_frame c s).2.2.2.2.2.2.2.2.2.2.2.2.1
@[simp] theorem bump_coalescer (c : Counter) (s : State) : (bump c s).coalescer = s.coalescer := (bump_frame c s).2.2.2.2.2.2.2.2.2.2.2.2.2.1
@[simp] theorem bump_cellPort (c : Counter) (s : State) : (bump c s).cellPort = s.cellPort := (bump_frame c s).2.2.2.2.2.2.2.2.2.2.2.2.2.2.1
@[simp] theorem bump_plantPort (c : Counter) (s : State) : (bump c s).plantPort = s.plantPort := (bump_frame c s).2.2.2.2.2.2.2.2.2.2.2.2.2.2.2.1
@[simp] theorem bump_eeprom (c : Counter) (s : State) : (bump c s).eeprom = s.eeprom := (bump_frame c s).2.2.2.2.2.2.2.2.2.2.2.2.2.2.2.2.1
@[simp] theorem bump_draws (c : Counter) (s : State) : (bump c s).draws = s.draws := (bump_frame c s).2.2.2.2.2.2.2.2.2.2.2.2.2.2.2.2.2.1
@[simp] theorem bump_raised (c : Counter) (s : State) : (bump c s).raised = s.raised := (bump_frame c s).2.2.2.2.2.2.2.2.2.2.2.2.2.2.2.2.2.2.1
@[simp] theorem bump_handed (c : Counter) (s : State) : (bump c s).handed = s.handed := (bump_frame c s).2.2.2.2.2.2.2.2.2.2.2.2.2.2.2.2.2.2.2.1
@[simp] theorem bump_pending (c : Counter) (s : State) : (bump c s).pending = s.pending := (bump_frame c s).2.2.2.2.2.2.2.2.2.2.2.2.2.2.2.2.2.2.2.2

theorem raise_frame (o : Occurrence) (s : State) :
    (raise o s).now = s.now ∧
    (raise o s).mode = s.mode ∧
    (raise o s).activity = s.activity ∧
    (raise o s).tables = s.tables ∧
    (raise o s).tracker = s.tracker ∧
    (raise o s).lots = s.lots ∧
    (raise o s).arbiter = s.arbiter ∧
    (raise o s).belt = s.belt ∧
    (raise o s).head = s.head ∧
    (raise o s).filtration = s.filtration ∧
    (raise o s).engine = s.engine ∧
    (raise o s).router = s.router ∧
    (raise o s).notices = s.notices ∧
    (raise o s).coalescer = s.coalescer ∧
    (raise o s).cellPort = s.cellPort ∧
    (raise o s).plantPort = s.plantPort ∧
    (raise o s).counters = s.counters ∧
    (raise o s).eeprom = s.eeprom ∧
    (raise o s).draws = s.draws ∧
    (raise o s).handed = s.handed ∧
    (raise o s).pending = s.pending := by
  simp [raise]
@[simp] theorem raise_now (o : Occurrence) (s : State) : (raise o s).now = s.now := (raise_frame o s).1
@[simp] theorem raise_mode (o : Occurrence) (s : State) : (raise o s).mode = s.mode := (raise_frame o s).2.1
@[simp] theorem raise_activity (o : Occurrence) (s : State) : (raise o s).activity = s.activity := (raise_frame o s).2.2.1
@[simp] theorem raise_tables (o : Occurrence) (s : State) : (raise o s).tables = s.tables := (raise_frame o s).2.2.2.1
@[simp] theorem raise_tracker (o : Occurrence) (s : State) : (raise o s).tracker = s.tracker := (raise_frame o s).2.2.2.2.1
@[simp] theorem raise_lots (o : Occurrence) (s : State) : (raise o s).lots = s.lots := (raise_frame o s).2.2.2.2.2.1
@[simp] theorem raise_arbiter (o : Occurrence) (s : State) : (raise o s).arbiter = s.arbiter := (raise_frame o s).2.2.2.2.2.2.1
@[simp] theorem raise_belt (o : Occurrence) (s : State) : (raise o s).belt = s.belt := (raise_frame o s).2.2.2.2.2.2.2.1
@[simp] theorem raise_head (o : Occurrence) (s : State) : (raise o s).head = s.head := (raise_frame o s).2.2.2.2.2.2.2.2.1
@[simp] theorem raise_filtration (o : Occurrence) (s : State) : (raise o s).filtration = s.filtration := (raise_frame o s).2.2.2.2.2.2.2.2.2.1
@[simp] theorem raise_engine (o : Occurrence) (s : State) : (raise o s).engine = s.engine := (raise_frame o s).2.2.2.2.2.2.2.2.2.2.1
@[simp] theorem raise_router (o : Occurrence) (s : State) : (raise o s).router = s.router := (raise_frame o s).2.2.2.2.2.2.2.2.2.2.2.1
@[simp] theorem raise_notices (o : Occurrence) (s : State) : (raise o s).notices = s.notices := (raise_frame o s).2.2.2.2.2.2.2.2.2.2.2.2.1
@[simp] theorem raise_coalescer (o : Occurrence) (s : State) : (raise o s).coalescer = s.coalescer := (raise_frame o s).2.2.2.2.2.2.2.2.2.2.2.2.2.1
@[simp] theorem raise_cellPort (o : Occurrence) (s : State) : (raise o s).cellPort = s.cellPort := (raise_frame o s).2.2.2.2.2.2.2.2.2.2.2.2.2.2.1
@[simp] theorem raise_plantPort (o : Occurrence) (s : State) : (raise o s).plantPort = s.plantPort := (raise_frame o s).2.2.2.2.2.2.2.2.2.2.2.2.2.2.2.1
@[simp] theorem raise_counters (o : Occurrence) (s : State) : (raise o s).counters = s.counters := (raise_frame o s).2.2.2.2.2.2.2.2.2.2.2.2.2.2.2.2.1
@[simp] theorem raise_eeprom (o : Occurrence) (s : State) : (raise o s).eeprom = s.eeprom := (raise_frame o s).2.2.2.2.2.2.2.2.2.2.2.2.2.2.2.2.2.1
@[simp] theorem raise_draws (o : Occurrence) (s : State) : (raise o s).draws = s.draws := (raise_frame o s).2.2.2.2.2.2.2.2.2.2.2.2.2.2.2.2.2.2.1
@[simp] theorem raise_handed (o : Occurrence) (s : State) : (raise o s).handed = s.handed := (raise_frame o s).2.2.2.2.2.2.2.2.2.2.2.2.2.2.2.2.2.2.2.1
@[simp] theorem raise_pending (o : Occurrence) (s : State) : (raise o s).pending = s.pending := (raise_frame o s).2.2.2.2.2.2.2.2.2.2.2.2.2.2.2.2.2.2.2.2

theorem raisePlain_frame (src : SourceNo) (s : State) :
    (raisePlain src s).now = s.now ∧
    (raisePlain src s).mode = s.mode ∧
    (raisePlain src s).activity = s.activity ∧
    (raisePlain src s).tables = s.tables ∧
    (raisePlain src s).tracker = s.tracker ∧
    (raisePlain src s).lots = s.lots ∧
    (raisePlain src s).arbiter = s.arbiter ∧
    (raisePlain src s).belt = s.belt ∧
    (raisePlain src s).head = s.head ∧
    (raisePlain src s).filtration = s.filtration ∧
    (raisePlain src s).engine = s.engine ∧
    (raisePlain src s).router = s.router ∧
    (raisePlain src s).notices = s.notices ∧
    (raisePlain src s).coalescer = s.coalescer ∧
    (raisePlain src s).cellPort = s.cellPort ∧
    (raisePlain src s).plantPort = s.plantPort ∧
    (raisePlain src s).counters = s.counters ∧
    (raisePlain src s).eeprom = s.eeprom ∧
    (raisePlain src s).draws = s.draws ∧
    (raisePlain src s).handed = s.handed ∧
    (raisePlain src s).pending = s.pending := by
  simp [raisePlain]
@[simp] theorem raisePlain_now (src : SourceNo) (s : State) : (raisePlain src s).now = s.now := (raisePlain_frame src s).1
@[simp] theorem raisePlain_mode (src : SourceNo) (s : State) : (raisePlain src s).mode = s.mode := (raisePlain_frame src s).2.1
@[simp] theorem raisePlain_activity (src : SourceNo) (s : State) : (raisePlain src s).activity = s.activity := (raisePlain_frame src s).2.2.1
@[simp] theorem raisePlain_tables (src : SourceNo) (s : State) : (raisePlain src s).tables = s.tables := (raisePlain_frame src s).2.2.2.1
@[simp] theorem raisePlain_tracker (src : SourceNo) (s : State) : (raisePlain src s).tracker = s.tracker := (raisePlain_frame src s).2.2.2.2.1
@[simp] theorem raisePlain_lots (src : SourceNo) (s : State) : (raisePlain src s).lots = s.lots := (raisePlain_frame src s).2.2.2.2.2.1
@[simp] theorem raisePlain_arbiter (src : SourceNo) (s : State) : (raisePlain src s).arbiter = s.arbiter := (raisePlain_frame src s).2.2.2.2.2.2.1
@[simp] theorem raisePlain_belt (src : SourceNo) (s : State) : (raisePlain src s).belt = s.belt := (raisePlain_frame src s).2.2.2.2.2.2.2.1
@[simp] theorem raisePlain_head (src : SourceNo) (s : State) : (raisePlain src s).head = s.head := (raisePlain_frame src s).2.2.2.2.2.2.2.2.1
@[simp] theorem raisePlain_filtration (src : SourceNo) (s : State) : (raisePlain src s).filtration = s.filtration := (raisePlain_frame src s).2.2.2.2.2.2.2.2.2.1
@[simp] theorem raisePlain_engine (src : SourceNo) (s : State) : (raisePlain src s).engine = s.engine := (raisePlain_frame src s).2.2.2.2.2.2.2.2.2.2.1
@[simp] theorem raisePlain_router (src : SourceNo) (s : State) : (raisePlain src s).router = s.router := (raisePlain_frame src s).2.2.2.2.2.2.2.2.2.2.2.1
@[simp] theorem raisePlain_notices (src : SourceNo) (s : State) : (raisePlain src s).notices = s.notices := (raisePlain_frame src s).2.2.2.2.2.2.2.2.2.2.2.2.1
@[simp] theorem raisePlain_coalescer (src : SourceNo) (s : State) : (raisePlain src s).coalescer = s.coalescer := (raisePlain_frame src s).2.2.2.2.2.2.2.2.2.2.2.2.2.1
@[simp] theorem raisePlain_cellPort (src : SourceNo) (s : State) : (raisePlain src s).cellPort = s.cellPort := (raisePlain_frame src s).2.2.2.2.2.2.2.2.2.2.2.2.2.2.1
@[simp] theorem raisePlain_plantPort (src : SourceNo) (s : State) : (raisePlain src s).plantPort = s.plantPort := (raisePlain_frame src s).2.2.2.2.2.2.2.2.2.2.2.2.2.2.2.1
@[simp] theorem raisePlain_counters (src : SourceNo) (s : State) : (raisePlain src s).counters = s.counters := (raisePlain_frame src s).2.2.2.2.2.2.2.2.2.2.2.2.2.2.2.2.1
@[simp] theorem raisePlain_eeprom (src : SourceNo) (s : State) : (raisePlain src s).eeprom = s.eeprom := (raisePlain_frame src s).2.2.2.2.2.2.2.2.2.2.2.2.2.2.2.2.2.1
@[simp] theorem raisePlain_draws (src : SourceNo) (s : State) : (raisePlain src s).draws = s.draws := (raisePlain_frame src s).2.2.2.2.2.2.2.2.2.2.2.2.2.2.2.2.2.2.1
@[simp] theorem raisePlain_handed (src : SourceNo) (s : State) : (raisePlain src s).handed = s.handed := (raisePlain_frame src s).2.2.2.2.2.2.2.2.2.2.2.2.2.2.2.2.2.2.2.1
@[simp] theorem raisePlain_pending (src : SourceNo) (s : State) : (raisePlain src s).pending = s.pending := (raisePlain_frame src s).2.2.2.2.2.2.2.2.2.2.2.2.2.2.2.2.2.2.2.2

theorem raiseDrum_frame (src : SourceNo) (d : DrumNo) (s : State) :
    (raiseDrum src d s).now = s.now ∧
    (raiseDrum src d s).mode = s.mode ∧
    (raiseDrum src d s).activity = s.activity ∧
    (raiseDrum src d s).tables = s.tables ∧
    (raiseDrum src d s).tracker = s.tracker ∧
    (raiseDrum src d s).lots = s.lots ∧
    (raiseDrum src d s).arbiter = s.arbiter ∧
    (raiseDrum src d s).belt = s.belt ∧
    (raiseDrum src d s).head = s.head ∧
    (raiseDrum src d s).filtration = s.filtration ∧
    (raiseDrum src d s).engine = s.engine ∧
    (raiseDrum src d s).router = s.router ∧
    (raiseDrum src d s).notices = s.notices ∧
    (raiseDrum src d s).coalescer = s.coalescer ∧
    (raiseDrum src d s).cellPort = s.cellPort ∧
    (raiseDrum src d s).plantPort = s.plantPort ∧
    (raiseDrum src d s).counters = s.counters ∧
    (raiseDrum src d s).eeprom = s.eeprom ∧
    (raiseDrum src d s).draws = s.draws ∧
    (raiseDrum src d s).handed = s.handed ∧
    (raiseDrum src d s).pending = s.pending := by
  simp [raiseDrum]
@[simp] theorem raiseDrum_now (src : SourceNo) (d : DrumNo) (s : State) : (raiseDrum src d s).now = s.now := (raiseDrum_frame src d s).1
@[simp] theorem raiseDrum_mode (src : SourceNo) (d : DrumNo) (s : State) : (raiseDrum src d s).mode = s.mode := (raiseDrum_frame src d s).2.1
@[simp] theorem raiseDrum_activity (src : SourceNo) (d : DrumNo) (s : State) : (raiseDrum src d s).activity = s.activity := (raiseDrum_frame src d s).2.2.1
@[simp] theorem raiseDrum_tables (src : SourceNo) (d : DrumNo) (s : State) : (raiseDrum src d s).tables = s.tables := (raiseDrum_frame src d s).2.2.2.1
@[simp] theorem raiseDrum_tracker (src : SourceNo) (d : DrumNo) (s : State) : (raiseDrum src d s).tracker = s.tracker := (raiseDrum_frame src d s).2.2.2.2.1
@[simp] theorem raiseDrum_lots (src : SourceNo) (d : DrumNo) (s : State) : (raiseDrum src d s).lots = s.lots := (raiseDrum_frame src d s).2.2.2.2.2.1
@[simp] theorem raiseDrum_arbiter (src : SourceNo) (d : DrumNo) (s : State) : (raiseDrum src d s).arbiter = s.arbiter := (raiseDrum_frame src d s).2.2.2.2.2.2.1
@[simp] theorem raiseDrum_belt (src : SourceNo) (d : DrumNo) (s : State) : (raiseDrum src d s).belt = s.belt := (raiseDrum_frame src d s).2.2.2.2.2.2.2.1
@[simp] theorem raiseDrum_head (src : SourceNo) (d : DrumNo) (s : State) : (raiseDrum src d s).head = s.head := (raiseDrum_frame src d s).2.2.2.2.2.2.2.2.1
@[simp] theorem raiseDrum_filtration (src : SourceNo) (d : DrumNo) (s : State) : (raiseDrum src d s).filtration = s.filtration := (raiseDrum_frame src d s).2.2.2.2.2.2.2.2.2.1
@[simp] theorem raiseDrum_engine (src : SourceNo) (d : DrumNo) (s : State) : (raiseDrum src d s).engine = s.engine := (raiseDrum_frame src d s).2.2.2.2.2.2.2.2.2.2.1
@[simp] theorem raiseDrum_router (src : SourceNo) (d : DrumNo) (s : State) : (raiseDrum src d s).router = s.router := (raiseDrum_frame src d s).2.2.2.2.2.2.2.2.2.2.2.1
@[simp] theorem raiseDrum_notices (src : SourceNo) (d : DrumNo) (s : State) : (raiseDrum src d s).notices = s.notices := (raiseDrum_frame src d s).2.2.2.2.2.2.2.2.2.2.2.2.1
@[simp] theorem raiseDrum_coalescer (src : SourceNo) (d : DrumNo) (s : State) : (raiseDrum src d s).coalescer = s.coalescer := (raiseDrum_frame src d s).2.2.2.2.2.2.2.2.2.2.2.2.2.1
@[simp] theorem raiseDrum_cellPort (src : SourceNo) (d : DrumNo) (s : State) : (raiseDrum src d s).cellPort = s.cellPort := (raiseDrum_frame src d s).2.2.2.2.2.2.2.2.2.2.2.2.2.2.1
@[simp] theorem raiseDrum_plantPort (src : SourceNo) (d : DrumNo) (s : State) : (raiseDrum src d s).plantPort = s.plantPort := (raiseDrum_frame src d s).2.2.2.2.2.2.2.2.2.2.2.2.2.2.2.1
@[simp] theorem raiseDrum_counters (src : SourceNo) (d : DrumNo) (s : State) : (raiseDrum src d s).counters = s.counters := (raiseDrum_frame src d s).2.2.2.2.2.2.2.2.2.2.2.2.2.2.2.2.1
@[simp] theorem raiseDrum_eeprom (src : SourceNo) (d : DrumNo) (s : State) : (raiseDrum src d s).eeprom = s.eeprom := (raiseDrum_frame src d s).2.2.2.2.2.2.2.2.2.2.2.2.2.2.2.2.2.1
@[simp] theorem raiseDrum_draws (src : SourceNo) (d : DrumNo) (s : State) : (raiseDrum src d s).draws = s.draws := (raiseDrum_frame src d s).2.2.2.2.2.2.2.2.2.2.2.2.2.2.2.2.2.2.1
@[simp] theorem raiseDrum_handed (src : SourceNo) (d : DrumNo) (s : State) : (raiseDrum src d s).handed = s.handed := (raiseDrum_frame src d s).2.2.2.2.2.2.2.2.2.2.2.2.2.2.2.2.2.2.2.1
@[simp] theorem raiseDrum_pending (src : SourceNo) (d : DrumNo) (s : State) : (raiseDrum src d s).pending = s.pending := (raiseDrum_frame src d s).2.2.2.2.2.2.2.2.2.2.2.2.2.2.2.2.2.2.2.2

theorem captureFault_frame (k : FaultKind) (lot : Option LotNo) (cell : Option CellNo) (detail : Option Detail) (s : State) :
    (captureFault k lot cell detail s).now = s.now ∧
    (captureFault k lot cell detail s).mode = s.mode ∧
    (captureFault k lot cell detail s).activity = s.activity ∧
    (captureFault k lot cell detail s).tables = s.tables ∧
    (captureFault k lot cell detail s).tracker = s.tracker ∧
    (captureFault k lot cell detail s).lots = s.lots ∧
    (captureFault k lot cell detail s).arbiter = s.arbiter ∧
    (captureFault k lot cell detail s).belt = s.belt ∧
    (captureFault k lot cell detail s).head = s.head ∧
    (captureFault k lot cell detail s).filtration = s.filtration ∧
    (captureFault k lot cell detail s).engine = s.engine ∧
    (captureFault k lot cell detail s).router = s.router ∧
    (captureFault k lot cell detail s).coalescer = s.coalescer ∧
    (captureFault k lot cell detail s).cellPort = s.cellPort ∧
    (captureFault k lot cell detail s).plantPort = s.plantPort ∧
    (captureFault k lot cell detail s).eeprom = s.eeprom ∧
    (captureFault k lot cell detail s).draws = s.draws ∧
    (captureFault k lot cell detail s).raised = s.raised ∧
    (captureFault k lot cell detail s).handed = s.handed ∧
    (captureFault k lot cell detail s).pending = s.pending := by
  unfold captureFault
  repeat' split
  all_goals simp
@[simp] theorem captureFault_now (k : FaultKind) (lot : Option LotNo) (cell : Option CellNo) (detail : Option Detail) (s : State) : (captureFault k lot cell detail s).now = s.now := (captureFault_frame k lot cell detail s).1
@[simp] theorem captureFault_mode (k : FaultKind) (lot : Option LotNo) (cell : Option CellNo) (detail : Option Detail) (s : State) : (captureFault k lot cell detail s).mode = s.mode := (captureFault_frame k lot cell detail s).2.1
@[simp] theorem captureFault_activity (k : FaultKind) (lot : Option LotNo) (cell : Option CellNo) (detail : Option Detail) (s : State) : (captureFault k lot cell detail s).activity = s.activity := (captureFault_frame k lot cell detail s).2.2.1
@[simp] theorem captureFault_tables (k : FaultKind) (lot : Option LotNo) (cell : Option CellNo) (detail : Option Detail) (s : State) : (captureFault k lot cell detail s).tables = s.tables := (captureFault_frame k lot cell detail s).2.2.2.1
@[simp] theorem captureFault_tracker (k : FaultKind) (lot : Option LotNo) (cell : Option CellNo) (detail : Option Detail) (s : State) : (captureFault k lot cell detail s).tracker = s.tracker := (captureFault_frame k lot cell detail s).2.2.2.2.1
@[simp] theorem captureFault_lots (k : FaultKind) (lot : Option LotNo) (cell : Option CellNo) (detail : Option Detail) (s : State) : (captureFault k lot cell detail s).lots = s.lots := (captureFault_frame k lot cell detail s).2.2.2.2.2.1
@[simp] theorem captureFault_arbiter (k : FaultKind) (lot : Option LotNo) (cell : Option CellNo) (detail : Option Detail) (s : State) : (captureFault k lot cell detail s).arbiter = s.arbiter := (captureFault_frame k lot cell detail s).2.2.2.2.2.2.1
@[simp] theorem captureFault_belt (k : FaultKind) (lot : Option LotNo) (cell : Option CellNo) (detail : Option Detail) (s : State) : (captureFault k lot cell detail s).belt = s.belt := (captureFault_frame k lot cell detail s).2.2.2.2.2.2.2.1
@[simp] theorem captureFault_head (k : FaultKind) (lot : Option LotNo) (cell : Option CellNo) (detail : Option Detail) (s : State) : (captureFault k lot cell detail s).head = s.head := (captureFault_frame k lot cell detail s).2.2.2.2.2.2.2.2.1
@[simp] theorem captureFault_filtration (k : FaultKind) (lot : Option LotNo) (cell : Option CellNo) (detail : Option Detail) (s : State) : (captureFault k lot cell detail s).filtration = s.filtration := (captureFault_frame k lot cell detail s).2.2.2.2.2.2.2.2.2.1
@[simp] theorem captureFault_engine (k : FaultKind) (lot : Option LotNo) (cell : Option CellNo) (detail : Option Detail) (s : State) : (captureFault k lot cell detail s).engine = s.engine := (captureFault_frame k lot cell detail s).2.2.2.2.2.2.2.2.2.2.1
@[simp] theorem captureFault_router (k : FaultKind) (lot : Option LotNo) (cell : Option CellNo) (detail : Option Detail) (s : State) : (captureFault k lot cell detail s).router = s.router := (captureFault_frame k lot cell detail s).2.2.2.2.2.2.2.2.2.2.2.1
@[simp] theorem captureFault_coalescer (k : FaultKind) (lot : Option LotNo) (cell : Option CellNo) (detail : Option Detail) (s : State) : (captureFault k lot cell detail s).coalescer = s.coalescer := (captureFault_frame k lot cell detail s).2.2.2.2.2.2.2.2.2.2.2.2.1
@[simp] theorem captureFault_cellPort (k : FaultKind) (lot : Option LotNo) (cell : Option CellNo) (detail : Option Detail) (s : State) : (captureFault k lot cell detail s).cellPort = s.cellPort := (captureFault_frame k lot cell detail s).2.2.2.2.2.2.2.2.2.2.2.2.2.1
@[simp] theorem captureFault_plantPort (k : FaultKind) (lot : Option LotNo) (cell : Option CellNo) (detail : Option Detail) (s : State) : (captureFault k lot cell detail s).plantPort = s.plantPort := (captureFault_frame k lot cell detail s).2.2.2.2.2.2.2.2.2.2.2.2.2.2.1
@[simp] theorem captureFault_eeprom (k : FaultKind) (lot : Option LotNo) (cell : Option CellNo) (detail : Option Detail) (s : State) : (captureFault k lot cell detail s).eeprom = s.eeprom := (captureFault_frame k lot cell detail s).2.2.2.2.2.2.2.2.2.2.2.2.2.2.2.1
@[simp] theorem captureFault_draws (k : FaultKind) (lot : Option LotNo) (cell : Option CellNo) (detail : Option Detail) (s : State) : (captureFault k lot cell detail s).draws = s.draws := (captureFault_frame k lot cell detail s).2.2.2.2.2.2.2.2.2.2.2.2.2.2.2.2.1
@[simp] theorem captureFault_raised (k : FaultKind) (lot : Option LotNo) (cell : Option CellNo) (detail : Option Detail) (s : State) : (captureFault k lot cell detail s).raised = s.raised := (captureFault_frame k lot cell detail s).2.2.2.2.2.2.2.2.2.2.2.2.2.2.2.2.2.1
@[simp] theorem captureFault_handed (k : FaultKind) (lot : Option LotNo) (cell : Option CellNo) (detail : Option Detail) (s : State) : (captureFault k lot cell detail s).handed = s.handed := (captureFault_frame k lot cell detail s).2.2.2.2.2.2.2.2.2.2.2.2.2.2.2.2.2.2.1
@[simp] theorem captureFault_pending (k : FaultKind) (lot : Option LotNo) (cell : Option CellNo) (detail : Option Detail) (s : State) : (captureFault k lot cell detail s).pending = s.pending := (captureFault_frame k lot cell detail s).2.2.2.2.2.2.2.2.2.2.2.2.2.2.2.2.2.2.2

theorem raiseFault_frame (k : FaultKind) (lot : Option LotNo) (cell : Option CellNo) (detail : Option Detail) (s : State) :
    (raiseFault k lot cell detail s).now = s.now ∧
    (raiseFault k lot cell detail s).mode = s.mode ∧
    (raiseFault k lot cell detail s).activity = s.activity ∧
    (raiseFault k lot cell detail s).tables = s.tables ∧
    (raiseFault k lot cell detail s).tracker = s.tracker ∧
    (raiseFault k lot cell detail s).lots = s.lots ∧
    (raiseFault k lot cell detail s).arbiter = s.arbiter ∧
    (raiseFault k lot cell detail s).belt = s.belt ∧
    (raiseFault k lot cell detail s).head = s.head ∧
    (raiseFault k lot cell detail s).filtration = s.filtration ∧
    (raiseFault k lot cell detail s).engine = s.engine ∧
    (raiseFault k lot cell detail s).router = s.router ∧
    (raiseFault k lot cell detail s).coalescer = s.coalescer ∧
    (raiseFault k lot cell detail s).cellPort = s.cellPort ∧
    (raiseFault k lot cell detail s).plantPort = s.plantPort ∧
    (raiseFault k lot cell detail s).eeprom = s.eeprom ∧
    (raiseFault k lot cell detail s).draws = s.draws ∧
    (raiseFault k lot cell detail s).raised = s.raised ∧
    (raiseFault k lot cell detail s).handed = s.handed ∧
    (raiseFault k lot cell detail s).pending = s.pending := by
  unfold raiseFault
  repeat' split
  all_goals simp
@[simp] theorem raiseFault_now (k : FaultKind) (lot : Option LotNo) (cell : Option CellNo) (detail : Option Detail) (s : State) : (raiseFault k lot cell detail s).now = s.now := (raiseFault_frame k lot cell detail s).1
@[simp] theorem raiseFault_mode (k : FaultKind) (lot : Option LotNo) (cell : Option CellNo) (detail : Option Detail) (s : State) : (raiseFault k lot cell detail s).mode = s.mode := (raiseFault_frame k lot cell detail s).2.1
@[simp] theorem raiseFault_activity (k : FaultKind) (lot : Option LotNo) (cell : Option CellNo) (detail : Option Detail) (s : State) : (raiseFault k lot cell detail s).activity = s.activity := (raiseFault_frame k lot cell detail s).2.2.1
@[simp] theorem raiseFault_tables (k : FaultKind) (lot : Option LotNo) (cell : Option CellNo) (detail : Option Detail) (s : State) : (raiseFault k lot cell detail s).tables = s.tables := (raiseFault_frame k lot cell detail s).2.2.2.1
@[simp] theorem raiseFault_tracker (k : FaultKind) (lot : Option LotNo) (cell : Option CellNo) (detail : Option Detail) (s : State) : (raiseFault k lot cell detail s).tracker = s.tracker := (raiseFault_frame k lot cell detail s).2.2.2.2.1
@[simp] theorem raiseFault_lots (k : FaultKind) (lot : Option LotNo) (cell : Option CellNo) (detail : Option Detail) (s : State) : (raiseFault k lot cell detail s).lots = s.lots := (raiseFault_frame k lot cell detail s).2.2.2.2.2.1
@[simp] theorem raiseFault_arbiter (k : FaultKind) (lot : Option LotNo) (cell : Option CellNo) (detail : Option Detail) (s : State) : (raiseFault k lot cell detail s).arbiter = s.arbiter := (raiseFault_frame k lot cell detail s).2.2.2.2.2.2.1
@[simp] theorem raiseFault_belt (k : FaultKind) (lot : Option LotNo) (cell : Option CellNo) (detail : Option Detail) (s : State) : (raiseFault k lot cell detail s).belt = s.belt := (raiseFault_frame k lot cell detail s).2.2.2.2.2.2.2.1
@[simp] theorem raiseFault_head (k : FaultKind) (lot : Option LotNo) (cell : Option CellNo) (detail : Option Detail) (s : State) : (raiseFault k lot cell detail s).head = s.head := (raiseFault_frame k lot cell detail s).2.2.2.2.2.2.2.2.1
@[simp] theorem raiseFault_filtration (k : FaultKind) (lot : Option LotNo) (cell : Option CellNo) (detail : Option Detail) (s : State) : (raiseFault k lot cell detail s).filtration = s.filtration := (raiseFault_frame k lot cell detail s).2.2.2.2.2.2.2.2.2.1
@[simp] theorem raiseFault_engine (k : FaultKind) (lot : Option LotNo) (cell : Option CellNo) (detail : Option Detail) (s : State) : (raiseFault k lot cell detail s).engine = s.engine := (raiseFault_frame k lot cell detail s).2.2.2.2.2.2.2.2.2.2.1
@[simp] theorem raiseFault_router (k : FaultKind) (lot : Option LotNo) (cell : Option CellNo) (detail : Option Detail) (s : State) : (raiseFault k lot cell detail s).router = s.router := (raiseFault_frame k lot cell detail s).2.2.2.2.2.2.2.2.2.2.2.1
@[simp] theorem raiseFault_coalescer (k : FaultKind) (lot : Option LotNo) (cell : Option CellNo) (detail : Option Detail) (s : State) : (raiseFault k lot cell detail s).coalescer = s.coalescer := (raiseFault_frame k lot cell detail s).2.2.2.2.2.2.2.2.2.2.2.2.1
@[simp] theorem raiseFault_cellPort (k : FaultKind) (lot : Option LotNo) (cell : Option CellNo) (detail : Option Detail) (s : State) : (raiseFault k lot cell detail s).cellPort = s.cellPort := (raiseFault_frame k lot cell detail s).2.2.2.2.2.2.2.2.2.2.2.2.2.1
@[simp] theorem raiseFault_plantPort (k : FaultKind) (lot : Option LotNo) (cell : Option CellNo) (detail : Option Detail) (s : State) : (raiseFault k lot cell detail s).plantPort = s.plantPort := (raiseFault_frame k lot cell detail s).2.2.2.2.2.2.2.2.2.2.2.2.2.2.1
@[simp] theorem raiseFault_eeprom (k : FaultKind) (lot : Option LotNo) (cell : Option CellNo) (detail : Option Detail) (s : State) : (raiseFault k lot cell detail s).eeprom = s.eeprom := (raiseFault_frame k lot cell detail s).2.2.2.2.2.2.2.2.2.2.2.2.2.2.2.1
@[simp] theorem raiseFault_draws (k : FaultKind) (lot : Option LotNo) (cell : Option CellNo) (detail : Option Detail) (s : State) : (raiseFault k lot cell detail s).draws = s.draws := (raiseFault_frame k lot cell detail s).2.2.2.2.2.2.2.2.2.2.2.2.2.2.2.2.1
@[simp] theorem raiseFault_raised (k : FaultKind) (lot : Option LotNo) (cell : Option CellNo) (detail : Option Detail) (s : State) : (raiseFault k lot cell detail s).raised = s.raised := (raiseFault_frame k lot cell detail s).2.2.2.2.2.2.2.2.2.2.2.2.2.2.2.2.2.1
@[simp] theorem raiseFault_handed (k : FaultKind) (lot : Option LotNo) (cell : Option CellNo) (detail : Option Detail) (s : State) : (raiseFault k lot cell detail s).handed = s.handed := (raiseFault_frame k lot cell detail s).2.2.2.2.2.2.2.2.2.2.2.2.2.2.2.2.2.2.1
@[simp] theorem raiseFault_pending (k : FaultKind) (lot : Option LotNo) (cell : Option CellNo) (detail : Option Detail) (s : State) : (raiseFault k lot cell detail s).pending = s.pending := (raiseFault_frame k lot cell detail s).2.2.2.2.2.2.2.2.2.2.2.2.2.2.2.2.2.2.2

theorem enqueue_frame (p : Port) (f : Frame) (s : State) :
    (enqueue p f s).now = s.now ∧
    (enqueue p f s).mode = s.mode ∧
    (enqueue p f s).activity = s.activity ∧
    (enqueue p f s).tables = s.tables ∧
    (enqueue p f s).tracker = s.tracker ∧
    (enqueue p f s).lots = s.lots ∧
    (enqueue p f s).arbiter = s.arbiter ∧
    (enqueue p f s).belt = s.belt ∧
    (enqueue p f s).head = s.head ∧
    (enqueue p f s).filtration = s.filtration ∧
    (enqueue p f s).engine = s.engine ∧
    (enqueue p f s).router = s.router ∧
    (enqueue p f s).notices = s.notices ∧
    (enqueue p f s).coalescer = s.coalescer ∧
    (enqueue p f s).cellPort.state = s.cellPort.state ∧
    (enqueue p f s).plantPort.state = s.plantPort.state ∧
    (enqueue p f s).counters = s.counters ∧
    (enqueue p f s).eeprom = s.eeprom ∧
    (enqueue p f s).draws = s.draws ∧
    (enqueue p f s).raised = s.raised ∧
    (enqueue p f s).handed = s.handed ∧
    (enqueue p f s).pending = s.pending := by
  cases p <;> simp [enqueue, State.setPort, State.port]
@[simp] theorem enqueue_now (p : Port) (f : Frame) (s : State) : (enqueue p f s).now = s.now := (enqueue_frame p f s).1
@[simp] theorem enqueue_mode (p : Port) (f : Frame) (s : State) : (enqueue p f s).mode = s.mode := (enqueue_frame p f s).2.1
@[simp] theorem enqueue_activity (p : Port) (f : Frame) (s : State) : (enqueue p f s).activity = s.activity := (enqueue_frame p f s).2.2.1
@[simp] theorem enqueue_tables (p : Port) (f : Frame) (s : State) : (enqueue p f s).tables = s.tables := (enqueue_frame p f s).2.2.2.1
@[simp] theorem enqueue_tracker (p : Port) (f : Frame) (s : State) : (enqueue p f s).tracker = s.tracker := (enqueue_frame p f s).2.2.2.2.1
@[simp] theorem enqueue_lots (p : Port) (f : Frame) (s : State) : (enqueue p f s).lots = s.lots := (enqueue_frame p f s).2.2.2.2.2.1
@[simp] theorem enqueue_arbiter (p : Port) (f : Frame) (s : State) : (enqueue p f s).arbiter = s.arbiter := (enqueue_frame p f s).2.2.2.2.2.2.1
@[simp] theorem enqueue_belt (p : Port) (f : Frame) (s : State) : (enqueue p f s).belt = s.belt := (enqueue_frame p f s).2.2.2.2.2.2.2.1
@[simp] theorem enqueue_head (p : Port) (f : Frame) (s : State) : (enqueue p f s).head = s.head := (enqueue_frame p f s).2.2.2.2.2.2.2.2.1
@[simp] theorem enqueue_filtration (p : Port) (f : Frame) (s : State) : (enqueue p f s).filtration = s.filtration := (enqueue_frame p f s).2.2.2.2.2.2.2.2.2.1
@[simp] theorem enqueue_engine (p : Port) (f : Frame) (s : State) : (enqueue p f s).engine = s.engine := (enqueue_frame p f s).2.2.2.2.2.2.2.2.2.2.1
@[simp] theorem enqueue_router (p : Port) (f : Frame) (s : State) : (enqueue p f s).router = s.router := (enqueue_frame p f s).2.2.2.2.2.2.2.2.2.2.2.1
@[simp] theorem enqueue_notices (p : Port) (f : Frame) (s : State) : (enqueue p f s).notices = s.notices := (enqueue_frame p f s).2.2.2.2.2.2.2.2.2.2.2.2.1
@[simp] theorem enqueue_coalescer (p : Port) (f : Frame) (s : State) : (enqueue p f s).coalescer = s.coalescer := (enqueue_frame p f s).2.2.2.2.2.2.2.2.2.2.2.2.2.1
@[simp] theorem enqueue_cellState (p : Port) (f : Frame) (s : State) : (enqueue p f s).cellPort.state = s.cellPort.state := (enqueue_frame p f s).2.2.2.2.2.2.2.2.2.2.2.2.2.2.1
@[simp] theorem enqueue_plantState (p : Port) (f : Frame) (s : State) : (enqueue p f s).plantPort.state = s.plantPort.state := (enqueue_frame p f s).2.2.2.2.2.2.2.2.2.2.2.2.2.2.2.1
@[simp] theorem enqueue_counters (p : Port) (f : Frame) (s : State) : (enqueue p f s).counters = s.counters := (enqueue_frame p f s).2.2.2.2.2.2.2.2.2.2.2.2.2.2.2.2.1
@[simp] theorem enqueue_eeprom (p : Port) (f : Frame) (s : State) : (enqueue p f s).eeprom = s.eeprom := (enqueue_frame p f s).2.2.2.2.2.2.2.2.2.2.2.2.2.2.2.2.2.1
@[simp] theorem enqueue_draws (p : Port) (f : Frame) (s : State) : (enqueue p f s).draws = s.draws := (enqueue_frame p f s).2.2.2.2.2.2.2.2.2.2.2.2.2.2.2.2.2.2.1
@[simp] theorem enqueue_raised (p : Port) (f : Frame) (s : State) : (enqueue p f s).raised = s.raised := (enqueue_frame p f s).2.2.2.2.2.2.2.2.2.2.2.2.2.2.2.2.2.2.2.1
@[simp] theorem enqueue_handed (p : Port) (f : Frame) (s : State) : (enqueue p f s).handed = s.handed := (enqueue_frame p f s).2.2.2.2.2.2.2.2.2.2.2.2.2.2.2.2.2.2.2.2.1
@[simp] theorem enqueue_pending (p : Port) (f : Frame) (s : State) : (enqueue p f s).pending = s.pending := (enqueue_frame p f s).2.2.2.2.2.2.2.2.2.2.2.2.2.2.2.2.2.2.2.2.2

theorem forwardTo_frame (p : Port) (f : Frame) (s : State) :
    (forwardTo p f s).now = s.now ∧
    (forwardTo p f s).mode = s.mode ∧
    (forwardTo p f s).activity = s.activity ∧
    (forwardTo p f s).tables = s.tables ∧
    (forwardTo p f s).tracker = s.tracker ∧
    (forwardTo p f s).lots = s.lots ∧
    (forwardTo p f s).arbiter = s.arbiter ∧
    (forwardTo p f s).belt = s.belt ∧
    (forwardTo p f s).head = s.head ∧
    (forwardTo p f s).filtration = s.filtration ∧
    (forwardTo p f s).engine = s.engine ∧
    (forwardTo p f s).router = s.router ∧
    (forwardTo p f s).notices = s.notices ∧
    (forwardTo p f s).coalescer = s.coalescer ∧
    (forwardTo p f s).cellPort.state = s.cellPort.state ∧
    (forwardTo p f s).plantPort.state = s.plantPort.state ∧
    (forwardTo p f s).eeprom = s.eeprom ∧
    (forwardTo p f s).draws = s.draws ∧
    (forwardTo p f s).raised = s.raised ∧
    (forwardTo p f s).handed = s.handed ∧
    (forwardTo p f s).pending = s.pending := by
  unfold forwardTo
  repeat' split
  all_goals simp
@[simp] theorem forwardTo_now (p : Port) (f : Frame) (s : State) : (forwardTo p f s).now = s.now := (forwardTo_frame p f s).1
@[simp] theorem forwardTo_mode (p : Port) (f : Frame) (s : State) : (forwardTo p f s).mode = s.mode := (forwardTo_frame p f s).2.1
@[simp] theorem forwardTo_activity (p : Port) (f : Frame) (s : State) : (forwardTo p f s).activity = s.activity := (forwardTo_frame p f s).2.2.1
@[simp] theorem forwardTo_tables (p : Port) (f : Frame) (s : State) : (forwardTo p f s).tables = s.tables := (forwardTo_frame p f s).2.2.2.1
@[simp] theorem forwardTo_tracker (p : Port) (f : Frame) (s : State) : (forwardTo p f s).tracker = s.tracker := (forwardTo_frame p f s).2.2.2.2.1
@[simp] theorem forwardTo_lots (p : Port) (f : Frame) (s : State) : (forwardTo p f s).lots = s.lots := (forwardTo_frame p f s).2.2.2.2.2.1
@[simp] theorem forwardTo_arbiter (p : Port) (f : Frame) (s : State) : (forwardTo p f s).arbiter = s.arbiter := (forwardTo_frame p f s).2.2.2.2.2.2.1
@[simp] theorem forwardTo_belt (p : Port) (f : Frame) (s : State) : (forwardTo p f s).belt = s.belt := (forwardTo_frame p f s).2.2.2.2.2.2.2.1
@[simp] theorem forwardTo_head (p : Port) (f : Frame) (s : State) : (forwardTo p f s).head = s.head := (forwardTo_frame p f s).2.2.2.2.2.2.2.2.1
@[simp] theorem forwardTo_filtration (p : Port) (f : Frame) (s : State) : (forwardTo p f s).filtration = s.filtration := (forwardTo_frame p f s).2.2.2.2.2.2.2.2.2.1
@[simp] theorem forwardTo_engine (p : Port) (f : Frame) (s : State) : (forwardTo p f s).engine = s.engine := (forwardTo_frame p f s).2.2.2.2.2.2.2.2.2.2.1
@[simp] theorem forwardTo_router (p : Port) (f : Frame) (s : State) : (forwardTo p f s).router = s.router := (forwardTo_frame p f s).2.2.2.2.2.2.2.2.2.2.2.1
@[simp] theorem forwardTo_notices (p : Port) (f : Frame) (s : State) : (forwardTo p f s).notices = s.notices := (forwardTo_frame p f s).2.2.2.2.2.2.2.2.2.2.2.2.1
@[simp] theorem forwardTo_coalescer (p : Port) (f : Frame) (s : State) : (forwardTo p f s).coalescer = s.coalescer := (forwardTo_frame p f s).2.2.2.2.2.2.2.2.2.2.2.2.2.1
@[simp] theorem forwardTo_cellState (p : Port) (f : Frame) (s : State) : (forwardTo p f s).cellPort.state = s.cellPort.state := (forwardTo_frame p f s).2.2.2.2.2.2.2.2.2.2.2.2.2.2.1
@[simp] theorem forwardTo_plantState (p : Port) (f : Frame) (s : State) : (forwardTo p f s).plantPort.state = s.plantPort.state := (forwardTo_frame p f s).2.2.2.2.2.2.2.2.2.2.2.2.2.2.2.1
@[simp] theorem forwardTo_eeprom (p : Port) (f : Frame) (s : State) : (forwardTo p f s).eeprom = s.eeprom := (forwardTo_frame p f s).2.2.2.2.2.2.2.2.2.2.2.2.2.2.2.2.1
@[simp] theorem forwardTo_draws (p : Port) (f : Frame) (s : State) : (forwardTo p f s).draws = s.draws := (forwardTo_frame p f s).2.2.2.2.2.2.2.2.2.2.2.2.2.2.2.2.2.1
@[simp] theorem forwardTo_raised (p : Port) (f : Frame) (s : State) : (forwardTo p f s).raised = s.raised := (forwardTo_frame p f s).2.2.2.2.2.2.2.2.2.2.2.2.2.2.2.2.2.2.1
@[simp] theorem forwardTo_handed (p : Port) (f : Frame) (s : State) : (forwardTo p f s).handed = s.handed := (forwardTo_frame p f s).2.2.2.2.2.2.2.2.2.2.2.2.2.2.2.2.2.2.2.1
@[simp] theorem forwardTo_pending (p : Port) (f : Frame) (s : State) : (forwardTo p f s).pending = s.pending := (forwardTo_frame p f s).2.2.2.2.2.2.2.2.2.2.2.2.2.2.2.2.2.2.2.2

theorem placeFrom_frame (src : Byte) (p : Port) (dest : Byte) (kind : Byte) (body : List Byte) (s : State) :
    (placeFrom src p dest kind body s).now = s.now ∧
    (placeFrom src p dest kind body s).mode = s.mode ∧
    (placeFrom src p dest kind body s).activity = s.activity ∧
    (placeFrom src p dest kind body s).tables = s.tables ∧
    (placeFrom src p dest kind body s).tracker = s.tracker ∧
    (placeFrom src p dest kind body s).lots = s.lots ∧
    (placeFrom src p dest kind body s).arbiter = s.arbiter ∧
    (placeFrom src p dest kind body s).belt = s.belt ∧
    (placeFrom src p dest kind body s).head = s.head ∧
    (placeFrom src p dest kind body s).filtration = s.filtration ∧
    (placeFrom src p dest kind body s).engine = s.engine ∧
    (placeFrom src p dest kind body s).router = s.router ∧
    (placeFrom src p dest kind body s).coalescer = s.coalescer ∧
    (placeFrom src p dest kind body s).cellPort.state = s.cellPort.state ∧
    (placeFrom src p dest kind body s).plantPort.state = s.plantPort.state ∧
    (placeFrom src p dest kind body s).eeprom = s.eeprom ∧
    (placeFrom src p dest kind body s).draws = s.draws ∧
    (placeFrom src p dest kind body s).raised = s.raised ∧
    (placeFrom src p dest kind body s).handed = s.handed ∧
    (placeFrom src p dest kind body s).pending = s.pending := by
  unfold placeFrom
  repeat' split
  all_goals simp
@[simp] theorem placeFrom_now (src : Byte) (p : Port) (dest : Byte) (kind : Byte) (body : List Byte) (s : State) : (placeFrom src p dest kind body s).now = s.now := (placeFrom_frame src p dest kind body s).1
@[simp] theorem placeFrom_mode (src : Byte) (p : Port) (dest : Byte) (kind : Byte) (body : List Byte) (s : State) : (placeFrom src p dest kind body s).mode = s.mode := (placeFrom_frame src p dest kind body s).2.1
@[simp] theorem placeFrom_activity (src : Byte) (p : Port) (dest : Byte) (kind : Byte) (body : List Byte) (s : State) : (placeFrom src p dest kind body s).activity = s.activity := (placeFrom_frame src p dest kind body s).2.2.1
@[simp] theorem placeFrom_tables (src : Byte) (p : Port) (dest : Byte) (kind : Byte) (body : List Byte) (s : State) : (placeFrom src p dest kind body s).tables = s.tables := (placeFrom_frame src p dest kind body s).2.2.2.1
@[simp] theorem placeFrom_tracker (src : Byte) (p : Port) (dest : Byte) (kind : Byte) (body : List Byte) (s : State) : (placeFrom src p dest kind body s).tracker = s.tracker := (placeFrom_frame src p dest kind body s).2.2.2.2.1
@[simp] theorem placeFrom_lots (src : Byte) (p : Port) (dest : Byte) (kind : Byte) (body : List Byte) (s : State) : (placeFrom src p dest kind body s).lots = s.lots := (placeFrom_frame src p dest kind body s).2.2.2.2.2.1
@[simp] theorem placeFrom_arbiter (src : Byte) (p : Port) (dest : Byte) (kind : Byte) (body : List Byte) (s : State) : (placeFrom src p dest kind body s).arbiter = s.arbiter := (placeFrom_frame src p dest kind body s).2.2.2.2.2.2.1
@[simp] theorem placeFrom_belt (src : Byte) (p : Port) (dest : Byte) (kind : Byte) (body : List Byte) (s : State) : (placeFrom src p dest kind body s).belt = s.belt := (placeFrom_frame src p dest kind body s).2.2.2.2.2.2.2.1
@[simp] theorem placeFrom_head (src : Byte) (p : Port) (dest : Byte) (kind : Byte) (body : List Byte) (s : State) : (placeFrom src p dest kind body s).head = s.head := (placeFrom_frame src p dest kind body s).2.2.2.2.2.2.2.2.1
@[simp] theorem placeFrom_filtration (src : Byte) (p : Port) (dest : Byte) (kind : Byte) (body : List Byte) (s : State) : (placeFrom src p dest kind body s).filtration = s.filtration := (placeFrom_frame src p dest kind body s).2.2.2.2.2.2.2.2.2.1
@[simp] theorem placeFrom_engine (src : Byte) (p : Port) (dest : Byte) (kind : Byte) (body : List Byte) (s : State) : (placeFrom src p dest kind body s).engine = s.engine := (placeFrom_frame src p dest kind body s).2.2.2.2.2.2.2.2.2.2.1
@[simp] theorem placeFrom_router (src : Byte) (p : Port) (dest : Byte) (kind : Byte) (body : List Byte) (s : State) : (placeFrom src p dest kind body s).router = s.router := (placeFrom_frame src p dest kind body s).2.2.2.2.2.2.2.2.2.2.2.1
@[simp] theorem placeFrom_coalescer (src : Byte) (p : Port) (dest : Byte) (kind : Byte) (body : List Byte) (s : State) : (placeFrom src p dest kind body s).coalescer = s.coalescer := (placeFrom_frame src p dest kind body s).2.2.2.2.2.2.2.2.2.2.2.2.1
@[simp] theorem placeFrom_cellState (src : Byte) (p : Port) (dest : Byte) (kind : Byte) (body : List Byte) (s : State) : (placeFrom src p dest kind body s).cellPort.state = s.cellPort.state := (placeFrom_frame src p dest kind body s).2.2.2.2.2.2.2.2.2.2.2.2.2.1
@[simp] theorem placeFrom_plantState (src : Byte) (p : Port) (dest : Byte) (kind : Byte) (body : List Byte) (s : State) : (placeFrom src p dest kind body s).plantPort.state = s.plantPort.state := (placeFrom_frame src p dest kind body s).2.2.2.2.2.2.2.2.2.2.2.2.2.2.1
@[simp] theorem placeFrom_eeprom (src : Byte) (p : Port) (dest : Byte) (kind : Byte) (body : List Byte) (s : State) : (placeFrom src p dest kind body s).eeprom = s.eeprom := (placeFrom_frame src p dest kind body s).2.2.2.2.2.2.2.2.2.2.2.2.2.2.2.1
@[simp] theorem placeFrom_draws (src : Byte) (p : Port) (dest : Byte) (kind : Byte) (body : List Byte) (s : State) : (placeFrom src p dest kind body s).draws = s.draws := (placeFrom_frame src p dest kind body s).2.2.2.2.2.2.2.2.2.2.2.2.2.2.2.2.1
@[simp] theorem placeFrom_raised (src : Byte) (p : Port) (dest : Byte) (kind : Byte) (body : List Byte) (s : State) : (placeFrom src p dest kind body s).raised = s.raised := (placeFrom_frame src p dest kind body s).2.2.2.2.2.2.2.2.2.2.2.2.2.2.2.2.2.1
@[simp] theorem placeFrom_handed (src : Byte) (p : Port) (dest : Byte) (kind : Byte) (body : List Byte) (s : State) : (placeFrom src p dest kind body s).handed = s.handed := (placeFrom_frame src p dest kind body s).2.2.2.2.2.2.2.2.2.2.2.2.2.2.2.2.2.2.1
@[simp] theorem placeFrom_pending (src : Byte) (p : Port) (dest : Byte) (kind : Byte) (body : List Byte) (s : State) : (placeFrom src p dest kind body s).pending = s.pending := (placeFrom_frame src p dest kind body s).2.2.2.2.2.2.2.2.2.2.2.2.2.2.2.2.2.2.2

theorem placeOwn_frame (p : Port) (dest : Byte) (kind : Byte) (body : List Byte) (s : State) :
    (placeOwn p dest kind body s).now = s.now ∧
    (placeOwn p dest kind body s).mode = s.mode ∧
    (placeOwn p dest kind body s).activity = s.activity ∧
    (placeOwn p dest kind body s).tables = s.tables ∧
    (placeOwn p dest kind body s).tracker = s.tracker ∧
    (placeOwn p dest kind body s).lots = s.lots ∧
    (placeOwn p dest kind body s).arbiter = s.arbiter ∧
    (placeOwn p dest kind body s).belt = s.belt ∧
    (placeOwn p dest kind body s).head = s.head ∧
    (placeOwn p dest kind body s).filtration = s.filtration ∧
    (placeOwn p dest kind body s).engine = s.engine ∧
    (placeOwn p dest kind body s).router = s.router ∧
    (placeOwn p dest kind body s).coalescer = s.coalescer ∧
    (placeOwn p dest kind body s).cellPort.state = s.cellPort.state ∧
    (placeOwn p dest kind body s).plantPort.state = s.plantPort.state ∧
    (placeOwn p dest kind body s).eeprom = s.eeprom ∧
    (placeOwn p dest kind body s).draws = s.draws ∧
    (placeOwn p dest kind body s).raised = s.raised ∧
    (placeOwn p dest kind body s).handed = s.handed ∧
    (placeOwn p dest kind body s).pending = s.pending := by
  simp [placeOwn]
@[simp] theorem placeOwn_now (p : Port) (dest : Byte) (kind : Byte) (body : List Byte) (s : State) : (placeOwn p dest kind body s).now = s.now := (placeOwn_frame p dest kind body s).1
@[simp] theorem placeOwn_mode (p : Port) (dest : Byte) (kind : Byte) (body : List Byte) (s : State) : (placeOwn p dest kind body s).mode = s.mode := (placeOwn_frame p dest kind body s).2.1
@[simp] theorem placeOwn_activity (p : Port) (dest : Byte) (kind : Byte) (body : List Byte) (s : State) : (placeOwn p dest kind body s).activity = s.activity := (placeOwn_frame p dest kind body s).2.2.1
@[simp] theorem placeOwn_tables (p : Port) (dest : Byte) (kind : Byte) (body : List Byte) (s : State) : (placeOwn p dest kind body s).tables = s.tables := (placeOwn_frame p dest kind body s).2.2.2.1
@[simp] theorem placeOwn_tracker (p : Port) (dest : Byte) (kind : Byte) (body : List Byte) (s : State) : (placeOwn p dest kind body s).tracker = s.tracker := (placeOwn_frame p dest kind body s).2.2.2.2.1
@[simp] theorem placeOwn_lots (p : Port) (dest : Byte) (kind : Byte) (body : List Byte) (s : State) : (placeOwn p dest kind body s).lots = s.lots := (placeOwn_frame p dest kind body s).2.2.2.2.2.1
@[simp] theorem placeOwn_arbiter (p : Port) (dest : Byte) (kind : Byte) (body : List Byte) (s : State) : (placeOwn p dest kind body s).arbiter = s.arbiter := (placeOwn_frame p dest kind body s).2.2.2.2.2.2.1
@[simp] theorem placeOwn_belt (p : Port) (dest : Byte) (kind : Byte) (body : List Byte) (s : State) : (placeOwn p dest kind body s).belt = s.belt := (placeOwn_frame p dest kind body s).2.2.2.2.2.2.2.1
@[simp] theorem placeOwn_head (p : Port) (dest : Byte) (kind : Byte) (body : List Byte) (s : State) : (placeOwn p dest kind body s).head = s.head := (placeOwn_frame p dest kind body s).2.2.2.2.2.2.2.2.1
@[simp] theorem placeOwn_filtration (p : Port) (dest : Byte) (kind : Byte) (body : List Byte) (s : State) : (placeOwn p dest kind body s).filtration = s.filtration := (placeOwn_frame p dest kind body s).2.2.2.2.2.2.2.2.2.1
@[simp] theorem placeOwn_engine (p : Port) (dest : Byte) (kind : Byte) (body : List Byte) (s : State) : (placeOwn p dest kind body s).engine = s.engine := (placeOwn_frame p dest kind body s).2.2.2.2.2.2.2.2.2.2.1
@[simp] theorem placeOwn_router (p : Port) (dest : Byte) (kind : Byte) (body : List Byte) (s : State) : (placeOwn p dest kind body s).router = s.router := (placeOwn_frame p dest kind body s).2.2.2.2.2.2.2.2.2.2.2.1
@[simp] theorem placeOwn_coalescer (p : Port) (dest : Byte) (kind : Byte) (body : List Byte) (s : State) : (placeOwn p dest kind body s).coalescer = s.coalescer := (placeOwn_frame p dest kind body s).2.2.2.2.2.2.2.2.2.2.2.2.1
@[simp] theorem placeOwn_cellState (p : Port) (dest : Byte) (kind : Byte) (body : List Byte) (s : State) : (placeOwn p dest kind body s).cellPort.state = s.cellPort.state := (placeOwn_frame p dest kind body s).2.2.2.2.2.2.2.2.2.2.2.2.2.1
@[simp] theorem placeOwn_plantState (p : Port) (dest : Byte) (kind : Byte) (body : List Byte) (s : State) : (placeOwn p dest kind body s).plantPort.state = s.plantPort.state := (placeOwn_frame p dest kind body s).2.2.2.2.2.2.2.2.2.2.2.2.2.2.1
@[simp] theorem placeOwn_eeprom (p : Port) (dest : Byte) (kind : Byte) (body : List Byte) (s : State) : (placeOwn p dest kind body s).eeprom = s.eeprom := (placeOwn_frame p dest kind body s).2.2.2.2.2.2.2.2.2.2.2.2.2.2.2.1
@[simp] theorem placeOwn_draws (p : Port) (dest : Byte) (kind : Byte) (body : List Byte) (s : State) : (placeOwn p dest kind body s).draws = s.draws := (placeOwn_frame p dest kind body s).2.2.2.2.2.2.2.2.2.2.2.2.2.2.2.2.1
@[simp] theorem placeOwn_raised (p : Port) (dest : Byte) (kind : Byte) (body : List Byte) (s : State) : (placeOwn p dest kind body s).raised = s.raised := (placeOwn_frame p dest kind body s).2.2.2.2.2.2.2.2.2.2.2.2.2.2.2.2.2.1
@[simp] theorem placeOwn_handed (p : Port) (dest : Byte) (kind : Byte) (body : List Byte) (s : State) : (placeOwn p dest kind body s).handed = s.handed := (placeOwn_frame p dest kind body s).2.2.2.2.2.2.2.2.2.2.2.2.2.2.2.2.2.2.1
@[simp] theorem placeOwn_pending (p : Port) (dest : Byte) (kind : Byte) (body : List Byte) (s : State) : (placeOwn p dest kind body s).pending = s.pending := (placeOwn_frame p dest kind body s).2.2.2.2.2.2.2.2.2.2.2.2.2.2.2.2.2.2.2

theorem sendOrder_frame (o : Order) (node : Byte) (lot : Option LotNo) (length : Nat) (reason : Option Reason) (s : State) :
    (sendOrder o node lot length reason s).now = s.now ∧
    (sendOrder o node lot length reason s).mode = s.mode ∧
    (sendOrder o node lot length reason s).activity = s.activity ∧
    (sendOrder o node lot length reason s).tables = s.tables ∧
    (sendOrder o node lot length reason s).tracker = s.tracker ∧
    (sendOrder o node lot length reason s).lots = s.lots ∧
    (sendOrder o node lot length reason s).arbiter = s.arbiter ∧
    (sendOrder o node lot length reason s).belt = s.belt ∧
    (sendOrder o node lot length reason s).head = s.head ∧
    (sendOrder o node lot length reason s).filtration = s.filtration ∧
    (sendOrder o node lot length reason s).engine = s.engine ∧
    (sendOrder o node lot length reason s).router = s.router ∧
    (sendOrder o node lot length reason s).coalescer = s.coalescer ∧
    (sendOrder o node lot length reason s).cellPort.state = s.cellPort.state ∧
    (sendOrder o node lot length reason s).plantPort.state = s.plantPort.state ∧
    (sendOrder o node lot length reason s).eeprom = s.eeprom ∧
    (sendOrder o node lot length reason s).draws = s.draws ∧
    (sendOrder o node lot length reason s).raised = s.raised ∧
    (sendOrder o node lot length reason s).handed = s.handed ∧
    (sendOrder o node lot length reason s).pending = s.pending := by
  simp [sendOrder]
@[simp] theorem sendOrder_now (o : Order) (node : Byte) (lot : Option LotNo) (length : Nat) (reason : Option Reason) (s : State) : (sendOrder o node lot length reason s).now = s.now := (sendOrder_frame o node lot length reason s).1
@[simp] theorem sendOrder_mode (o : Order) (node : Byte) (lot : Option LotNo) (length : Nat) (reason : Option Reason) (s : State) : (sendOrder o node lot length reason s).mode = s.mode := (sendOrder_frame o node lot length reason s).2.1
@[simp] theorem sendOrder_activity (o : Order) (node : Byte) (lot : Option LotNo) (length : Nat) (reason : Option Reason) (s : State) : (sendOrder o node lot length reason s).activity = s.activity := (sendOrder_frame o node lot length reason s).2.2.1
@[simp] theorem sendOrder_tables (o : Order) (node : Byte) (lot : Option LotNo) (length : Nat) (reason : Option Reason) (s : State) : (sendOrder o node lot length reason s).tables = s.tables := (sendOrder_frame o node lot length reason s).2.2.2.1
@[simp] theorem sendOrder_tracker (o : Order) (node : Byte) (lot : Option LotNo) (length : Nat) (reason : Option Reason) (s : State) : (sendOrder o node lot length reason s).tracker = s.tracker := (sendOrder_frame o node lot length reason s).2.2.2.2.1
@[simp] theorem sendOrder_lots (o : Order) (node : Byte) (lot : Option LotNo) (length : Nat) (reason : Option Reason) (s : State) : (sendOrder o node lot length reason s).lots = s.lots := (sendOrder_frame o node lot length reason s).2.2.2.2.2.1
@[simp] theorem sendOrder_arbiter (o : Order) (node : Byte) (lot : Option LotNo) (length : Nat) (reason : Option Reason) (s : State) : (sendOrder o node lot length reason s).arbiter = s.arbiter := (sendOrder_frame o node lot length reason s).2.2.2.2.2.2.1
@[simp] theorem sendOrder_belt (o : Order) (node : Byte) (lot : Option LotNo) (length : Nat) (reason : Option Reason) (s : State) : (sendOrder o node lot length reason s).belt = s.belt := (sendOrder_frame o node lot length reason s).2.2.2.2.2.2.2.1
@[simp] theorem sendOrder_head (o : Order) (node : Byte) (lot : Option LotNo) (length : Nat) (reason : Option Reason) (s : State) : (sendOrder o node lot length reason s).head = s.head := (sendOrder_frame o node lot length reason s).2.2.2.2.2.2.2.2.1
@[simp] theorem sendOrder_filtration (o : Order) (node : Byte) (lot : Option LotNo) (length : Nat) (reason : Option Reason) (s : State) : (sendOrder o node lot length reason s).filtration = s.filtration := (sendOrder_frame o node lot length reason s).2.2.2.2.2.2.2.2.2.1
@[simp] theorem sendOrder_engine (o : Order) (node : Byte) (lot : Option LotNo) (length : Nat) (reason : Option Reason) (s : State) : (sendOrder o node lot length reason s).engine = s.engine := (sendOrder_frame o node lot length reason s).2.2.2.2.2.2.2.2.2.2.1
@[simp] theorem sendOrder_router (o : Order) (node : Byte) (lot : Option LotNo) (length : Nat) (reason : Option Reason) (s : State) : (sendOrder o node lot length reason s).router = s.router := (sendOrder_frame o node lot length reason s).2.2.2.2.2.2.2.2.2.2.2.1
@[simp] theorem sendOrder_coalescer (o : Order) (node : Byte) (lot : Option LotNo) (length : Nat) (reason : Option Reason) (s : State) : (sendOrder o node lot length reason s).coalescer = s.coalescer := (sendOrder_frame o node lot length reason s).2.2.2.2.2.2.2.2.2.2.2.2.1
@[simp] theorem sendOrder_cellState (o : Order) (node : Byte) (lot : Option LotNo) (length : Nat) (reason : Option Reason) (s : State) : (sendOrder o node lot length reason s).cellPort.state = s.cellPort.state := (sendOrder_frame o node lot length reason s).2.2.2.2.2.2.2.2.2.2.2.2.2.1
@[simp] theorem sendOrder_plantState (o : Order) (node : Byte) (lot : Option LotNo) (length : Nat) (reason : Option Reason) (s : State) : (sendOrder o node lot length reason s).plantPort.state = s.plantPort.state := (sendOrder_frame o node lot length reason s).2.2.2.2.2.2.2.2.2.2.2.2.2.2.1
@[simp] theorem sendOrder_eeprom (o : Order) (node : Byte) (lot : Option LotNo) (length : Nat) (reason : Option Reason) (s : State) : (sendOrder o node lot length reason s).eeprom = s.eeprom := (sendOrder_frame o node lot length reason s).2.2.2.2.2.2.2.2.2.2.2.2.2.2.2.1
@[simp] theorem sendOrder_draws (o : Order) (node : Byte) (lot : Option LotNo) (length : Nat) (reason : Option Reason) (s : State) : (sendOrder o node lot length reason s).draws = s.draws := (sendOrder_frame o node lot length reason s).2.2.2.2.2.2.2.2.2.2.2.2.2.2.2.2.1
@[simp] theorem sendOrder_raised (o : Order) (node : Byte) (lot : Option LotNo) (length : Nat) (reason : Option Reason) (s : State) : (sendOrder o node lot length reason s).raised = s.raised := (sendOrder_frame o node lot length reason s).2.2.2.2.2.2.2.2.2.2.2.2.2.2.2.2.2.1
@[simp] theorem sendOrder_handed (o : Order) (node : Byte) (lot : Option LotNo) (length : Nat) (reason : Option Reason) (s : State) : (sendOrder o node lot length reason s).handed = s.handed := (sendOrder_frame o node lot length reason s).2.2.2.2.2.2.2.2.2.2.2.2.2.2.2.2.2.2.1
@[simp] theorem sendOrder_pending (o : Order) (node : Byte) (lot : Option LotNo) (length : Nat) (reason : Option Reason) (s : State) : (sendOrder o node lot length reason s).pending = s.pending := (sendOrder_frame o node lot length reason s).2.2.2.2.2.2.2.2.2.2.2.2.2.2.2.2.2.2.2

theorem sendLotOrder_frame (o : Order) (l : LotNo) (c : CellNo) (s : State) :
    (sendLotOrder o l c s).now = s.now ∧
    (sendLotOrder o l c s).mode = s.mode ∧
    (sendLotOrder o l c s).activity = s.activity ∧
    (sendLotOrder o l c s).tables = s.tables ∧
    (sendLotOrder o l c s).tracker = s.tracker ∧
    (sendLotOrder o l c s).lots = s.lots ∧
    (sendLotOrder o l c s).arbiter = s.arbiter ∧
    (sendLotOrder o l c s).belt = s.belt ∧
    (sendLotOrder o l c s).head = s.head ∧
    (sendLotOrder o l c s).filtration = s.filtration ∧
    (sendLotOrder o l c s).engine = s.engine ∧
    (sendLotOrder o l c s).router = s.router ∧
    (sendLotOrder o l c s).coalescer = s.coalescer ∧
    (sendLotOrder o l c s).cellPort.state = s.cellPort.state ∧
    (sendLotOrder o l c s).plantPort.state = s.plantPort.state ∧
    (sendLotOrder o l c s).eeprom = s.eeprom ∧
    (sendLotOrder o l c s).draws = s.draws ∧
    (sendLotOrder o l c s).raised = s.raised ∧
    (sendLotOrder o l c s).handed = s.handed ∧
    (sendLotOrder o l c s).pending = s.pending := by
  simp [sendLotOrder]
@[simp] theorem sendLotOrder_now (o : Order) (l : LotNo) (c : CellNo) (s : State) : (sendLotOrder o l c s).now = s.now := (sendLotOrder_frame o l c s).1
@[simp] theorem sendLotOrder_mode (o : Order) (l : LotNo) (c : CellNo) (s : State) : (sendLotOrder o l c s).mode = s.mode := (sendLotOrder_frame o l c s).2.1
@[simp] theorem sendLotOrder_activity (o : Order) (l : LotNo) (c : CellNo) (s : State) : (sendLotOrder o l c s).activity = s.activity := (sendLotOrder_frame o l c s).2.2.1
@[simp] theorem sendLotOrder_tables (o : Order) (l : LotNo) (c : CellNo) (s : State) : (sendLotOrder o l c s).tables = s.tables := (sendLotOrder_frame o l c s).2.2.2.1
@[simp] theorem sendLotOrder_tracker (o : Order) (l : LotNo) (c : CellNo) (s : State) : (sendLotOrder o l c s).tracker = s.tracker := (sendLotOrder_frame o l c s).2.2.2.2.1
@[simp] theorem sendLotOrder_lots (o : Order) (l : LotNo) (c : CellNo) (s : State) : (sendLotOrder o l c s).lots = s.lots := (sendLotOrder_frame o l c s).2.2.2.2.2.1
@[simp] theorem sendLotOrder_arbiter (o : Order) (l : LotNo) (c : CellNo) (s : State) : (sendLotOrder o l c s).arbiter = s.arbiter := (sendLotOrder_frame o l c s).2.2.2.2.2.2.1
@[simp] theorem sendLotOrder_belt (o : Order) (l : LotNo) (c : CellNo) (s : State) : (sendLotOrder o l c s).belt = s.belt := (sendLotOrder_frame o l c s).2.2.2.2.2.2.2.1
@[simp] theorem sendLotOrder_head (o : Order) (l : LotNo) (c : CellNo) (s : State) : (sendLotOrder o l c s).head = s.head := (sendLotOrder_frame o l c s).2.2.2.2.2.2.2.2.1
@[simp] theorem sendLotOrder_filtration (o : Order) (l : LotNo) (c : CellNo) (s : State) : (sendLotOrder o l c s).filtration = s.filtration := (sendLotOrder_frame o l c s).2.2.2.2.2.2.2.2.2.1
@[simp] theorem sendLotOrder_engine (o : Order) (l : LotNo) (c : CellNo) (s : State) : (sendLotOrder o l c s).engine = s.engine := (sendLotOrder_frame o l c s).2.2.2.2.2.2.2.2.2.2.1
@[simp] theorem sendLotOrder_router (o : Order) (l : LotNo) (c : CellNo) (s : State) : (sendLotOrder o l c s).router = s.router := (sendLotOrder_frame o l c s).2.2.2.2.2.2.2.2.2.2.2.1
@[simp] theorem sendLotOrder_coalescer (o : Order) (l : LotNo) (c : CellNo) (s : State) : (sendLotOrder o l c s).coalescer = s.coalescer := (sendLotOrder_frame o l c s).2.2.2.2.2.2.2.2.2.2.2.2.1
@[simp] theorem sendLotOrder_cellState (o : Order) (l : LotNo) (c : CellNo) (s : State) : (sendLotOrder o l c s).cellPort.state = s.cellPort.state := (sendLotOrder_frame o l c s).2.2.2.2.2.2.2.2.2.2.2.2.2.1
@[simp] theorem sendLotOrder_plantState (o : Order) (l : LotNo) (c : CellNo) (s : State) : (sendLotOrder o l c s).plantPort.state = s.plantPort.state := (sendLotOrder_frame o l c s).2.2.2.2.2.2.2.2.2.2.2.2.2.2.1
@[simp] theorem sendLotOrder_eeprom (o : Order) (l : LotNo) (c : CellNo) (s : State) : (sendLotOrder o l c s).eeprom = s.eeprom := (sendLotOrder_frame o l c s).2.2.2.2.2.2.2.2.2.2.2.2.2.2.2.1
@[simp] theorem sendLotOrder_draws (o : Order) (l : LotNo) (c : CellNo) (s : State) : (sendLotOrder o l c s).draws = s.draws := (sendLotOrder_frame o l c s).2.2.2.2.2.2.2.2.2.2.2.2.2.2.2.2.1
@[simp] theorem sendLotOrder_raised (o : Order) (l : LotNo) (c : CellNo) (s : State) : (sendLotOrder o l c s).raised = s.raised := (sendLotOrder_frame o l c s).2.2.2.2.2.2.2.2.2.2.2.2.2.2.2.2.2.1
@[simp] theorem sendLotOrder_handed (o : Order) (l : LotNo) (c : CellNo) (s : State) : (sendLotOrder o l c s).handed = s.handed := (sendLotOrder_frame o l c s).2.2.2.2.2.2.2.2.2.2.2.2.2.2.2.2.2.2.1
@[simp] theorem sendLotOrder_pending (o : Order) (l : LotNo) (c : CellNo) (s : State) : (sendLotOrder o l c s).pending = s.pending := (sendLotOrder_frame o l c s).2.2.2.2.2.2.2.2.2.2.2.2.2.2.2.2.2.2.2

theorem refuse_frame (r : Reason) (node : Byte) (s : State) :
    (refuse r node s).now = s.now ∧
    (refuse r node s).mode = s.mode ∧
    (refuse r node s).activity = s.activity ∧
    (refuse r node s).tables = s.tables ∧
    (refuse r node s).tracker = s.tracker ∧
    (refuse r node s).lots = s.lots ∧
    (refuse r node s).arbiter = s.arbiter ∧
    (refuse r node s).belt = s.belt ∧
    (refuse r node s).head = s.head ∧
    (refuse r node s).filtration = s.filtration ∧
    (refuse r node s).engine = s.engine ∧
    (refuse r node s).router = s.router ∧
    (refuse r node s).coalescer = s.coalescer ∧
    (refuse r node s).cellPort.state = s.cellPort.state ∧
    (refuse r node s).plantPort.state = s.plantPort.state ∧
    (refuse r node s).eeprom = s.eeprom ∧
    (refuse r node s).draws = s.draws ∧
    (refuse r node s).raised = s.raised ∧
    (refuse r node s).handed = s.handed ∧
    (refuse r node s).pending = s.pending := by
  simp [refuse]
@[simp] theorem refuse_now (r : Reason) (node : Byte) (s : State) : (refuse r node s).now = s.now := (refuse_frame r node s).1
@[simp] theorem refuse_mode (r : Reason) (node : Byte) (s : State) : (refuse r node s).mode = s.mode := (refuse_frame r node s).2.1
@[simp] theorem refuse_activity (r : Reason) (node : Byte) (s : State) : (refuse r node s).activity = s.activity := (refuse_frame r node s).2.2.1
@[simp] theorem refuse_tables (r : Reason) (node : Byte) (s : State) : (refuse r node s).tables = s.tables := (refuse_frame r node s).2.2.2.1
@[simp] theorem refuse_tracker (r : Reason) (node : Byte) (s : State) : (refuse r node s).tracker = s.tracker := (refuse_frame r node s).2.2.2.2.1
@[simp] theorem refuse_lots (r : Reason) (node : Byte) (s : State) : (refuse r node s).lots = s.lots := (refuse_frame r node s).2.2.2.2.2.1
@[simp] theorem refuse_arbiter (r : Reason) (node : Byte) (s : State) : (refuse r node s).arbiter = s.arbiter := (refuse_frame r node s).2.2.2.2.2.2.1
@[simp] theorem refuse_belt (r : Reason) (node : Byte) (s : State) : (refuse r node s).belt = s.belt := (refuse_frame r node s).2.2.2.2.2.2.2.1
@[simp] theorem refuse_head (r : Reason) (node : Byte) (s : State) : (refuse r node s).head = s.head := (refuse_frame r node s).2.2.2.2.2.2.2.2.1
@[simp] theorem refuse_filtration (r : Reason) (node : Byte) (s : State) : (refuse r node s).filtration = s.filtration := (refuse_frame r node s).2.2.2.2.2.2.2.2.2.1
@[simp] theorem refuse_engine (r : Reason) (node : Byte) (s : State) : (refuse r node s).engine = s.engine := (refuse_frame r node s).2.2.2.2.2.2.2.2.2.2.1
@[simp] theorem refuse_router (r : Reason) (node : Byte) (s : State) : (refuse r node s).router = s.router := (refuse_frame r node s).2.2.2.2.2.2.2.2.2.2.2.1
@[simp] theorem refuse_coalescer (r : Reason) (node : Byte) (s : State) : (refuse r node s).coalescer = s.coalescer := (refuse_frame r node s).2.2.2.2.2.2.2.2.2.2.2.2.1
@[simp] theorem refuse_cellState (r : Reason) (node : Byte) (s : State) : (refuse r node s).cellPort.state = s.cellPort.state := (refuse_frame r node s).2.2.2.2.2.2.2.2.2.2.2.2.2.1
@[simp] theorem refuse_plantState (r : Reason) (node : Byte) (s : State) : (refuse r node s).plantPort.state = s.plantPort.state := (refuse_frame r node s).2.2.2.2.2.2.2.2.2.2.2.2.2.2.1
@[simp] theorem refuse_eeprom (r : Reason) (node : Byte) (s : State) : (refuse r node s).eeprom = s.eeprom := (refuse_frame r node s).2.2.2.2.2.2.2.2.2.2.2.2.2.2.2.1
@[simp] theorem refuse_draws (r : Reason) (node : Byte) (s : State) : (refuse r node s).draws = s.draws := (refuse_frame r node s).2.2.2.2.2.2.2.2.2.2.2.2.2.2.2.2.1
@[simp] theorem refuse_raised (r : Reason) (node : Byte) (s : State) : (refuse r node s).raised = s.raised := (refuse_frame r node s).2.2.2.2.2.2.2.2.2.2.2.2.2.2.2.2.2.1
@[simp] theorem refuse_handed (r : Reason) (node : Byte) (s : State) : (refuse r node s).handed = s.handed := (refuse_frame r node s).2.2.2.2.2.2.2.2.2.2.2.2.2.2.2.2.2.2.1
@[simp] theorem refuse_pending (r : Reason) (node : Byte) (s : State) : (refuse r node s).pending = s.pending := (refuse_frame r node s).2.2.2.2.2.2.2.2.2.2.2.2.2.2.2.2.2.2.2

theorem sendNotice_frame (src : Option SourceNo) (count : Nat) (outcome : Option ChainOutcome) (t : Trigger) (s : State) :
    (sendNotice src count outcome t s).now = s.now ∧
    (sendNotice src count outcome t s).mode = s.mode ∧
    (sendNotice src count outcome t s).activity = s.activity ∧
    (sendNotice src count outcome t s).tables = s.tables ∧
    (sendNotice src count outcome t s).tracker = s.tracker ∧
    (sendNotice src count outcome t s).lots = s.lots ∧
    (sendNotice src count outcome t s).arbiter = s.arbiter ∧
    (sendNotice src count outcome t s).belt = s.belt ∧
    (sendNotice src count outcome t s).head = s.head ∧
    (sendNotice src count outcome t s).filtration = s.filtration ∧
    (sendNotice src count outcome t s).engine = s.engine ∧
    (sendNotice src count outcome t s).router = s.router ∧
    (sendNotice src count outcome t s).coalescer = s.coalescer ∧
    (sendNotice src count outcome t s).cellPort.state = s.cellPort.state ∧
    (sendNotice src count outcome t s).plantPort.state = s.plantPort.state ∧
    (sendNotice src count outcome t s).eeprom = s.eeprom ∧
    (sendNotice src count outcome t s).draws = s.draws ∧
    (sendNotice src count outcome t s).raised = s.raised ∧
    (sendNotice src count outcome t s).handed = s.handed ∧
    (sendNotice src count outcome t s).pending = s.pending := by
  unfold sendNotice
  repeat' split
  all_goals simp
@[simp] theorem sendNotice_now (src : Option SourceNo) (count : Nat) (outcome : Option ChainOutcome) (t : Trigger) (s : State) : (sendNotice src count outcome t s).now = s.now := (sendNotice_frame src count outcome t s).1
@[simp] theorem sendNotice_mode (src : Option SourceNo) (count : Nat) (outcome : Option ChainOutcome) (t : Trigger) (s : State) : (sendNotice src count outcome t s).mode = s.mode := (sendNotice_frame src count outcome t s).2.1
@[simp] theorem sendNotice_activity (src : Option SourceNo) (count : Nat) (outcome : Option ChainOutcome) (t : Trigger) (s : State) : (sendNotice src count outcome t s).activity = s.activity := (sendNotice_frame src count outcome t s).2.2.1
@[simp] theorem sendNotice_tables (src : Option SourceNo) (count : Nat) (outcome : Option ChainOutcome) (t : Trigger) (s : State) : (sendNotice src count outcome t s).tables = s.tables := (sendNotice_frame src count outcome t s).2.2.2.1
@[simp] theorem sendNotice_tracker (src : Option SourceNo) (count : Nat) (outcome : Option ChainOutcome) (t : Trigger) (s : State) : (sendNotice src count outcome t s).tracker = s.tracker := (sendNotice_frame src count outcome t s).2.2.2.2.1
@[simp] theorem sendNotice_lots (src : Option SourceNo) (count : Nat) (outcome : Option ChainOutcome) (t : Trigger) (s : State) : (sendNotice src count outcome t s).lots = s.lots := (sendNotice_frame src count outcome t s).2.2.2.2.2.1
@[simp] theorem sendNotice_arbiter (src : Option SourceNo) (count : Nat) (outcome : Option ChainOutcome) (t : Trigger) (s : State) : (sendNotice src count outcome t s).arbiter = s.arbiter := (sendNotice_frame src count outcome t s).2.2.2.2.2.2.1
@[simp] theorem sendNotice_belt (src : Option SourceNo) (count : Nat) (outcome : Option ChainOutcome) (t : Trigger) (s : State) : (sendNotice src count outcome t s).belt = s.belt := (sendNotice_frame src count outcome t s).2.2.2.2.2.2.2.1
@[simp] theorem sendNotice_head (src : Option SourceNo) (count : Nat) (outcome : Option ChainOutcome) (t : Trigger) (s : State) : (sendNotice src count outcome t s).head = s.head := (sendNotice_frame src count outcome t s).2.2.2.2.2.2.2.2.1
@[simp] theorem sendNotice_filtration (src : Option SourceNo) (count : Nat) (outcome : Option ChainOutcome) (t : Trigger) (s : State) : (sendNotice src count outcome t s).filtration = s.filtration := (sendNotice_frame src count outcome t s).2.2.2.2.2.2.2.2.2.1
@[simp] theorem sendNotice_engine (src : Option SourceNo) (count : Nat) (outcome : Option ChainOutcome) (t : Trigger) (s : State) : (sendNotice src count outcome t s).engine = s.engine := (sendNotice_frame src count outcome t s).2.2.2.2.2.2.2.2.2.2.1
@[simp] theorem sendNotice_router (src : Option SourceNo) (count : Nat) (outcome : Option ChainOutcome) (t : Trigger) (s : State) : (sendNotice src count outcome t s).router = s.router := (sendNotice_frame src count outcome t s).2.2.2.2.2.2.2.2.2.2.2.1
@[simp] theorem sendNotice_coalescer (src : Option SourceNo) (count : Nat) (outcome : Option ChainOutcome) (t : Trigger) (s : State) : (sendNotice src count outcome t s).coalescer = s.coalescer := (sendNotice_frame src count outcome t s).2.2.2.2.2.2.2.2.2.2.2.2.1
@[simp] theorem sendNotice_cellState (src : Option SourceNo) (count : Nat) (outcome : Option ChainOutcome) (t : Trigger) (s : State) : (sendNotice src count outcome t s).cellPort.state = s.cellPort.state := (sendNotice_frame src count outcome t s).2.2.2.2.2.2.2.2.2.2.2.2.2.1
@[simp] theorem sendNotice_plantState (src : Option SourceNo) (count : Nat) (outcome : Option ChainOutcome) (t : Trigger) (s : State) : (sendNotice src count outcome t s).plantPort.state = s.plantPort.state := (sendNotice_frame src count outcome t s).2.2.2.2.2.2.2.2.2.2.2.2.2.2.1
@[simp] theorem sendNotice_eeprom (src : Option SourceNo) (count : Nat) (outcome : Option ChainOutcome) (t : Trigger) (s : State) : (sendNotice src count outcome t s).eeprom = s.eeprom := (sendNotice_frame src count outcome t s).2.2.2.2.2.2.2.2.2.2.2.2.2.2.2.1
@[simp] theorem sendNotice_draws (src : Option SourceNo) (count : Nat) (outcome : Option ChainOutcome) (t : Trigger) (s : State) : (sendNotice src count outcome t s).draws = s.draws := (sendNotice_frame src count outcome t s).2.2.2.2.2.2.2.2.2.2.2.2.2.2.2.2.1
@[simp] theorem sendNotice_raised (src : Option SourceNo) (count : Nat) (outcome : Option ChainOutcome) (t : Trigger) (s : State) : (sendNotice src count outcome t s).raised = s.raised := (sendNotice_frame src count outcome t s).2.2.2.2.2.2.2.2.2.2.2.2.2.2.2.2.2.1
@[simp] theorem sendNotice_handed (src : Option SourceNo) (count : Nat) (outcome : Option ChainOutcome) (t : Trigger) (s : State) : (sendNotice src count outcome t s).handed = s.handed := (sendNotice_frame src count outcome t s).2.2.2.2.2.2.2.2.2.2.2.2.2.2.2.2.2.2.1
@[simp] theorem sendNotice_pending (src : Option SourceNo) (count : Nat) (outcome : Option ChainOutcome) (t : Trigger) (s : State) : (sendNotice src count outcome t s).pending = s.pending := (sendNotice_frame src count outcome t s).2.2.2.2.2.2.2.2.2.2.2.2.2.2.2.2.2.2.2

theorem hand_frame (t : Target) (m : Mode) (setpoint : Nat) (s : State) :
    (hand t m setpoint s).now = s.now ∧
    (hand t m setpoint s).mode = s.mode ∧
    (hand t m setpoint s).activity = s.activity ∧
    (hand t m setpoint s).tables = s.tables ∧
    (hand t m setpoint s).tracker = s.tracker ∧
    (hand t m setpoint s).lots = s.lots ∧
    (hand t m setpoint s).arbiter = s.arbiter ∧
    (hand t m setpoint s).belt = s.belt ∧
    (hand t m setpoint s).head = s.head ∧
    (hand t m setpoint s).filtration = s.filtration ∧
    (hand t m setpoint s).engine = s.engine ∧
    (hand t m setpoint s).router = s.router ∧
    (hand t m setpoint s).notices = s.notices ∧
    (hand t m setpoint s).cellPort = s.cellPort ∧
    (hand t m setpoint s).plantPort = s.plantPort ∧
    (hand t m setpoint s).eeprom = s.eeprom ∧
    (hand t m setpoint s).draws = s.draws ∧
    (hand t m setpoint s).raised = s.raised ∧
    (hand t m setpoint s).pending = s.pending := by
  unfold hand
  split <;> simp
@[simp] theorem hand_now (t : Target) (m : Mode) (setpoint : Nat) (s : State) : (hand t m setpoint s).now = s.now := (hand_frame t m setpoint s).1
@[simp] theorem hand_mode (t : Target) (m : Mode) (setpoint : Nat) (s : State) : (hand t m setpoint s).mode = s.mode := (hand_frame t m setpoint s).2.1
@[simp] theorem hand_activity (t : Target) (m : Mode) (setpoint : Nat) (s : State) : (hand t m setpoint s).activity = s.activity := (hand_frame t m setpoint s).2.2.1
@[simp] theorem hand_tables (t : Target) (m : Mode) (setpoint : Nat) (s : State) : (hand t m setpoint s).tables = s.tables := (hand_frame t m setpoint s).2.2.2.1
@[simp] theorem hand_tracker (t : Target) (m : Mode) (setpoint : Nat) (s : State) : (hand t m setpoint s).tracker = s.tracker := (hand_frame t m setpoint s).2.2.2.2.1
@[simp] theorem hand_lots (t : Target) (m : Mode) (setpoint : Nat) (s : State) : (hand t m setpoint s).lots = s.lots := (hand_frame t m setpoint s).2.2.2.2.2.1
@[simp] theorem hand_arbiter (t : Target) (m : Mode) (setpoint : Nat) (s : State) : (hand t m setpoint s).arbiter = s.arbiter := (hand_frame t m setpoint s).2.2.2.2.2.2.1
@[simp] theorem hand_belt (t : Target) (m : Mode) (setpoint : Nat) (s : State) : (hand t m setpoint s).belt = s.belt := (hand_frame t m setpoint s).2.2.2.2.2.2.2.1
@[simp] theorem hand_head (t : Target) (m : Mode) (setpoint : Nat) (s : State) : (hand t m setpoint s).head = s.head := (hand_frame t m setpoint s).2.2.2.2.2.2.2.2.1
@[simp] theorem hand_filtration (t : Target) (m : Mode) (setpoint : Nat) (s : State) : (hand t m setpoint s).filtration = s.filtration := (hand_frame t m setpoint s).2.2.2.2.2.2.2.2.2.1
@[simp] theorem hand_engine (t : Target) (m : Mode) (setpoint : Nat) (s : State) : (hand t m setpoint s).engine = s.engine := (hand_frame t m setpoint s).2.2.2.2.2.2.2.2.2.2.1
@[simp] theorem hand_router (t : Target) (m : Mode) (setpoint : Nat) (s : State) : (hand t m setpoint s).router = s.router := (hand_frame t m setpoint s).2.2.2.2.2.2.2.2.2.2.2.1
@[simp] theorem hand_notices (t : Target) (m : Mode) (setpoint : Nat) (s : State) : (hand t m setpoint s).notices = s.notices := (hand_frame t m setpoint s).2.2.2.2.2.2.2.2.2.2.2.2.1
@[simp] theorem hand_cellPort (t : Target) (m : Mode) (setpoint : Nat) (s : State) : (hand t m setpoint s).cellPort = s.cellPort := (hand_frame t m setpoint s).2.2.2.2.2.2.2.2.2.2.2.2.2.1
@[simp] theorem hand_plantPort (t : Target) (m : Mode) (setpoint : Nat) (s : State) : (hand t m setpoint s).plantPort = s.plantPort := (hand_frame t m setpoint s).2.2.2.2.2.2.2.2.2.2.2.2.2.2.1
@[simp] theorem hand_eeprom (t : Target) (m : Mode) (setpoint : Nat) (s : State) : (hand t m setpoint s).eeprom = s.eeprom := (hand_frame t m setpoint s).2.2.2.2.2.2.2.2.2.2.2.2.2.2.2.1
@[simp] theorem hand_draws (t : Target) (m : Mode) (setpoint : Nat) (s : State) : (hand t m setpoint s).draws = s.draws := (hand_frame t m setpoint s).2.2.2.2.2.2.2.2.2.2.2.2.2.2.2.2.1
@[simp] theorem hand_raised (t : Target) (m : Mode) (setpoint : Nat) (s : State) : (hand t m setpoint s).raised = s.raised := (hand_frame t m setpoint s).2.2.2.2.2.2.2.2.2.2.2.2.2.2.2.2.2.1
@[simp] theorem hand_pending (t : Target) (m : Mode) (setpoint : Nat) (s : State) : (hand t m setpoint s).pending = s.pending := (hand_frame t m setpoint s).2.2.2.2.2.2.2.2.2.2.2.2.2.2.2.2.2.2

theorem removeEntry_frame (t : Target) (s : State) :
    (removeEntry t s).now = s.now ∧
    (removeEntry t s).mode = s.mode ∧
    (removeEntry t s).activity = s.activity ∧
    (removeEntry t s).tables = s.tables ∧
    (removeEntry t s).tracker = s.tracker ∧
    (removeEntry t s).lots = s.lots ∧
    (removeEntry t s).arbiter = s.arbiter ∧
    (removeEntry t s).belt = s.belt ∧
    (removeEntry t s).head = s.head ∧
    (removeEntry t s).filtration = s.filtration ∧
    (removeEntry t s).engine = s.engine ∧
    (removeEntry t s).router = s.router ∧
    (removeEntry t s).notices = s.notices ∧
    (removeEntry t s).cellPort = s.cellPort ∧
    (removeEntry t s).plantPort = s.plantPort ∧
    (removeEntry t s).counters = s.counters ∧
    (removeEntry t s).eeprom = s.eeprom ∧
    (removeEntry t s).draws = s.draws ∧
    (removeEntry t s).raised = s.raised ∧
    (removeEntry t s).handed = s.handed ∧
    (removeEntry t s).pending = s.pending := by
  simp [removeEntry]
@[simp] theorem removeEntry_now (t : Target) (s : State) : (removeEntry t s).now = s.now := (removeEntry_frame t s).1
@[simp] theorem removeEntry_mode (t : Target) (s : State) : (removeEntry t s).mode = s.mode := (removeEntry_frame t s).2.1
@[simp] theorem removeEntry_activity (t : Target) (s : State) : (removeEntry t s).activity = s.activity := (removeEntry_frame t s).2.2.1
@[simp] theorem removeEntry_tables (t : Target) (s : State) : (removeEntry t s).tables = s.tables := (removeEntry_frame t s).2.2.2.1
@[simp] theorem removeEntry_tracker (t : Target) (s : State) : (removeEntry t s).tracker = s.tracker := (removeEntry_frame t s).2.2.2.2.1
@[simp] theorem removeEntry_lots (t : Target) (s : State) : (removeEntry t s).lots = s.lots := (removeEntry_frame t s).2.2.2.2.2.1
@[simp] theorem removeEntry_arbiter (t : Target) (s : State) : (removeEntry t s).arbiter = s.arbiter := (removeEntry_frame t s).2.2.2.2.2.2.1
@[simp] theorem removeEntry_belt (t : Target) (s : State) : (removeEntry t s).belt = s.belt := (removeEntry_frame t s).2.2.2.2.2.2.2.1
@[simp] theorem removeEntry_head (t : Target) (s : State) : (removeEntry t s).head = s.head := (removeEntry_frame t s).2.2.2.2.2.2.2.2.1
@[simp] theorem removeEntry_filtration (t : Target) (s : State) : (removeEntry t s).filtration = s.filtration := (removeEntry_frame t s).2.2.2.2.2.2.2.2.2.1
@[simp] theorem removeEntry_engine (t : Target) (s : State) : (removeEntry t s).engine = s.engine := (removeEntry_frame t s).2.2.2.2.2.2.2.2.2.2.1
@[simp] theorem removeEntry_router (t : Target) (s : State) : (removeEntry t s).router = s.router := (removeEntry_frame t s).2.2.2.2.2.2.2.2.2.2.2.1
@[simp] theorem removeEntry_notices (t : Target) (s : State) : (removeEntry t s).notices = s.notices := (removeEntry_frame t s).2.2.2.2.2.2.2.2.2.2.2.2.1
@[simp] theorem removeEntry_cellPort (t : Target) (s : State) : (removeEntry t s).cellPort = s.cellPort := (removeEntry_frame t s).2.2.2.2.2.2.2.2.2.2.2.2.2.1
@[simp] theorem removeEntry_plantPort (t : Target) (s : State) : (removeEntry t s).plantPort = s.plantPort := (removeEntry_frame t s).2.2.2.2.2.2.2.2.2.2.2.2.2.2.1
@[simp] theorem removeEntry_counters (t : Target) (s : State) : (removeEntry t s).counters = s.counters := (removeEntry_frame t s).2.2.2.2.2.2.2.2.2.2.2.2.2.2.2.1
@[simp] theorem removeEntry_eeprom (t : Target) (s : State) : (removeEntry t s).eeprom = s.eeprom := (removeEntry_frame t s).2.2.2.2.2.2.2.2.2.2.2.2.2.2.2.2.1
@[simp] theorem removeEntry_draws (t : Target) (s : State) : (removeEntry t s).draws = s.draws := (removeEntry_frame t s).2.2.2.2.2.2.2.2.2.2.2.2.2.2.2.2.2.1
@[simp] theorem removeEntry_raised (t : Target) (s : State) : (removeEntry t s).raised = s.raised := (removeEntry_frame t s).2.2.2.2.2.2.2.2.2.2.2.2.2.2.2.2.2.2.1
@[simp] theorem removeEntry_handed (t : Target) (s : State) : (removeEntry t s).handed = s.handed := (removeEntry_frame t s).2.2.2.2.2.2.2.2.2.2.2.2.2.2.2.2.2.2.2.1
@[simp] theorem removeEntry_pending (t : Target) (s : State) : (removeEntry t s).pending = s.pending := (removeEntry_frame t s).2.2.2.2.2.2.2.2.2.2.2.2.2.2.2.2.2.2.2.2

theorem unloadOnce_frame (s : State) :
    (unloadOnce s).1.now = s.now ∧
    (unloadOnce s).1.mode = s.mode ∧
    (unloadOnce s).1.activity = s.activity ∧
    (unloadOnce s).1.tables = s.tables ∧
    (unloadOnce s).1.tracker = s.tracker ∧
    (unloadOnce s).1.lots = s.lots ∧
    (unloadOnce s).1.arbiter = s.arbiter ∧
    (unloadOnce s).1.belt = s.belt ∧
    (unloadOnce s).1.head = s.head ∧
    (unloadOnce s).1.filtration = s.filtration ∧
    (unloadOnce s).1.engine = s.engine ∧
    (unloadOnce s).1.router = s.router ∧
    (unloadOnce s).1.cellPort.state = s.cellPort.state ∧
    (unloadOnce s).1.plantPort.state = s.plantPort.state ∧
    (unloadOnce s).1.eeprom = s.eeprom ∧
    (unloadOnce s).1.draws = s.draws ∧
    (unloadOnce s).1.raised = s.raised ∧
    (unloadOnce s).1.handed = s.handed ∧
    (unloadOnce s).1.pending = s.pending := by
  unfold unloadOnce
  repeat' split
  all_goals simp
@[simp] theorem unloadOnce_now (s : State) : (unloadOnce s).1.now = s.now := (unloadOnce_frame s).1
@[simp] theorem unloadOnce_mode (s : State) : (unloadOnce s).1.mode = s.mode := (unloadOnce_frame s).2.1
@[simp] theorem unloadOnce_activity (s : State) : (unloadOnce s).1.activity = s.activity := (unloadOnce_frame s).2.2.1
@[simp] theorem unloadOnce_tables (s : State) : (unloadOnce s).1.tables = s.tables := (unloadOnce_frame s).2.2.2.1
@[simp] theorem unloadOnce_tracker (s : State) : (unloadOnce s).1.tracker = s.tracker := (unloadOnce_frame s).2.2.2.2.1
@[simp] theorem unloadOnce_lots (s : State) : (unloadOnce s).1.lots = s.lots := (unloadOnce_frame s).2.2.2.2.2.1
@[simp] theorem unloadOnce_arbiter (s : State) : (unloadOnce s).1.arbiter = s.arbiter := (unloadOnce_frame s).2.2.2.2.2.2.1
@[simp] theorem unloadOnce_belt (s : State) : (unloadOnce s).1.belt = s.belt := (unloadOnce_frame s).2.2.2.2.2.2.2.1
@[simp] theorem unloadOnce_head (s : State) : (unloadOnce s).1.head = s.head := (unloadOnce_frame s).2.2.2.2.2.2.2.2.1
@[simp] theorem unloadOnce_filtration (s : State) : (unloadOnce s).1.filtration = s.filtration := (unloadOnce_frame s).2.2.2.2.2.2.2.2.2.1
@[simp] theorem unloadOnce_engine (s : State) : (unloadOnce s).1.engine = s.engine := (unloadOnce_frame s).2.2.2.2.2.2.2.2.2.2.1
@[simp] theorem unloadOnce_router (s : State) : (unloadOnce s).1.router = s.router := (unloadOnce_frame s).2.2.2.2.2.2.2.2.2.2.2.1
@[simp] theorem unloadOnce_cellState (s : State) : (unloadOnce s).1.cellPort.state = s.cellPort.state := (unloadOnce_frame s).2.2.2.2.2.2.2.2.2.2.2.2.1
@[simp] theorem unloadOnce_plantState (s : State) : (unloadOnce s).1.plantPort.state = s.plantPort.state := (unloadOnce_frame s).2.2.2.2.2.2.2.2.2.2.2.2.2.1
@[simp] theorem unloadOnce_eeprom (s : State) : (unloadOnce s).1.eeprom = s.eeprom := (unloadOnce_frame s).2.2.2.2.2.2.2.2.2.2.2.2.2.2.1
@[simp] theorem unloadOnce_draws (s : State) : (unloadOnce s).1.draws = s.draws := (unloadOnce_frame s).2.2.2.2.2.2.2.2.2.2.2.2.2.2.2.1
@[simp] theorem unloadOnce_raised (s : State) : (unloadOnce s).1.raised = s.raised := (unloadOnce_frame s).2.2.2.2.2.2.2.2.2.2.2.2.2.2.2.2.1
@[simp] theorem unloadOnce_handed (s : State) : (unloadOnce s).1.handed = s.handed := (unloadOnce_frame s).2.2.2.2.2.2.2.2.2.2.2.2.2.2.2.2.2.1
@[simp] theorem unloadOnce_pending (s : State) : (unloadOnce s).1.pending = s.pending := (unloadOnce_frame s).2.2.2.2.2.2.2.2.2.2.2.2.2.2.2.2.2.2

theorem unloadLoop_frame (a1 : Nat) (s : State) :
    (unloadLoop a1 s).now = s.now ∧
    (unloadLoop a1 s).mode = s.mode ∧
    (unloadLoop a1 s).activity = s.activity ∧
    (unloadLoop a1 s).tables = s.tables ∧
    (unloadLoop a1 s).tracker = s.tracker ∧
    (unloadLoop a1 s).lots = s.lots ∧
    (unloadLoop a1 s).arbiter = s.arbiter ∧
    (unloadLoop a1 s).belt = s.belt ∧
    (unloadLoop a1 s).head = s.head ∧
    (unloadLoop a1 s).filtration = s.filtration ∧
    (unloadLoop a1 s).engine = s.engine ∧
    (unloadLoop a1 s).router = s.router ∧
    (unloadLoop a1 s).cellPort.state = s.cellPort.state ∧
    (unloadLoop a1 s).plantPort.state = s.plantPort.state ∧
    (unloadLoop a1 s).eeprom = s.eeprom ∧
    (unloadLoop a1 s).draws = s.draws ∧
    (unloadLoop a1 s).raised = s.raised ∧
    (unloadLoop a1 s).handed = s.handed ∧
    (unloadLoop a1 s).pending = s.pending := by
  induction a1 generalizing s with
  | zero => simp [unloadLoop]
  | succ n ih =>
    unfold unloadLoop
    split
    · have := ih (unloadOnce s).1
      simpa using this
    · simp
@[simp] theorem unloadLoop_now (a1 : Nat) (s : State) : (unloadLoop a1 s).now = s.now := (unloadLoop_frame a1 s).1
@[simp] theorem unloadLoop_mode (a1 : Nat) (s : State) : (unloadLoop a1 s).mode = s.mode := (unloadLoop_frame a1 s).2.1
@[simp] theorem unloadLoop_activity (a1 : Nat) (s : State) : (unloadLoop a1 s).activity = s.activity := (unloadLoop_frame a1 s).2.2.1
@[simp] theorem unloadLoop_tables (a1 : Nat) (s : State) : (unloadLoop a1 s).tables = s.tables := (unloadLoop_frame a1 s).2.2.2.1
@[simp] theorem unloadLoop_tracker (a1 : Nat) (s : State) : (unloadLoop a1 s).tracker = s.tracker := (unloadLoop_frame a1 s).2.2.2.2.1
@[simp] theorem unloadLoop_lots (a1 : Nat) (s : State) : (unloadLoop a1 s).lots = s.lots := (unloadLoop_frame a1 s).2.2.2.2.2.1
@[simp] theorem unloadLoop_arbiter (a1 : Nat) (s : State) : (unloadLoop a1 s).arbiter = s.arbiter := (unloadLoop_frame a1 s).2.2.2.2.2.2.1
@[simp] theorem unloadLoop_belt (a1 : Nat) (s : State) : (unloadLoop a1 s).belt = s.belt := (unloadLoop_frame a1 s).2.2.2.2.2.2.2.1
@[simp] theorem unloadLoop_head (a1 : Nat) (s : State) : (unloadLoop a1 s).head = s.head := (unloadLoop_frame a1 s).2.2.2.2.2.2.2.2.1
@[simp] theorem unloadLoop_filtration (a1 : Nat) (s : State) : (unloadLoop a1 s).filtration = s.filtration := (unloadLoop_frame a1 s).2.2.2.2.2.2.2.2.2.1
@[simp] theorem unloadLoop_engine (a1 : Nat) (s : State) : (unloadLoop a1 s).engine = s.engine := (unloadLoop_frame a1 s).2.2.2.2.2.2.2.2.2.2.1
@[simp] theorem unloadLoop_router (a1 : Nat) (s : State) : (unloadLoop a1 s).router = s.router := (unloadLoop_frame a1 s).2.2.2.2.2.2.2.2.2.2.2.1
@[simp] theorem unloadLoop_cellState (a1 : Nat) (s : State) : (unloadLoop a1 s).cellPort.state = s.cellPort.state := (unloadLoop_frame a1 s).2.2.2.2.2.2.2.2.2.2.2.2.1
@[simp] theorem unloadLoop_plantState (a1 : Nat) (s : State) : (unloadLoop a1 s).plantPort.state = s.plantPort.state := (unloadLoop_frame a1 s).2.2.2.2.2.2.2.2.2.2.2.2.2.1
@[simp] theorem unloadLoop_eeprom (a1 : Nat) (s : State) : (unloadLoop a1 s).eeprom = s.eeprom := (unloadLoop_frame a1 s).2.2.2.2.2.2.2.2.2.2.2.2.2.2.1
@[simp] theorem unloadLoop_draws (a1 : Nat) (s : State) : (unloadLoop a1 s).draws = s.draws := (unloadLoop_frame a1 s).2.2.2.2.2.2.2.2.2.2.2.2.2.2.2.1
@[simp] theorem unloadLoop_raised (a1 : Nat) (s : State) : (unloadLoop a1 s).raised = s.raised := (unloadLoop_frame a1 s).2.2.2.2.2.2.2.2.2.2.2.2.2.2.2.2.1
@[simp] theorem unloadLoop_handed (a1 : Nat) (s : State) : (unloadLoop a1 s).handed = s.handed := (unloadLoop_frame a1 s).2.2.2.2.2.2.2.2.2.2.2.2.2.2.2.2.2.1
@[simp] theorem unloadLoop_pending (a1 : Nat) (s : State) : (unloadLoop a1 s).pending = s.pending := (unloadLoop_frame a1 s).2.2.2.2.2.2.2.2.2.2.2.2.2.2.2.2.2.2

theorem unloadTest_frame (s : State) :
    (unloadTest s).now = s.now ∧
    (unloadTest s).mode = s.mode ∧
    (unloadTest s).activity = s.activity ∧
    (unloadTest s).tables = s.tables ∧
    (unloadTest s).tracker = s.tracker ∧
    (unloadTest s).lots = s.lots ∧
    (unloadTest s).arbiter = s.arbiter ∧
    (unloadTest s).belt = s.belt ∧
    (unloadTest s).head = s.head ∧
    (unloadTest s).filtration = s.filtration ∧
    (unloadTest s).engine = s.engine ∧
    (unloadTest s).router = s.router ∧
    (unloadTest s).cellPort.state = s.cellPort.state ∧
    (unloadTest s).plantPort.state = s.plantPort.state ∧
    (unloadTest s).eeprom = s.eeprom ∧
    (unloadTest s).draws = s.draws ∧
    (unloadTest s).raised = s.raised ∧
    (unloadTest s).handed = s.handed ∧
    (unloadTest s).pending = s.pending := by
  simp [unloadTest]
@[simp] theorem unloadTest_now (s : State) : (unloadTest s).now = s.now := (unloadTest_frame s).1
@[simp] theorem unloadTest_mode (s : State) : (unloadTest s).mode = s.mode := (unloadTest_frame s).2.1
@[simp] theorem unloadTest_activity (s : State) : (unloadTest s).activity = s.activity := (unloadTest_frame s).2.2.1
@[simp] theorem unloadTest_tables (s : State) : (unloadTest s).tables = s.tables := (unloadTest_frame s).2.2.2.1
@[simp] theorem unloadTest_tracker (s : State) : (unloadTest s).tracker = s.tracker := (unloadTest_frame s).2.2.2.2.1
@[simp] theorem unloadTest_lots (s : State) : (unloadTest s).lots = s.lots := (unloadTest_frame s).2.2.2.2.2.1
@[simp] theorem unloadTest_arbiter (s : State) : (unloadTest s).arbiter = s.arbiter := (unloadTest_frame s).2.2.2.2.2.2.1
@[simp] theorem unloadTest_belt (s : State) : (unloadTest s).belt = s.belt := (unloadTest_frame s).2.2.2.2.2.2.2.1
@[simp] theorem unloadTest_head (s : State) : (unloadTest s).head = s.head := (unloadTest_frame s).2.2.2.2.2.2.2.2.1
@[simp] theorem unloadTest_filtration (s : State) : (unloadTest s).filtration = s.filtration := (unloadTest_frame s).2.2.2.2.2.2.2.2.2.1
@[simp] theorem unloadTest_engine (s : State) : (unloadTest s).engine = s.engine := (unloadTest_frame s).2.2.2.2.2.2.2.2.2.2.1
@[simp] theorem unloadTest_router (s : State) : (unloadTest s).router = s.router := (unloadTest_frame s).2.2.2.2.2.2.2.2.2.2.2.1
@[simp] theorem unloadTest_cellState (s : State) : (unloadTest s).cellPort.state = s.cellPort.state := (unloadTest_frame s).2.2.2.2.2.2.2.2.2.2.2.2.1
@[simp] theorem unloadTest_plantState (s : State) : (unloadTest s).plantPort.state = s.plantPort.state := (unloadTest_frame s).2.2.2.2.2.2.2.2.2.2.2.2.2.1
@[simp] theorem unloadTest_eeprom (s : State) : (unloadTest s).eeprom = s.eeprom := (unloadTest_frame s).2.2.2.2.2.2.2.2.2.2.2.2.2.2.1
@[simp] theorem unloadTest_draws (s : State) : (unloadTest s).draws = s.draws := (unloadTest_frame s).2.2.2.2.2.2.2.2.2.2.2.2.2.2.2.1
@[simp] theorem unloadTest_raised (s : State) : (unloadTest s).raised = s.raised := (unloadTest_frame s).2.2.2.2.2.2.2.2.2.2.2.2.2.2.2.2.1
@[simp] theorem unloadTest_handed (s : State) : (unloadTest s).handed = s.handed := (unloadTest_frame s).2.2.2.2.2.2.2.2.2.2.2.2.2.2.2.2.2.1
@[simp] theorem unloadTest_pending (s : State) : (unloadTest s).pending = s.pending := (unloadTest_frame s).2.2.2.2.2.2.2.2.2.2.2.2.2.2.2.2.2.2

theorem unloadIfHanded_frame (s : State) :
    (unloadIfHanded s).now = s.now ∧
    (unloadIfHanded s).mode = s.mode ∧
    (unloadIfHanded s).activity = s.activity ∧
    (unloadIfHanded s).tables = s.tables ∧
    (unloadIfHanded s).tracker = s.tracker ∧
    (unloadIfHanded s).lots = s.lots ∧
    (unloadIfHanded s).arbiter = s.arbiter ∧
    (unloadIfHanded s).belt = s.belt ∧
    (unloadIfHanded s).head = s.head ∧
    (unloadIfHanded s).filtration = s.filtration ∧
    (unloadIfHanded s).engine = s.engine ∧
    (unloadIfHanded s).router = s.router ∧
    (unloadIfHanded s).cellPort.state = s.cellPort.state ∧
    (unloadIfHanded s).plantPort.state = s.plantPort.state ∧
    (unloadIfHanded s).eeprom = s.eeprom ∧
    (unloadIfHanded s).draws = s.draws ∧
    (unloadIfHanded s).raised = s.raised ∧
    (unloadIfHanded s).pending = s.pending := by
  unfold unloadIfHanded
  repeat' split
  all_goals simp
@[simp] theorem unloadIfHanded_now (s : State) : (unloadIfHanded s).now = s.now := (unloadIfHanded_frame s).1
@[simp] theorem unloadIfHanded_mode (s : State) : (unloadIfHanded s).mode = s.mode := (unloadIfHanded_frame s).2.1
@[simp] theorem unloadIfHanded_activity (s : State) : (unloadIfHanded s).activity = s.activity := (unloadIfHanded_frame s).2.2.1
@[simp] theorem unloadIfHanded_tables (s : State) : (unloadIfHanded s).tables = s.tables := (unloadIfHanded_frame s).2.2.2.1
@[simp] theorem unloadIfHanded_tracker (s : State) : (unloadIfHanded s).tracker = s.tracker := (unloadIfHanded_frame s).2.2.2.2.1
@[simp] theorem unloadIfHanded_lots (s : State) : (unloadIfHanded s).lots = s.lots := (unloadIfHanded_frame s).2.2.2.2.2.1
@[simp] theorem unloadIfHanded_arbiter (s : State) : (unloadIfHanded s).arbiter = s.arbiter := (unloadIfHanded_frame s).2.2.2.2.2.2.1
@[simp] theorem unloadIfHanded_belt (s : State) : (unloadIfHanded s).belt = s.belt := (unloadIfHanded_frame s).2.2.2.2.2.2.2.1
@[simp] theorem unloadIfHanded_head (s : State) : (unloadIfHanded s).head = s.head := (unloadIfHanded_frame s).2.2.2.2.2.2.2.2.1
@[simp] theorem unloadIfHanded_filtration (s : State) : (unloadIfHanded s).filtration = s.filtration := (unloadIfHanded_frame s).2.2.2.2.2.2.2.2.2.1
@[simp] theorem unloadIfHanded_engine (s : State) : (unloadIfHanded s).engine = s.engine := (unloadIfHanded_frame s).2.2.2.2.2.2.2.2.2.2.1
@[simp] theorem unloadIfHanded_router (s : State) : (unloadIfHanded s).router = s.router := (unloadIfHanded_frame s).2.2.2.2.2.2.2.2.2.2.2.1
@[simp] theorem unloadIfHanded_cellState (s : State) : (unloadIfHanded s).cellPort.state = s.cellPort.state := (unloadIfHanded_frame s).2.2.2.2.2.2.2.2.2.2.2.2.1
@[simp] theorem unloadIfHanded_plantState (s : State) : (unloadIfHanded s).plantPort.state = s.plantPort.state := (unloadIfHanded_frame s).2.2.2.2.2.2.2.2.2.2.2.2.2.1
@[simp] theorem unloadIfHanded_eeprom (s : State) : (unloadIfHanded s).eeprom = s.eeprom := (unloadIfHanded_frame s).2.2.2.2.2.2.2.2.2.2.2.2.2.2.1
@[simp] theorem unloadIfHanded_draws (s : State) : (unloadIfHanded s).draws = s.draws := (unloadIfHanded_frame s).2.2.2.2.2.2.2.2.2.2.2.2.2.2.2.1
@[simp] theorem unloadIfHanded_raised (s : State) : (unloadIfHanded s).raised = s.raised := (unloadIfHanded_frame s).2.2.2.2.2.2.2.2.2.2.2.2.2.2.2.2.1
@[simp] theorem unloadIfHanded_pending (s : State) : (unloadIfHanded s).pending = s.pending := (unloadIfHanded_frame s).2.2.2.2.2.2.2.2.2.2.2.2.2.2.2.2.2

theorem issueSetpoint_frame (s : State) :
    (issueSetpoint s).now = s.now ∧
    (issueSetpoint s).mode = s.mode ∧
    (issueSetpoint s).activity = s.activity ∧
    (issueSetpoint s).tables = s.tables ∧
    (issueSetpoint s).tracker = s.tracker ∧
    (issueSetpoint s).lots = s.lots ∧
    (issueSetpoint s).arbiter = s.arbiter ∧
    (issueSetpoint s).head = s.head ∧
    (issueSetpoint s).filtration = s.filtration ∧
    (issueSetpoint s).engine = s.engine ∧
    (issueSetpoint s).router = s.router ∧
    (issueSetpoint s).notices = s.notices ∧
    (issueSetpoint s).cellPort = s.cellPort ∧
    (issueSetpoint s).plantPort = s.plantPort ∧
    (issueSetpoint s).eeprom = s.eeprom ∧
    (issueSetpoint s).draws = s.draws ∧
    (issueSetpoint s).raised = s.raised ∧
    (issueSetpoint s).pending = s.pending := by
  simp [issueSetpoint]
@[simp] theorem issueSetpoint_now (s : State) : (issueSetpoint s).now = s.now := (issueSetpoint_frame s).1
@[simp] theorem issueSetpoint_mode (s : State) : (issueSetpoint s).mode = s.mode := (issueSetpoint_frame s).2.1
@[simp] theorem issueSetpoint_activity (s : State) : (issueSetpoint s).activity = s.activity := (issueSetpoint_frame s).2.2.1
@[simp] theorem issueSetpoint_tables (s : State) : (issueSetpoint s).tables = s.tables := (issueSetpoint_frame s).2.2.2.1
@[simp] theorem issueSetpoint_tracker (s : State) : (issueSetpoint s).tracker = s.tracker := (issueSetpoint_frame s).2.2.2.2.1
@[simp] theorem issueSetpoint_lots (s : State) : (issueSetpoint s).lots = s.lots := (issueSetpoint_frame s).2.2.2.2.2.1
@[simp] theorem issueSetpoint_arbiter (s : State) : (issueSetpoint s).arbiter = s.arbiter := (issueSetpoint_frame s).2.2.2.2.2.2.1
@[simp] theorem issueSetpoint_head (s : State) : (issueSetpoint s).head = s.head := (issueSetpoint_frame s).2.2.2.2.2.2.2.1
@[simp] theorem issueSetpoint_filtration (s : State) : (issueSetpoint s).filtration = s.filtration := (issueSetpoint_frame s).2.2.2.2.2.2.2.2.1
@[simp] theorem issueSetpoint_engine (s : State) : (issueSetpoint s).engine = s.engine := (issueSetpoint_frame s).2.2.2.2.2.2.2.2.2.1
@[simp] theorem issueSetpoint_router (s : State) : (issueSetpoint s).router = s.router := (issueSetpoint_frame s).2.2.2.2.2.2.2.2.2.2.1
@[simp] theorem issueSetpoint_notices (s : State) : (issueSetpoint s).notices = s.notices := (issueSetpoint_frame s).2.2.2.2.2.2.2.2.2.2.2.1
@[simp] theorem issueSetpoint_cellPort (s : State) : (issueSetpoint s).cellPort = s.cellPort := (issueSetpoint_frame s).2.2.2.2.2.2.2.2.2.2.2.2.1
@[simp] theorem issueSetpoint_plantPort (s : State) : (issueSetpoint s).plantPort = s.plantPort := (issueSetpoint_frame s).2.2.2.2.2.2.2.2.2.2.2.2.2.1
@[simp] theorem issueSetpoint_eeprom (s : State) : (issueSetpoint s).eeprom = s.eeprom := (issueSetpoint_frame s).2.2.2.2.2.2.2.2.2.2.2.2.2.2.1
@[simp] theorem issueSetpoint_draws (s : State) : (issueSetpoint s).draws = s.draws := (issueSetpoint_frame s).2.2.2.2.2.2.2.2.2.2.2.2.2.2.2.1
@[simp] theorem issueSetpoint_raised (s : State) : (issueSetpoint s).raised = s.raised := (issueSetpoint_frame s).2.2.2.2.2.2.2.2.2.2.2.2.2.2.2.2.1
@[simp] theorem issueSetpoint_pending (s : State) : (issueSetpoint s).pending = s.pending := (issueSetpoint_frame s).2.2.2.2.2.2.2.2.2.2.2.2.2.2.2.2.2

theorem reselect_frame (s : State) :
    (reselect s).now = s.now ∧
    (reselect s).mode = s.mode ∧
    (reselect s).activity = s.activity ∧
    (reselect s).tables = s.tables ∧
    (reselect s).tracker = s.tracker ∧
    (reselect s).lots = s.lots ∧
    (reselect s).arbiter = s.arbiter ∧
    (reselect s).head = s.head ∧
    (reselect s).filtration = s.filtration ∧
    (reselect s).engine = s.engine ∧
    (reselect s).router = s.router ∧
    (reselect s).notices = s.notices ∧
    (reselect s).cellPort = s.cellPort ∧
    (reselect s).plantPort = s.plantPort ∧
    (reselect s).eeprom = s.eeprom ∧
    (reselect s).draws = s.draws ∧
    (reselect s).raised = s.raised ∧
    (reselect s).pending = s.pending := by
  unfold reselect
  repeat' split
  all_goals simp
@[simp] theorem reselect_now (s : State) : (reselect s).now = s.now := (reselect_frame s).1
@[simp] theorem reselect_mode (s : State) : (reselect s).mode = s.mode := (reselect_frame s).2.1
@[simp] theorem reselect_activity (s : State) : (reselect s).activity = s.activity := (reselect_frame s).2.2.1
@[simp] theorem reselect_tables (s : State) : (reselect s).tables = s.tables := (reselect_frame s).2.2.2.1
@[simp] theorem reselect_tracker (s : State) : (reselect s).tracker = s.tracker := (reselect_frame s).2.2.2.2.1
@[simp] theorem reselect_lots (s : State) : (reselect s).lots = s.lots := (reselect_frame s).2.2.2.2.2.1
@[simp] theorem reselect_arbiter (s : State) : (reselect s).arbiter = s.arbiter := (reselect_frame s).2.2.2.2.2.2.1
@[simp] theorem reselect_head (s : State) : (reselect s).head = s.head := (reselect_frame s).2.2.2.2.2.2.2.1
@[simp] theorem reselect_filtration (s : State) : (reselect s).filtration = s.filtration := (reselect_frame s).2.2.2.2.2.2.2.2.1
@[simp] theorem reselect_engine (s : State) : (reselect s).engine = s.engine := (reselect_frame s).2.2.2.2.2.2.2.2.2.1
@[simp] theorem reselect_router (s : State) : (reselect s).router = s.router := (reselect_frame s).2.2.2.2.2.2.2.2.2.2.1
@[simp] theorem reselect_notices (s : State) : (reselect s).notices = s.notices := (reselect_frame s).2.2.2.2.2.2.2.2.2.2.2.1
@[simp] theorem reselect_cellPort (s : State) : (reselect s).cellPort = s.cellPort := (reselect_frame s).2.2.2.2.2.2.2.2.2.2.2.2.1
@[simp] theorem reselect_plantPort (s : State) : (reselect s).plantPort = s.plantPort := (reselect_frame s).2.2.2.2.2.2.2.2.2.2.2.2.2.1
@[simp] theorem reselect_eeprom (s : State) : (reselect s).eeprom = s.eeprom := (reselect_frame s).2.2.2.2.2.2.2.2.2.2.2.2.2.2.1
@[simp] theorem reselect_draws (s : State) : (reselect s).draws = s.draws := (reselect_frame s).2.2.2.2.2.2.2.2.2.2.2.2.2.2.2.1
@[simp] theorem reselect_raised (s : State) : (reselect s).raised = s.raised := (reselect_frame s).2.2.2.2.2.2.2.2.2.2.2.2.2.2.2.2.1
@[simp] theorem reselect_pending (s : State) : (reselect s).pending = s.pending := (reselect_frame s).2.2.2.2.2.2.2.2.2.2.2.2.2.2.2.2.2

theorem latchOverride_frame (s : State) :
    (latchOverride s).now = s.now ∧
    (latchOverride s).mode = s.mode ∧
    (latchOverride s).activity = s.activity ∧
    (latchOverride s).tables = s.tables ∧
    (latchOverride s).tracker = s.tracker ∧
    (latchOverride s).lots = s.lots ∧
    (latchOverride s).arbiter = s.arbiter ∧
    (latchOverride s).head = s.head ∧
    (latchOverride s).filtration = s.filtration ∧
    (latchOverride s).engine = s.engine ∧
    (latchOverride s).router = s.router ∧
    (latchOverride s).notices = s.notices ∧
    (latchOverride s).cellPort = s.cellPort ∧
    (latchOverride s).plantPort = s.plantPort ∧
    (latchOverride s).eeprom = s.eeprom ∧
    (latchOverride s).draws = s.draws ∧
    (latchOverride s).raised = s.raised ∧
    (latchOverride s).pending = s.pending := by
  unfold latchOverride
  repeat' split
  all_goals simp
@[simp] theorem latchOverride_now (s : State) : (latchOverride s).now = s.now := (latchOverride_frame s).1
@[simp] theorem latchOverride_mode (s : State) : (latchOverride s).mode = s.mode := (latchOverride_frame s).2.1
@[simp] theorem latchOverride_activity (s : State) : (latchOverride s).activity = s.activity := (latchOverride_frame s).2.2.1
@[simp] theorem latchOverride_tables (s : State) : (latchOverride s).tables = s.tables := (latchOverride_frame s).2.2.2.1
@[simp] theorem latchOverride_tracker (s : State) : (latchOverride s).tracker = s.tracker := (latchOverride_frame s).2.2.2.2.1
@[simp] theorem latchOverride_lots (s : State) : (latchOverride s).lots = s.lots := (latchOverride_frame s).2.2.2.2.2.1
@[simp] theorem latchOverride_arbiter (s : State) : (latchOverride s).arbiter = s.arbiter := (latchOverride_frame s).2.2.2.2.2.2.1
@[simp] theorem latchOverride_head (s : State) : (latchOverride s).head = s.head := (latchOverride_frame s).2.2.2.2.2.2.2.1
@[simp] theorem latchOverride_filtration (s : State) : (latchOverride s).filtration = s.filtration := (latchOverride_frame s).2.2.2.2.2.2.2.2.1
@[simp] theorem latchOverride_engine (s : State) : (latchOverride s).engine = s.engine := (latchOverride_frame s).2.2.2.2.2.2.2.2.2.1
@[simp] theorem latchOverride_router (s : State) : (latchOverride s).router = s.router := (latchOverride_frame s).2.2.2.2.2.2.2.2.2.2.1
@[simp] theorem latchOverride_notices (s : State) : (latchOverride s).notices = s.notices := (latchOverride_frame s).2.2.2.2.2.2.2.2.2.2.2.1
@[simp] theorem latchOverride_cellPort (s : State) : (latchOverride s).cellPort = s.cellPort := (latchOverride_frame s).2.2.2.2.2.2.2.2.2.2.2.2.1
@[simp] theorem latchOverride_plantPort (s : State) : (latchOverride s).plantPort = s.plantPort := (latchOverride_frame s).2.2.2.2.2.2.2.2.2.2.2.2.2.1
@[simp] theorem latchOverride_eeprom (s : State) : (latchOverride s).eeprom = s.eeprom := (latchOverride_frame s).2.2.2.2.2.2.2.2.2.2.2.2.2.2.1
@[simp] theorem latchOverride_draws (s : State) : (latchOverride s).draws = s.draws := (latchOverride_frame s).2.2.2.2.2.2.2.2.2.2.2.2.2.2.2.1
@[simp] theorem latchOverride_raised (s : State) : (latchOverride s).raised = s.raised := (latchOverride_frame s).2.2.2.2.2.2.2.2.2.2.2.2.2.2.2.2.1
@[simp] theorem latchOverride_pending (s : State) : (latchOverride s).pending = s.pending := (latchOverride_frame s).2.2.2.2.2.2.2.2.2.2.2.2.2.2.2.2.2

theorem releaseOverride_frame (s : State) :
    (releaseOverride s).now = s.now ∧
    (releaseOverride s).mode = s.mode ∧
    (releaseOverride s).activity = s.activity ∧
    (releaseOverride s).tables = s.tables ∧
    (releaseOverride s).tracker = s.tracker ∧
    (releaseOverride s).lots = s.lots ∧
    (releaseOverride s).arbiter = s.arbiter ∧
    (releaseOverride s).head = s.head ∧
    (releaseOverride s).filtration = s.filtration ∧
    (releaseOverride s).engine = s.engine ∧
    (releaseOverride s).router = s.router ∧
    (releaseOverride s).notices = s.notices ∧
    (releaseOverride s).cellPort = s.cellPort ∧
    (releaseOverride s).plantPort = s.plantPort ∧
    (releaseOverride s).eeprom = s.eeprom ∧
    (releaseOverride s).draws = s.draws ∧
    (releaseOverride s).raised = s.raised ∧
    (releaseOverride s).pending = s.pending := by
  unfold releaseOverride
  repeat' split
  all_goals simp
@[simp] theorem releaseOverride_now (s : State) : (releaseOverride s).now = s.now := (releaseOverride_frame s).1
@[simp] theorem releaseOverride_mode (s : State) : (releaseOverride s).mode = s.mode := (releaseOverride_frame s).2.1
@[simp] theorem releaseOverride_activity (s : State) : (releaseOverride s).activity = s.activity := (releaseOverride_frame s).2.2.1
@[simp] theorem releaseOverride_tables (s : State) : (releaseOverride s).tables = s.tables := (releaseOverride_frame s).2.2.2.1
@[simp] theorem releaseOverride_tracker (s : State) : (releaseOverride s).tracker = s.tracker := (releaseOverride_frame s).2.2.2.2.1
@[simp] theorem releaseOverride_lots (s : State) : (releaseOverride s).lots = s.lots := (releaseOverride_frame s).2.2.2.2.2.1
@[simp] theorem releaseOverride_arbiter (s : State) : (releaseOverride s).arbiter = s.arbiter := (releaseOverride_frame s).2.2.2.2.2.2.1
@[simp] theorem releaseOverride_head (s : State) : (releaseOverride s).head = s.head := (releaseOverride_frame s).2.2.2.2.2.2.2.1
@[simp] theorem releaseOverride_filtration (s : State) : (releaseOverride s).filtration = s.filtration := (releaseOverride_frame s).2.2.2.2.2.2.2.2.1
@[simp] theorem releaseOverride_engine (s : State) : (releaseOverride s).engine = s.engine := (releaseOverride_frame s).2.2.2.2.2.2.2.2.2.1
@[simp] theorem releaseOverride_router (s : State) : (releaseOverride s).router = s.router := (releaseOverride_frame s).2.2.2.2.2.2.2.2.2.2.1
@[simp] theorem releaseOverride_notices (s : State) : (releaseOverride s).notices = s.notices := (releaseOverride_frame s).2.2.2.2.2.2.2.2.2.2.2.1
@[simp] theorem releaseOverride_cellPort (s : State) : (releaseOverride s).cellPort = s.cellPort := (releaseOverride_frame s).2.2.2.2.2.2.2.2.2.2.2.2.1
@[simp] theorem releaseOverride_plantPort (s : State) : (releaseOverride s).plantPort = s.plantPort := (releaseOverride_frame s).2.2.2.2.2.2.2.2.2.2.2.2.2.1
@[simp] theorem releaseOverride_eeprom (s : State) : (releaseOverride s).eeprom = s.eeprom := (releaseOverride_frame s).2.2.2.2.2.2.2.2.2.2.2.2.2.2.1
@[simp] theorem releaseOverride_draws (s : State) : (releaseOverride s).draws = s.draws := (releaseOverride_frame s).2.2.2.2.2.2.2.2.2.2.2.2.2.2.2.1
@[simp] theorem releaseOverride_raised (s : State) : (releaseOverride s).raised = s.raised := (releaseOverride_frame s).2.2.2.2.2.2.2.2.2.2.2.2.2.2.2.2.1
@[simp] theorem releaseOverride_pending (s : State) : (releaseOverride s).pending = s.pending := (releaseOverride_frame s).2.2.2.2.2.2.2.2.2.2.2.2.2.2.2.2.2


end Sys2Proof.Machine
end

