-- ==== Sys2Proof/Laws/Filtration.lean ====
section
/-! SUPPORT. What the filtration controller leaves alone (Machine/Filtration.lean). -/

namespace Sys2Proof.Machine

/-- A fold of operations that leave a part of the state alone leaves it alone. -/
theorem foldl_keeps {α β : Type} (p : State → β) (f : State → α → State) (h : ∀ t x, p (f t x) = p t) (l : List α) (s : State) :
    p (l.foldl f s) = p s := by
  induction l generalizing s with
  | nil => rfl
  | cons x xs ih => rw [List.foldl_cons, ih, h]

@[simp] theorem foldl_now {α : Type} (f : State → α → State) (l : List α) (s : State)
    (h : ∀ t x, (f t x).now = t.now) : (l.foldl f s).now = s.now :=
  foldl_keeps (fun t => t.now) f h l s
@[simp] theorem foldl_mode {α : Type} (f : State → α → State) (l : List α) (s : State)
    (h : ∀ t x, (f t x).mode = t.mode) : (l.foldl f s).mode = s.mode :=
  foldl_keeps (fun t => t.mode) f h l s
@[simp] theorem foldl_activity {α : Type} (f : State → α → State) (l : List α) (s : State)
    (h : ∀ t x, (f t x).activity = t.activity) : (l.foldl f s).activity = s.activity :=
  foldl_keeps (fun t => t.activity) f h l s
@[simp] theorem foldl_tables {α : Type} (f : State → α → State) (l : List α) (s : State)
    (h : ∀ t x, (f t x).tables = t.tables) : (l.foldl f s).tables = s.tables :=
  foldl_keeps (fun t => t.tables) f h l s
@[simp] theorem foldl_tracker {α : Type} (f : State → α → State) (l : List α) (s : State)
    (h : ∀ t x, (f t x).tracker = t.tracker) : (l.foldl f s).tracker = s.tracker :=
  foldl_keeps (fun t => t.tracker) f h l s
@[simp] theorem foldl_map {α : Type} (f : State → α → State) (l : List α) (s : State)
    (h : ∀ t x, (f t x).tracker.map = t.tracker.map) : (l.foldl f s).tracker.map = s.tracker.map :=
  foldl_keeps (fun t => t.tracker.map) f h l s
@[simp] theorem foldl_last {α : Type} (f : State → α → State) (l : List α) (s : State)
    (h : ∀ t x, (f t x).tracker.last = t.tracker.last) : (l.foldl f s).tracker.last = s.tracker.last :=
  foldl_keeps (fun t => t.tracker.last) f h l s
@[simp] theorem foldl_acc {α : Type} (f : State → α → State) (l : List α) (s : State)
    (h : ∀ t x, (f t x).tracker.acc = t.tracker.acc) : (l.foldl f s).tracker.acc = s.tracker.acc :=
  foldl_keeps (fun t => t.tracker.acc) f h l s
@[simp] theorem foldl_lots {α : Type} (f : State → α → State) (l : List α) (s : State)
    (h : ∀ t x, (f t x).lots = t.lots) : (l.foldl f s).lots = s.lots :=
  foldl_keeps (fun t => t.lots) f h l s
@[simp] theorem foldl_arbiter {α : Type} (f : State → α → State) (l : List α) (s : State)
    (h : ∀ t x, (f t x).arbiter = t.arbiter) : (l.foldl f s).arbiter = s.arbiter :=
  foldl_keeps (fun t => t.arbiter) f h l s
@[simp] theorem foldl_belt {α : Type} (f : State → α → State) (l : List α) (s : State)
    (h : ∀ t x, (f t x).belt = t.belt) : (l.foldl f s).belt = s.belt :=
  foldl_keeps (fun t => t.belt) f h l s
@[simp] theorem foldl_head {α : Type} (f : State → α → State) (l : List α) (s : State)
    (h : ∀ t x, (f t x).head = t.head) : (l.foldl f s).head = s.head :=
  foldl_keeps (fun t => t.head) f h l s
@[simp] theorem foldl_filtration {α : Type} (f : State → α → State) (l : List α) (s : State)
    (h : ∀ t x, (f t x).filtration = t.filtration) : (l.foldl f s).filtration = s.filtration :=
  foldl_keeps (fun t => t.filtration) f h l s
@[simp] theorem foldl_engine {α : Type} (f : State → α → State) (l : List α) (s : State)
    (h : ∀ t x, (f t x).engine = t.engine) : (l.foldl f s).engine = s.engine :=
  foldl_keeps (fun t => t.engine) f h l s
@[simp] theorem foldl_router {α : Type} (f : State → α → State) (l : List α) (s : State)
    (h : ∀ t x, (f t x).router = t.router) : (l.foldl f s).router = s.router :=
  foldl_keeps (fun t => t.router) f h l s
@[simp] theorem foldl_notices {α : Type} (f : State → α → State) (l : List α) (s : State)
    (h : ∀ t x, (f t x).notices = t.notices) : (l.foldl f s).notices = s.notices :=
  foldl_keeps (fun t => t.notices) f h l s
@[simp] theorem foldl_coalescer {α : Type} (f : State → α → State) (l : List α) (s : State)
    (h : ∀ t x, (f t x).coalescer = t.coalescer) : (l.foldl f s).coalescer = s.coalescer :=
  foldl_keeps (fun t => t.coalescer) f h l s
@[simp] theorem foldl_cellPort {α : Type} (f : State → α → State) (l : List α) (s : State)
    (h : ∀ t x, (f t x).cellPort = t.cellPort) : (l.foldl f s).cellPort = s.cellPort :=
  foldl_keeps (fun t => t.cellPort) f h l s
@[simp] theorem foldl_cellQueue {α : Type} (f : State → α → State) (l : List α) (s : State)
    (h : ∀ t x, (f t x).cellPort.queue = t.cellPort.queue) : (l.foldl f s).cellPort.queue = s.cellPort.queue :=
  foldl_keeps (fun t => t.cellPort.queue) f h l s
@[simp] theorem foldl_cellState {α : Type} (f : State → α → State) (l : List α) (s : State)
    (h : ∀ t x, (f t x).cellPort.state = t.cellPort.state) : (l.foldl f s).cellPort.state = s.cellPort.state :=
  foldl_keeps (fun t => t.cellPort.state) f h l s
@[simp] theorem foldl_plantPort {α : Type} (f : State → α → State) (l : List α) (s : State)
    (h : ∀ t x, (f t x).plantPort = t.plantPort) : (l.foldl f s).plantPort = s.plantPort :=
  foldl_keeps (fun t => t.plantPort) f h l s
@[simp] theorem foldl_plantQueue {α : Type} (f : State → α → State) (l : List α) (s : State)
    (h : ∀ t x, (f t x).plantPort.queue = t.plantPort.queue) : (l.foldl f s).plantPort.queue = s.plantPort.queue :=
  foldl_keeps (fun t => t.plantPort.queue) f h l s
@[simp] theorem foldl_plantState {α : Type} (f : State → α → State) (l : List α) (s : State)
    (h : ∀ t x, (f t x).plantPort.state = t.plantPort.state) : (l.foldl f s).plantPort.state = s.plantPort.state :=
  foldl_keeps (fun t => t.plantPort.state) f h l s
@[simp] theorem foldl_counters {α : Type} (f : State → α → State) (l : List α) (s : State)
    (h : ∀ t x, (f t x).counters = t.counters) : (l.foldl f s).counters = s.counters :=
  foldl_keeps (fun t => t.counters) f h l s
@[simp] theorem foldl_eeprom {α : Type} (f : State → α → State) (l : List α) (s : State)
    (h : ∀ t x, (f t x).eeprom = t.eeprom) : (l.foldl f s).eeprom = s.eeprom :=
  foldl_keeps (fun t => t.eeprom) f h l s
@[simp] theorem foldl_draws {α : Type} (f : State → α → State) (l : List α) (s : State)
    (h : ∀ t x, (f t x).draws = t.draws) : (l.foldl f s).draws = s.draws :=
  foldl_keeps (fun t => t.draws) f h l s
@[simp] theorem foldl_raised {α : Type} (f : State → α → State) (l : List α) (s : State)
    (h : ∀ t x, (f t x).raised = t.raised) : (l.foldl f s).raised = s.raised :=
  foldl_keeps (fun t => t.raised) f h l s
@[simp] theorem foldl_handed {α : Type} (f : State → α → State) (l : List α) (s : State)
    (h : ∀ t x, (f t x).handed = t.handed) : (l.foldl f s).handed = s.handed :=
  foldl_keeps (fun t => t.handed) f h l s
@[simp] theorem foldl_pending {α : Type} (f : State → α → State) (l : List α) (s : State)
    (h : ∀ t x, (f t x).pending = t.pending) : (l.foldl f s).pending = s.pending :=
  foldl_keeps (fun t => t.pending) f h l s

theorem handDrum_frame (d : DrumNo) (s : State) :
    (handDrum d s).now = s.now ∧
    (handDrum d s).mode = s.mode ∧
    (handDrum d s).activity = s.activity ∧
    (handDrum d s).tables = s.tables ∧
    (handDrum d s).tracker = s.tracker ∧
    (handDrum d s).lots = s.lots ∧
    (handDrum d s).arbiter = s.arbiter ∧
    (handDrum d s).belt = s.belt ∧
    (handDrum d s).head = s.head ∧
    (handDrum d s).filtration = s.filtration ∧
    (handDrum d s).engine = s.engine ∧
    (handDrum d s).router = s.router ∧
    (handDrum d s).notices = s.notices ∧
    (handDrum d s).cellPort = s.cellPort ∧
    (handDrum d s).plantPort = s.plantPort ∧
    (handDrum d s).eeprom = s.eeprom ∧
    (handDrum d s).draws = s.draws ∧
    (handDrum d s).raised = s.raised ∧
    (handDrum d s).pending = s.pending := by
  unfold handDrum
  repeat' split
  all_goals simp
@[simp] theorem handDrum_now (d : DrumNo) (s : State) : (handDrum d s).now = s.now := (handDrum_frame d s).1
@[simp] theorem handDrum_mode (d : DrumNo) (s : State) : (handDrum d s).mode = s.mode := (handDrum_frame d s).2.1
@[simp] theorem handDrum_activity (d : DrumNo) (s : State) : (handDrum d s).activity = s.activity := (handDrum_frame d s).2.2.1
@[simp] theorem handDrum_tables (d : DrumNo) (s : State) : (handDrum d s).tables = s.tables := (handDrum_frame d s).2.2.2.1
@[simp] theorem handDrum_tracker (d : DrumNo) (s : State) : (handDrum d s).tracker = s.tracker := (handDrum_frame d s).2.2.2.2.1
@[simp] theorem handDrum_lots (d : DrumNo) (s : State) : (handDrum d s).lots = s.lots := (handDrum_frame d s).2.2.2.2.2.1
@[simp] theorem handDrum_arbiter (d : DrumNo) (s : State) : (handDrum d s).arbiter = s.arbiter := (handDrum_frame d s).2.2.2.2.2.2.1
@[simp] theorem handDrum_belt (d : DrumNo) (s : State) : (handDrum d s).belt = s.belt := (handDrum_frame d s).2.2.2.2.2.2.2.1
@[simp] theorem handDrum_head (d : DrumNo) (s : State) : (handDrum d s).head = s.head := (handDrum_frame d s).2.2.2.2.2.2.2.2.1
@[simp] theorem handDrum_filtration (d : DrumNo) (s : State) : (handDrum d s).filtration = s.filtration := (handDrum_frame d s).2.2.2.2.2.2.2.2.2.1
@[simp] theorem handDrum_engine (d : DrumNo) (s : State) : (handDrum d s).engine = s.engine := (handDrum_frame d s).2.2.2.2.2.2.2.2.2.2.1
@[simp] theorem handDrum_router (d : DrumNo) (s : State) : (handDrum d s).router = s.router := (handDrum_frame d s).2.2.2.2.2.2.2.2.2.2.2.1
@[simp] theorem handDrum_notices (d : DrumNo) (s : State) : (handDrum d s).notices = s.notices := (handDrum_frame d s).2.2.2.2.2.2.2.2.2.2.2.2.1
@[simp] theorem handDrum_cellPort (d : DrumNo) (s : State) : (handDrum d s).cellPort = s.cellPort := (handDrum_frame d s).2.2.2.2.2.2.2.2.2.2.2.2.2.1
@[simp] theorem handDrum_plantPort (d : DrumNo) (s : State) : (handDrum d s).plantPort = s.plantPort := (handDrum_frame d s).2.2.2.2.2.2.2.2.2.2.2.2.2.2.1
@[simp] theorem handDrum_eeprom (d : DrumNo) (s : State) : (handDrum d s).eeprom = s.eeprom := (handDrum_frame d s).2.2.2.2.2.2.2.2.2.2.2.2.2.2.2.1
@[simp] theorem handDrum_draws (d : DrumNo) (s : State) : (handDrum d s).draws = s.draws := (handDrum_frame d s).2.2.2.2.2.2.2.2.2.2.2.2.2.2.2.2.1
@[simp] theorem handDrum_raised (d : DrumNo) (s : State) : (handDrum d s).raised = s.raised := (handDrum_frame d s).2.2.2.2.2.2.2.2.2.2.2.2.2.2.2.2.2.1
@[simp] theorem handDrum_pending (d : DrumNo) (s : State) : (handDrum d s).pending = s.pending := (handDrum_frame d s).2.2.2.2.2.2.2.2.2.2.2.2.2.2.2.2.2.2

theorem changeDrum_frame (d : DrumNo) (r : DrumRec) (s : State) :
    (changeDrum d r s).now = s.now ∧
    (changeDrum d r s).mode = s.mode ∧
    (changeDrum d r s).activity = s.activity ∧
    (changeDrum d r s).tables = s.tables ∧
    (changeDrum d r s).tracker = s.tracker ∧
    (changeDrum d r s).lots = s.lots ∧
    (changeDrum d r s).arbiter = s.arbiter ∧
    (changeDrum d r s).belt = s.belt ∧
    (changeDrum d r s).head = s.head ∧
    (changeDrum d r s).engine = s.engine ∧
    (changeDrum d r s).router = s.router ∧
    (changeDrum d r s).notices = s.notices ∧
    (changeDrum d r s).cellPort = s.cellPort ∧
    (changeDrum d r s).plantPort = s.plantPort ∧
    (changeDrum d r s).eeprom = s.eeprom ∧
    (changeDrum d r s).draws = s.draws ∧
    (changeDrum d r s).raised = s.raised ∧
    (changeDrum d r s).pending = s.pending := by
  unfold changeDrum
  repeat' split
  all_goals simp
@[simp] theorem changeDrum_now (d : DrumNo) (r : DrumRec) (s : State) : (changeDrum d r s).now = s.now := (changeDrum_frame d r s).1
@[simp] theorem changeDrum_mode (d : DrumNo) (r : DrumRec) (s : State) : (changeDrum d r s).mode = s.mode := (changeDrum_frame d r s).2.1
@[simp] theorem changeDrum_activity (d : DrumNo) (r : DrumRec) (s : State) : (changeDrum d r s).activity = s.activity := (changeDrum_frame d r s).2.2.1
@[simp] theorem changeDrum_tables (d : DrumNo) (r : DrumRec) (s : State) : (changeDrum d r s).tables = s.tables := (changeDrum_frame d r s).2.2.2.1
@[simp] theorem changeDrum_tracker (d : DrumNo) (r : DrumRec) (s : State) : (changeDrum d r s).tracker = s.tracker := (changeDrum_frame d r s).2.2.2.2.1
@[simp] theorem changeDrum_lots (d : DrumNo) (r : DrumRec) (s : State) : (changeDrum d r s).lots = s.lots := (changeDrum_frame d r s).2.2.2.2.2.1
@[simp] theorem changeDrum_arbiter (d : DrumNo) (r : DrumRec) (s : State) : (changeDrum d r s).arbiter = s.arbiter := (changeDrum_frame d r s).2.2.2.2.2.2.1
@[simp] theorem changeDrum_belt (d : DrumNo) (r : DrumRec) (s : State) : (changeDrum d r s).belt = s.belt := (changeDrum_frame d r s).2.2.2.2.2.2.2.1
@[simp] theorem changeDrum_head (d : DrumNo) (r : DrumRec) (s : State) : (changeDrum d r s).head = s.head := (changeDrum_frame d r s).2.2.2.2.2.2.2.2.1
@[simp] theorem changeDrum_engine (d : DrumNo) (r : DrumRec) (s : State) : (changeDrum d r s).engine = s.engine := (changeDrum_frame d r s).2.2.2.2.2.2.2.2.2.1
@[simp] theorem changeDrum_router (d : DrumNo) (r : DrumRec) (s : State) : (changeDrum d r s).router = s.router := (changeDrum_frame d r s).2.2.2.2.2.2.2.2.2.2.1
@[simp] theorem changeDrum_notices (d : DrumNo) (r : DrumRec) (s : State) : (changeDrum d r s).notices = s.notices := (changeDrum_frame d r s).2.2.2.2.2.2.2.2.2.2.2.1
@[simp] theorem changeDrum_cellPort (d : DrumNo) (r : DrumRec) (s : State) : (changeDrum d r s).cellPort = s.cellPort := (changeDrum_frame d r s).2.2.2.2.2.2.2.2.2.2.2.2.1
@[simp] theorem changeDrum_plantPort (d : DrumNo) (r : DrumRec) (s : State) : (changeDrum d r s).plantPort = s.plantPort := (changeDrum_frame d r s).2.2.2.2.2.2.2.2.2.2.2.2.2.1
@[simp] theorem changeDrum_eeprom (d : DrumNo) (r : DrumRec) (s : State) : (changeDrum d r s).eeprom = s.eeprom := (changeDrum_frame d r s).2.2.2.2.2.2.2.2.2.2.2.2.2.2.1
@[simp] theorem changeDrum_draws (d : DrumNo) (r : DrumRec) (s : State) : (changeDrum d r s).draws = s.draws := (changeDrum_frame d r s).2.2.2.2.2.2.2.2.2.2.2.2.2.2.2.1
@[simp] theorem changeDrum_raised (d : DrumNo) (r : DrumRec) (s : State) : (changeDrum d r s).raised = s.raised := (changeDrum_frame d r s).2.2.2.2.2.2.2.2.2.2.2.2.2.2.2.2.1
@[simp] theorem changeDrum_pending (d : DrumNo) (r : DrumRec) (s : State) : (changeDrum d r s).pending = s.pending := (changeDrum_frame d r s).2.2.2.2.2.2.2.2.2.2.2.2.2.2.2.2.2

theorem testCapacity_frame (s : State) :
    (testCapacity s).now = s.now ∧
    (testCapacity s).mode = s.mode ∧
    (testCapacity s).activity = s.activity ∧
    (testCapacity s).tables = s.tables ∧
    (testCapacity s).tracker = s.tracker ∧
    (testCapacity s).lots = s.lots ∧
    (testCapacity s).arbiter = s.arbiter ∧
    (testCapacity s).belt = s.belt ∧
    (testCapacity s).head = s.head ∧
    (testCapacity s).engine = s.engine ∧
    (testCapacity s).router = s.router ∧
    (testCapacity s).notices = s.notices ∧
    (testCapacity s).coalescer = s.coalescer ∧
    (testCapacity s).cellPort = s.cellPort ∧
    (testCapacity s).plantPort = s.plantPort ∧
    (testCapacity s).eeprom = s.eeprom ∧
    (testCapacity s).draws = s.draws ∧
    (testCapacity s).handed = s.handed ∧
    (testCapacity s).pending = s.pending := by
  unfold testCapacity
  repeat' split
  all_goals simp
@[simp] theorem testCapacity_now (s : State) : (testCapacity s).now = s.now := (testCapacity_frame s).1
@[simp] theorem testCapacity_mode (s : State) : (testCapacity s).mode = s.mode := (testCapacity_frame s).2.1
@[simp] theorem testCapacity_activity (s : State) : (testCapacity s).activity = s.activity := (testCapacity_frame s).2.2.1
@[simp] theorem testCapacity_tables (s : State) : (testCapacity s).tables = s.tables := (testCapacity_frame s).2.2.2.1
@[simp] theorem testCapacity_tracker (s : State) : (testCapacity s).tracker = s.tracker := (testCapacity_frame s).2.2.2.2.1
@[simp] theorem testCapacity_lots (s : State) : (testCapacity s).lots = s.lots := (testCapacity_frame s).2.2.2.2.2.1
@[simp] theorem testCapacity_arbiter (s : State) : (testCapacity s).arbiter = s.arbiter := (testCapacity_frame s).2.2.2.2.2.2.1
@[simp] theorem testCapacity_belt (s : State) : (testCapacity s).belt = s.belt := (testCapacity_frame s).2.2.2.2.2.2.2.1
@[simp] theorem testCapacity_head (s : State) : (testCapacity s).head = s.head := (testCapacity_frame s).2.2.2.2.2.2.2.2.1
@[simp] theorem testCapacity_engine (s : State) : (testCapacity s).engine = s.engine := (testCapacity_frame s).2.2.2.2.2.2.2.2.2.1
@[simp] theorem testCapacity_router (s : State) : (testCapacity s).router = s.router := (testCapacity_frame s).2.2.2.2.2.2.2.2.2.2.1
@[simp] theorem testCapacity_notices (s : State) : (testCapacity s).notices = s.notices := (testCapacity_frame s).2.2.2.2.2.2.2.2.2.2.2.1
@[simp] theorem testCapacity_coalescer (s : State) : (testCapacity s).coalescer = s.coalescer := (testCapacity_frame s).2.2.2.2.2.2.2.2.2.2.2.2.1
@[simp] theorem testCapacity_cellPort (s : State) : (testCapacity s).cellPort = s.cellPort := (testCapacity_frame s).2.2.2.2.2.2.2.2.2.2.2.2.2.1
@[simp] theorem testCapacity_plantPort (s : State) : (testCapacity s).plantPort = s.plantPort := (testCapacity_frame s).2.2.2.2.2.2.2.2.2.2.2.2.2.2.1
@[simp] theorem testCapacity_eeprom (s : State) : (testCapacity s).eeprom = s.eeprom := (testCapacity_frame s).2.2.2.2.2.2.2.2.2.2.2.2.2.2.2.1
@[simp] theorem testCapacity_draws (s : State) : (testCapacity s).draws = s.draws := (testCapacity_frame s).2.2.2.2.2.2.2.2.2.2.2.2.2.2.2.2.1
@[simp] theorem testCapacity_handed (s : State) : (testCapacity s).handed = s.handed := (testCapacity_frame s).2.2.2.2.2.2.2.2.2.2.2.2.2.2.2.2.2.1
@[simp] theorem testCapacity_pending (s : State) : (testCapacity s).pending = s.pending := (testCapacity_frame s).2.2.2.2.2.2.2.2.2.2.2.2.2.2.2.2.2.2

theorem recomputeCapacity_frame (s : State) :
    (recomputeCapacity s).now = s.now ∧
    (recomputeCapacity s).mode = s.mode ∧
    (recomputeCapacity s).activity = s.activity ∧
    (recomputeCapacity s).tables = s.tables ∧
    (recomputeCapacity s).tracker = s.tracker ∧
    (recomputeCapacity s).lots = s.lots ∧
    (recomputeCapacity s).arbiter = s.arbiter ∧
    (recomputeCapacity s).belt = s.belt ∧
    (recomputeCapacity s).head = s.head ∧
    (recomputeCapacity s).engine = s.engine ∧
    (recomputeCapacity s).router = s.router ∧
    (recomputeCapacity s).notices = s.notices ∧
    (recomputeCapacity s).coalescer = s.coalescer ∧
    (recomputeCapacity s).cellPort = s.cellPort ∧
    (recomputeCapacity s).plantPort = s.plantPort ∧
    (recomputeCapacity s).eeprom = s.eeprom ∧
    (recomputeCapacity s).draws = s.draws ∧
    (recomputeCapacity s).handed = s.handed ∧
    (recomputeCapacity s).pending = s.pending := by
  simp [recomputeCapacity]
@[simp] theorem recomputeCapacity_now (s : State) : (recomputeCapacity s).now = s.now := (recomputeCapacity_frame s).1
@[simp] theorem recomputeCapacity_mode (s : State) : (recomputeCapacity s).mode = s.mode := (recomputeCapacity_frame s).2.1
@[simp] theorem recomputeCapacity_activity (s : State) : (recomputeCapacity s).activity = s.activity := (recomputeCapacity_frame s).2.2.1
@[simp] theorem recomputeCapacity_tables (s : State) : (recomputeCapacity s).tables = s.tables := (recomputeCapacity_frame s).2.2.2.1
@[simp] theorem recomputeCapacity_tracker (s : State) : (recomputeCapacity s).tracker = s.tracker := (recomputeCapacity_frame s).2.2.2.2.1
@[simp] theorem recomputeCapacity_lots (s : State) : (recomputeCapacity s).lots = s.lots := (recomputeCapacity_frame s).2.2.2.2.2.1
@[simp] theorem recomputeCapacity_arbiter (s : State) : (recomputeCapacity s).arbiter = s.arbiter := (recomputeCapacity_frame s).2.2.2.2.2.2.1
@[simp] theorem recomputeCapacity_belt (s : State) : (recomputeCapacity s).belt = s.belt := (recomputeCapacity_frame s).2.2.2.2.2.2.2.1
@[simp] theorem recomputeCapacity_head (s : State) : (recomputeCapacity s).head = s.head := (recomputeCapacity_frame s).2.2.2.2.2.2.2.2.1
@[simp] theorem recomputeCapacity_engine (s : State) : (recomputeCapacity s).engine = s.engine := (recomputeCapacity_frame s).2.2.2.2.2.2.2.2.2.1
@[simp] theorem recomputeCapacity_router (s : State) : (recomputeCapacity s).router = s.router := (recomputeCapacity_frame s).2.2.2.2.2.2.2.2.2.2.1
@[simp] theorem recomputeCapacity_notices (s : State) : (recomputeCapacity s).notices = s.notices := (recomputeCapacity_frame s).2.2.2.2.2.2.2.2.2.2.2.1
@[simp] theorem recomputeCapacity_coalescer (s : State) : (recomputeCapacity s).coalescer = s.coalescer := (recomputeCapacity_frame s).2.2.2.2.2.2.2.2.2.2.2.2.1
@[simp] theorem recomputeCapacity_cellPort (s : State) : (recomputeCapacity s).cellPort = s.cellPort := (recomputeCapacity_frame s).2.2.2.2.2.2.2.2.2.2.2.2.2.1
@[simp] theorem recomputeCapacity_plantPort (s : State) : (recomputeCapacity s).plantPort = s.plantPort := (recomputeCapacity_frame s).2.2.2.2.2.2.2.2.2.2.2.2.2.2.1
@[simp] theorem recomputeCapacity_eeprom (s : State) : (recomputeCapacity s).eeprom = s.eeprom := (recomputeCapacity_frame s).2.2.2.2.2.2.2.2.2.2.2.2.2.2.2.1
@[simp] theorem recomputeCapacity_draws (s : State) : (recomputeCapacity s).draws = s.draws := (recomputeCapacity_frame s).2.2.2.2.2.2.2.2.2.2.2.2.2.2.2.2.1
@[simp] theorem recomputeCapacity_handed (s : State) : (recomputeCapacity s).handed = s.handed := (recomputeCapacity_frame s).2.2.2.2.2.2.2.2.2.2.2.2.2.2.2.2.2.1
@[simp] theorem recomputeCapacity_pending (s : State) : (recomputeCapacity s).pending = s.pending := (recomputeCapacity_frame s).2.2.2.2.2.2.2.2.2.2.2.2.2.2.2.2.2.2

theorem cutResidue_frame (n : Nat) (s : State) :
    (cutResidue n s).now = s.now ∧
    (cutResidue n s).mode = s.mode ∧
    (cutResidue n s).activity = s.activity ∧
    (cutResidue n s).tables = s.tables ∧
    (cutResidue n s).tracker = s.tracker ∧
    (cutResidue n s).lots = s.lots ∧
    (cutResidue n s).arbiter = s.arbiter ∧
    (cutResidue n s).belt = s.belt ∧
    (cutResidue n s).head = s.head ∧
    (cutResidue n s).engine = s.engine ∧
    (cutResidue n s).router = s.router ∧
    (cutResidue n s).notices = s.notices ∧
    (cutResidue n s).coalescer = s.coalescer ∧
    (cutResidue n s).cellPort = s.cellPort ∧
    (cutResidue n s).plantPort = s.plantPort ∧
    (cutResidue n s).eeprom = s.eeprom ∧
    (cutResidue n s).draws = s.draws ∧
    (cutResidue n s).raised = s.raised ∧
    (cutResidue n s).handed = s.handed ∧
    (cutResidue n s).pending = s.pending := by
  simp [cutResidue]
@[simp] theorem cutResidue_now (n : Nat) (s : State) : (cutResidue n s).now = s.now := (cutResidue_frame n s).1
@[simp] theorem cutResidue_mode (n : Nat) (s : State) : (cutResidue n s).mode = s.mode := (cutResidue_frame n s).2.1
@[simp] theorem cutResidue_activity (n : Nat) (s : State) : (cutResidue n s).activity = s.activity := (cutResidue_frame n s).2.2.1
@[simp] theorem cutResidue_tables (n : Nat) (s : State) : (cutResidue n s).tables = s.tables := (cutResidue_frame n s).2.2.2.1
@[simp] theorem cutResidue_tracker (n : Nat) (s : State) : (cutResidue n s).tracker = s.tracker := (cutResidue_frame n s).2.2.2.2.1
@[simp] theorem cutResidue_lots (n : Nat) (s : State) : (cutResidue n s).lots = s.lots := (cutResidue_frame n s).2.2.2.2.2.1
@[simp] theorem cutResidue_arbiter (n : Nat) (s : State) : (cutResidue n s).arbiter = s.arbiter := (cutResidue_frame n s).2.2.2.2.2.2.1
@[simp] theorem cutResidue_belt (n : Nat) (s : State) : (cutResidue n s).belt = s.belt := (cutResidue_frame n s).2.2.2.2.2.2.2.1
@[simp] theorem cutResidue_head (n : Nat) (s : State) : (cutResidue n s).head = s.head := (cutResidue_frame n s).2.2.2.2.2.2.2.2.1
@[simp] theorem cutResidue_engine (n : Nat) (s : State) : (cutResidue n s).engine = s.engine := (cutResidue_frame n s).2.2.2.2.2.2.2.2.2.1
@[simp] theorem cutResidue_router (n : Nat) (s : State) : (cutResidue n s).router = s.router := (cutResidue_frame n s).2.2.2.2.2.2.2.2.2.2.1
@[simp] theorem cutResidue_notices (n : Nat) (s : State) : (cutResidue n s).notices = s.notices := (cutResidue_frame n s).2.2.2.2.2.2.2.2.2.2.2.1
@[simp] theorem cutResidue_coalescer (n : Nat) (s : State) : (cutResidue n s).coalescer = s.coalescer := (cutResidue_frame n s).2.2.2.2.2.2.2.2.2.2.2.2.1
@[simp] theorem cutResidue_cellPort (n : Nat) (s : State) : (cutResidue n s).cellPort = s.cellPort := (cutResidue_frame n s).2.2.2.2.2.2.2.2.2.2.2.2.2.1
@[simp] theorem cutResidue_plantPort (n : Nat) (s : State) : (cutResidue n s).plantPort = s.plantPort := (cutResidue_frame n s).2.2.2.2.2.2.2.2.2.2.2.2.2.2.1
@[simp] theorem cutResidue_eeprom (n : Nat) (s : State) : (cutResidue n s).eeprom = s.eeprom := (cutResidue_frame n s).2.2.2.2.2.2.2.2.2.2.2.2.2.2.2.1
@[simp] theorem cutResidue_draws (n : Nat) (s : State) : (cutResidue n s).draws = s.draws := (cutResidue_frame n s).2.2.2.2.2.2.2.2.2.2.2.2.2.2.2.2.1
@[simp] theorem cutResidue_raised (n : Nat) (s : State) : (cutResidue n s).raised = s.raised := (cutResidue_frame n s).2.2.2.2.2.2.2.2.2.2.2.2.2.2.2.2.2.1
@[simp] theorem cutResidue_handed (n : Nat) (s : State) : (cutResidue n s).handed = s.handed := (cutResidue_frame n s).2.2.2.2.2.2.2.2.2.2.2.2.2.2.2.2.2.2.1
@[simp] theorem cutResidue_pending (n : Nat) (s : State) : (cutResidue n s).pending = s.pending := (cutResidue_frame n s).2.2.2.2.2.2.2.2.2.2.2.2.2.2.2.2.2.2.2

theorem afterCountChange_frame (old : Nat) (s : State) :
    (afterCountChange old s).now = s.now ∧
    (afterCountChange old s).mode = s.mode ∧
    (afterCountChange old s).activity = s.activity ∧
    (afterCountChange old s).tables = s.tables ∧
    (afterCountChange old s).tracker = s.tracker ∧
    (afterCountChange old s).lots = s.lots ∧
    (afterCountChange old s).arbiter = s.arbiter ∧
    (afterCountChange old s).belt = s.belt ∧
    (afterCountChange old s).head = s.head ∧
    (afterCountChange old s).engine = s.engine ∧
    (afterCountChange old s).router = s.router ∧
    (afterCountChange old s).notices = s.notices ∧
    (afterCountChange old s).coalescer = s.coalescer ∧
    (afterCountChange old s).cellPort = s.cellPort ∧
    (afterCountChange old s).plantPort = s.plantPort ∧
    (afterCountChange old s).eeprom = s.eeprom ∧
    (afterCountChange old s).draws = s.draws ∧
    (afterCountChange old s).handed = s.handed ∧
    (afterCountChange old s).pending = s.pending := by
  unfold afterCountChange
  repeat' split
  all_goals simp
@[simp] theorem afterCountChange_now (old : Nat) (s : State) : (afterCountChange old s).now = s.now := (afterCountChange_frame old s).1
@[simp] theorem afterCountChange_mode (old : Nat) (s : State) : (afterCountChange old s).mode = s.mode := (afterCountChange_frame old s).2.1
@[simp] theorem afterCountChange_activity (old : Nat) (s : State) : (afterCountChange old s).activity = s.activity := (afterCountChange_frame old s).2.2.1
@[simp] theorem afterCountChange_tables (old : Nat) (s : State) : (afterCountChange old s).tables = s.tables := (afterCountChange_frame old s).2.2.2.1
@[simp] theorem afterCountChange_tracker (old : Nat) (s : State) : (afterCountChange old s).tracker = s.tracker := (afterCountChange_frame old s).2.2.2.2.1
@[simp] theorem afterCountChange_lots (old : Nat) (s : State) : (afterCountChange old s).lots = s.lots := (afterCountChange_frame old s).2.2.2.2.2.1
@[simp] theorem afterCountChange_arbiter (old : Nat) (s : State) : (afterCountChange old s).arbiter = s.arbiter := (afterCountChange_frame old s).2.2.2.2.2.2.1
@[simp] theorem afterCountChange_belt (old : Nat) (s : State) : (afterCountChange old s).belt = s.belt := (afterCountChange_frame old s).2.2.2.2.2.2.2.1
@[simp] theorem afterCountChange_head (old : Nat) (s : State) : (afterCountChange old s).head = s.head := (afterCountChange_frame old s).2.2.2.2.2.2.2.2.1
@[simp] theorem afterCountChange_engine (old : Nat) (s : State) : (afterCountChange old s).engine = s.engine := (afterCountChange_frame old s).2.2.2.2.2.2.2.2.2.1
@[simp] theorem afterCountChange_router (old : Nat) (s : State) : (afterCountChange old s).router = s.router := (afterCountChange_frame old s).2.2.2.2.2.2.2.2.2.2.1
@[simp] theorem afterCountChange_notices (old : Nat) (s : State) : (afterCountChange old s).notices = s.notices := (afterCountChange_frame old s).2.2.2.2.2.2.2.2.2.2.2.1
@[simp] theorem afterCountChange_coalescer (old : Nat) (s : State) : (afterCountChange old s).coalescer = s.coalescer := (afterCountChange_frame old s).2.2.2.2.2.2.2.2.2.2.2.2.1
@[simp] theorem afterCountChange_cellPort (old : Nat) (s : State) : (afterCountChange old s).cellPort = s.cellPort := (afterCountChange_frame old s).2.2.2.2.2.2.2.2.2.2.2.2.2.1
@[simp] theorem afterCountChange_plantPort (old : Nat) (s : State) : (afterCountChange old s).plantPort = s.plantPort := (afterCountChange_frame old s).2.2.2.2.2.2.2.2.2.2.2.2.2.2.1
@[simp] theorem afterCountChange_eeprom (old : Nat) (s : State) : (afterCountChange old s).eeprom = s.eeprom := (afterCountChange_frame old s).2.2.2.2.2.2.2.2.2.2.2.2.2.2.2.1
@[simp] theorem afterCountChange_draws (old : Nat) (s : State) : (afterCountChange old s).draws = s.draws := (afterCountChange_frame old s).2.2.2.2.2.2.2.2.2.2.2.2.2.2.2.2.1
@[simp] theorem afterCountChange_handed (old : Nat) (s : State) : (afterCountChange old s).handed = s.handed := (afterCountChange_frame old s).2.2.2.2.2.2.2.2.2.2.2.2.2.2.2.2.2.1
@[simp] theorem afterCountChange_pending (old : Nat) (s : State) : (afterCountChange old s).pending = s.pending := (afterCountChange_frame old s).2.2.2.2.2.2.2.2.2.2.2.2.2.2.2.2.2.2

theorem recordAllotment_frame (c : CellNo) (flow : Nat) (s : State) :
    (recordAllotment c flow s).now = s.now ∧
    (recordAllotment c flow s).mode = s.mode ∧
    (recordAllotment c flow s).activity = s.activity ∧
    (recordAllotment c flow s).tables = s.tables ∧
    (recordAllotment c flow s).tracker = s.tracker ∧
    (recordAllotment c flow s).lots = s.lots ∧
    (recordAllotment c flow s).arbiter = s.arbiter ∧
    (recordAllotment c flow s).belt = s.belt ∧
    (recordAllotment c flow s).head = s.head ∧
    (recordAllotment c flow s).engine = s.engine ∧
    (recordAllotment c flow s).router = s.router ∧
    (recordAllotment c flow s).notices = s.notices ∧
    (recordAllotment c flow s).coalescer = s.coalescer ∧
    (recordAllotment c flow s).cellPort = s.cellPort ∧
    (recordAllotment c flow s).plantPort = s.plantPort ∧
    (recordAllotment c flow s).eeprom = s.eeprom ∧
    (recordAllotment c flow s).draws = s.draws ∧
    (recordAllotment c flow s).handed = s.handed ∧
    (recordAllotment c flow s).pending = s.pending := by
  simp [recordAllotment]
@[simp] theorem recordAllotment_now (c : CellNo) (flow : Nat) (s : State) : (recordAllotment c flow s).now = s.now := (recordAllotment_frame c flow s).1
@[simp] theorem recordAllotment_mode (c : CellNo) (flow : Nat) (s : State) : (recordAllotment c flow s).mode = s.mode := (recordAllotment_frame c flow s).2.1
@[simp] theorem recordAllotment_activity (c : CellNo) (flow : Nat) (s : State) : (recordAllotment c flow s).activity = s.activity := (recordAllotment_frame c flow s).2.2.1
@[simp] theorem recordAllotment_tables (c : CellNo) (flow : Nat) (s : State) : (recordAllotment c flow s).tables = s.tables := (recordAllotment_frame c flow s).2.2.2.1
@[simp] theorem recordAllotment_tracker (c : CellNo) (flow : Nat) (s : State) : (recordAllotment c flow s).tracker = s.tracker := (recordAllotment_frame c flow s).2.2.2.2.1
@[simp] theorem recordAllotment_lots (c : CellNo) (flow : Nat) (s : State) : (recordAllotment c flow s).lots = s.lots := (recordAllotment_frame c flow s).2.2.2.2.2.1
@[simp] theorem recordAllotment_arbiter (c : CellNo) (flow : Nat) (s : State) : (recordAllotment c flow s).arbiter = s.arbiter := (recordAllotment_frame c flow s).2.2.2.2.2.2.1
@[simp] theorem recordAllotment_belt (c : CellNo) (flow : Nat) (s : State) : (recordAllotment c flow s).belt = s.belt := (recordAllotment_frame c flow s).2.2.2.2.2.2.2.1
@[simp] theorem recordAllotment_head (c : CellNo) (flow : Nat) (s : State) : (recordAllotment c flow s).head = s.head := (recordAllotment_frame c flow s).2.2.2.2.2.2.2.2.1
@[simp] theorem recordAllotment_engine (c : CellNo) (flow : Nat) (s : State) : (recordAllotment c flow s).engine = s.engine := (recordAllotment_frame c flow s).2.2.2.2.2.2.2.2.2.1
@[simp] theorem recordAllotment_router (c : CellNo) (flow : Nat) (s : State) : (recordAllotment c flow s).router = s.router := (recordAllotment_frame c flow s).2.2.2.2.2.2.2.2.2.2.1
@[simp] theorem recordAllotment_notices (c : CellNo) (flow : Nat) (s : State) : (recordAllotment c flow s).notices = s.notices := (recordAllotment_frame c flow s).2.2.2.2.2.2.2.2.2.2.2.1
@[simp] theorem recordAllotment_coalescer (c : CellNo) (flow : Nat) (s : State) : (recordAllotment c flow s).coalescer = s.coalescer := (recordAllotment_frame c flow s).2.2.2.2.2.2.2.2.2.2.2.2.1
@[simp] theorem recordAllotment_cellPort (c : CellNo) (flow : Nat) (s : State) : (recordAllotment c flow s).cellPort = s.cellPort := (recordAllotment_frame c flow s).2.2.2.2.2.2.2.2.2.2.2.2.2.1
@[simp] theorem recordAllotment_plantPort (c : CellNo) (flow : Nat) (s : State) : (recordAllotment c flow s).plantPort = s.plantPort := (recordAllotment_frame c flow s).2.2.2.2.2.2.2.2.2.2.2.2.2.2.1
@[simp] theorem recordAllotment_eeprom (c : CellNo) (flow : Nat) (s : State) : (recordAllotment c flow s).eeprom = s.eeprom := (recordAllotment_frame c flow s).2.2.2.2.2.2.2.2.2.2.2.2.2.2.2.1
@[simp] theorem recordAllotment_draws (c : CellNo) (flow : Nat) (s : State) : (recordAllotment c flow s).draws = s.draws := (recordAllotment_frame c flow s).2.2.2.2.2.2.2.2.2.2.2.2.2.2.2.2.1
@[simp] theorem recordAllotment_handed (c : CellNo) (flow : Nat) (s : State) : (recordAllotment c flow s).handed = s.handed := (recordAllotment_frame c flow s).2.2.2.2.2.2.2.2.2.2.2.2.2.2.2.2.2.1
@[simp] theorem recordAllotment_pending (c : CellNo) (flow : Nat) (s : State) : (recordAllotment c flow s).pending = s.pending := (recordAllotment_frame c flow s).2.2.2.2.2.2.2.2.2.2.2.2.2.2.2.2.2.2

theorem grantFlush_frame (d : DrumNo) (s : State) :
    (grantFlush d s).now = s.now ∧
    (grantFlush d s).mode = s.mode ∧
    (grantFlush d s).activity = s.activity ∧
    (grantFlush d s).tables = s.tables ∧
    (grantFlush d s).tracker = s.tracker ∧
    (grantFlush d s).lots = s.lots ∧
    (grantFlush d s).arbiter = s.arbiter ∧
    (grantFlush d s).belt = s.belt ∧
    (grantFlush d s).head = s.head ∧
    (grantFlush d s).engine = s.engine ∧
    (grantFlush d s).router = s.router ∧
    (grantFlush d s).notices = s.notices ∧
    (grantFlush d s).cellPort = s.cellPort ∧
    (grantFlush d s).plantPort = s.plantPort ∧
    (grantFlush d s).eeprom = s.eeprom ∧
    (grantFlush d s).draws = s.draws ∧
    (grantFlush d s).pending = s.pending := by
  simp [grantFlush]
@[simp] theorem grantFlush_now (d : DrumNo) (s : State) : (grantFlush d s).now = s.now := (grantFlush_frame d s).1
@[simp] theorem grantFlush_mode (d : DrumNo) (s : State) : (grantFlush d s).mode = s.mode := (grantFlush_frame d s).2.1
@[simp] theorem grantFlush_activity (d : DrumNo) (s : State) : (grantFlush d s).activity = s.activity := (grantFlush_frame d s).2.2.1
@[simp] theorem grantFlush_tables (d : DrumNo) (s : State) : (grantFlush d s).tables = s.tables := (grantFlush_frame d s).2.2.2.1
@[simp] theorem grantFlush_tracker (d : DrumNo) (s : State) : (grantFlush d s).tracker = s.tracker := (grantFlush_frame d s).2.2.2.2.1
@[simp] theorem grantFlush_lots (d : DrumNo) (s : State) : (grantFlush d s).lots = s.lots := (grantFlush_frame d s).2.2.2.2.2.1
@[simp] theorem grantFlush_arbiter (d : DrumNo) (s : State) : (grantFlush d s).arbiter = s.arbiter := (grantFlush_frame d s).2.2.2.2.2.2.1
@[simp] theorem grantFlush_belt (d : DrumNo) (s : State) : (grantFlush d s).belt = s.belt := (grantFlush_frame d s).2.2.2.2.2.2.2.1
@[simp] theorem grantFlush_head (d : DrumNo) (s : State) : (grantFlush d s).head = s.head := (grantFlush_frame d s).2.2.2.2.2.2.2.2.1
@[simp] theorem grantFlush_engine (d : DrumNo) (s : State) : (grantFlush d s).engine = s.engine := (grantFlush_frame d s).2.2.2.2.2.2.2.2.2.1
@[simp] theorem grantFlush_router (d : DrumNo) (s : State) : (grantFlush d s).router = s.router := (grantFlush_frame d s).2.2.2.2.2.2.2.2.2.2.1
@[simp] theorem grantFlush_notices (d : DrumNo) (s : State) : (grantFlush d s).notices = s.notices := (grantFlush_frame d s).2.2.2.2.2.2.2.2.2.2.2.1
@[simp] theorem grantFlush_cellPort (d : DrumNo) (s : State) : (grantFlush d s).cellPort = s.cellPort := (grantFlush_frame d s).2.2.2.2.2.2.2.2.2.2.2.2.1
@[simp] theorem grantFlush_plantPort (d : DrumNo) (s : State) : (grantFlush d s).plantPort = s.plantPort := (grantFlush_frame d s).2.2.2.2.2.2.2.2.2.2.2.2.2.1
@[simp] theorem grantFlush_eeprom (d : DrumNo) (s : State) : (grantFlush d s).eeprom = s.eeprom := (grantFlush_frame d s).2.2.2.2.2.2.2.2.2.2.2.2.2.2.1
@[simp] theorem grantFlush_draws (d : DrumNo) (s : State) : (grantFlush d s).draws = s.draws := (grantFlush_frame d s).2.2.2.2.2.2.2.2.2.2.2.2.2.2.2.1
@[simp] theorem grantFlush_pending (d : DrumNo) (s : State) : (grantFlush d s).pending = s.pending := (grantFlush_frame d s).2.2.2.2.2.2.2.2.2.2.2.2.2.2.2.2

theorem considerFlush_frame (a1 : List DrumNo) (s : State) :
    (considerFlush a1 s).now = s.now ∧
    (considerFlush a1 s).mode = s.mode ∧
    (considerFlush a1 s).activity = s.activity ∧
    (considerFlush a1 s).tables = s.tables ∧
    (considerFlush a1 s).tracker = s.tracker ∧
    (considerFlush a1 s).lots = s.lots ∧
    (considerFlush a1 s).arbiter = s.arbiter ∧
    (considerFlush a1 s).belt = s.belt ∧
    (considerFlush a1 s).head = s.head ∧
    (considerFlush a1 s).engine = s.engine ∧
    (considerFlush a1 s).router = s.router ∧
    (considerFlush a1 s).notices = s.notices ∧
    (considerFlush a1 s).cellPort = s.cellPort ∧
    (considerFlush a1 s).plantPort = s.plantPort ∧
    (considerFlush a1 s).eeprom = s.eeprom ∧
    (considerFlush a1 s).draws = s.draws ∧
    (considerFlush a1 s).pending = s.pending := by
  induction a1 generalizing s with
  | nil => simp [considerFlush]
  | cons d ds ih =>
    unfold considerFlush
    split
    · exact ih s
    · simp
    · simp
@[simp] theorem considerFlush_now (a1 : List DrumNo) (s : State) : (considerFlush a1 s).now = s.now := (considerFlush_frame a1 s).1
@[simp] theorem considerFlush_mode (a1 : List DrumNo) (s : State) : (considerFlush a1 s).mode = s.mode := (considerFlush_frame a1 s).2.1
@[simp] theorem considerFlush_activity (a1 : List DrumNo) (s : State) : (considerFlush a1 s).activity = s.activity := (considerFlush_frame a1 s).2.2.1
@[simp] theorem considerFlush_tables (a1 : List DrumNo) (s : State) : (considerFlush a1 s).tables = s.tables := (considerFlush_frame a1 s).2.2.2.1
@[simp] theorem considerFlush_tracker (a1 : List DrumNo) (s : State) : (considerFlush a1 s).tracker = s.tracker := (considerFlush_frame a1 s).2.2.2.2.1
@[simp] theorem considerFlush_lots (a1 : List DrumNo) (s : State) : (considerFlush a1 s).lots = s.lots := (considerFlush_frame a1 s).2.2.2.2.2.1
@[simp] theorem considerFlush_arbiter (a1 : List DrumNo) (s : State) : (considerFlush a1 s).arbiter = s.arbiter := (considerFlush_frame a1 s).2.2.2.2.2.2.1
@[simp] theorem considerFlush_belt (a1 : List DrumNo) (s : State) : (considerFlush a1 s).belt = s.belt := (considerFlush_frame a1 s).2.2.2.2.2.2.2.1
@[simp] theorem considerFlush_head (a1 : List DrumNo) (s : State) : (considerFlush a1 s).head = s.head := (considerFlush_frame a1 s).2.2.2.2.2.2.2.2.1
@[simp] theorem considerFlush_engine (a1 : List DrumNo) (s : State) : (considerFlush a1 s).engine = s.engine := (considerFlush_frame a1 s).2.2.2.2.2.2.2.2.2.1
@[simp] theorem considerFlush_router (a1 : List DrumNo) (s : State) : (considerFlush a1 s).router = s.router := (considerFlush_frame a1 s).2.2.2.2.2.2.2.2.2.2.1
@[simp] theorem considerFlush_notices (a1 : List DrumNo) (s : State) : (considerFlush a1 s).notices = s.notices := (considerFlush_frame a1 s).2.2.2.2.2.2.2.2.2.2.2.1
@[simp] theorem considerFlush_cellPort (a1 : List DrumNo) (s : State) : (considerFlush a1 s).cellPort = s.cellPort := (considerFlush_frame a1 s).2.2.2.2.2.2.2.2.2.2.2.2.1
@[simp] theorem considerFlush_plantPort (a1 : List DrumNo) (s : State) : (considerFlush a1 s).plantPort = s.plantPort := (considerFlush_frame a1 s).2.2.2.2.2.2.2.2.2.2.2.2.2.1
@[simp] theorem considerFlush_eeprom (a1 : List DrumNo) (s : State) : (considerFlush a1 s).eeprom = s.eeprom := (considerFlush_frame a1 s).2.2.2.2.2.2.2.2.2.2.2.2.2.2.1
@[simp] theorem considerFlush_draws (a1 : List DrumNo) (s : State) : (considerFlush a1 s).draws = s.draws := (considerFlush_frame a1 s).2.2.2.2.2.2.2.2.2.2.2.2.2.2.2.1
@[simp] theorem considerFlush_pending (a1 : List DrumNo) (s : State) : (considerFlush a1 s).pending = s.pending := (considerFlush_frame a1 s).2.2.2.2.2.2.2.2.2.2.2.2.2.2.2.2

theorem arbitrateFlush_frame (s : State) :
    (arbitrateFlush s).now = s.now ∧
    (arbitrateFlush s).mode = s.mode ∧
    (arbitrateFlush s).activity = s.activity ∧
    (arbitrateFlush s).tables = s.tables ∧
    (arbitrateFlush s).tracker = s.tracker ∧
    (arbitrateFlush s).lots = s.lots ∧
    (arbitrateFlush s).arbiter = s.arbiter ∧
    (arbitrateFlush s).belt = s.belt ∧
    (arbitrateFlush s).head = s.head ∧
    (arbitrateFlush s).engine = s.engine ∧
    (arbitrateFlush s).router = s.router ∧
    (arbitrateFlush s).notices = s.notices ∧
    (arbitrateFlush s).cellPort = s.cellPort ∧
    (arbitrateFlush s).plantPort = s.plantPort ∧
    (arbitrateFlush s).eeprom = s.eeprom ∧
    (arbitrateFlush s).draws = s.draws ∧
    (arbitrateFlush s).pending = s.pending := by
  unfold arbitrateFlush
  dsimp only
  repeat' split
  all_goals simp
@[simp] theorem arbitrateFlush_now (s : State) : (arbitrateFlush s).now = s.now := (arbitrateFlush_frame s).1
@[simp] theorem arbitrateFlush_mode (s : State) : (arbitrateFlush s).mode = s.mode := (arbitrateFlush_frame s).2.1
@[simp] theorem arbitrateFlush_activity (s : State) : (arbitrateFlush s).activity = s.activity := (arbitrateFlush_frame s).2.2.1
@[simp] theorem arbitrateFlush_tables (s : State) : (arbitrateFlush s).tables = s.tables := (arbitrateFlush_frame s).2.2.2.1
@[simp] theorem arbitrateFlush_tracker (s : State) : (arbitrateFlush s).tracker = s.tracker := (arbitrateFlush_frame s).2.2.2.2.1
@[simp] theorem arbitrateFlush_lots (s : State) : (arbitrateFlush s).lots = s.lots := (arbitrateFlush_frame s).2.2.2.2.2.1
@[simp] theorem arbitrateFlush_arbiter (s : State) : (arbitrateFlush s).arbiter = s.arbiter := (arbitrateFlush_frame s).2.2.2.2.2.2.1
@[simp] theorem arbitrateFlush_belt (s : State) : (arbitrateFlush s).belt = s.belt := (arbitrateFlush_frame s).2.2.2.2.2.2.2.1
@[simp] theorem arbitrateFlush_head (s : State) : (arbitrateFlush s).head = s.head := (arbitrateFlush_frame s).2.2.2.2.2.2.2.2.1
@[simp] theorem arbitrateFlush_engine (s : State) : (arbitrateFlush s).engine = s.engine := (arbitrateFlush_frame s).2.2.2.2.2.2.2.2.2.1
@[simp] theorem arbitrateFlush_router (s : State) : (arbitrateFlush s).router = s.router := (arbitrateFlush_frame s).2.2.2.2.2.2.2.2.2.2.1
@[simp] theorem arbitrateFlush_notices (s : State) : (arbitrateFlush s).notices = s.notices := (arbitrateFlush_frame s).2.2.2.2.2.2.2.2.2.2.2.1
@[simp] theorem arbitrateFlush_cellPort (s : State) : (arbitrateFlush s).cellPort = s.cellPort := (arbitrateFlush_frame s).2.2.2.2.2.2.2.2.2.2.2.2.1
@[simp] theorem arbitrateFlush_plantPort (s : State) : (arbitrateFlush s).plantPort = s.plantPort := (arbitrateFlush_frame s).2.2.2.2.2.2.2.2.2.2.2.2.2.1
@[simp] theorem arbitrateFlush_eeprom (s : State) : (arbitrateFlush s).eeprom = s.eeprom := (arbitrateFlush_frame s).2.2.2.2.2.2.2.2.2.2.2.2.2.2.1
@[simp] theorem arbitrateFlush_draws (s : State) : (arbitrateFlush s).draws = s.draws := (arbitrateFlush_frame s).2.2.2.2.2.2.2.2.2.2.2.2.2.2.2.1
@[simp] theorem arbitrateFlush_pending (s : State) : (arbitrateFlush s).pending = s.pending := (arbitrateFlush_frame s).2.2.2.2.2.2.2.2.2.2.2.2.2.2.2.2

theorem enterWait_frame (d : DrumNo) (s : State) :
    (enterWait d s).now = s.now ∧
    (enterWait d s).mode = s.mode ∧
    (enterWait d s).activity = s.activity ∧
    (enterWait d s).tables = s.tables ∧
    (enterWait d s).tracker = s.tracker ∧
    (enterWait d s).lots = s.lots ∧
    (enterWait d s).arbiter = s.arbiter ∧
    (enterWait d s).belt = s.belt ∧
    (enterWait d s).head = s.head ∧
    (enterWait d s).engine = s.engine ∧
    (enterWait d s).router = s.router ∧
    (enterWait d s).notices = s.notices ∧
    (enterWait d s).cellPort = s.cellPort ∧
    (enterWait d s).plantPort = s.plantPort ∧
    (enterWait d s).eeprom = s.eeprom ∧
    (enterWait d s).draws = s.draws ∧
    (enterWait d s).raised = s.raised ∧
    (enterWait d s).pending = s.pending := by
  simp [enterWait]
@[simp] theorem enterWait_now (d : DrumNo) (s : State) : (enterWait d s).now = s.now := (enterWait_frame d s).1
@[simp] theorem enterWait_mode (d : DrumNo) (s : State) : (enterWait d s).mode = s.mode := (enterWait_frame d s).2.1
@[simp] theorem enterWait_activity (d : DrumNo) (s : State) : (enterWait d s).activity = s.activity := (enterWait_frame d s).2.2.1
@[simp] theorem enterWait_tables (d : DrumNo) (s : State) : (enterWait d s).tables = s.tables := (enterWait_frame d s).2.2.2.1
@[simp] theorem enterWait_tracker (d : DrumNo) (s : State) : (enterWait d s).tracker = s.tracker := (enterWait_frame d s).2.2.2.2.1
@[simp] theorem enterWait_lots (d : DrumNo) (s : State) : (enterWait d s).lots = s.lots := (enterWait_frame d s).2.2.2.2.2.1
@[simp] theorem enterWait_arbiter (d : DrumNo) (s : State) : (enterWait d s).arbiter = s.arbiter := (enterWait_frame d s).2.2.2.2.2.2.1
@[simp] theorem enterWait_belt (d : DrumNo) (s : State) : (enterWait d s).belt = s.belt := (enterWait_frame d s).2.2.2.2.2.2.2.1
@[simp] theorem enterWait_head (d : DrumNo) (s : State) : (enterWait d s).head = s.head := (enterWait_frame d s).2.2.2.2.2.2.2.2.1
@[simp] theorem enterWait_engine (d : DrumNo) (s : State) : (enterWait d s).engine = s.engine := (enterWait_frame d s).2.2.2.2.2.2.2.2.2.1
@[simp] theorem enterWait_router (d : DrumNo) (s : State) : (enterWait d s).router = s.router := (enterWait_frame d s).2.2.2.2.2.2.2.2.2.2.1
@[simp] theorem enterWait_notices (d : DrumNo) (s : State) : (enterWait d s).notices = s.notices := (enterWait_frame d s).2.2.2.2.2.2.2.2.2.2.2.1
@[simp] theorem enterWait_cellPort (d : DrumNo) (s : State) : (enterWait d s).cellPort = s.cellPort := (enterWait_frame d s).2.2.2.2.2.2.2.2.2.2.2.2.1
@[simp] theorem enterWait_plantPort (d : DrumNo) (s : State) : (enterWait d s).plantPort = s.plantPort := (enterWait_frame d s).2.2.2.2.2.2.2.2.2.2.2.2.2.1
@[simp] theorem enterWait_eeprom (d : DrumNo) (s : State) : (enterWait d s).eeprom = s.eeprom := (enterWait_frame d s).2.2.2.2.2.2.2.2.2.2.2.2.2.2.1
@[simp] theorem enterWait_draws (d : DrumNo) (s : State) : (enterWait d s).draws = s.draws := (enterWait_frame d s).2.2.2.2.2.2.2.2.2.2.2.2.2.2.2.1
@[simp] theorem enterWait_raised (d : DrumNo) (s : State) : (enterWait d s).raised = s.raised := (enterWait_frame d s).2.2.2.2.2.2.2.2.2.2.2.2.2.2.2.2.1
@[simp] theorem enterWait_pending (d : DrumNo) (s : State) : (enterWait d s).pending = s.pending := (enterWait_frame d s).2.2.2.2.2.2.2.2.2.2.2.2.2.2.2.2.2

theorem addFines_frame (share : Nat) (d : DrumNo) (s : State) :
    (addFines share d s).now = s.now ∧
    (addFines share d s).mode = s.mode ∧
    (addFines share d s).activity = s.activity ∧
    (addFines share d s).tables = s.tables ∧
    (addFines share d s).tracker = s.tracker ∧
    (addFines share d s).lots = s.lots ∧
    (addFines share d s).arbiter = s.arbiter ∧
    (addFines share d s).belt = s.belt ∧
    (addFines share d s).head = s.head ∧
    (addFines share d s).engine = s.engine ∧
    (addFines share d s).router = s.router ∧
    (addFines share d s).notices = s.notices ∧
    (addFines share d s).coalescer = s.coalescer ∧
    (addFines share d s).cellPort = s.cellPort ∧
    (addFines share d s).plantPort = s.plantPort ∧
    (addFines share d s).counters = s.counters ∧
    (addFines share d s).eeprom = s.eeprom ∧
    (addFines share d s).draws = s.draws ∧
    (addFines share d s).raised = s.raised ∧
    (addFines share d s).handed = s.handed ∧
    (addFines share d s).pending = s.pending := by
  unfold addFines
  repeat' split
  all_goals simp
@[simp] theorem addFines_now (share : Nat) (d : DrumNo) (s : State) : (addFines share d s).now = s.now := (addFines_frame share d s).1
@[simp] theorem addFines_mode (share : Nat) (d : DrumNo) (s : State) : (addFines share d s).mode = s.mode := (addFines_frame share d s).2.1
@[simp] theorem addFines_activity (share : Nat) (d : DrumNo) (s : State) : (addFines share d s).activity = s.activity := (addFines_frame share d s).2.2.1
@[simp] theorem addFines_tables (share : Nat) (d : DrumNo) (s : State) : (addFines share d s).tables = s.tables := (addFines_frame share d s).2.2.2.1
@[simp] theorem addFines_tracker (share : Nat) (d : DrumNo) (s : State) : (addFines share d s).tracker = s.tracker := (addFines_frame share d s).2.2.2.2.1
@[simp] theorem addFines_lots (share : Nat) (d : DrumNo) (s : State) : (addFines share d s).lots = s.lots := (addFines_frame share d s).2.2.2.2.2.1
@[simp] theorem addFines_arbiter (share : Nat) (d : DrumNo) (s : State) : (addFines share d s).arbiter = s.arbiter := (addFines_frame share d s).2.2.2.2.2.2.1
@[simp] theorem addFines_belt (share : Nat) (d : DrumNo) (s : State) : (addFines share d s).belt = s.belt := (addFines_frame share d s).2.2.2.2.2.2.2.1
@[simp] theorem addFines_head (share : Nat) (d : DrumNo) (s : State) : (addFines share d s).head = s.head := (addFines_frame share d s).2.2.2.2.2.2.2.2.1
@[simp] theorem addFines_engine (share : Nat) (d : DrumNo) (s : State) : (addFines share d s).engine = s.engine := (addFines_frame share d s).2.2.2.2.2.2.2.2.2.1
@[simp] theorem addFines_router (share : Nat) (d : DrumNo) (s : State) : (addFines share d s).router = s.router := (addFines_frame share d s).2.2.2.2.2.2.2.2.2.2.1
@[simp] theorem addFines_notices (share : Nat) (d : DrumNo) (s : State) : (addFines share d s).notices = s.notices := (addFines_frame share d s).2.2.2.2.2.2.2.2.2.2.2.1
@[simp] theorem addFines_coalescer (share : Nat) (d : DrumNo) (s : State) : (addFines share d s).coalescer = s.coalescer := (addFines_frame share d s).2.2.2.2.2.2.2.2.2.2.2.2.1
@[simp] theorem addFines_cellPort (share : Nat) (d : DrumNo) (s : State) : (addFines share d s).cellPort = s.cellPort := (addFines_frame share d s).2.2.2.2.2.2.2.2.2.2.2.2.2.1
@[simp] theorem addFines_plantPort (share : Nat) (d : DrumNo) (s : State) : (addFines share d s).plantPort = s.plantPort := (addFines_frame share d s).2.2.2.2.2.2.2.2.2.2.2.2.2.2.1
@[simp] theorem addFines_counters (share : Nat) (d : DrumNo) (s : State) : (addFines share d s).counters = s.counters := (addFines_frame share d s).2.2.2.2.2.2.2.2.2.2.2.2.2.2.2.1
@[simp] theorem addFines_eeprom (share : Nat) (d : DrumNo) (s : State) : (addFines share d s).eeprom = s.eeprom := (addFines_frame share d s).2.2.2.2.2.2.2.2.2.2.2.2.2.2.2.2.1
@[simp] theorem addFines_draws (share : Nat) (d : DrumNo) (s : State) : (addFines share d s).draws = s.draws := (addFines_frame share d s).2.2.2.2.2.2.2.2.2.2.2.2.2.2.2.2.2.1
@[simp] theorem addFines_raised (share : Nat) (d : DrumNo) (s : State) : (addFines share d s).raised = s.raised := (addFines_frame share d s).2.2.2.2.2.2.2.2.2.2.2.2.2.2.2.2.2.2.1
@[simp] theorem addFines_handed (share : Nat) (d : DrumNo) (s : State) : (addFines share d s).handed = s.handed := (addFines_frame share d s).2.2.2.2.2.2.2.2.2.2.2.2.2.2.2.2.2.2.2.1
@[simp] theorem addFines_pending (share : Nat) (d : DrumNo) (s : State) : (addFines share d s).pending = s.pending := (addFines_frame share d s).2.2.2.2.2.2.2.2.2.2.2.2.2.2.2.2.2.2.2.2

theorem waitIfReached_frame (d : DrumNo) (s : State) :
    (waitIfReached d s).now = s.now ∧
    (waitIfReached d s).mode = s.mode ∧
    (waitIfReached d s).activity = s.activity ∧
    (waitIfReached d s).tables = s.tables ∧
    (waitIfReached d s).tracker = s.tracker ∧
    (waitIfReached d s).lots = s.lots ∧
    (waitIfReached d s).arbiter = s.arbiter ∧
    (waitIfReached d s).belt = s.belt ∧
    (waitIfReached d s).head = s.head ∧
    (waitIfReached d s).engine = s.engine ∧
    (waitIfReached d s).router = s.router ∧
    (waitIfReached d s).notices = s.notices ∧
    (waitIfReached d s).cellPort = s.cellPort ∧
    (waitIfReached d s).plantPort = s.plantPort ∧
    (waitIfReached d s).eeprom = s.eeprom ∧
    (waitIfReached d s).draws = s.draws ∧
    (waitIfReached d s).raised = s.raised ∧
    (waitIfReached d s).pending = s.pending := by
  unfold waitIfReached
  repeat' split
  all_goals simp
@[simp] theorem waitIfReached_now (d : DrumNo) (s : State) : (waitIfReached d s).now = s.now := (waitIfReached_frame d s).1
@[simp] theorem waitIfReached_mode (d : DrumNo) (s : State) : (waitIfReached d s).mode = s.mode := (waitIfReached_frame d s).2.1
@[simp] theorem waitIfReached_activity (d : DrumNo) (s : State) : (waitIfReached d s).activity = s.activity := (waitIfReached_frame d s).2.2.1
@[simp] theorem waitIfReached_tables (d : DrumNo) (s : State) : (waitIfReached d s).tables = s.tables := (waitIfReached_frame d s).2.2.2.1
@[simp] theorem waitIfReached_tracker (d : DrumNo) (s : State) : (waitIfReached d s).tracker = s.tracker := (waitIfReached_frame d s).2.2.2.2.1
@[simp] theorem waitIfReached_lots (d : DrumNo) (s : State) : (waitIfReached d s).lots = s.lots := (waitIfReached_frame d s).2.2.2.2.2.1
@[simp] theorem waitIfReached_arbiter (d : DrumNo) (s : State) : (waitIfReached d s).arbiter = s.arbiter := (waitIfReached_frame d s).2.2.2.2.2.2.1
@[simp] theorem waitIfReached_belt (d : DrumNo) (s : State) : (waitIfReached d s).belt = s.belt := (waitIfReached_frame d s).2.2.2.2.2.2.2.1
@[simp] theorem waitIfReached_head (d : DrumNo) (s : State) : (waitIfReached d s).head = s.head := (waitIfReached_frame d s).2.2.2.2.2.2.2.2.1
@[simp] theorem waitIfReached_engine (d : DrumNo) (s : State) : (waitIfReached d s).engine = s.engine := (waitIfReached_frame d s).2.2.2.2.2.2.2.2.2.1
@[simp] theorem waitIfReached_router (d : DrumNo) (s : State) : (waitIfReached d s).router = s.router := (waitIfReached_frame d s).2.2.2.2.2.2.2.2.2.2.1
@[simp] theorem waitIfReached_notices (d : DrumNo) (s : State) : (waitIfReached d s).notices = s.notices := (waitIfReached_frame d s).2.2.2.2.2.2.2.2.2.2.2.1
@[simp] theorem waitIfReached_cellPort (d : DrumNo) (s : State) : (waitIfReached d s).cellPort = s.cellPort := (waitIfReached_frame d s).2.2.2.2.2.2.2.2.2.2.2.2.1
@[simp] theorem waitIfReached_plantPort (d : DrumNo) (s : State) : (waitIfReached d s).plantPort = s.plantPort := (waitIfReached_frame d s).2.2.2.2.2.2.2.2.2.2.2.2.2.1
@[simp] theorem waitIfReached_eeprom (d : DrumNo) (s : State) : (waitIfReached d s).eeprom = s.eeprom := (waitIfReached_frame d s).2.2.2.2.2.2.2.2.2.2.2.2.2.2.1
@[simp] theorem waitIfReached_draws (d : DrumNo) (s : State) : (waitIfReached d s).draws = s.draws := (waitIfReached_frame d s).2.2.2.2.2.2.2.2.2.2.2.2.2.2.2.1
@[simp] theorem waitIfReached_raised (d : DrumNo) (s : State) : (waitIfReached d s).raised = s.raised := (waitIfReached_frame d s).2.2.2.2.2.2.2.2.2.2.2.2.2.2.2.2.1
@[simp] theorem waitIfReached_pending (d : DrumNo) (s : State) : (waitIfReached d s).pending = s.pending := (waitIfReached_frame d s).2.2.2.2.2.2.2.2.2.2.2.2.2.2.2.2.2

theorem testFines_frame (s : State) :
    (testFines s).now = s.now ∧
    (testFines s).mode = s.mode ∧
    (testFines s).activity = s.activity ∧
    (testFines s).tables = s.tables ∧
    (testFines s).tracker = s.tracker ∧
    (testFines s).lots = s.lots ∧
    (testFines s).arbiter = s.arbiter ∧
    (testFines s).belt = s.belt ∧
    (testFines s).head = s.head ∧
    (testFines s).engine = s.engine ∧
    (testFines s).router = s.router ∧
    (testFines s).notices = s.notices ∧
    (testFines s).cellPort = s.cellPort ∧
    (testFines s).plantPort = s.plantPort ∧
    (testFines s).eeprom = s.eeprom ∧
    (testFines s).draws = s.draws ∧
    (testFines s).pending = s.pending := by
  unfold testFines
  repeat' split
  all_goals simp
@[simp] theorem testFines_now (s : State) : (testFines s).now = s.now := (testFines_frame s).1
@[simp] theorem testFines_mode (s : State) : (testFines s).mode = s.mode := (testFines_frame s).2.1
@[simp] theorem testFines_activity (s : State) : (testFines s).activity = s.activity := (testFines_frame s).2.2.1
@[simp] theorem testFines_tables (s : State) : (testFines s).tables = s.tables := (testFines_frame s).2.2.2.1
@[simp] theorem testFines_tracker (s : State) : (testFines s).tracker = s.tracker := (testFines_frame s).2.2.2.2.1
@[simp] theorem testFines_lots (s : State) : (testFines s).lots = s.lots := (testFines_frame s).2.2.2.2.2.1
@[simp] theorem testFines_arbiter (s : State) : (testFines s).arbiter = s.arbiter := (testFines_frame s).2.2.2.2.2.2.1
@[simp] theorem testFines_belt (s : State) : (testFines s).belt = s.belt := (testFines_frame s).2.2.2.2.2.2.2.1
@[simp] theorem testFines_head (s : State) : (testFines s).head = s.head := (testFines_frame s).2.2.2.2.2.2.2.2.1
@[simp] theorem testFines_engine (s : State) : (testFines s).engine = s.engine := (testFines_frame s).2.2.2.2.2.2.2.2.2.1
@[simp] theorem testFines_router (s : State) : (testFines s).router = s.router := (testFines_frame s).2.2.2.2.2.2.2.2.2.2.1
@[simp] theorem testFines_notices (s : State) : (testFines s).notices = s.notices := (testFines_frame s).2.2.2.2.2.2.2.2.2.2.2.1
@[simp] theorem testFines_cellPort (s : State) : (testFines s).cellPort = s.cellPort := (testFines_frame s).2.2.2.2.2.2.2.2.2.2.2.2.1
@[simp] theorem testFines_plantPort (s : State) : (testFines s).plantPort = s.plantPort := (testFines_frame s).2.2.2.2.2.2.2.2.2.2.2.2.2.1
@[simp] theorem testFines_eeprom (s : State) : (testFines s).eeprom = s.eeprom := (testFines_frame s).2.2.2.2.2.2.2.2.2.2.2.2.2.2.1
@[simp] theorem testFines_draws (s : State) : (testFines s).draws = s.draws := (testFines_frame s).2.2.2.2.2.2.2.2.2.2.2.2.2.2.2.1
@[simp] theorem testFines_pending (s : State) : (testFines s).pending = s.pending := (testFines_frame s).2.2.2.2.2.2.2.2.2.2.2.2.2.2.2.2

theorem creditFines_frame (mass : Nat) (k : ClassNo) (s : State) :
    (creditFines mass k s).now = s.now ∧
    (creditFines mass k s).mode = s.mode ∧
    (creditFines mass k s).activity = s.activity ∧
    (creditFines mass k s).tables = s.tables ∧
    (creditFines mass k s).tracker = s.tracker ∧
    (creditFines mass k s).lots = s.lots ∧
    (creditFines mass k s).arbiter = s.arbiter ∧
    (creditFines mass k s).belt = s.belt ∧
    (creditFines mass k s).head = s.head ∧
    (creditFines mass k s).engine = s.engine ∧
    (creditFines mass k s).router = s.router ∧
    (creditFines mass k s).notices = s.notices ∧
    (creditFines mass k s).cellPort = s.cellPort ∧
    (creditFines mass k s).plantPort = s.plantPort ∧
    (creditFines mass k s).eeprom = s.eeprom ∧
    (creditFines mass k s).draws = s.draws ∧
    (creditFines mass k s).pending = s.pending := by
  unfold creditFines
  dsimp only
  split <;> simp
@[simp] theorem creditFines_now (mass : Nat) (k : ClassNo) (s : State) : (creditFines mass k s).now = s.now := (creditFines_frame mass k s).1
@[simp] theorem creditFines_mode (mass : Nat) (k : ClassNo) (s : State) : (creditFines mass k s).mode = s.mode := (creditFines_frame mass k s).2.1
@[simp] theorem creditFines_activity (mass : Nat) (k : ClassNo) (s : State) : (creditFines mass k s).activity = s.activity := (creditFines_frame mass k s).2.2.1
@[simp] theorem creditFines_tables (mass : Nat) (k : ClassNo) (s : State) : (creditFines mass k s).tables = s.tables := (creditFines_frame mass k s).2.2.2.1
@[simp] theorem creditFines_tracker (mass : Nat) (k : ClassNo) (s : State) : (creditFines mass k s).tracker = s.tracker := (creditFines_frame mass k s).2.2.2.2.1
@[simp] theorem creditFines_lots (mass : Nat) (k : ClassNo) (s : State) : (creditFines mass k s).lots = s.lots := (creditFines_frame mass k s).2.2.2.2.2.1
@[simp] theorem creditFines_arbiter (mass : Nat) (k : ClassNo) (s : State) : (creditFines mass k s).arbiter = s.arbiter := (creditFines_frame mass k s).2.2.2.2.2.2.1
@[simp] theorem creditFines_belt (mass : Nat) (k : ClassNo) (s : State) : (creditFines mass k s).belt = s.belt := (creditFines_frame mass k s).2.2.2.2.2.2.2.1
@[simp] theorem creditFines_head (mass : Nat) (k : ClassNo) (s : State) : (creditFines mass k s).head = s.head := (creditFines_frame mass k s).2.2.2.2.2.2.2.2.1
@[simp] theorem creditFines_engine (mass : Nat) (k : ClassNo) (s : State) : (creditFines mass k s).engine = s.engine := (creditFines_frame mass k s).2.2.2.2.2.2.2.2.2.1
@[simp] theorem creditFines_router (mass : Nat) (k : ClassNo) (s : State) : (creditFines mass k s).router = s.router := (creditFines_frame mass k s).2.2.2.2.2.2.2.2.2.2.1
@[simp] theorem creditFines_notices (mass : Nat) (k : ClassNo) (s : State) : (creditFines mass k s).notices = s.notices := (creditFines_frame mass k s).2.2.2.2.2.2.2.2.2.2.2.1
@[simp] theorem creditFines_cellPort (mass : Nat) (k : ClassNo) (s : State) : (creditFines mass k s).cellPort = s.cellPort := (creditFines_frame mass k s).2.2.2.2.2.2.2.2.2.2.2.2.1
@[simp] theorem creditFines_plantPort (mass : Nat) (k : ClassNo) (s : State) : (creditFines mass k s).plantPort = s.plantPort := (creditFines_frame mass k s).2.2.2.2.2.2.2.2.2.2.2.2.2.1
@[simp] theorem creditFines_eeprom (mass : Nat) (k : ClassNo) (s : State) : (creditFines mass k s).eeprom = s.eeprom := (creditFines_frame mass k s).2.2.2.2.2.2.2.2.2.2.2.2.2.2.1
@[simp] theorem creditFines_draws (mass : Nat) (k : ClassNo) (s : State) : (creditFines mass k s).draws = s.draws := (creditFines_frame mass k s).2.2.2.2.2.2.2.2.2.2.2.2.2.2.2.1
@[simp] theorem creditFines_pending (mass : Nat) (k : ClassNo) (s : State) : (creditFines mass k s).pending = s.pending := (creditFines_frame mass k s).2.2.2.2.2.2.2.2.2.2.2.2.2.2.2.2

theorem enterWaitByDp_frame (d : DrumNo) (s : State) :
    (enterWaitByDp d s).now = s.now ∧
    (enterWaitByDp d s).mode = s.mode ∧
    (enterWaitByDp d s).activity = s.activity ∧
    (enterWaitByDp d s).tables = s.tables ∧
    (enterWaitByDp d s).tracker = s.tracker ∧
    (enterWaitByDp d s).lots = s.lots ∧
    (enterWaitByDp d s).arbiter = s.arbiter ∧
    (enterWaitByDp d s).belt = s.belt ∧
    (enterWaitByDp d s).head = s.head ∧
    (enterWaitByDp d s).engine = s.engine ∧
    (enterWaitByDp d s).router = s.router ∧
    (enterWaitByDp d s).notices = s.notices ∧
    (enterWaitByDp d s).cellPort = s.cellPort ∧
    (enterWaitByDp d s).plantPort = s.plantPort ∧
    (enterWaitByDp d s).eeprom = s.eeprom ∧
    (enterWaitByDp d s).draws = s.draws ∧
    (enterWaitByDp d s).pending = s.pending := by
  simp [enterWaitByDp]
@[simp] theorem enterWaitByDp_now (d : DrumNo) (s : State) : (enterWaitByDp d s).now = s.now := (enterWaitByDp_frame d s).1
@[simp] theorem enterWaitByDp_mode (d : DrumNo) (s : State) : (enterWaitByDp d s).mode = s.mode := (enterWaitByDp_frame d s).2.1
@[simp] theorem enterWaitByDp_activity (d : DrumNo) (s : State) : (enterWaitByDp d s).activity = s.activity := (enterWaitByDp_frame d s).2.2.1
@[simp] theorem enterWaitByDp_tables (d : DrumNo) (s : State) : (enterWaitByDp d s).tables = s.tables := (enterWaitByDp_frame d s).2.2.2.1
@[simp] theorem enterWaitByDp_tracker (d : DrumNo) (s : State) : (enterWaitByDp d s).tracker = s.tracker := (enterWaitByDp_frame d s).2.2.2.2.1
@[simp] theorem enterWaitByDp_lots (d : DrumNo) (s : State) : (enterWaitByDp d s).lots = s.lots := (enterWaitByDp_frame d s).2.2.2.2.2.1
@[simp] theorem enterWaitByDp_arbiter (d : DrumNo) (s : State) : (enterWaitByDp d s).arbiter = s.arbiter := (enterWaitByDp_frame d s).2.2.2.2.2.2.1
@[simp] theorem enterWaitByDp_belt (d : DrumNo) (s : State) : (enterWaitByDp d s).belt = s.belt := (enterWaitByDp_frame d s).2.2.2.2.2.2.2.1
@[simp] theorem enterWaitByDp_head (d : DrumNo) (s : State) : (enterWaitByDp d s).head = s.head := (enterWaitByDp_frame d s).2.2.2.2.2.2.2.2.1
@[simp] theorem enterWaitByDp_engine (d : DrumNo) (s : State) : (enterWaitByDp d s).engine = s.engine := (enterWaitByDp_frame d s).2.2.2.2.2.2.2.2.2.1
@[simp] theorem enterWaitByDp_router (d : DrumNo) (s : State) : (enterWaitByDp d s).router = s.router := (enterWaitByDp_frame d s).2.2.2.2.2.2.2.2.2.2.1
@[simp] theorem enterWaitByDp_notices (d : DrumNo) (s : State) : (enterWaitByDp d s).notices = s.notices := (enterWaitByDp_frame d s).2.2.2.2.2.2.2.2.2.2.2.1
@[simp] theorem enterWaitByDp_cellPort (d : DrumNo) (s : State) : (enterWaitByDp d s).cellPort = s.cellPort := (enterWaitByDp_frame d s).2.2.2.2.2.2.2.2.2.2.2.2.1
@[simp] theorem enterWaitByDp_plantPort (d : DrumNo) (s : State) : (enterWaitByDp d s).plantPort = s.plantPort := (enterWaitByDp_frame d s).2.2.2.2.2.2.2.2.2.2.2.2.2.1
@[simp] theorem enterWaitByDp_eeprom (d : DrumNo) (s : State) : (enterWaitByDp d s).eeprom = s.eeprom := (enterWaitByDp_frame d s).2.2.2.2.2.2.2.2.2.2.2.2.2.2.1
@[simp] theorem enterWaitByDp_draws (d : DrumNo) (s : State) : (enterWaitByDp d s).draws = s.draws := (enterWaitByDp_frame d s).2.2.2.2.2.2.2.2.2.2.2.2.2.2.2.1
@[simp] theorem enterWaitByDp_pending (d : DrumNo) (s : State) : (enterWaitByDp d s).pending = s.pending := (enterWaitByDp_frame d s).2.2.2.2.2.2.2.2.2.2.2.2.2.2.2.2

theorem opFilterSample_frame (drum : Byte) (dp : Half) (s : State) :
    (opFilterSample drum dp s).now = s.now ∧
    (opFilterSample drum dp s).mode = s.mode ∧
    (opFilterSample drum dp s).activity = s.activity ∧
    (opFilterSample drum dp s).tables = s.tables ∧
    (opFilterSample drum dp s).tracker = s.tracker ∧
    (opFilterSample drum dp s).lots = s.lots ∧
    (opFilterSample drum dp s).arbiter = s.arbiter ∧
    (opFilterSample drum dp s).belt = s.belt ∧
    (opFilterSample drum dp s).head = s.head ∧
    (opFilterSample drum dp s).engine = s.engine ∧
    (opFilterSample drum dp s).router = s.router ∧
    (opFilterSample drum dp s).notices = s.notices ∧
    (opFilterSample drum dp s).cellPort = s.cellPort ∧
    (opFilterSample drum dp s).plantPort = s.plantPort ∧
    (opFilterSample drum dp s).eeprom = s.eeprom ∧
    (opFilterSample drum dp s).draws = s.draws ∧
    (opFilterSample drum dp s).pending = s.pending := by
  unfold opFilterSample
  dsimp only
  repeat' split
  all_goals simp
@[simp] theorem opFilterSample_now (drum : Byte) (dp : Half) (s : State) : (opFilterSample drum dp s).now = s.now := (opFilterSample_frame drum dp s).1
@[simp] theorem opFilterSample_mode (drum : Byte) (dp : Half) (s : State) : (opFilterSample drum dp s).mode = s.mode := (opFilterSample_frame drum dp s).2.1
@[simp] theorem opFilterSample_activity (drum : Byte) (dp : Half) (s : State) : (opFilterSample drum dp s).activity = s.activity := (opFilterSample_frame drum dp s).2.2.1
@[simp] theorem opFilterSample_tables (drum : Byte) (dp : Half) (s : State) : (opFilterSample drum dp s).tables = s.tables := (opFilterSample_frame drum dp s).2.2.2.1
@[simp] theorem opFilterSample_tracker (drum : Byte) (dp : Half) (s : State) : (opFilterSample drum dp s).tracker = s.tracker := (opFilterSample_frame drum dp s).2.2.2.2.1
@[simp] theorem opFilterSample_lots (drum : Byte) (dp : Half) (s : State) : (opFilterSample drum dp s).lots = s.lots := (opFilterSample_frame drum dp s).2.2.2.2.2.1
@[simp] theorem opFilterSample_arbiter (drum : Byte) (dp : Half) (s : State) : (opFilterSample drum dp s).arbiter = s.arbiter := (opFilterSample_frame drum dp s).2.2.2.2.2.2.1
@[simp] theorem opFilterSample_belt (drum : Byte) (dp : Half) (s : State) : (opFilterSample drum dp s).belt = s.belt := (opFilterSample_frame drum dp s).2.2.2.2.2.2.2.1
@[simp] theorem opFilterSample_head (drum : Byte) (dp : Half) (s : State) : (opFilterSample drum dp s).head = s.head := (opFilterSample_frame drum dp s).2.2.2.2.2.2.2.2.1
@[simp] theorem opFilterSample_engine (drum : Byte) (dp : Half) (s : State) : (opFilterSample drum dp s).engine = s.engine := (opFilterSample_frame drum dp s).2.2.2.2.2.2.2.2.2.1
@[simp] theorem opFilterSample_router (drum : Byte) (dp : Half) (s : State) : (opFilterSample drum dp s).router = s.router := (opFilterSample_frame drum dp s).2.2.2.2.2.2.2.2.2.2.1
@[simp] theorem opFilterSample_notices (drum : Byte) (dp : Half) (s : State) : (opFilterSample drum dp s).notices = s.notices := (opFilterSample_frame drum dp s).2.2.2.2.2.2.2.2.2.2.2.1
@[simp] theorem opFilterSample_cellPort (drum : Byte) (dp : Half) (s : State) : (opFilterSample drum dp s).cellPort = s.cellPort := (opFilterSample_frame drum dp s).2.2.2.2.2.2.2.2.2.2.2.2.1
@[simp] theorem opFilterSample_plantPort (drum : Byte) (dp : Half) (s : State) : (opFilterSample drum dp s).plantPort = s.plantPort := (opFilterSample_frame drum dp s).2.2.2.2.2.2.2.2.2.2.2.2.2.1
@[simp] theorem opFilterSample_eeprom (drum : Byte) (dp : Half) (s : State) : (opFilterSample drum dp s).eeprom = s.eeprom := (opFilterSample_frame drum dp s).2.2.2.2.2.2.2.2.2.2.2.2.2.2.1
@[simp] theorem opFilterSample_draws (drum : Byte) (dp : Half) (s : State) : (opFilterSample drum dp s).draws = s.draws := (opFilterSample_frame drum dp s).2.2.2.2.2.2.2.2.2.2.2.2.2.2.2.1
@[simp] theorem opFilterSample_pending (drum : Byte) (dp : Half) (s : State) : (opFilterSample drum dp s).pending = s.pending := (opFilterSample_frame drum dp s).2.2.2.2.2.2.2.2.2.2.2.2.2.2.2.2

theorem opFlushTimeEnd_frame (d : DrumNo) (s : State) :
    (opFlushTimeEnd d s).now = s.now ∧
    (opFlushTimeEnd d s).mode = s.mode ∧
    (opFlushTimeEnd d s).activity = s.activity ∧
    (opFlushTimeEnd d s).tables = s.tables ∧
    (opFlushTimeEnd d s).tracker = s.tracker ∧
    (opFlushTimeEnd d s).lots = s.lots ∧
    (opFlushTimeEnd d s).arbiter = s.arbiter ∧
    (opFlushTimeEnd d s).belt = s.belt ∧
    (opFlushTimeEnd d s).head = s.head ∧
    (opFlushTimeEnd d s).engine = s.engine ∧
    (opFlushTimeEnd d s).router = s.router ∧
    (opFlushTimeEnd d s).notices = s.notices ∧
    (opFlushTimeEnd d s).cellPort = s.cellPort ∧
    (opFlushTimeEnd d s).plantPort = s.plantPort ∧
    (opFlushTimeEnd d s).eeprom = s.eeprom ∧
    (opFlushTimeEnd d s).draws = s.draws ∧
    (opFlushTimeEnd d s).raised = s.raised ∧
    (opFlushTimeEnd d s).pending = s.pending := by
  unfold opFlushTimeEnd
  repeat' split
  all_goals simp
@[simp] theorem opFlushTimeEnd_now (d : DrumNo) (s : State) : (opFlushTimeEnd d s).now = s.now := (opFlushTimeEnd_frame d s).1
@[simp] theorem opFlushTimeEnd_mode (d : DrumNo) (s : State) : (opFlushTimeEnd d s).mode = s.mode := (opFlushTimeEnd_frame d s).2.1
@[simp] theorem opFlushTimeEnd_activity (d : DrumNo) (s : State) : (opFlushTimeEnd d s).activity = s.activity := (opFlushTimeEnd_frame d s).2.2.1
@[simp] theorem opFlushTimeEnd_tables (d : DrumNo) (s : State) : (opFlushTimeEnd d s).tables = s.tables := (opFlushTimeEnd_frame d s).2.2.2.1
@[simp] theorem opFlushTimeEnd_tracker (d : DrumNo) (s : State) : (opFlushTimeEnd d s).tracker = s.tracker := (opFlushTimeEnd_frame d s).2.2.2.2.1
@[simp] theorem opFlushTimeEnd_lots (d : DrumNo) (s : State) : (opFlushTimeEnd d s).lots = s.lots := (opFlushTimeEnd_frame d s).2.2.2.2.2.1
@[simp] theorem opFlushTimeEnd_arbiter (d : DrumNo) (s : State) : (opFlushTimeEnd d s).arbiter = s.arbiter := (opFlushTimeEnd_frame d s).2.2.2.2.2.2.1
@[simp] theorem opFlushTimeEnd_belt (d : DrumNo) (s : State) : (opFlushTimeEnd d s).belt = s.belt := (opFlushTimeEnd_frame d s).2.2.2.2.2.2.2.1
@[simp] theorem opFlushTimeEnd_head (d : DrumNo) (s : State) : (opFlushTimeEnd d s).head = s.head := (opFlushTimeEnd_frame d s).2.2.2.2.2.2.2.2.1
@[simp] theorem opFlushTimeEnd_engine (d : DrumNo) (s : State) : (opFlushTimeEnd d s).engine = s.engine := (opFlushTimeEnd_frame d s).2.2.2.2.2.2.2.2.2.1
@[simp] theorem opFlushTimeEnd_router (d : DrumNo) (s : State) : (opFlushTimeEnd d s).router = s.router := (opFlushTimeEnd_frame d s).2.2.2.2.2.2.2.2.2.2.1
@[simp] theorem opFlushTimeEnd_notices (d : DrumNo) (s : State) : (opFlushTimeEnd d s).notices = s.notices := (opFlushTimeEnd_frame d s).2.2.2.2.2.2.2.2.2.2.2.1
@[simp] theorem opFlushTimeEnd_cellPort (d : DrumNo) (s : State) : (opFlushTimeEnd d s).cellPort = s.cellPort := (opFlushTimeEnd_frame d s).2.2.2.2.2.2.2.2.2.2.2.2.1
@[simp] theorem opFlushTimeEnd_plantPort (d : DrumNo) (s : State) : (opFlushTimeEnd d s).plantPort = s.plantPort := (opFlushTimeEnd_frame d s).2.2.2.2.2.2.2.2.2.2.2.2.2.1
@[simp] theorem opFlushTimeEnd_eeprom (d : DrumNo) (s : State) : (opFlushTimeEnd d s).eeprom = s.eeprom := (opFlushTimeEnd_frame d s).2.2.2.2.2.2.2.2.2.2.2.2.2.2.1
@[simp] theorem opFlushTimeEnd_draws (d : DrumNo) (s : State) : (opFlushTimeEnd d s).draws = s.draws := (opFlushTimeEnd_frame d s).2.2.2.2.2.2.2.2.2.2.2.2.2.2.2.1
@[simp] theorem opFlushTimeEnd_raised (d : DrumNo) (s : State) : (opFlushTimeEnd d s).raised = s.raised := (opFlushTimeEnd_frame d s).2.2.2.2.2.2.2.2.2.2.2.2.2.2.2.2.1
@[simp] theorem opFlushTimeEnd_pending (d : DrumNo) (s : State) : (opFlushTimeEnd d s).pending = s.pending := (opFlushTimeEnd_frame d s).2.2.2.2.2.2.2.2.2.2.2.2.2.2.2.2.2

theorem failDrum_frame (d : DrumNo) (s : State) :
    (failDrum d s).now = s.now ∧
    (failDrum d s).mode = s.mode ∧
    (failDrum d s).activity = s.activity ∧
    (failDrum d s).tables = s.tables ∧
    (failDrum d s).tracker = s.tracker ∧
    (failDrum d s).lots = s.lots ∧
    (failDrum d s).arbiter = s.arbiter ∧
    (failDrum d s).belt = s.belt ∧
    (failDrum d s).head = s.head ∧
    (failDrum d s).engine = s.engine ∧
    (failDrum d s).router = s.router ∧
    (failDrum d s).cellPort = s.cellPort ∧
    (failDrum d s).plantPort = s.plantPort ∧
    (failDrum d s).eeprom = s.eeprom ∧
    (failDrum d s).draws = s.draws ∧
    (failDrum d s).pending = s.pending := by
  simp [failDrum]
@[simp] theorem failDrum_now (d : DrumNo) (s : State) : (failDrum d s).now = s.now := (failDrum_frame d s).1
@[simp] theorem failDrum_mode (d : DrumNo) (s : State) : (failDrum d s).mode = s.mode := (failDrum_frame d s).2.1
@[simp] theorem failDrum_activity (d : DrumNo) (s : State) : (failDrum d s).activity = s.activity := (failDrum_frame d s).2.2.1
@[simp] theorem failDrum_tables (d : DrumNo) (s : State) : (failDrum d s).tables = s.tables := (failDrum_frame d s).2.2.2.1
@[simp] theorem failDrum_tracker (d : DrumNo) (s : State) : (failDrum d s).tracker = s.tracker := (failDrum_frame d s).2.2.2.2.1
@[simp] theorem failDrum_lots (d : DrumNo) (s : State) : (failDrum d s).lots = s.lots := (failDrum_frame d s).2.2.2.2.2.1
@[simp] theorem failDrum_arbiter (d : DrumNo) (s : State) : (failDrum d s).arbiter = s.arbiter := (failDrum_frame d s).2.2.2.2.2.2.1
@[simp] theorem failDrum_belt (d : DrumNo) (s : State) : (failDrum d s).belt = s.belt := (failDrum_frame d s).2.2.2.2.2.2.2.1
@[simp] theorem failDrum_head (d : DrumNo) (s : State) : (failDrum d s).head = s.head := (failDrum_frame d s).2.2.2.2.2.2.2.2.1
@[simp] theorem failDrum_engine (d : DrumNo) (s : State) : (failDrum d s).engine = s.engine := (failDrum_frame d s).2.2.2.2.2.2.2.2.2.1
@[simp] theorem failDrum_router (d : DrumNo) (s : State) : (failDrum d s).router = s.router := (failDrum_frame d s).2.2.2.2.2.2.2.2.2.2.1
@[simp] theorem failDrum_cellPort (d : DrumNo) (s : State) : (failDrum d s).cellPort = s.cellPort := (failDrum_frame d s).2.2.2.2.2.2.2.2.2.2.2.1
@[simp] theorem failDrum_plantPort (d : DrumNo) (s : State) : (failDrum d s).plantPort = s.plantPort := (failDrum_frame d s).2.2.2.2.2.2.2.2.2.2.2.2.1
@[simp] theorem failDrum_eeprom (d : DrumNo) (s : State) : (failDrum d s).eeprom = s.eeprom := (failDrum_frame d s).2.2.2.2.2.2.2.2.2.2.2.2.2.1
@[simp] theorem failDrum_draws (d : DrumNo) (s : State) : (failDrum d s).draws = s.draws := (failDrum_frame d s).2.2.2.2.2.2.2.2.2.2.2.2.2.2.1
@[simp] theorem failDrum_pending (d : DrumNo) (s : State) : (failDrum d s).pending = s.pending := (failDrum_frame d s).2.2.2.2.2.2.2.2.2.2.2.2.2.2.2

theorem settleOutcome_frame (d : DrumNo) (s : State) :
    (settleOutcome d s).now = s.now ∧
    (settleOutcome d s).mode = s.mode ∧
    (settleOutcome d s).activity = s.activity ∧
    (settleOutcome d s).tables = s.tables ∧
    (settleOutcome d s).tracker = s.tracker ∧
    (settleOutcome d s).lots = s.lots ∧
    (settleOutcome d s).arbiter = s.arbiter ∧
    (settleOutcome d s).belt = s.belt ∧
    (settleOutcome d s).head = s.head ∧
    (settleOutcome d s).engine = s.engine ∧
    (settleOutcome d s).router = s.router ∧
    (settleOutcome d s).cellPort = s.cellPort ∧
    (settleOutcome d s).plantPort = s.plantPort ∧
    (settleOutcome d s).eeprom = s.eeprom ∧
    (settleOutcome d s).draws = s.draws ∧
    (settleOutcome d s).pending = s.pending := by
  unfold settleOutcome
  dsimp only
  repeat' split
  all_goals simp
@[simp] theorem settleOutcome_now (d : DrumNo) (s : State) : (settleOutcome d s).now = s.now := (settleOutcome_frame d s).1
@[simp] theorem settleOutcome_mode (d : DrumNo) (s : State) : (settleOutcome d s).mode = s.mode := (settleOutcome_frame d s).2.1
@[simp] theorem settleOutcome_activity (d : DrumNo) (s : State) : (settleOutcome d s).activity = s.activity := (settleOutcome_frame d s).2.2.1
@[simp] theorem settleOutcome_tables (d : DrumNo) (s : State) : (settleOutcome d s).tables = s.tables := (settleOutcome_frame d s).2.2.2.1
@[simp] theorem settleOutcome_tracker (d : DrumNo) (s : State) : (settleOutcome d s).tracker = s.tracker := (settleOutcome_frame d s).2.2.2.2.1
@[simp] theorem settleOutcome_lots (d : DrumNo) (s : State) : (settleOutcome d s).lots = s.lots := (settleOutcome_frame d s).2.2.2.2.2.1
@[simp] theorem settleOutcome_arbiter (d : DrumNo) (s : State) : (settleOutcome d s).arbiter = s.arbiter := (settleOutcome_frame d s).2.2.2.2.2.2.1
@[simp] theorem settleOutcome_belt (d : DrumNo) (s : State) : (settleOutcome d s).belt = s.belt := (settleOutcome_frame d s).2.2.2.2.2.2.2.1
@[simp] theorem settleOutcome_head (d : DrumNo) (s : State) : (settleOutcome d s).head = s.head := (settleOutcome_frame d s).2.2.2.2.2.2.2.2.1
@[simp] theorem settleOutcome_engine (d : DrumNo) (s : State) : (settleOutcome d s).engine = s.engine := (settleOutcome_frame d s).2.2.2.2.2.2.2.2.2.1
@[simp] theorem settleOutcome_router (d : DrumNo) (s : State) : (settleOutcome d s).router = s.router := (settleOutcome_frame d s).2.2.2.2.2.2.2.2.2.2.1
@[simp] theorem settleOutcome_cellPort (d : DrumNo) (s : State) : (settleOutcome d s).cellPort = s.cellPort := (settleOutcome_frame d s).2.2.2.2.2.2.2.2.2.2.2.1
@[simp] theorem settleOutcome_plantPort (d : DrumNo) (s : State) : (settleOutcome d s).plantPort = s.plantPort := (settleOutcome_frame d s).2.2.2.2.2.2.2.2.2.2.2.2.1
@[simp] theorem settleOutcome_eeprom (d : DrumNo) (s : State) : (settleOutcome d s).eeprom = s.eeprom := (settleOutcome_frame d s).2.2.2.2.2.2.2.2.2.2.2.2.2.1
@[simp] theorem settleOutcome_draws (d : DrumNo) (s : State) : (settleOutcome d s).draws = s.draws := (settleOutcome_frame d s).2.2.2.2.2.2.2.2.2.2.2.2.2.2.1
@[simp] theorem settleOutcome_pending (d : DrumNo) (s : State) : (settleOutcome d s).pending = s.pending := (settleOutcome_frame d s).2.2.2.2.2.2.2.2.2.2.2.2.2.2.2

theorem opSettleTimeEnd_frame (d : DrumNo) (s : State) :
    (opSettleTimeEnd d s).now = s.now ∧
    (opSettleTimeEnd d s).mode = s.mode ∧
    (opSettleTimeEnd d s).activity = s.activity ∧
    (opSettleTimeEnd d s).tables = s.tables ∧
    (opSettleTimeEnd d s).tracker = s.tracker ∧
    (opSettleTimeEnd d s).lots = s.lots ∧
    (opSettleTimeEnd d s).arbiter = s.arbiter ∧
    (opSettleTimeEnd d s).belt = s.belt ∧
    (opSettleTimeEnd d s).head = s.head ∧
    (opSettleTimeEnd d s).engine = s.engine ∧
    (opSettleTimeEnd d s).router = s.router ∧
    (opSettleTimeEnd d s).cellPort = s.cellPort ∧
    (opSettleTimeEnd d s).plantPort = s.plantPort ∧
    (opSettleTimeEnd d s).eeprom = s.eeprom ∧
    (opSettleTimeEnd d s).draws = s.draws ∧
    (opSettleTimeEnd d s).pending = s.pending := by
  unfold opSettleTimeEnd
  repeat' split
  all_goals simp
@[simp] theorem opSettleTimeEnd_now (d : DrumNo) (s : State) : (opSettleTimeEnd d s).now = s.now := (opSettleTimeEnd_frame d s).1
@[simp] theorem opSettleTimeEnd_mode (d : DrumNo) (s : State) : (opSettleTimeEnd d s).mode = s.mode := (opSettleTimeEnd_frame d s).2.1
@[simp] theorem opSettleTimeEnd_activity (d : DrumNo) (s : State) : (opSettleTimeEnd d s).activity = s.activity := (opSettleTimeEnd_frame d s).2.2.1
@[simp] theorem opSettleTimeEnd_tables (d : DrumNo) (s : State) : (opSettleTimeEnd d s).tables = s.tables := (opSettleTimeEnd_frame d s).2.2.2.1
@[simp] theorem opSettleTimeEnd_tracker (d : DrumNo) (s : State) : (opSettleTimeEnd d s).tracker = s.tracker := (opSettleTimeEnd_frame d s).2.2.2.2.1
@[simp] theorem opSettleTimeEnd_lots (d : DrumNo) (s : State) : (opSettleTimeEnd d s).lots = s.lots := (opSettleTimeEnd_frame d s).2.2.2.2.2.1
@[simp] theorem opSettleTimeEnd_arbiter (d : DrumNo) (s : State) : (opSettleTimeEnd d s).arbiter = s.arbiter := (opSettleTimeEnd_frame d s).2.2.2.2.2.2.1
@[simp] theorem opSettleTimeEnd_belt (d : DrumNo) (s : State) : (opSettleTimeEnd d s).belt = s.belt := (opSettleTimeEnd_frame d s).2.2.2.2.2.2.2.1
@[simp] theorem opSettleTimeEnd_head (d : DrumNo) (s : State) : (opSettleTimeEnd d s).head = s.head := (opSettleTimeEnd_frame d s).2.2.2.2.2.2.2.2.1
@[simp] theorem opSettleTimeEnd_engine (d : DrumNo) (s : State) : (opSettleTimeEnd d s).engine = s.engine := (opSettleTimeEnd_frame d s).2.2.2.2.2.2.2.2.2.1
@[simp] theorem opSettleTimeEnd_router (d : DrumNo) (s : State) : (opSettleTimeEnd d s).router = s.router := (opSettleTimeEnd_frame d s).2.2.2.2.2.2.2.2.2.2.1
@[simp] theorem opSettleTimeEnd_cellPort (d : DrumNo) (s : State) : (opSettleTimeEnd d s).cellPort = s.cellPort := (opSettleTimeEnd_frame d s).2.2.2.2.2.2.2.2.2.2.2.1
@[simp] theorem opSettleTimeEnd_plantPort (d : DrumNo) (s : State) : (opSettleTimeEnd d s).plantPort = s.plantPort := (opSettleTimeEnd_frame d s).2.2.2.2.2.2.2.2.2.2.2.2.1
@[simp] theorem opSettleTimeEnd_eeprom (d : DrumNo) (s : State) : (opSettleTimeEnd d s).eeprom = s.eeprom := (opSettleTimeEnd_frame d s).2.2.2.2.2.2.2.2.2.2.2.2.2.1
@[simp] theorem opSettleTimeEnd_draws (d : DrumNo) (s : State) : (opSettleTimeEnd d s).draws = s.draws := (opSettleTimeEnd_frame d s).2.2.2.2.2.2.2.2.2.2.2.2.2.2.1
@[simp] theorem opSettleTimeEnd_pending (d : DrumNo) (s : State) : (opSettleTimeEnd d s).pending = s.pending := (opSettleTimeEnd_frame d s).2.2.2.2.2.2.2.2.2.2.2.2.2.2.2

theorem opFlushWaitLimit_frame (d : DrumNo) (s : State) :
    (opFlushWaitLimit d s).now = s.now ∧
    (opFlushWaitLimit d s).mode = s.mode ∧
    (opFlushWaitLimit d s).activity = s.activity ∧
    (opFlushWaitLimit d s).tables = s.tables ∧
    (opFlushWaitLimit d s).tracker = s.tracker ∧
    (opFlushWaitLimit d s).lots = s.lots ∧
    (opFlushWaitLimit d s).arbiter = s.arbiter ∧
    (opFlushWaitLimit d s).belt = s.belt ∧
    (opFlushWaitLimit d s).head = s.head ∧
    (opFlushWaitLimit d s).engine = s.engine ∧
    (opFlushWaitLimit d s).router = s.router ∧
    (opFlushWaitLimit d s).notices = s.notices ∧
    (opFlushWaitLimit d s).cellPort = s.cellPort ∧
    (opFlushWaitLimit d s).plantPort = s.plantPort ∧
    (opFlushWaitLimit d s).eeprom = s.eeprom ∧
    (opFlushWaitLimit d s).draws = s.draws ∧
    (opFlushWaitLimit d s).pending = s.pending := by
  unfold opFlushWaitLimit
  repeat' split
  all_goals simp
@[simp] theorem opFlushWaitLimit_now (d : DrumNo) (s : State) : (opFlushWaitLimit d s).now = s.now := (opFlushWaitLimit_frame d s).1
@[simp] theorem opFlushWaitLimit_mode (d : DrumNo) (s : State) : (opFlushWaitLimit d s).mode = s.mode := (opFlushWaitLimit_frame d s).2.1
@[simp] theorem opFlushWaitLimit_activity (d : DrumNo) (s : State) : (opFlushWaitLimit d s).activity = s.activity := (opFlushWaitLimit_frame d s).2.2.1
@[simp] theorem opFlushWaitLimit_tables (d : DrumNo) (s : State) : (opFlushWaitLimit d s).tables = s.tables := (opFlushWaitLimit_frame d s).2.2.2.1
@[simp] theorem opFlushWaitLimit_tracker (d : DrumNo) (s : State) : (opFlushWaitLimit d s).tracker = s.tracker := (opFlushWaitLimit_frame d s).2.2.2.2.1
@[simp] theorem opFlushWaitLimit_lots (d : DrumNo) (s : State) : (opFlushWaitLimit d s).lots = s.lots := (opFlushWaitLimit_frame d s).2.2.2.2.2.1
@[simp] theorem opFlushWaitLimit_arbiter (d : DrumNo) (s : State) : (opFlushWaitLimit d s).arbiter = s.arbiter := (opFlushWaitLimit_frame d s).2.2.2.2.2.2.1
@[simp] theorem opFlushWaitLimit_belt (d : DrumNo) (s : State) : (opFlushWaitLimit d s).belt = s.belt := (opFlushWaitLimit_frame d s).2.2.2.2.2.2.2.1
@[simp] theorem opFlushWaitLimit_head (d : DrumNo) (s : State) : (opFlushWaitLimit d s).head = s.head := (opFlushWaitLimit_frame d s).2.2.2.2.2.2.2.2.1
@[simp] theorem opFlushWaitLimit_engine (d : DrumNo) (s : State) : (opFlushWaitLimit d s).engine = s.engine := (opFlushWaitLimit_frame d s).2.2.2.2.2.2.2.2.2.1
@[simp] theorem opFlushWaitLimit_router (d : DrumNo) (s : State) : (opFlushWaitLimit d s).router = s.router := (opFlushWaitLimit_frame d s).2.2.2.2.2.2.2.2.2.2.1
@[simp] theorem opFlushWaitLimit_notices (d : DrumNo) (s : State) : (opFlushWaitLimit d s).notices = s.notices := (opFlushWaitLimit_frame d s).2.2.2.2.2.2.2.2.2.2.2.1
@[simp] theorem opFlushWaitLimit_cellPort (d : DrumNo) (s : State) : (opFlushWaitLimit d s).cellPort = s.cellPort := (opFlushWaitLimit_frame d s).2.2.2.2.2.2.2.2.2.2.2.2.1
@[simp] theorem opFlushWaitLimit_plantPort (d : DrumNo) (s : State) : (opFlushWaitLimit d s).plantPort = s.plantPort := (opFlushWaitLimit_frame d s).2.2.2.2.2.2.2.2.2.2.2.2.2.1
@[simp] theorem opFlushWaitLimit_eeprom (d : DrumNo) (s : State) : (opFlushWaitLimit d s).eeprom = s.eeprom := (opFlushWaitLimit_frame d s).2.2.2.2.2.2.2.2.2.2.2.2.2.2.1
@[simp] theorem opFlushWaitLimit_draws (d : DrumNo) (s : State) : (opFlushWaitLimit d s).draws = s.draws := (opFlushWaitLimit_frame d s).2.2.2.2.2.2.2.2.2.2.2.2.2.2.2.1
@[simp] theorem opFlushWaitLimit_pending (d : DrumNo) (s : State) : (opFlushWaitLimit d s).pending = s.pending := (opFlushWaitLimit_frame d s).2.2.2.2.2.2.2.2.2.2.2.2.2.2.2.2

theorem retestDrum_frame (d : DrumNo) (s : State) :
    (retestDrum d s).now = s.now ∧
    (retestDrum d s).mode = s.mode ∧
    (retestDrum d s).activity = s.activity ∧
    (retestDrum d s).tables = s.tables ∧
    (retestDrum d s).tracker = s.tracker ∧
    (retestDrum d s).lots = s.lots ∧
    (retestDrum d s).arbiter = s.arbiter ∧
    (retestDrum d s).belt = s.belt ∧
    (retestDrum d s).head = s.head ∧
    (retestDrum d s).engine = s.engine ∧
    (retestDrum d s).router = s.router ∧
    (retestDrum d s).notices = s.notices ∧
    (retestDrum d s).coalescer = s.coalescer ∧
    (retestDrum d s).cellPort = s.cellPort ∧
    (retestDrum d s).plantPort = s.plantPort ∧
    (retestDrum d s).eeprom = s.eeprom ∧
    (retestDrum d s).draws = s.draws ∧
    (retestDrum d s).handed = s.handed ∧
    (retestDrum d s).pending = s.pending := by
  unfold retestDrum
  repeat' split
  all_goals simp
@[simp] theorem retestDrum_now (d : DrumNo) (s : State) : (retestDrum d s).now = s.now := (retestDrum_frame d s).1
@[simp] theorem retestDrum_mode (d : DrumNo) (s : State) : (retestDrum d s).mode = s.mode := (retestDrum_frame d s).2.1
@[simp] theorem retestDrum_activity (d : DrumNo) (s : State) : (retestDrum d s).activity = s.activity := (retestDrum_frame d s).2.2.1
@[simp] theorem retestDrum_tables (d : DrumNo) (s : State) : (retestDrum d s).tables = s.tables := (retestDrum_frame d s).2.2.2.1
@[simp] theorem retestDrum_tracker (d : DrumNo) (s : State) : (retestDrum d s).tracker = s.tracker := (retestDrum_frame d s).2.2.2.2.1
@[simp] theorem retestDrum_lots (d : DrumNo) (s : State) : (retestDrum d s).lots = s.lots := (retestDrum_frame d s).2.2.2.2.2.1
@[simp] theorem retestDrum_arbiter (d : DrumNo) (s : State) : (retestDrum d s).arbiter = s.arbiter := (retestDrum_frame d s).2.2.2.2.2.2.1
@[simp] theorem retestDrum_belt (d : DrumNo) (s : State) : (retestDrum d s).belt = s.belt := (retestDrum_frame d s).2.2.2.2.2.2.2.1
@[simp] theorem retestDrum_head (d : DrumNo) (s : State) : (retestDrum d s).head = s.head := (retestDrum_frame d s).2.2.2.2.2.2.2.2.1
@[simp] theorem retestDrum_engine (d : DrumNo) (s : State) : (retestDrum d s).engine = s.engine := (retestDrum_frame d s).2.2.2.2.2.2.2.2.2.1
@[simp] theorem retestDrum_router (d : DrumNo) (s : State) : (retestDrum d s).router = s.router := (retestDrum_frame d s).2.2.2.2.2.2.2.2.2.2.1
@[simp] theorem retestDrum_notices (d : DrumNo) (s : State) : (retestDrum d s).notices = s.notices := (retestDrum_frame d s).2.2.2.2.2.2.2.2.2.2.2.1
@[simp] theorem retestDrum_coalescer (d : DrumNo) (s : State) : (retestDrum d s).coalescer = s.coalescer := (retestDrum_frame d s).2.2.2.2.2.2.2.2.2.2.2.2.1
@[simp] theorem retestDrum_cellPort (d : DrumNo) (s : State) : (retestDrum d s).cellPort = s.cellPort := (retestDrum_frame d s).2.2.2.2.2.2.2.2.2.2.2.2.2.1
@[simp] theorem retestDrum_plantPort (d : DrumNo) (s : State) : (retestDrum d s).plantPort = s.plantPort := (retestDrum_frame d s).2.2.2.2.2.2.2.2.2.2.2.2.2.2.1
@[simp] theorem retestDrum_eeprom (d : DrumNo) (s : State) : (retestDrum d s).eeprom = s.eeprom := (retestDrum_frame d s).2.2.2.2.2.2.2.2.2.2.2.2.2.2.2.1
@[simp] theorem retestDrum_draws (d : DrumNo) (s : State) : (retestDrum d s).draws = s.draws := (retestDrum_frame d s).2.2.2.2.2.2.2.2.2.2.2.2.2.2.2.2.1
@[simp] theorem retestDrum_handed (d : DrumNo) (s : State) : (retestDrum d s).handed = s.handed := (retestDrum_frame d s).2.2.2.2.2.2.2.2.2.2.2.2.2.2.2.2.2.1
@[simp] theorem retestDrum_pending (d : DrumNo) (s : State) : (retestDrum d s).pending = s.pending := (retestDrum_frame d s).2.2.2.2.2.2.2.2.2.2.2.2.2.2.2.2.2.2

theorem applyDrum_frame (d : DrumNo) (old : DrumEntry) (s : State) :
    (applyDrum d old s).now = s.now ∧
    (applyDrum d old s).mode = s.mode ∧
    (applyDrum d old s).activity = s.activity ∧
    (applyDrum d old s).tables = s.tables ∧
    (applyDrum d old s).tracker = s.tracker ∧
    (applyDrum d old s).lots = s.lots ∧
    (applyDrum d old s).arbiter = s.arbiter ∧
    (applyDrum d old s).belt = s.belt ∧
    (applyDrum d old s).head = s.head ∧
    (applyDrum d old s).engine = s.engine ∧
    (applyDrum d old s).router = s.router ∧
    (applyDrum d old s).notices = s.notices ∧
    (applyDrum d old s).cellPort = s.cellPort ∧
    (applyDrum d old s).plantPort = s.plantPort ∧
    (applyDrum d old s).eeprom = s.eeprom ∧
    (applyDrum d old s).draws = s.draws ∧
    (applyDrum d old s).pending = s.pending := by
  unfold applyDrum
  dsimp only
  repeat' split
  all_goals simp
@[simp] theorem applyDrum_now (d : DrumNo) (old : DrumEntry) (s : State) : (applyDrum d old s).now = s.now := (applyDrum_frame d old s).1
@[simp] theorem applyDrum_mode (d : DrumNo) (old : DrumEntry) (s : State) : (applyDrum d old s).mode = s.mode := (applyDrum_frame d old s).2.1
@[simp] theorem applyDrum_activity (d : DrumNo) (old : DrumEntry) (s : State) : (applyDrum d old s).activity = s.activity := (applyDrum_frame d old s).2.2.1
@[simp] theorem applyDrum_tables (d : DrumNo) (old : DrumEntry) (s : State) : (applyDrum d old s).tables = s.tables := (applyDrum_frame d old s).2.2.2.1
@[simp] theorem applyDrum_tracker (d : DrumNo) (old : DrumEntry) (s : State) : (applyDrum d old s).tracker = s.tracker := (applyDrum_frame d old s).2.2.2.2.1
@[simp] theorem applyDrum_lots (d : DrumNo) (old : DrumEntry) (s : State) : (applyDrum d old s).lots = s.lots := (applyDrum_frame d old s).2.2.2.2.2.1
@[simp] theorem applyDrum_arbiter (d : DrumNo) (old : DrumEntry) (s : State) : (applyDrum d old s).arbiter = s.arbiter := (applyDrum_frame d old s).2.2.2.2.2.2.1
@[simp] theorem applyDrum_belt (d : DrumNo) (old : DrumEntry) (s : State) : (applyDrum d old s).belt = s.belt := (applyDrum_frame d old s).2.2.2.2.2.2.2.1
@[simp] theorem applyDrum_head (d : DrumNo) (old : DrumEntry) (s : State) : (applyDrum d old s).head = s.head := (applyDrum_frame d old s).2.2.2.2.2.2.2.2.1
@[simp] theorem applyDrum_engine (d : DrumNo) (old : DrumEntry) (s : State) : (applyDrum d old s).engine = s.engine := (applyDrum_frame d old s).2.2.2.2.2.2.2.2.2.1
@[simp] theorem applyDrum_router (d : DrumNo) (old : DrumEntry) (s : State) : (applyDrum d old s).router = s.router := (applyDrum_frame d old s).2.2.2.2.2.2.2.2.2.2.1
@[simp] theorem applyDrum_notices (d : DrumNo) (old : DrumEntry) (s : State) : (applyDrum d old s).notices = s.notices := (applyDrum_frame d old s).2.2.2.2.2.2.2.2.2.2.2.1
@[simp] theorem applyDrum_cellPort (d : DrumNo) (old : DrumEntry) (s : State) : (applyDrum d old s).cellPort = s.cellPort := (applyDrum_frame d old s).2.2.2.2.2.2.2.2.2.2.2.2.1
@[simp] theorem applyDrum_plantPort (d : DrumNo) (old : DrumEntry) (s : State) : (applyDrum d old s).plantPort = s.plantPort := (applyDrum_frame d old s).2.2.2.2.2.2.2.2.2.2.2.2.2.1
@[simp] theorem applyDrum_eeprom (d : DrumNo) (old : DrumEntry) (s : State) : (applyDrum d old s).eeprom = s.eeprom := (applyDrum_frame d old s).2.2.2.2.2.2.2.2.2.2.2.2.2.2.1
@[simp] theorem applyDrum_draws (d : DrumNo) (old : DrumEntry) (s : State) : (applyDrum d old s).draws = s.draws := (applyDrum_frame d old s).2.2.2.2.2.2.2.2.2.2.2.2.2.2.2.1
@[simp] theorem applyDrum_pending (d : DrumNo) (old : DrumEntry) (s : State) : (applyDrum d old s).pending = s.pending := (applyDrum_frame d old s).2.2.2.2.2.2.2.2.2.2.2.2.2.2.2.2


end Sys2Proof.Machine
end

