-- ==== Sys2Proof/Laws/Lots.lean ====
section
/-! SUPPORT. What the head gate, the lot table and the discharge arbiter leave alone (Machine/Gate.lean, Machine/Lots.lean, Machine/Arbiter.lean). -/

namespace Sys2Proof.Machine

theorem handMove_frame (r : RouteNo) (s : State) :
    (handMove r s).now = s.now ∧
    (handMove r s).mode = s.mode ∧
    (handMove r s).activity = s.activity ∧
    (handMove r s).tables = s.tables ∧
    (handMove r s).tracker = s.tracker ∧
    (handMove r s).lots = s.lots ∧
    (handMove r s).arbiter = s.arbiter ∧
    (handMove r s).belt = s.belt ∧
    (handMove r s).head = s.head ∧
    (handMove r s).filtration = s.filtration ∧
    (handMove r s).engine = s.engine ∧
    (handMove r s).router = s.router ∧
    (handMove r s).notices = s.notices ∧
    (handMove r s).cellPort = s.cellPort ∧
    (handMove r s).plantPort = s.plantPort ∧
    (handMove r s).eeprom = s.eeprom ∧
    (handMove r s).draws = s.draws ∧
    (handMove r s).raised = s.raised ∧
    (handMove r s).pending = s.pending := by
  simp [handMove]
@[simp] theorem handMove_now (r : RouteNo) (s : State) : (handMove r s).now = s.now := (handMove_frame r s).1
@[simp] theorem handMove_mode (r : RouteNo) (s : State) : (handMove r s).mode = s.mode := (handMove_frame r s).2.1
@[simp] theorem handMove_activity (r : RouteNo) (s : State) : (handMove r s).activity = s.activity := (handMove_frame r s).2.2.1
@[simp] theorem handMove_tables (r : RouteNo) (s : State) : (handMove r s).tables = s.tables := (handMove_frame r s).2.2.2.1
@[simp] theorem handMove_tracker (r : RouteNo) (s : State) : (handMove r s).tracker = s.tracker := (handMove_frame r s).2.2.2.2.1
@[simp] theorem handMove_lots (r : RouteNo) (s : State) : (handMove r s).lots = s.lots := (handMove_frame r s).2.2.2.2.2.1
@[simp] theorem handMove_arbiter (r : RouteNo) (s : State) : (handMove r s).arbiter = s.arbiter := (handMove_frame r s).2.2.2.2.2.2.1
@[simp] theorem handMove_belt (r : RouteNo) (s : State) : (handMove r s).belt = s.belt := (handMove_frame r s).2.2.2.2.2.2.2.1
@[simp] theorem handMove_head (r : RouteNo) (s : State) : (handMove r s).head = s.head := (handMove_frame r s).2.2.2.2.2.2.2.2.1
@[simp] theorem handMove_filtration (r : RouteNo) (s : State) : (handMove r s).filtration = s.filtration := (handMove_frame r s).2.2.2.2.2.2.2.2.2.1
@[simp] theorem handMove_engine (r : RouteNo) (s : State) : (handMove r s).engine = s.engine := (handMove_frame r s).2.2.2.2.2.2.2.2.2.2.1
@[simp] theorem handMove_router (r : RouteNo) (s : State) : (handMove r s).router = s.router := (handMove_frame r s).2.2.2.2.2.2.2.2.2.2.2.1
@[simp] theorem handMove_notices (r : RouteNo) (s : State) : (handMove r s).notices = s.notices := (handMove_frame r s).2.2.2.2.2.2.2.2.2.2.2.2.1
@[simp] theorem handMove_cellPort (r : RouteNo) (s : State) : (handMove r s).cellPort = s.cellPort := (handMove_frame r s).2.2.2.2.2.2.2.2.2.2.2.2.2.1
@[simp] theorem handMove_plantPort (r : RouteNo) (s : State) : (handMove r s).plantPort = s.plantPort := (handMove_frame r s).2.2.2.2.2.2.2.2.2.2.2.2.2.2.1
@[simp] theorem handMove_eeprom (r : RouteNo) (s : State) : (handMove r s).eeprom = s.eeprom := (handMove_frame r s).2.2.2.2.2.2.2.2.2.2.2.2.2.2.2.1
@[simp] theorem handMove_draws (r : RouteNo) (s : State) : (handMove r s).draws = s.draws := (handMove_frame r s).2.2.2.2.2.2.2.2.2.2.2.2.2.2.2.2.1
@[simp] theorem handMove_raised (r : RouteNo) (s : State) : (handMove r s).raised = s.raised := (handMove_frame r s).2.2.2.2.2.2.2.2.2.2.2.2.2.2.2.2.2.1
@[simp] theorem handMove_pending (r : RouteNo) (s : State) : (handMove r s).pending = s.pending := (handMove_frame r s).2.2.2.2.2.2.2.2.2.2.2.2.2.2.2.2.2.2

theorem startTravel_frame (r : RouteNo) (s : State) :
    (startTravel r s).now = s.now ∧
    (startTravel r s).mode = s.mode ∧
    (startTravel r s).activity = s.activity ∧
    (startTravel r s).tables = s.tables ∧
    (startTravel r s).tracker = s.tracker ∧
    (startTravel r s).lots = s.lots ∧
    (startTravel r s).arbiter = s.arbiter ∧
    (startTravel r s).belt = s.belt ∧
    (startTravel r s).filtration = s.filtration ∧
    (startTravel r s).engine = s.engine ∧
    (startTravel r s).router = s.router ∧
    (startTravel r s).notices = s.notices ∧
    (startTravel r s).cellPort = s.cellPort ∧
    (startTravel r s).plantPort = s.plantPort ∧
    (startTravel r s).eeprom = s.eeprom ∧
    (startTravel r s).draws = s.draws ∧
    (startTravel r s).raised = s.raised ∧
    (startTravel r s).pending = s.pending := by
  unfold startTravel
  repeat' split
  all_goals simp
@[simp] theorem startTravel_now (r : RouteNo) (s : State) : (startTravel r s).now = s.now := (startTravel_frame r s).1
@[simp] theorem startTravel_mode (r : RouteNo) (s : State) : (startTravel r s).mode = s.mode := (startTravel_frame r s).2.1
@[simp] theorem startTravel_activity (r : RouteNo) (s : State) : (startTravel r s).activity = s.activity := (startTravel_frame r s).2.2.1
@[simp] theorem startTravel_tables (r : RouteNo) (s : State) : (startTravel r s).tables = s.tables := (startTravel_frame r s).2.2.2.1
@[simp] theorem startTravel_tracker (r : RouteNo) (s : State) : (startTravel r s).tracker = s.tracker := (startTravel_frame r s).2.2.2.2.1
@[simp] theorem startTravel_lots (r : RouteNo) (s : State) : (startTravel r s).lots = s.lots := (startTravel_frame r s).2.2.2.2.2.1
@[simp] theorem startTravel_arbiter (r : RouteNo) (s : State) : (startTravel r s).arbiter = s.arbiter := (startTravel_frame r s).2.2.2.2.2.2.1
@[simp] theorem startTravel_belt (r : RouteNo) (s : State) : (startTravel r s).belt = s.belt := (startTravel_frame r s).2.2.2.2.2.2.2.1
@[simp] theorem startTravel_filtration (r : RouteNo) (s : State) : (startTravel r s).filtration = s.filtration := (startTravel_frame r s).2.2.2.2.2.2.2.2.1
@[simp] theorem startTravel_engine (r : RouteNo) (s : State) : (startTravel r s).engine = s.engine := (startTravel_frame r s).2.2.2.2.2.2.2.2.2.1
@[simp] theorem startTravel_router (r : RouteNo) (s : State) : (startTravel r s).router = s.router := (startTravel_frame r s).2.2.2.2.2.2.2.2.2.2.1
@[simp] theorem startTravel_notices (r : RouteNo) (s : State) : (startTravel r s).notices = s.notices := (startTravel_frame r s).2.2.2.2.2.2.2.2.2.2.2.1
@[simp] theorem startTravel_cellPort (r : RouteNo) (s : State) : (startTravel r s).cellPort = s.cellPort := (startTravel_frame r s).2.2.2.2.2.2.2.2.2.2.2.2.1
@[simp] theorem startTravel_plantPort (r : RouteNo) (s : State) : (startTravel r s).plantPort = s.plantPort := (startTravel_frame r s).2.2.2.2.2.2.2.2.2.2.2.2.2.1
@[simp] theorem startTravel_eeprom (r : RouteNo) (s : State) : (startTravel r s).eeprom = s.eeprom := (startTravel_frame r s).2.2.2.2.2.2.2.2.2.2.2.2.2.2.1
@[simp] theorem startTravel_draws (r : RouteNo) (s : State) : (startTravel r s).draws = s.draws := (startTravel_frame r s).2.2.2.2.2.2.2.2.2.2.2.2.2.2.2.1
@[simp] theorem startTravel_raised (r : RouteNo) (s : State) : (startTravel r s).raised = s.raised := (startTravel_frame r s).2.2.2.2.2.2.2.2.2.2.2.2.2.2.2.2.1
@[simp] theorem startTravel_pending (r : RouteNo) (s : State) : (startTravel r s).pending = s.pending := (startTravel_frame r s).2.2.2.2.2.2.2.2.2.2.2.2.2.2.2.2.2

theorem evalGate_frame (s : State) :
    (evalGate s).now = s.now ∧
    (evalGate s).mode = s.mode ∧
    (evalGate s).activity = s.activity ∧
    (evalGate s).tables = s.tables ∧
    (evalGate s).tracker = s.tracker ∧
    (evalGate s).lots = s.lots ∧
    (evalGate s).arbiter = s.arbiter ∧
    (evalGate s).belt = s.belt ∧
    (evalGate s).filtration = s.filtration ∧
    (evalGate s).engine = s.engine ∧
    (evalGate s).router = s.router ∧
    (evalGate s).notices = s.notices ∧
    (evalGate s).cellPort = s.cellPort ∧
    (evalGate s).plantPort = s.plantPort ∧
    (evalGate s).eeprom = s.eeprom ∧
    (evalGate s).draws = s.draws ∧
    (evalGate s).raised = s.raised ∧
    (evalGate s).pending = s.pending := by
  unfold evalGate
  repeat' split
  all_goals simp
@[simp] theorem evalGate_now (s : State) : (evalGate s).now = s.now := (evalGate_frame s).1
@[simp] theorem evalGate_mode (s : State) : (evalGate s).mode = s.mode := (evalGate_frame s).2.1
@[simp] theorem evalGate_activity (s : State) : (evalGate s).activity = s.activity := (evalGate_frame s).2.2.1
@[simp] theorem evalGate_tables (s : State) : (evalGate s).tables = s.tables := (evalGate_frame s).2.2.2.1
@[simp] theorem evalGate_tracker (s : State) : (evalGate s).tracker = s.tracker := (evalGate_frame s).2.2.2.2.1
@[simp] theorem evalGate_lots (s : State) : (evalGate s).lots = s.lots := (evalGate_frame s).2.2.2.2.2.1
@[simp] theorem evalGate_arbiter (s : State) : (evalGate s).arbiter = s.arbiter := (evalGate_frame s).2.2.2.2.2.2.1
@[simp] theorem evalGate_belt (s : State) : (evalGate s).belt = s.belt := (evalGate_frame s).2.2.2.2.2.2.2.1
@[simp] theorem evalGate_filtration (s : State) : (evalGate s).filtration = s.filtration := (evalGate_frame s).2.2.2.2.2.2.2.2.1
@[simp] theorem evalGate_engine (s : State) : (evalGate s).engine = s.engine := (evalGate_frame s).2.2.2.2.2.2.2.2.2.1
@[simp] theorem evalGate_router (s : State) : (evalGate s).router = s.router := (evalGate_frame s).2.2.2.2.2.2.2.2.2.2.1
@[simp] theorem evalGate_notices (s : State) : (evalGate s).notices = s.notices := (evalGate_frame s).2.2.2.2.2.2.2.2.2.2.2.1
@[simp] theorem evalGate_cellPort (s : State) : (evalGate s).cellPort = s.cellPort := (evalGate_frame s).2.2.2.2.2.2.2.2.2.2.2.2.1
@[simp] theorem evalGate_plantPort (s : State) : (evalGate s).plantPort = s.plantPort := (evalGate_frame s).2.2.2.2.2.2.2.2.2.2.2.2.2.1
@[simp] theorem evalGate_eeprom (s : State) : (evalGate s).eeprom = s.eeprom := (evalGate_frame s).2.2.2.2.2.2.2.2.2.2.2.2.2.2.1
@[simp] theorem evalGate_draws (s : State) : (evalGate s).draws = s.draws := (evalGate_frame s).2.2.2.2.2.2.2.2.2.2.2.2.2.2.2.1
@[simp] theorem evalGate_raised (s : State) : (evalGate s).raised = s.raised := (evalGate_frame s).2.2.2.2.2.2.2.2.2.2.2.2.2.2.2.2.1
@[simp] theorem evalGate_pending (s : State) : (evalGate s).pending = s.pending := (evalGate_frame s).2.2.2.2.2.2.2.2.2.2.2.2.2.2.2.2.2

theorem losePosition_frame (settled : RouteNo) (s : State) :
    (losePosition settled s).now = s.now ∧
    (losePosition settled s).mode = s.mode ∧
    (losePosition settled s).activity = s.activity ∧
    (losePosition settled s).tables = s.tables ∧
    (losePosition settled s).tracker = s.tracker ∧
    (losePosition settled s).lots = s.lots ∧
    (losePosition settled s).arbiter = s.arbiter ∧
    (losePosition settled s).belt = s.belt ∧
    (losePosition settled s).filtration = s.filtration ∧
    (losePosition settled s).engine = s.engine ∧
    (losePosition settled s).router = s.router ∧
    (losePosition settled s).notices = s.notices ∧
    (losePosition settled s).cellPort = s.cellPort ∧
    (losePosition settled s).plantPort = s.plantPort ∧
    (losePosition settled s).eeprom = s.eeprom ∧
    (losePosition settled s).draws = s.draws ∧
    (losePosition settled s).raised = s.raised ∧
    (losePosition settled s).pending = s.pending := by
  simp [losePosition]
@[simp] theorem losePosition_now (settled : RouteNo) (s : State) : (losePosition settled s).now = s.now := (losePosition_frame settled s).1
@[simp] theorem losePosition_mode (settled : RouteNo) (s : State) : (losePosition settled s).mode = s.mode := (losePosition_frame settled s).2.1
@[simp] theorem losePosition_activity (settled : RouteNo) (s : State) : (losePosition settled s).activity = s.activity := (losePosition_frame settled s).2.2.1
@[simp] theorem losePosition_tables (settled : RouteNo) (s : State) : (losePosition settled s).tables = s.tables := (losePosition_frame settled s).2.2.2.1
@[simp] theorem losePosition_tracker (settled : RouteNo) (s : State) : (losePosition settled s).tracker = s.tracker := (losePosition_frame settled s).2.2.2.2.1
@[simp] theorem losePosition_lots (settled : RouteNo) (s : State) : (losePosition settled s).lots = s.lots := (losePosition_frame settled s).2.2.2.2.2.1
@[simp] theorem losePosition_arbiter (settled : RouteNo) (s : State) : (losePosition settled s).arbiter = s.arbiter := (losePosition_frame settled s).2.2.2.2.2.2.1
@[simp] theorem losePosition_belt (settled : RouteNo) (s : State) : (losePosition settled s).belt = s.belt := (losePosition_frame settled s).2.2.2.2.2.2.2.1
@[simp] theorem losePosition_filtration (settled : RouteNo) (s : State) : (losePosition settled s).filtration = s.filtration := (losePosition_frame settled s).2.2.2.2.2.2.2.2.1
@[simp] theorem losePosition_engine (settled : RouteNo) (s : State) : (losePosition settled s).engine = s.engine := (losePosition_frame settled s).2.2.2.2.2.2.2.2.2.1
@[simp] theorem losePosition_router (settled : RouteNo) (s : State) : (losePosition settled s).router = s.router := (losePosition_frame settled s).2.2.2.2.2.2.2.2.2.2.1
@[simp] theorem losePosition_notices (settled : RouteNo) (s : State) : (losePosition settled s).notices = s.notices := (losePosition_frame settled s).2.2.2.2.2.2.2.2.2.2.2.1
@[simp] theorem losePosition_cellPort (settled : RouteNo) (s : State) : (losePosition settled s).cellPort = s.cellPort := (losePosition_frame settled s).2.2.2.2.2.2.2.2.2.2.2.2.1
@[simp] theorem losePosition_plantPort (settled : RouteNo) (s : State) : (losePosition settled s).plantPort = s.plantPort := (losePosition_frame settled s).2.2.2.2.2.2.2.2.2.2.2.2.2.1
@[simp] theorem losePosition_eeprom (settled : RouteNo) (s : State) : (losePosition settled s).eeprom = s.eeprom := (losePosition_frame settled s).2.2.2.2.2.2.2.2.2.2.2.2.2.2.1
@[simp] theorem losePosition_draws (settled : RouteNo) (s : State) : (losePosition settled s).draws = s.draws := (losePosition_frame settled s).2.2.2.2.2.2.2.2.2.2.2.2.2.2.2.1
@[simp] theorem losePosition_raised (settled : RouteNo) (s : State) : (losePosition settled s).raised = s.raised := (losePosition_frame settled s).2.2.2.2.2.2.2.2.2.2.2.2.2.2.2.2.1
@[simp] theorem losePosition_pending (settled : RouteNo) (s : State) : (losePosition settled s).pending = s.pending := (losePosition_frame settled s).2.2.2.2.2.2.2.2.2.2.2.2.2.2.2.2.2

theorem opGateStatus_frame (p : Byte) (s : State) :
    (opGateStatus p s).now = s.now ∧
    (opGateStatus p s).mode = s.mode ∧
    (opGateStatus p s).activity = s.activity ∧
    (opGateStatus p s).tables = s.tables ∧
    (opGateStatus p s).tracker = s.tracker ∧
    (opGateStatus p s).lots = s.lots ∧
    (opGateStatus p s).arbiter = s.arbiter ∧
    (opGateStatus p s).belt = s.belt ∧
    (opGateStatus p s).filtration = s.filtration ∧
    (opGateStatus p s).engine = s.engine ∧
    (opGateStatus p s).router = s.router ∧
    (opGateStatus p s).notices = s.notices ∧
    (opGateStatus p s).cellPort = s.cellPort ∧
    (opGateStatus p s).plantPort = s.plantPort ∧
    (opGateStatus p s).eeprom = s.eeprom ∧
    (opGateStatus p s).draws = s.draws ∧
    (opGateStatus p s).raised = s.raised ∧
    (opGateStatus p s).pending = s.pending := by
  unfold opGateStatus
  dsimp only
  repeat' split
  all_goals simp
@[simp] theorem opGateStatus_now (p : Byte) (s : State) : (opGateStatus p s).now = s.now := (opGateStatus_frame p s).1
@[simp] theorem opGateStatus_mode (p : Byte) (s : State) : (opGateStatus p s).mode = s.mode := (opGateStatus_frame p s).2.1
@[simp] theorem opGateStatus_activity (p : Byte) (s : State) : (opGateStatus p s).activity = s.activity := (opGateStatus_frame p s).2.2.1
@[simp] theorem opGateStatus_tables (p : Byte) (s : State) : (opGateStatus p s).tables = s.tables := (opGateStatus_frame p s).2.2.2.1
@[simp] theorem opGateStatus_tracker (p : Byte) (s : State) : (opGateStatus p s).tracker = s.tracker := (opGateStatus_frame p s).2.2.2.2.1
@[simp] theorem opGateStatus_lots (p : Byte) (s : State) : (opGateStatus p s).lots = s.lots := (opGateStatus_frame p s).2.2.2.2.2.1
@[simp] theorem opGateStatus_arbiter (p : Byte) (s : State) : (opGateStatus p s).arbiter = s.arbiter := (opGateStatus_frame p s).2.2.2.2.2.2.1
@[simp] theorem opGateStatus_belt (p : Byte) (s : State) : (opGateStatus p s).belt = s.belt := (opGateStatus_frame p s).2.2.2.2.2.2.2.1
@[simp] theorem opGateStatus_filtration (p : Byte) (s : State) : (opGateStatus p s).filtration = s.filtration := (opGateStatus_frame p s).2.2.2.2.2.2.2.2.1
@[simp] theorem opGateStatus_engine (p : Byte) (s : State) : (opGateStatus p s).engine = s.engine := (opGateStatus_frame p s).2.2.2.2.2.2.2.2.2.1
@[simp] theorem opGateStatus_router (p : Byte) (s : State) : (opGateStatus p s).router = s.router := (opGateStatus_frame p s).2.2.2.2.2.2.2.2.2.2.1
@[simp] theorem opGateStatus_notices (p : Byte) (s : State) : (opGateStatus p s).notices = s.notices := (opGateStatus_frame p s).2.2.2.2.2.2.2.2.2.2.2.1
@[simp] theorem opGateStatus_cellPort (p : Byte) (s : State) : (opGateStatus p s).cellPort = s.cellPort := (opGateStatus_frame p s).2.2.2.2.2.2.2.2.2.2.2.2.1
@[simp] theorem opGateStatus_plantPort (p : Byte) (s : State) : (opGateStatus p s).plantPort = s.plantPort := (opGateStatus_frame p s).2.2.2.2.2.2.2.2.2.2.2.2.2.1
@[simp] theorem opGateStatus_eeprom (p : Byte) (s : State) : (opGateStatus p s).eeprom = s.eeprom := (opGateStatus_frame p s).2.2.2.2.2.2.2.2.2.2.2.2.2.2.1
@[simp] theorem opGateStatus_draws (p : Byte) (s : State) : (opGateStatus p s).draws = s.draws := (opGateStatus_frame p s).2.2.2.2.2.2.2.2.2.2.2.2.2.2.2.1
@[simp] theorem opGateStatus_raised (p : Byte) (s : State) : (opGateStatus p s).raised = s.raised := (opGateStatus_frame p s).2.2.2.2.2.2.2.2.2.2.2.2.2.2.2.2.1
@[simp] theorem opGateStatus_pending (p : Byte) (s : State) : (opGateStatus p s).pending = s.pending := (opGateStatus_frame p s).2.2.2.2.2.2.2.2.2.2.2.2.2.2.2.2.2

theorem opGateTimeout_frame (s : State) :
    (opGateTimeout s).now = s.now ∧
    (opGateTimeout s).mode = s.mode ∧
    (opGateTimeout s).activity = s.activity ∧
    (opGateTimeout s).tables = s.tables ∧
    (opGateTimeout s).tracker = s.tracker ∧
    (opGateTimeout s).lots = s.lots ∧
    (opGateTimeout s).arbiter = s.arbiter ∧
    (opGateTimeout s).belt = s.belt ∧
    (opGateTimeout s).filtration = s.filtration ∧
    (opGateTimeout s).engine = s.engine ∧
    (opGateTimeout s).router = s.router ∧
    (opGateTimeout s).cellPort = s.cellPort ∧
    (opGateTimeout s).plantPort = s.plantPort ∧
    (opGateTimeout s).eeprom = s.eeprom ∧
    (opGateTimeout s).draws = s.draws ∧
    (opGateTimeout s).pending = s.pending := by
  unfold opGateTimeout
  repeat' split
  all_goals simp
@[simp] theorem opGateTimeout_now (s : State) : (opGateTimeout s).now = s.now := (opGateTimeout_frame s).1
@[simp] theorem opGateTimeout_mode (s : State) : (opGateTimeout s).mode = s.mode := (opGateTimeout_frame s).2.1
@[simp] theorem opGateTimeout_activity (s : State) : (opGateTimeout s).activity = s.activity := (opGateTimeout_frame s).2.2.1
@[simp] theorem opGateTimeout_tables (s : State) : (opGateTimeout s).tables = s.tables := (opGateTimeout_frame s).2.2.2.1
@[simp] theorem opGateTimeout_tracker (s : State) : (opGateTimeout s).tracker = s.tracker := (opGateTimeout_frame s).2.2.2.2.1
@[simp] theorem opGateTimeout_lots (s : State) : (opGateTimeout s).lots = s.lots := (opGateTimeout_frame s).2.2.2.2.2.1
@[simp] theorem opGateTimeout_arbiter (s : State) : (opGateTimeout s).arbiter = s.arbiter := (opGateTimeout_frame s).2.2.2.2.2.2.1
@[simp] theorem opGateTimeout_belt (s : State) : (opGateTimeout s).belt = s.belt := (opGateTimeout_frame s).2.2.2.2.2.2.2.1
@[simp] theorem opGateTimeout_filtration (s : State) : (opGateTimeout s).filtration = s.filtration := (opGateTimeout_frame s).2.2.2.2.2.2.2.2.1
@[simp] theorem opGateTimeout_engine (s : State) : (opGateTimeout s).engine = s.engine := (opGateTimeout_frame s).2.2.2.2.2.2.2.2.2.1
@[simp] theorem opGateTimeout_router (s : State) : (opGateTimeout s).router = s.router := (opGateTimeout_frame s).2.2.2.2.2.2.2.2.2.2.1
@[simp] theorem opGateTimeout_cellPort (s : State) : (opGateTimeout s).cellPort = s.cellPort := (opGateTimeout_frame s).2.2.2.2.2.2.2.2.2.2.2.1
@[simp] theorem opGateTimeout_plantPort (s : State) : (opGateTimeout s).plantPort = s.plantPort := (opGateTimeout_frame s).2.2.2.2.2.2.2.2.2.2.2.2.1
@[simp] theorem opGateTimeout_eeprom (s : State) : (opGateTimeout s).eeprom = s.eeprom := (opGateTimeout_frame s).2.2.2.2.2.2.2.2.2.2.2.2.2.1
@[simp] theorem opGateTimeout_draws (s : State) : (opGateTimeout s).draws = s.draws := (opGateTimeout_frame s).2.2.2.2.2.2.2.2.2.2.2.2.2.2.1
@[simp] theorem opGateTimeout_pending (s : State) : (opGateTimeout s).pending = s.pending := (opGateTimeout_frame s).2.2.2.2.2.2.2.2.2.2.2.2.2.2.2

theorem gateHeld_frame (s : State) :
    (gateHeld s).now = s.now ∧
    (gateHeld s).mode = s.mode ∧
    (gateHeld s).activity = s.activity ∧
    (gateHeld s).tables = s.tables ∧
    (gateHeld s).tracker = s.tracker ∧
    (gateHeld s).lots = s.lots ∧
    (gateHeld s).arbiter = s.arbiter ∧
    (gateHeld s).belt = s.belt ∧
    (gateHeld s).filtration = s.filtration ∧
    (gateHeld s).engine = s.engine ∧
    (gateHeld s).router = s.router ∧
    (gateHeld s).notices = s.notices ∧
    (gateHeld s).coalescer = s.coalescer ∧
    (gateHeld s).cellPort = s.cellPort ∧
    (gateHeld s).plantPort = s.plantPort ∧
    (gateHeld s).counters = s.counters ∧
    (gateHeld s).eeprom = s.eeprom ∧
    (gateHeld s).draws = s.draws ∧
    (gateHeld s).raised = s.raised ∧
    (gateHeld s).handed = s.handed ∧
    (gateHeld s).pending = s.pending := by
  unfold gateHeld
  repeat' split
  all_goals simp
@[simp] theorem gateHeld_now (s : State) : (gateHeld s).now = s.now := (gateHeld_frame s).1
@[simp] theorem gateHeld_mode (s : State) : (gateHeld s).mode = s.mode := (gateHeld_frame s).2.1
@[simp] theorem gateHeld_activity (s : State) : (gateHeld s).activity = s.activity := (gateHeld_frame s).2.2.1
@[simp] theorem gateHeld_tables (s : State) : (gateHeld s).tables = s.tables := (gateHeld_frame s).2.2.2.1
@[simp] theorem gateHeld_tracker (s : State) : (gateHeld s).tracker = s.tracker := (gateHeld_frame s).2.2.2.2.1
@[simp] theorem gateHeld_lots (s : State) : (gateHeld s).lots = s.lots := (gateHeld_frame s).2.2.2.2.2.1
@[simp] theorem gateHeld_arbiter (s : State) : (gateHeld s).arbiter = s.arbiter := (gateHeld_frame s).2.2.2.2.2.2.1
@[simp] theorem gateHeld_belt (s : State) : (gateHeld s).belt = s.belt := (gateHeld_frame s).2.2.2.2.2.2.2.1
@[simp] theorem gateHeld_filtration (s : State) : (gateHeld s).filtration = s.filtration := (gateHeld_frame s).2.2.2.2.2.2.2.2.1
@[simp] theorem gateHeld_engine (s : State) : (gateHeld s).engine = s.engine := (gateHeld_frame s).2.2.2.2.2.2.2.2.2.1
@[simp] theorem gateHeld_router (s : State) : (gateHeld s).router = s.router := (gateHeld_frame s).2.2.2.2.2.2.2.2.2.2.1
@[simp] theorem gateHeld_notices (s : State) : (gateHeld s).notices = s.notices := (gateHeld_frame s).2.2.2.2.2.2.2.2.2.2.2.1
@[simp] theorem gateHeld_coalescer (s : State) : (gateHeld s).coalescer = s.coalescer := (gateHeld_frame s).2.2.2.2.2.2.2.2.2.2.2.2.1
@[simp] theorem gateHeld_cellPort (s : State) : (gateHeld s).cellPort = s.cellPort := (gateHeld_frame s).2.2.2.2.2.2.2.2.2.2.2.2.2.1
@[simp] theorem gateHeld_plantPort (s : State) : (gateHeld s).plantPort = s.plantPort := (gateHeld_frame s).2.2.2.2.2.2.2.2.2.2.2.2.2.2.1
@[simp] theorem gateHeld_counters (s : State) : (gateHeld s).counters = s.counters := (gateHeld_frame s).2.2.2.2.2.2.2.2.2.2.2.2.2.2.2.1
@[simp] theorem gateHeld_eeprom (s : State) : (gateHeld s).eeprom = s.eeprom := (gateHeld_frame s).2.2.2.2.2.2.2.2.2.2.2.2.2.2.2.2.1
@[simp] theorem gateHeld_draws (s : State) : (gateHeld s).draws = s.draws := (gateHeld_frame s).2.2.2.2.2.2.2.2.2.2.2.2.2.2.2.2.2.1
@[simp] theorem gateHeld_raised (s : State) : (gateHeld s).raised = s.raised := (gateHeld_frame s).2.2.2.2.2.2.2.2.2.2.2.2.2.2.2.2.2.2.1
@[simp] theorem gateHeld_handed (s : State) : (gateHeld s).handed = s.handed := (gateHeld_frame s).2.2.2.2.2.2.2.2.2.2.2.2.2.2.2.2.2.2.2.1
@[simp] theorem gateHeld_pending (s : State) : (gateHeld s).pending = s.pending := (gateHeld_frame s).2.2.2.2.2.2.2.2.2.2.2.2.2.2.2.2.2.2.2.2

theorem gateReleased_frame (s : State) :
    (gateReleased s).now = s.now ∧
    (gateReleased s).mode = s.mode ∧
    (gateReleased s).activity = s.activity ∧
    (gateReleased s).tables = s.tables ∧
    (gateReleased s).tracker = s.tracker ∧
    (gateReleased s).lots = s.lots ∧
    (gateReleased s).arbiter = s.arbiter ∧
    (gateReleased s).belt = s.belt ∧
    (gateReleased s).filtration = s.filtration ∧
    (gateReleased s).engine = s.engine ∧
    (gateReleased s).router = s.router ∧
    (gateReleased s).notices = s.notices ∧
    (gateReleased s).cellPort = s.cellPort ∧
    (gateReleased s).plantPort = s.plantPort ∧
    (gateReleased s).eeprom = s.eeprom ∧
    (gateReleased s).draws = s.draws ∧
    (gateReleased s).raised = s.raised ∧
    (gateReleased s).pending = s.pending := by
  unfold gateReleased
  repeat' split
  all_goals simp
@[simp] theorem gateReleased_now (s : State) : (gateReleased s).now = s.now := (gateReleased_frame s).1
@[simp] theorem gateReleased_mode (s : State) : (gateReleased s).mode = s.mode := (gateReleased_frame s).2.1
@[simp] theorem gateReleased_activity (s : State) : (gateReleased s).activity = s.activity := (gateReleased_frame s).2.2.1
@[simp] theorem gateReleased_tables (s : State) : (gateReleased s).tables = s.tables := (gateReleased_frame s).2.2.2.1
@[simp] theorem gateReleased_tracker (s : State) : (gateReleased s).tracker = s.tracker := (gateReleased_frame s).2.2.2.2.1
@[simp] theorem gateReleased_lots (s : State) : (gateReleased s).lots = s.lots := (gateReleased_frame s).2.2.2.2.2.1
@[simp] theorem gateReleased_arbiter (s : State) : (gateReleased s).arbiter = s.arbiter := (gateReleased_frame s).2.2.2.2.2.2.1
@[simp] theorem gateReleased_belt (s : State) : (gateReleased s).belt = s.belt := (gateReleased_frame s).2.2.2.2.2.2.2.1
@[simp] theorem gateReleased_filtration (s : State) : (gateReleased s).filtration = s.filtration := (gateReleased_frame s).2.2.2.2.2.2.2.2.1
@[simp] theorem gateReleased_engine (s : State) : (gateReleased s).engine = s.engine := (gateReleased_frame s).2.2.2.2.2.2.2.2.2.1
@[simp] theorem gateReleased_router (s : State) : (gateReleased s).router = s.router := (gateReleased_frame s).2.2.2.2.2.2.2.2.2.2.1
@[simp] theorem gateReleased_notices (s : State) : (gateReleased s).notices = s.notices := (gateReleased_frame s).2.2.2.2.2.2.2.2.2.2.2.1
@[simp] theorem gateReleased_cellPort (s : State) : (gateReleased s).cellPort = s.cellPort := (gateReleased_frame s).2.2.2.2.2.2.2.2.2.2.2.2.1
@[simp] theorem gateReleased_plantPort (s : State) : (gateReleased s).plantPort = s.plantPort := (gateReleased_frame s).2.2.2.2.2.2.2.2.2.2.2.2.2.1
@[simp] theorem gateReleased_eeprom (s : State) : (gateReleased s).eeprom = s.eeprom := (gateReleased_frame s).2.2.2.2.2.2.2.2.2.2.2.2.2.2.1
@[simp] theorem gateReleased_draws (s : State) : (gateReleased s).draws = s.draws := (gateReleased_frame s).2.2.2.2.2.2.2.2.2.2.2.2.2.2.2.1
@[simp] theorem gateReleased_raised (s : State) : (gateReleased s).raised = s.raised := (gateReleased_frame s).2.2.2.2.2.2.2.2.2.2.2.2.2.2.2.2.1
@[simp] theorem gateReleased_pending (s : State) : (gateReleased s).pending = s.pending := (gateReleased_frame s).2.2.2.2.2.2.2.2.2.2.2.2.2.2.2.2.2

theorem releaseLot_frame (l : LotNo) (s : State) :
    (releaseLot l s).now = s.now ∧
    (releaseLot l s).mode = s.mode ∧
    (releaseLot l s).activity = s.activity ∧
    (releaseLot l s).tables = s.tables ∧
    (releaseLot l s).tracker.last = s.tracker.last ∧
    (releaseLot l s).tracker.acc = s.tracker.acc ∧
    (releaseLot l s).lots = s.lots ∧
    (releaseLot l s).arbiter = s.arbiter ∧
    (releaseLot l s).belt = s.belt ∧
    (releaseLot l s).filtration = s.filtration ∧
    (releaseLot l s).engine = s.engine ∧
    (releaseLot l s).router = s.router ∧
    (releaseLot l s).notices = s.notices ∧
    (releaseLot l s).cellPort = s.cellPort ∧
    (releaseLot l s).plantPort = s.plantPort ∧
    (releaseLot l s).eeprom = s.eeprom ∧
    (releaseLot l s).draws = s.draws ∧
    (releaseLot l s).raised = s.raised ∧
    (releaseLot l s).pending = s.pending := by
  simp [releaseLot]
@[simp] theorem releaseLot_now (l : LotNo) (s : State) : (releaseLot l s).now = s.now := (releaseLot_frame l s).1
@[simp] theorem releaseLot_mode (l : LotNo) (s : State) : (releaseLot l s).mode = s.mode := (releaseLot_frame l s).2.1
@[simp] theorem releaseLot_activity (l : LotNo) (s : State) : (releaseLot l s).activity = s.activity := (releaseLot_frame l s).2.2.1
@[simp] theorem releaseLot_tables (l : LotNo) (s : State) : (releaseLot l s).tables = s.tables := (releaseLot_frame l s).2.2.2.1
@[simp] theorem releaseLot_last (l : LotNo) (s : State) : (releaseLot l s).tracker.last = s.tracker.last := (releaseLot_frame l s).2.2.2.2.1
@[simp] theorem releaseLot_acc (l : LotNo) (s : State) : (releaseLot l s).tracker.acc = s.tracker.acc := (releaseLot_frame l s).2.2.2.2.2.1
@[simp] theorem releaseLot_lots (l : LotNo) (s : State) : (releaseLot l s).lots = s.lots := (releaseLot_frame l s).2.2.2.2.2.2.1
@[simp] theorem releaseLot_arbiter (l : LotNo) (s : State) : (releaseLot l s).arbiter = s.arbiter := (releaseLot_frame l s).2.2.2.2.2.2.2.1
@[simp] theorem releaseLot_belt (l : LotNo) (s : State) : (releaseLot l s).belt = s.belt := (releaseLot_frame l s).2.2.2.2.2.2.2.2.1
@[simp] theorem releaseLot_filtration (l : LotNo) (s : State) : (releaseLot l s).filtration = s.filtration := (releaseLot_frame l s).2.2.2.2.2.2.2.2.2.1
@[simp] theorem releaseLot_engine (l : LotNo) (s : State) : (releaseLot l s).engine = s.engine := (releaseLot_frame l s).2.2.2.2.2.2.2.2.2.2.1
@[simp] theorem releaseLot_router (l : LotNo) (s : State) : (releaseLot l s).router = s.router := (releaseLot_frame l s).2.2.2.2.2.2.2.2.2.2.2.1
@[simp] theorem releaseLot_notices (l : LotNo) (s : State) : (releaseLot l s).notices = s.notices := (releaseLot_frame l s).2.2.2.2.2.2.2.2.2.2.2.2.1
@[simp] theorem releaseLot_cellPort (l : LotNo) (s : State) : (releaseLot l s).cellPort = s.cellPort := (releaseLot_frame l s).2.2.2.2.2.2.2.2.2.2.2.2.2.1
@[simp] theorem releaseLot_plantPort (l : LotNo) (s : State) : (releaseLot l s).plantPort = s.plantPort := (releaseLot_frame l s).2.2.2.2.2.2.2.2.2.2.2.2.2.2.1
@[simp] theorem releaseLot_eeprom (l : LotNo) (s : State) : (releaseLot l s).eeprom = s.eeprom := (releaseLot_frame l s).2.2.2.2.2.2.2.2.2.2.2.2.2.2.2.1
@[simp] theorem releaseLot_draws (l : LotNo) (s : State) : (releaseLot l s).draws = s.draws := (releaseLot_frame l s).2.2.2.2.2.2.2.2.2.2.2.2.2.2.2.2.1
@[simp] theorem releaseLot_raised (l : LotNo) (s : State) : (releaseLot l s).raised = s.raised := (releaseLot_frame l s).2.2.2.2.2.2.2.2.2.2.2.2.2.2.2.2.2.1
@[simp] theorem releaseLot_pending (l : LotNo) (s : State) : (releaseLot l s).pending = s.pending := (releaseLot_frame l s).2.2.2.2.2.2.2.2.2.2.2.2.2.2.2.2.2.2

theorem sealFull_frame (l : LotNo) (a : ActiveLot) (s : State) :
    (sealFull l a s).now = s.now ∧
    (sealFull l a s).mode = s.mode ∧
    (sealFull l a s).activity = s.activity ∧
    (sealFull l a s).tables = s.tables ∧
    (sealFull l a s).tracker = s.tracker ∧
    (sealFull l a s).arbiter = s.arbiter ∧
    (sealFull l a s).belt = s.belt ∧
    (sealFull l a s).head = s.head ∧
    (sealFull l a s).engine = s.engine ∧
    (sealFull l a s).router = s.router ∧
    (sealFull l a s).cellPort.state = s.cellPort.state ∧
    (sealFull l a s).plantPort.state = s.plantPort.state ∧
    (sealFull l a s).eeprom = s.eeprom ∧
    (sealFull l a s).draws = s.draws ∧
    (sealFull l a s).pending = s.pending := by
  simp [sealFull]
@[simp] theorem sealFull_now (l : LotNo) (a : ActiveLot) (s : State) : (sealFull l a s).now = s.now := (sealFull_frame l a s).1
@[simp] theorem sealFull_mode (l : LotNo) (a : ActiveLot) (s : State) : (sealFull l a s).mode = s.mode := (sealFull_frame l a s).2.1
@[simp] theorem sealFull_activity (l : LotNo) (a : ActiveLot) (s : State) : (sealFull l a s).activity = s.activity := (sealFull_frame l a s).2.2.1
@[simp] theorem sealFull_tables (l : LotNo) (a : ActiveLot) (s : State) : (sealFull l a s).tables = s.tables := (sealFull_frame l a s).2.2.2.1
@[simp] theorem sealFull_tracker (l : LotNo) (a : ActiveLot) (s : State) : (sealFull l a s).tracker = s.tracker := (sealFull_frame l a s).2.2.2.2.1
@[simp] theorem sealFull_arbiter (l : LotNo) (a : ActiveLot) (s : State) : (sealFull l a s).arbiter = s.arbiter := (sealFull_frame l a s).2.2.2.2.2.1
@[simp] theorem sealFull_belt (l : LotNo) (a : ActiveLot) (s : State) : (sealFull l a s).belt = s.belt := (sealFull_frame l a s).2.2.2.2.2.2.1
@[simp] theorem sealFull_head (l : LotNo) (a : ActiveLot) (s : State) : (sealFull l a s).head = s.head := (sealFull_frame l a s).2.2.2.2.2.2.2.1
@[simp] theorem sealFull_engine (l : LotNo) (a : ActiveLot) (s : State) : (sealFull l a s).engine = s.engine := (sealFull_frame l a s).2.2.2.2.2.2.2.2.1
@[simp] theorem sealFull_router (l : LotNo) (a : ActiveLot) (s : State) : (sealFull l a s).router = s.router := (sealFull_frame l a s).2.2.2.2.2.2.2.2.2.1
@[simp] theorem sealFull_cellState (l : LotNo) (a : ActiveLot) (s : State) : (sealFull l a s).cellPort.state = s.cellPort.state := (sealFull_frame l a s).2.2.2.2.2.2.2.2.2.2.1
@[simp] theorem sealFull_plantState (l : LotNo) (a : ActiveLot) (s : State) : (sealFull l a s).plantPort.state = s.plantPort.state := (sealFull_frame l a s).2.2.2.2.2.2.2.2.2.2.2.1
@[simp] theorem sealFull_eeprom (l : LotNo) (a : ActiveLot) (s : State) : (sealFull l a s).eeprom = s.eeprom := (sealFull_frame l a s).2.2.2.2.2.2.2.2.2.2.2.2.1
@[simp] theorem sealFull_draws (l : LotNo) (a : ActiveLot) (s : State) : (sealFull l a s).draws = s.draws := (sealFull_frame l a s).2.2.2.2.2.2.2.2.2.2.2.2.2.1
@[simp] theorem sealFull_pending (l : LotNo) (a : ActiveLot) (s : State) : (sealFull l a s).pending = s.pending := (sealFull_frame l a s).2.2.2.2.2.2.2.2.2.2.2.2.2.2

theorem pitchLoaded_frame (l : LotNo) (a : ActiveLot) (s : State) :
    (pitchLoaded l a s).now = s.now ∧
    (pitchLoaded l a s).mode = s.mode ∧
    (pitchLoaded l a s).activity = s.activity ∧
    (pitchLoaded l a s).tables = s.tables ∧
    (pitchLoaded l a s).tracker = s.tracker ∧
    (pitchLoaded l a s).arbiter = s.arbiter ∧
    (pitchLoaded l a s).belt = s.belt ∧
    (pitchLoaded l a s).head = s.head ∧
    (pitchLoaded l a s).engine = s.engine ∧
    (pitchLoaded l a s).router = s.router ∧
    (pitchLoaded l a s).cellPort.state = s.cellPort.state ∧
    (pitchLoaded l a s).plantPort.state = s.plantPort.state ∧
    (pitchLoaded l a s).eeprom = s.eeprom ∧
    (pitchLoaded l a s).draws = s.draws ∧
    (pitchLoaded l a s).pending = s.pending := by
  unfold pitchLoaded
  repeat' split
  all_goals simp
@[simp] theorem pitchLoaded_now (l : LotNo) (a : ActiveLot) (s : State) : (pitchLoaded l a s).now = s.now := (pitchLoaded_frame l a s).1
@[simp] theorem pitchLoaded_mode (l : LotNo) (a : ActiveLot) (s : State) : (pitchLoaded l a s).mode = s.mode := (pitchLoaded_frame l a s).2.1
@[simp] theorem pitchLoaded_activity (l : LotNo) (a : ActiveLot) (s : State) : (pitchLoaded l a s).activity = s.activity := (pitchLoaded_frame l a s).2.2.1
@[simp] theorem pitchLoaded_tables (l : LotNo) (a : ActiveLot) (s : State) : (pitchLoaded l a s).tables = s.tables := (pitchLoaded_frame l a s).2.2.2.1
@[simp] theorem pitchLoaded_tracker (l : LotNo) (a : ActiveLot) (s : State) : (pitchLoaded l a s).tracker = s.tracker := (pitchLoaded_frame l a s).2.2.2.2.1
@[simp] theorem pitchLoaded_arbiter (l : LotNo) (a : ActiveLot) (s : State) : (pitchLoaded l a s).arbiter = s.arbiter := (pitchLoaded_frame l a s).2.2.2.2.2.1
@[simp] theorem pitchLoaded_belt (l : LotNo) (a : ActiveLot) (s : State) : (pitchLoaded l a s).belt = s.belt := (pitchLoaded_frame l a s).2.2.2.2.2.2.1
@[simp] theorem pitchLoaded_head (l : LotNo) (a : ActiveLot) (s : State) : (pitchLoaded l a s).head = s.head := (pitchLoaded_frame l a s).2.2.2.2.2.2.2.1
@[simp] theorem pitchLoaded_engine (l : LotNo) (a : ActiveLot) (s : State) : (pitchLoaded l a s).engine = s.engine := (pitchLoaded_frame l a s).2.2.2.2.2.2.2.2.1
@[simp] theorem pitchLoaded_router (l : LotNo) (a : ActiveLot) (s : State) : (pitchLoaded l a s).router = s.router := (pitchLoaded_frame l a s).2.2.2.2.2.2.2.2.2.1
@[simp] theorem pitchLoaded_cellState (l : LotNo) (a : ActiveLot) (s : State) : (pitchLoaded l a s).cellPort.state = s.cellPort.state := (pitchLoaded_frame l a s).2.2.2.2.2.2.2.2.2.2.1
@[simp] theorem pitchLoaded_plantState (l : LotNo) (a : ActiveLot) (s : State) : (pitchLoaded l a s).plantPort.state = s.plantPort.state := (pitchLoaded_frame l a s).2.2.2.2.2.2.2.2.2.2.2.1
@[simp] theorem pitchLoaded_eeprom (l : LotNo) (a : ActiveLot) (s : State) : (pitchLoaded l a s).eeprom = s.eeprom := (pitchLoaded_frame l a s).2.2.2.2.2.2.2.2.2.2.2.2.1
@[simp] theorem pitchLoaded_draws (l : LotNo) (a : ActiveLot) (s : State) : (pitchLoaded l a s).draws = s.draws := (pitchLoaded_frame l a s).2.2.2.2.2.2.2.2.2.2.2.2.2.1
@[simp] theorem pitchLoaded_pending (l : LotNo) (a : ActiveLot) (s : State) : (pitchLoaded l a s).pending = s.pending := (pitchLoaded_frame l a s).2.2.2.2.2.2.2.2.2.2.2.2.2.2

theorem loadPitch_frame (i : Nat) (l : LotNo) (a : ActiveLot) (s : State) :
    (loadPitch i l a s).now = s.now ∧
    (loadPitch i l a s).mode = s.mode ∧
    (loadPitch i l a s).activity = s.activity ∧
    (loadPitch i l a s).tables = s.tables ∧
    (loadPitch i l a s).tracker.last = s.tracker.last ∧
    (loadPitch i l a s).tracker.acc = s.tracker.acc ∧
    (loadPitch i l a s).arbiter = s.arbiter ∧
    (loadPitch i l a s).belt = s.belt ∧
    (loadPitch i l a s).head = s.head ∧
    (loadPitch i l a s).engine = s.engine ∧
    (loadPitch i l a s).router = s.router ∧
    (loadPitch i l a s).cellPort.state = s.cellPort.state ∧
    (loadPitch i l a s).plantPort.state = s.plantPort.state ∧
    (loadPitch i l a s).eeprom = s.eeprom ∧
    (loadPitch i l a s).draws = s.draws ∧
    (loadPitch i l a s).pending = s.pending := by
  unfold loadPitch
  repeat' split
  all_goals simp
@[simp] theorem loadPitch_now (i : Nat) (l : LotNo) (a : ActiveLot) (s : State) : (loadPitch i l a s).now = s.now := (loadPitch_frame i l a s).1
@[simp] theorem loadPitch_mode (i : Nat) (l : LotNo) (a : ActiveLot) (s : State) : (loadPitch i l a s).mode = s.mode := (loadPitch_frame i l a s).2.1
@[simp] theorem loadPitch_activity (i : Nat) (l : LotNo) (a : ActiveLot) (s : State) : (loadPitch i l a s).activity = s.activity := (loadPitch_frame i l a s).2.2.1
@[simp] theorem loadPitch_tables (i : Nat) (l : LotNo) (a : ActiveLot) (s : State) : (loadPitch i l a s).tables = s.tables := (loadPitch_frame i l a s).2.2.2.1
@[simp] theorem loadPitch_last (i : Nat) (l : LotNo) (a : ActiveLot) (s : State) : (loadPitch i l a s).tracker.last = s.tracker.last := (loadPitch_frame i l a s).2.2.2.2.1
@[simp] theorem loadPitch_acc (i : Nat) (l : LotNo) (a : ActiveLot) (s : State) : (loadPitch i l a s).tracker.acc = s.tracker.acc := (loadPitch_frame i l a s).2.2.2.2.2.1
@[simp] theorem loadPitch_arbiter (i : Nat) (l : LotNo) (a : ActiveLot) (s : State) : (loadPitch i l a s).arbiter = s.arbiter := (loadPitch_frame i l a s).2.2.2.2.2.2.1
@[simp] theorem loadPitch_belt (i : Nat) (l : LotNo) (a : ActiveLot) (s : State) : (loadPitch i l a s).belt = s.belt := (loadPitch_frame i l a s).2.2.2.2.2.2.2.1
@[simp] theorem loadPitch_head (i : Nat) (l : LotNo) (a : ActiveLot) (s : State) : (loadPitch i l a s).head = s.head := (loadPitch_frame i l a s).2.2.2.2.2.2.2.2.1
@[simp] theorem loadPitch_engine (i : Nat) (l : LotNo) (a : ActiveLot) (s : State) : (loadPitch i l a s).engine = s.engine := (loadPitch_frame i l a s).2.2.2.2.2.2.2.2.2.1
@[simp] theorem loadPitch_router (i : Nat) (l : LotNo) (a : ActiveLot) (s : State) : (loadPitch i l a s).router = s.router := (loadPitch_frame i l a s).2.2.2.2.2.2.2.2.2.2.1
@[simp] theorem loadPitch_cellState (i : Nat) (l : LotNo) (a : ActiveLot) (s : State) : (loadPitch i l a s).cellPort.state = s.cellPort.state := (loadPitch_frame i l a s).2.2.2.2.2.2.2.2.2.2.2.1
@[simp] theorem loadPitch_plantState (i : Nat) (l : LotNo) (a : ActiveLot) (s : State) : (loadPitch i l a s).plantPort.state = s.plantPort.state := (loadPitch_frame i l a s).2.2.2.2.2.2.2.2.2.2.2.2.1
@[simp] theorem loadPitch_eeprom (i : Nat) (l : LotNo) (a : ActiveLot) (s : State) : (loadPitch i l a s).eeprom = s.eeprom := (loadPitch_frame i l a s).2.2.2.2.2.2.2.2.2.2.2.2.2.1
@[simp] theorem loadPitch_draws (i : Nat) (l : LotNo) (a : ActiveLot) (s : State) : (loadPitch i l a s).draws = s.draws := (loadPitch_frame i l a s).2.2.2.2.2.2.2.2.2.2.2.2.2.2.1
@[simp] theorem loadPitch_pending (i : Nat) (l : LotNo) (a : ActiveLot) (s : State) : (loadPitch i l a s).pending = s.pending := (loadPitch_frame i l a s).2.2.2.2.2.2.2.2.2.2.2.2.2.2.2

theorem crossCell_frame (c : CellNo) (s : State) :
    (crossCell c s).now = s.now ∧
    (crossCell c s).mode = s.mode ∧
    (crossCell c s).activity = s.activity ∧
    (crossCell c s).tables = s.tables ∧
    (crossCell c s).tracker.last = s.tracker.last ∧
    (crossCell c s).tracker.acc = s.tracker.acc ∧
    (crossCell c s).arbiter = s.arbiter ∧
    (crossCell c s).belt = s.belt ∧
    (crossCell c s).head = s.head ∧
    (crossCell c s).engine = s.engine ∧
    (crossCell c s).router = s.router ∧
    (crossCell c s).cellPort.state = s.cellPort.state ∧
    (crossCell c s).plantPort.state = s.plantPort.state ∧
    (crossCell c s).eeprom = s.eeprom ∧
    (crossCell c s).draws = s.draws ∧
    (crossCell c s).pending = s.pending := by
  unfold crossCell
  repeat' split
  all_goals simp
@[simp] theorem crossCell_now (c : CellNo) (s : State) : (crossCell c s).now = s.now := (crossCell_frame c s).1
@[simp] theorem crossCell_mode (c : CellNo) (s : State) : (crossCell c s).mode = s.mode := (crossCell_frame c s).2.1
@[simp] theorem crossCell_activity (c : CellNo) (s : State) : (crossCell c s).activity = s.activity := (crossCell_frame c s).2.2.1
@[simp] theorem crossCell_tables (c : CellNo) (s : State) : (crossCell c s).tables = s.tables := (crossCell_frame c s).2.2.2.1
@[simp] theorem crossCell_last (c : CellNo) (s : State) : (crossCell c s).tracker.last = s.tracker.last := (crossCell_frame c s).2.2.2.2.1
@[simp] theorem crossCell_acc (c : CellNo) (s : State) : (crossCell c s).tracker.acc = s.tracker.acc := (crossCell_frame c s).2.2.2.2.2.1
@[simp] theorem crossCell_arbiter (c : CellNo) (s : State) : (crossCell c s).arbiter = s.arbiter := (crossCell_frame c s).2.2.2.2.2.2.1
@[simp] theorem crossCell_belt (c : CellNo) (s : State) : (crossCell c s).belt = s.belt := (crossCell_frame c s).2.2.2.2.2.2.2.1
@[simp] theorem crossCell_head (c : CellNo) (s : State) : (crossCell c s).head = s.head := (crossCell_frame c s).2.2.2.2.2.2.2.2.1
@[simp] theorem crossCell_engine (c : CellNo) (s : State) : (crossCell c s).engine = s.engine := (crossCell_frame c s).2.2.2.2.2.2.2.2.2.1
@[simp] theorem crossCell_router (c : CellNo) (s : State) : (crossCell c s).router = s.router := (crossCell_frame c s).2.2.2.2.2.2.2.2.2.2.1
@[simp] theorem crossCell_cellState (c : CellNo) (s : State) : (crossCell c s).cellPort.state = s.cellPort.state := (crossCell_frame c s).2.2.2.2.2.2.2.2.2.2.2.1
@[simp] theorem crossCell_plantState (c : CellNo) (s : State) : (crossCell c s).plantPort.state = s.plantPort.state := (crossCell_frame c s).2.2.2.2.2.2.2.2.2.2.2.2.1
@[simp] theorem crossCell_eeprom (c : CellNo) (s : State) : (crossCell c s).eeprom = s.eeprom := (crossCell_frame c s).2.2.2.2.2.2.2.2.2.2.2.2.2.1
@[simp] theorem crossCell_draws (c : CellNo) (s : State) : (crossCell c s).draws = s.draws := (crossCell_frame c s).2.2.2.2.2.2.2.2.2.2.2.2.2.2.1
@[simp] theorem crossCell_pending (c : CellNo) (s : State) : (crossCell c s).pending = s.pending := (crossCell_frame c s).2.2.2.2.2.2.2.2.2.2.2.2.2.2.2

theorem crossings_frame (s : State) :
    (crossings s).now = s.now ∧
    (crossings s).mode = s.mode ∧
    (crossings s).activity = s.activity ∧
    (crossings s).tables = s.tables ∧
    (crossings s).tracker.last = s.tracker.last ∧
    (crossings s).tracker.acc = s.tracker.acc ∧
    (crossings s).arbiter = s.arbiter ∧
    (crossings s).belt = s.belt ∧
    (crossings s).head = s.head ∧
    (crossings s).engine = s.engine ∧
    (crossings s).router = s.router ∧
    (crossings s).cellPort.state = s.cellPort.state ∧
    (crossings s).plantPort.state = s.plantPort.state ∧
    (crossings s).eeprom = s.eeprom ∧
    (crossings s).draws = s.draws ∧
    (crossings s).pending = s.pending := by
  simp [crossings]
@[simp] theorem crossings_now (s : State) : (crossings s).now = s.now := (crossings_frame s).1
@[simp] theorem crossings_mode (s : State) : (crossings s).mode = s.mode := (crossings_frame s).2.1
@[simp] theorem crossings_activity (s : State) : (crossings s).activity = s.activity := (crossings_frame s).2.2.1
@[simp] theorem crossings_tables (s : State) : (crossings s).tables = s.tables := (crossings_frame s).2.2.2.1
@[simp] theorem crossings_last (s : State) : (crossings s).tracker.last = s.tracker.last := (crossings_frame s).2.2.2.2.1
@[simp] theorem crossings_acc (s : State) : (crossings s).tracker.acc = s.tracker.acc := (crossings_frame s).2.2.2.2.2.1
@[simp] theorem crossings_arbiter (s : State) : (crossings s).arbiter = s.arbiter := (crossings_frame s).2.2.2.2.2.2.1
@[simp] theorem crossings_belt (s : State) : (crossings s).belt = s.belt := (crossings_frame s).2.2.2.2.2.2.2.1
@[simp] theorem crossings_head (s : State) : (crossings s).head = s.head := (crossings_frame s).2.2.2.2.2.2.2.2.1
@[simp] theorem crossings_engine (s : State) : (crossings s).engine = s.engine := (crossings_frame s).2.2.2.2.2.2.2.2.2.1
@[simp] theorem crossings_router (s : State) : (crossings s).router = s.router := (crossings_frame s).2.2.2.2.2.2.2.2.2.2.1
@[simp] theorem crossings_cellState (s : State) : (crossings s).cellPort.state = s.cellPort.state := (crossings_frame s).2.2.2.2.2.2.2.2.2.2.2.1
@[simp] theorem crossings_plantState (s : State) : (crossings s).plantPort.state = s.plantPort.state := (crossings_frame s).2.2.2.2.2.2.2.2.2.2.2.2.1
@[simp] theorem crossings_eeprom (s : State) : (crossings s).eeprom = s.eeprom := (crossings_frame s).2.2.2.2.2.2.2.2.2.2.2.2.2.1
@[simp] theorem crossings_draws (s : State) : (crossings s).draws = s.draws := (crossings_frame s).2.2.2.2.2.2.2.2.2.2.2.2.2.2.1
@[simp] theorem crossings_pending (s : State) : (crossings s).pending = s.pending := (crossings_frame s).2.2.2.2.2.2.2.2.2.2.2.2.2.2.2

theorem freeWithdrawn_frame (l : LotNo) (a : ActiveLot) (s : State) :
    (freeWithdrawn l a s).now = s.now ∧
    (freeWithdrawn l a s).mode = s.mode ∧
    (freeWithdrawn l a s).activity = s.activity ∧
    (freeWithdrawn l a s).tables = s.tables ∧
    (freeWithdrawn l a s).tracker = s.tracker ∧
    (freeWithdrawn l a s).arbiter = s.arbiter ∧
    (freeWithdrawn l a s).belt = s.belt ∧
    (freeWithdrawn l a s).head = s.head ∧
    (freeWithdrawn l a s).filtration = s.filtration ∧
    (freeWithdrawn l a s).engine = s.engine ∧
    (freeWithdrawn l a s).router = s.router ∧
    (freeWithdrawn l a s).notices = s.notices ∧
    (freeWithdrawn l a s).coalescer = s.coalescer ∧
    (freeWithdrawn l a s).cellPort = s.cellPort ∧
    (freeWithdrawn l a s).plantPort = s.plantPort ∧
    (freeWithdrawn l a s).eeprom = s.eeprom ∧
    (freeWithdrawn l a s).draws = s.draws ∧
    (freeWithdrawn l a s).raised = s.raised ∧
    (freeWithdrawn l a s).handed = s.handed ∧
    (freeWithdrawn l a s).pending = s.pending := by
  simp [freeWithdrawn]
@[simp] theorem freeWithdrawn_now (l : LotNo) (a : ActiveLot) (s : State) : (freeWithdrawn l a s).now = s.now := (freeWithdrawn_frame l a s).1
@[simp] theorem freeWithdrawn_mode (l : LotNo) (a : ActiveLot) (s : State) : (freeWithdrawn l a s).mode = s.mode := (freeWithdrawn_frame l a s).2.1
@[simp] theorem freeWithdrawn_activity (l : LotNo) (a : ActiveLot) (s : State) : (freeWithdrawn l a s).activity = s.activity := (freeWithdrawn_frame l a s).2.2.1
@[simp] theorem freeWithdrawn_tables (l : LotNo) (a : ActiveLot) (s : State) : (freeWithdrawn l a s).tables = s.tables := (freeWithdrawn_frame l a s).2.2.2.1
@[simp] theorem freeWithdrawn_tracker (l : LotNo) (a : ActiveLot) (s : State) : (freeWithdrawn l a s).tracker = s.tracker := (freeWithdrawn_frame l a s).2.2.2.2.1
@[simp] theorem freeWithdrawn_arbiter (l : LotNo) (a : ActiveLot) (s : State) : (freeWithdrawn l a s).arbiter = s.arbiter := (freeWithdrawn_frame l a s).2.2.2.2.2.1
@[simp] theorem freeWithdrawn_belt (l : LotNo) (a : ActiveLot) (s : State) : (freeWithdrawn l a s).belt = s.belt := (freeWithdrawn_frame l a s).2.2.2.2.2.2.1
@[simp] theorem freeWithdrawn_head (l : LotNo) (a : ActiveLot) (s : State) : (freeWithdrawn l a s).head = s.head := (freeWithdrawn_frame l a s).2.2.2.2.2.2.2.1
@[simp] theorem freeWithdrawn_filtration (l : LotNo) (a : ActiveLot) (s : State) : (freeWithdrawn l a s).filtration = s.filtration := (freeWithdrawn_frame l a s).2.2.2.2.2.2.2.2.1
@[simp] theorem freeWithdrawn_engine (l : LotNo) (a : ActiveLot) (s : State) : (freeWithdrawn l a s).engine = s.engine := (freeWithdrawn_frame l a s).2.2.2.2.2.2.2.2.2.1
@[simp] theorem freeWithdrawn_router (l : LotNo) (a : ActiveLot) (s : State) : (freeWithdrawn l a s).router = s.router := (freeWithdrawn_frame l a s).2.2.2.2.2.2.2.2.2.2.1
@[simp] theorem freeWithdrawn_notices (l : LotNo) (a : ActiveLot) (s : State) : (freeWithdrawn l a s).notices = s.notices := (freeWithdrawn_frame l a s).2.2.2.2.2.2.2.2.2.2.2.1
@[simp] theorem freeWithdrawn_coalescer (l : LotNo) (a : ActiveLot) (s : State) : (freeWithdrawn l a s).coalescer = s.coalescer := (freeWithdrawn_frame l a s).2.2.2.2.2.2.2.2.2.2.2.2.1
@[simp] theorem freeWithdrawn_cellPort (l : LotNo) (a : ActiveLot) (s : State) : (freeWithdrawn l a s).cellPort = s.cellPort := (freeWithdrawn_frame l a s).2.2.2.2.2.2.2.2.2.2.2.2.2.1
@[simp] theorem freeWithdrawn_plantPort (l : LotNo) (a : ActiveLot) (s : State) : (freeWithdrawn l a s).plantPort = s.plantPort := (freeWithdrawn_frame l a s).2.2.2.2.2.2.2.2.2.2.2.2.2.2.1
@[simp] theorem freeWithdrawn_eeprom (l : LotNo) (a : ActiveLot) (s : State) : (freeWithdrawn l a s).eeprom = s.eeprom := (freeWithdrawn_frame l a s).2.2.2.2.2.2.2.2.2.2.2.2.2.2.2.1
@[simp] theorem freeWithdrawn_draws (l : LotNo) (a : ActiveLot) (s : State) : (freeWithdrawn l a s).draws = s.draws := (freeWithdrawn_frame l a s).2.2.2.2.2.2.2.2.2.2.2.2.2.2.2.2.1
@[simp] theorem freeWithdrawn_raised (l : LotNo) (a : ActiveLot) (s : State) : (freeWithdrawn l a s).raised = s.raised := (freeWithdrawn_frame l a s).2.2.2.2.2.2.2.2.2.2.2.2.2.2.2.2.2.1
@[simp] theorem freeWithdrawn_handed (l : LotNo) (a : ActiveLot) (s : State) : (freeWithdrawn l a s).handed = s.handed := (freeWithdrawn_frame l a s).2.2.2.2.2.2.2.2.2.2.2.2.2.2.2.2.2.2.1
@[simp] theorem freeWithdrawn_pending (l : LotNo) (a : ActiveLot) (s : State) : (freeWithdrawn l a s).pending = s.pending := (freeWithdrawn_frame l a s).2.2.2.2.2.2.2.2.2.2.2.2.2.2.2.2.2.2.2

theorem sealShort_frame (l : LotNo) (a : ActiveLot) (s : State) :
    (sealShort l a s).now = s.now ∧
    (sealShort l a s).mode = s.mode ∧
    (sealShort l a s).activity = s.activity ∧
    (sealShort l a s).tables = s.tables ∧
    (sealShort l a s).tracker = s.tracker ∧
    (sealShort l a s).arbiter = s.arbiter ∧
    (sealShort l a s).belt = s.belt ∧
    (sealShort l a s).head = s.head ∧
    (sealShort l a s).engine = s.engine ∧
    (sealShort l a s).router = s.router ∧
    (sealShort l a s).notices = s.notices ∧
    (sealShort l a s).cellPort = s.cellPort ∧
    (sealShort l a s).plantPort = s.plantPort ∧
    (sealShort l a s).eeprom = s.eeprom ∧
    (sealShort l a s).draws = s.draws ∧
    (sealShort l a s).pending = s.pending := by
  simp [sealShort]
@[simp] theorem sealShort_now (l : LotNo) (a : ActiveLot) (s : State) : (sealShort l a s).now = s.now := (sealShort_frame l a s).1
@[simp] theorem sealShort_mode (l : LotNo) (a : ActiveLot) (s : State) : (sealShort l a s).mode = s.mode := (sealShort_frame l a s).2.1
@[simp] theorem sealShort_activity (l : LotNo) (a : ActiveLot) (s : State) : (sealShort l a s).activity = s.activity := (sealShort_frame l a s).2.2.1
@[simp] theorem sealShort_tables (l : LotNo) (a : ActiveLot) (s : State) : (sealShort l a s).tables = s.tables := (sealShort_frame l a s).2.2.2.1
@[simp] theorem sealShort_tracker (l : LotNo) (a : ActiveLot) (s : State) : (sealShort l a s).tracker = s.tracker := (sealShort_frame l a s).2.2.2.2.1
@[simp] theorem sealShort_arbiter (l : LotNo) (a : ActiveLot) (s : State) : (sealShort l a s).arbiter = s.arbiter := (sealShort_frame l a s).2.2.2.2.2.1
@[simp] theorem sealShort_belt (l : LotNo) (a : ActiveLot) (s : State) : (sealShort l a s).belt = s.belt := (sealShort_frame l a s).2.2.2.2.2.2.1
@[simp] theorem sealShort_head (l : LotNo) (a : ActiveLot) (s : State) : (sealShort l a s).head = s.head := (sealShort_frame l a s).2.2.2.2.2.2.2.1
@[simp] theorem sealShort_engine (l : LotNo) (a : ActiveLot) (s : State) : (sealShort l a s).engine = s.engine := (sealShort_frame l a s).2.2.2.2.2.2.2.2.1
@[simp] theorem sealShort_router (l : LotNo) (a : ActiveLot) (s : State) : (sealShort l a s).router = s.router := (sealShort_frame l a s).2.2.2.2.2.2.2.2.2.1
@[simp] theorem sealShort_notices (l : LotNo) (a : ActiveLot) (s : State) : (sealShort l a s).notices = s.notices := (sealShort_frame l a s).2.2.2.2.2.2.2.2.2.2.1
@[simp] theorem sealShort_cellPort (l : LotNo) (a : ActiveLot) (s : State) : (sealShort l a s).cellPort = s.cellPort := (sealShort_frame l a s).2.2.2.2.2.2.2.2.2.2.2.1
@[simp] theorem sealShort_plantPort (l : LotNo) (a : ActiveLot) (s : State) : (sealShort l a s).plantPort = s.plantPort := (sealShort_frame l a s).2.2.2.2.2.2.2.2.2.2.2.2.1
@[simp] theorem sealShort_eeprom (l : LotNo) (a : ActiveLot) (s : State) : (sealShort l a s).eeprom = s.eeprom := (sealShort_frame l a s).2.2.2.2.2.2.2.2.2.2.2.2.2.1
@[simp] theorem sealShort_draws (l : LotNo) (a : ActiveLot) (s : State) : (sealShort l a s).draws = s.draws := (sealShort_frame l a s).2.2.2.2.2.2.2.2.2.2.2.2.2.2.1
@[simp] theorem sealShort_pending (l : LotNo) (a : ActiveLot) (s : State) : (sealShort l a s).pending = s.pending := (sealShort_frame l a s).2.2.2.2.2.2.2.2.2.2.2.2.2.2.2

theorem withdrawLoading_frame (l : LotNo) (a : ActiveLot) (s : State) :
    (withdrawLoading l a s).now = s.now ∧
    (withdrawLoading l a s).mode = s.mode ∧
    (withdrawLoading l a s).activity = s.activity ∧
    (withdrawLoading l a s).tables = s.tables ∧
    (withdrawLoading l a s).tracker.last = s.tracker.last ∧
    (withdrawLoading l a s).tracker.acc = s.tracker.acc ∧
    (withdrawLoading l a s).arbiter = s.arbiter ∧
    (withdrawLoading l a s).belt = s.belt ∧
    (withdrawLoading l a s).engine = s.engine ∧
    (withdrawLoading l a s).router = s.router ∧
    (withdrawLoading l a s).cellPort.state = s.cellPort.state ∧
    (withdrawLoading l a s).plantPort.state = s.plantPort.state ∧
    (withdrawLoading l a s).eeprom = s.eeprom ∧
    (withdrawLoading l a s).draws = s.draws ∧
    (withdrawLoading l a s).pending = s.pending := by
  unfold withdrawLoading
  dsimp only
  repeat' split
  all_goals simp
@[simp] theorem withdrawLoading_now (l : LotNo) (a : ActiveLot) (s : State) : (withdrawLoading l a s).now = s.now := (withdrawLoading_frame l a s).1
@[simp] theorem withdrawLoading_mode (l : LotNo) (a : ActiveLot) (s : State) : (withdrawLoading l a s).mode = s.mode := (withdrawLoading_frame l a s).2.1
@[simp] theorem withdrawLoading_activity (l : LotNo) (a : ActiveLot) (s : State) : (withdrawLoading l a s).activity = s.activity := (withdrawLoading_frame l a s).2.2.1
@[simp] theorem withdrawLoading_tables (l : LotNo) (a : ActiveLot) (s : State) : (withdrawLoading l a s).tables = s.tables := (withdrawLoading_frame l a s).2.2.2.1
@[simp] theorem withdrawLoading_last (l : LotNo) (a : ActiveLot) (s : State) : (withdrawLoading l a s).tracker.last = s.tracker.last := (withdrawLoading_frame l a s).2.2.2.2.1
@[simp] theorem withdrawLoading_acc (l : LotNo) (a : ActiveLot) (s : State) : (withdrawLoading l a s).tracker.acc = s.tracker.acc := (withdrawLoading_frame l a s).2.2.2.2.2.1
@[simp] theorem withdrawLoading_arbiter (l : LotNo) (a : ActiveLot) (s : State) : (withdrawLoading l a s).arbiter = s.arbiter := (withdrawLoading_frame l a s).2.2.2.2.2.2.1
@[simp] theorem withdrawLoading_belt (l : LotNo) (a : ActiveLot) (s : State) : (withdrawLoading l a s).belt = s.belt := (withdrawLoading_frame l a s).2.2.2.2.2.2.2.1
@[simp] theorem withdrawLoading_engine (l : LotNo) (a : ActiveLot) (s : State) : (withdrawLoading l a s).engine = s.engine := (withdrawLoading_frame l a s).2.2.2.2.2.2.2.2.1
@[simp] theorem withdrawLoading_router (l : LotNo) (a : ActiveLot) (s : State) : (withdrawLoading l a s).router = s.router := (withdrawLoading_frame l a s).2.2.2.2.2.2.2.2.2.1
@[simp] theorem withdrawLoading_cellState (l : LotNo) (a : ActiveLot) (s : State) : (withdrawLoading l a s).cellPort.state = s.cellPort.state := (withdrawLoading_frame l a s).2.2.2.2.2.2.2.2.2.2.1
@[simp] theorem withdrawLoading_plantState (l : LotNo) (a : ActiveLot) (s : State) : (withdrawLoading l a s).plantPort.state = s.plantPort.state := (withdrawLoading_frame l a s).2.2.2.2.2.2.2.2.2.2.2.1
@[simp] theorem withdrawLoading_eeprom (l : LotNo) (a : ActiveLot) (s : State) : (withdrawLoading l a s).eeprom = s.eeprom := (withdrawLoading_frame l a s).2.2.2.2.2.2.2.2.2.2.2.2.1
@[simp] theorem withdrawLoading_draws (l : LotNo) (a : ActiveLot) (s : State) : (withdrawLoading l a s).draws = s.draws := (withdrawLoading_frame l a s).2.2.2.2.2.2.2.2.2.2.2.2.2.1
@[simp] theorem withdrawLoading_pending (l : LotNo) (a : ActiveLot) (s : State) : (withdrawLoading l a s).pending = s.pending := (withdrawLoading_frame l a s).2.2.2.2.2.2.2.2.2.2.2.2.2.2

theorem opDischargeEnd_frame (node : Byte) (lot : Byte) (mass : Half) (s : State) :
    (opDischargeEnd node lot mass s).now = s.now ∧
    (opDischargeEnd node lot mass s).mode = s.mode ∧
    (opDischargeEnd node lot mass s).activity = s.activity ∧
    (opDischargeEnd node lot mass s).tables = s.tables ∧
    (opDischargeEnd node lot mass s).tracker = s.tracker ∧
    (opDischargeEnd node lot mass s).arbiter = s.arbiter ∧
    (opDischargeEnd node lot mass s).belt = s.belt ∧
    (opDischargeEnd node lot mass s).head = s.head ∧
    (opDischargeEnd node lot mass s).filtration = s.filtration ∧
    (opDischargeEnd node lot mass s).engine = s.engine ∧
    (opDischargeEnd node lot mass s).router = s.router ∧
    (opDischargeEnd node lot mass s).coalescer = s.coalescer ∧
    (opDischargeEnd node lot mass s).cellPort = s.cellPort ∧
    (opDischargeEnd node lot mass s).plantPort = s.plantPort ∧
    (opDischargeEnd node lot mass s).eeprom = s.eeprom ∧
    (opDischargeEnd node lot mass s).draws = s.draws ∧
    (opDischargeEnd node lot mass s).raised = s.raised ∧
    (opDischargeEnd node lot mass s).handed = s.handed ∧
    (opDischargeEnd node lot mass s).pending = s.pending := by
  unfold opDischargeEnd
  repeat' split
  all_goals simp
@[simp] theorem opDischargeEnd_now (node : Byte) (lot : Byte) (mass : Half) (s : State) : (opDischargeEnd node lot mass s).now = s.now := (opDischargeEnd_frame node lot mass s).1
@[simp] theorem opDischargeEnd_mode (node : Byte) (lot : Byte) (mass : Half) (s : State) : (opDischargeEnd node lot mass s).mode = s.mode := (opDischargeEnd_frame node lot mass s).2.1
@[simp] theorem opDischargeEnd_activity (node : Byte) (lot : Byte) (mass : Half) (s : State) : (opDischargeEnd node lot mass s).activity = s.activity := (opDischargeEnd_frame node lot mass s).2.2.1
@[simp] theorem opDischargeEnd_tables (node : Byte) (lot : Byte) (mass : Half) (s : State) : (opDischargeEnd node lot mass s).tables = s.tables := (opDischargeEnd_frame node lot mass s).2.2.2.1
@[simp] theorem opDischargeEnd_tracker (node : Byte) (lot : Byte) (mass : Half) (s : State) : (opDischargeEnd node lot mass s).tracker = s.tracker := (opDischargeEnd_frame node lot mass s).2.2.2.2.1
@[simp] theorem opDischargeEnd_arbiter (node : Byte) (lot : Byte) (mass : Half) (s : State) : (opDischargeEnd node lot mass s).arbiter = s.arbiter := (opDischargeEnd_frame node lot mass s).2.2.2.2.2.1
@[simp] theorem opDischargeEnd_belt (node : Byte) (lot : Byte) (mass : Half) (s : State) : (opDischargeEnd node lot mass s).belt = s.belt := (opDischargeEnd_frame node lot mass s).2.2.2.2.2.2.1
@[simp] theorem opDischargeEnd_head (node : Byte) (lot : Byte) (mass : Half) (s : State) : (opDischargeEnd node lot mass s).head = s.head := (opDischargeEnd_frame node lot mass s).2.2.2.2.2.2.2.1
@[simp] theorem opDischargeEnd_filtration (node : Byte) (lot : Byte) (mass : Half) (s : State) : (opDischargeEnd node lot mass s).filtration = s.filtration := (opDischargeEnd_frame node lot mass s).2.2.2.2.2.2.2.2.1
@[simp] theorem opDischargeEnd_engine (node : Byte) (lot : Byte) (mass : Half) (s : State) : (opDischargeEnd node lot mass s).engine = s.engine := (opDischargeEnd_frame node lot mass s).2.2.2.2.2.2.2.2.2.1
@[simp] theorem opDischargeEnd_router (node : Byte) (lot : Byte) (mass : Half) (s : State) : (opDischargeEnd node lot mass s).router = s.router := (opDischargeEnd_frame node lot mass s).2.2.2.2.2.2.2.2.2.2.1
@[simp] theorem opDischargeEnd_coalescer (node : Byte) (lot : Byte) (mass : Half) (s : State) : (opDischargeEnd node lot mass s).coalescer = s.coalescer := (opDischargeEnd_frame node lot mass s).2.2.2.2.2.2.2.2.2.2.2.1
@[simp] theorem opDischargeEnd_cellPort (node : Byte) (lot : Byte) (mass : Half) (s : State) : (opDischargeEnd node lot mass s).cellPort = s.cellPort := (opDischargeEnd_frame node lot mass s).2.2.2.2.2.2.2.2.2.2.2.2.1
@[simp] theorem opDischargeEnd_plantPort (node : Byte) (lot : Byte) (mass : Half) (s : State) : (opDischargeEnd node lot mass s).plantPort = s.plantPort := (opDischargeEnd_frame node lot mass s).2.2.2.2.2.2.2.2.2.2.2.2.2.1
@[simp] theorem opDischargeEnd_eeprom (node : Byte) (lot : Byte) (mass : Half) (s : State) : (opDischargeEnd node lot mass s).eeprom = s.eeprom := (opDischargeEnd_frame node lot mass s).2.2.2.2.2.2.2.2.2.2.2.2.2.2.1
@[simp] theorem opDischargeEnd_draws (node : Byte) (lot : Byte) (mass : Half) (s : State) : (opDischargeEnd node lot mass s).draws = s.draws := (opDischargeEnd_frame node lot mass s).2.2.2.2.2.2.2.2.2.2.2.2.2.2.2.1
@[simp] theorem opDischargeEnd_raised (node : Byte) (lot : Byte) (mass : Half) (s : State) : (opDischargeEnd node lot mass s).raised = s.raised := (opDischargeEnd_frame node lot mass s).2.2.2.2.2.2.2.2.2.2.2.2.2.2.2.2.1
@[simp] theorem opDischargeEnd_handed (node : Byte) (lot : Byte) (mass : Half) (s : State) : (opDischargeEnd node lot mass s).handed = s.handed := (opDischargeEnd_frame node lot mass s).2.2.2.2.2.2.2.2.2.2.2.2.2.2.2.2.2.1
@[simp] theorem opDischargeEnd_pending (node : Byte) (lot : Byte) (mass : Half) (s : State) : (opDischargeEnd node lot mass s).pending = s.pending := (opDischargeEnd_frame node lot mass s).2.2.2.2.2.2.2.2.2.2.2.2.2.2.2.2.2.2

theorem completeLot_frame (l : LotNo) (a : ActiveLot) (s : State) :
    (completeLot l a s).now = s.now ∧
    (completeLot l a s).mode = s.mode ∧
    (completeLot l a s).activity = s.activity ∧
    (completeLot l a s).tables = s.tables ∧
    (completeLot l a s).tracker = s.tracker ∧
    (completeLot l a s).arbiter = s.arbiter ∧
    (completeLot l a s).belt = s.belt ∧
    (completeLot l a s).head = s.head ∧
    (completeLot l a s).filtration = s.filtration ∧
    (completeLot l a s).engine = s.engine ∧
    (completeLot l a s).router = s.router ∧
    (completeLot l a s).notices = s.notices ∧
    (completeLot l a s).coalescer = s.coalescer ∧
    (completeLot l a s).cellPort = s.cellPort ∧
    (completeLot l a s).plantPort = s.plantPort ∧
    (completeLot l a s).eeprom = s.eeprom ∧
    (completeLot l a s).draws = s.draws ∧
    (completeLot l a s).handed = s.handed ∧
    (completeLot l a s).pending = s.pending := by
  simp [completeLot]
@[simp] theorem completeLot_now (l : LotNo) (a : ActiveLot) (s : State) : (completeLot l a s).now = s.now := (completeLot_frame l a s).1
@[simp] theorem completeLot_mode (l : LotNo) (a : ActiveLot) (s : State) : (completeLot l a s).mode = s.mode := (completeLot_frame l a s).2.1
@[simp] theorem completeLot_activity (l : LotNo) (a : ActiveLot) (s : State) : (completeLot l a s).activity = s.activity := (completeLot_frame l a s).2.2.1
@[simp] theorem completeLot_tables (l : LotNo) (a : ActiveLot) (s : State) : (completeLot l a s).tables = s.tables := (completeLot_frame l a s).2.2.2.1
@[simp] theorem completeLot_tracker (l : LotNo) (a : ActiveLot) (s : State) : (completeLot l a s).tracker = s.tracker := (completeLot_frame l a s).2.2.2.2.1
@[simp] theorem completeLot_arbiter (l : LotNo) (a : ActiveLot) (s : State) : (completeLot l a s).arbiter = s.arbiter := (completeLot_frame l a s).2.2.2.2.2.1
@[simp] theorem completeLot_belt (l : LotNo) (a : ActiveLot) (s : State) : (completeLot l a s).belt = s.belt := (completeLot_frame l a s).2.2.2.2.2.2.1
@[simp] theorem completeLot_head (l : LotNo) (a : ActiveLot) (s : State) : (completeLot l a s).head = s.head := (completeLot_frame l a s).2.2.2.2.2.2.2.1
@[simp] theorem completeLot_filtration (l : LotNo) (a : ActiveLot) (s : State) : (completeLot l a s).filtration = s.filtration := (completeLot_frame l a s).2.2.2.2.2.2.2.2.1
@[simp] theorem completeLot_engine (l : LotNo) (a : ActiveLot) (s : State) : (completeLot l a s).engine = s.engine := (completeLot_frame l a s).2.2.2.2.2.2.2.2.2.1
@[simp] theorem completeLot_router (l : LotNo) (a : ActiveLot) (s : State) : (completeLot l a s).router = s.router := (completeLot_frame l a s).2.2.2.2.2.2.2.2.2.2.1
@[simp] theorem completeLot_notices (l : LotNo) (a : ActiveLot) (s : State) : (completeLot l a s).notices = s.notices := (completeLot_frame l a s).2.2.2.2.2.2.2.2.2.2.2.1
@[simp] theorem completeLot_coalescer (l : LotNo) (a : ActiveLot) (s : State) : (completeLot l a s).coalescer = s.coalescer := (completeLot_frame l a s).2.2.2.2.2.2.2.2.2.2.2.2.1
@[simp] theorem completeLot_cellPort (l : LotNo) (a : ActiveLot) (s : State) : (completeLot l a s).cellPort = s.cellPort := (completeLot_frame l a s).2.2.2.2.2.2.2.2.2.2.2.2.2.1
@[simp] theorem completeLot_plantPort (l : LotNo) (a : ActiveLot) (s : State) : (completeLot l a s).plantPort = s.plantPort := (completeLot_frame l a s).2.2.2.2.2.2.2.2.2.2.2.2.2.2.1
@[simp] theorem completeLot_eeprom (l : LotNo) (a : ActiveLot) (s : State) : (completeLot l a s).eeprom = s.eeprom := (completeLot_frame l a s).2.2.2.2.2.2.2.2.2.2.2.2.2.2.2.1
@[simp] theorem completeLot_draws (l : LotNo) (a : ActiveLot) (s : State) : (completeLot l a s).draws = s.draws := (completeLot_frame l a s).2.2.2.2.2.2.2.2.2.2.2.2.2.2.2.2.1
@[simp] theorem completeLot_handed (l : LotNo) (a : ActiveLot) (s : State) : (completeLot l a s).handed = s.handed := (completeLot_frame l a s).2.2.2.2.2.2.2.2.2.2.2.2.2.2.2.2.2.1
@[simp] theorem completeLot_pending (l : LotNo) (a : ActiveLot) (s : State) : (completeLot l a s).pending = s.pending := (completeLot_frame l a s).2.2.2.2.2.2.2.2.2.2.2.2.2.2.2.2.2.2

theorem grant_frame (c : CellNo) (q : Request) (l : LotNo) (s : State) :
    (grant c q l s).now = s.now ∧
    (grant c q l s).mode = s.mode ∧
    (grant c q l s).activity = s.activity ∧
    (grant c q l s).tables = s.tables ∧
    (grant c q l s).tracker.last = s.tracker.last ∧
    (grant c q l s).tracker.acc = s.tracker.acc ∧
    (grant c q l s).belt = s.belt ∧
    (grant c q l s).filtration = s.filtration ∧
    (grant c q l s).engine = s.engine ∧
    (grant c q l s).router = s.router ∧
    (grant c q l s).cellPort.state = s.cellPort.state ∧
    (grant c q l s).plantPort.state = s.plantPort.state ∧
    (grant c q l s).eeprom = s.eeprom ∧
    (grant c q l s).draws = s.draws ∧
    (grant c q l s).raised = s.raised ∧
    (grant c q l s).pending = s.pending := by
  simp [grant]
@[simp] theorem grant_now (c : CellNo) (q : Request) (l : LotNo) (s : State) : (grant c q l s).now = s.now := (grant_frame c q l s).1
@[simp] theorem grant_mode (c : CellNo) (q : Request) (l : LotNo) (s : State) : (grant c q l s).mode = s.mode := (grant_frame c q l s).2.1
@[simp] theorem grant_activity (c : CellNo) (q : Request) (l : LotNo) (s : State) : (grant c q l s).activity = s.activity := (grant_frame c q l s).2.2.1
@[simp] theorem grant_tables (c : CellNo) (q : Request) (l : LotNo) (s : State) : (grant c q l s).tables = s.tables := (grant_frame c q l s).2.2.2.1
@[simp] theorem grant_last (c : CellNo) (q : Request) (l : LotNo) (s : State) : (grant c q l s).tracker.last = s.tracker.last := (grant_frame c q l s).2.2.2.2.1
@[simp] theorem grant_acc (c : CellNo) (q : Request) (l : LotNo) (s : State) : (grant c q l s).tracker.acc = s.tracker.acc := (grant_frame c q l s).2.2.2.2.2.1
@[simp] theorem grant_belt (c : CellNo) (q : Request) (l : LotNo) (s : State) : (grant c q l s).belt = s.belt := (grant_frame c q l s).2.2.2.2.2.2.1
@[simp] theorem grant_filtration (c : CellNo) (q : Request) (l : LotNo) (s : State) : (grant c q l s).filtration = s.filtration := (grant_frame c q l s).2.2.2.2.2.2.2.1
@[simp] theorem grant_engine (c : CellNo) (q : Request) (l : LotNo) (s : State) : (grant c q l s).engine = s.engine := (grant_frame c q l s).2.2.2.2.2.2.2.2.1
@[simp] theorem grant_router (c : CellNo) (q : Request) (l : LotNo) (s : State) : (grant c q l s).router = s.router := (grant_frame c q l s).2.2.2.2.2.2.2.2.2.1
@[simp] theorem grant_cellState (c : CellNo) (q : Request) (l : LotNo) (s : State) : (grant c q l s).cellPort.state = s.cellPort.state := (grant_frame c q l s).2.2.2.2.2.2.2.2.2.2.1
@[simp] theorem grant_plantState (c : CellNo) (q : Request) (l : LotNo) (s : State) : (grant c q l s).plantPort.state = s.plantPort.state := (grant_frame c q l s).2.2.2.2.2.2.2.2.2.2.2.1
@[simp] theorem grant_eeprom (c : CellNo) (q : Request) (l : LotNo) (s : State) : (grant c q l s).eeprom = s.eeprom := (grant_frame c q l s).2.2.2.2.2.2.2.2.2.2.2.2.1
@[simp] theorem grant_draws (c : CellNo) (q : Request) (l : LotNo) (s : State) : (grant c q l s).draws = s.draws := (grant_frame c q l s).2.2.2.2.2.2.2.2.2.2.2.2.2.1
@[simp] theorem grant_raised (c : CellNo) (q : Request) (l : LotNo) (s : State) : (grant c q l s).raised = s.raised := (grant_frame c q l s).2.2.2.2.2.2.2.2.2.2.2.2.2.2.1
@[simp] theorem grant_pending (c : CellNo) (q : Request) (l : LotNo) (s : State) : (grant c q l s).pending = s.pending := (grant_frame c q l s).2.2.2.2.2.2.2.2.2.2.2.2.2.2.2

theorem considerRequest_frame (c : CellNo) (q : Request) (s : State) :
    (considerRequest c q s).now = s.now ∧
    (considerRequest c q s).mode = s.mode ∧
    (considerRequest c q s).activity = s.activity ∧
    (considerRequest c q s).tables = s.tables ∧
    (considerRequest c q s).tracker.last = s.tracker.last ∧
    (considerRequest c q s).tracker.acc = s.tracker.acc ∧
    (considerRequest c q s).belt = s.belt ∧
    (considerRequest c q s).filtration = s.filtration ∧
    (considerRequest c q s).engine = s.engine ∧
    (considerRequest c q s).router = s.router ∧
    (considerRequest c q s).cellPort.state = s.cellPort.state ∧
    (considerRequest c q s).plantPort.state = s.plantPort.state ∧
    (considerRequest c q s).eeprom = s.eeprom ∧
    (considerRequest c q s).draws = s.draws ∧
    (considerRequest c q s).raised = s.raised ∧
    (considerRequest c q s).pending = s.pending := by
  unfold considerRequest
  repeat' split
  all_goals simp
@[simp] theorem considerRequest_now (c : CellNo) (q : Request) (s : State) : (considerRequest c q s).now = s.now := (considerRequest_frame c q s).1
@[simp] theorem considerRequest_mode (c : CellNo) (q : Request) (s : State) : (considerRequest c q s).mode = s.mode := (considerRequest_frame c q s).2.1
@[simp] theorem considerRequest_activity (c : CellNo) (q : Request) (s : State) : (considerRequest c q s).activity = s.activity := (considerRequest_frame c q s).2.2.1
@[simp] theorem considerRequest_tables (c : CellNo) (q : Request) (s : State) : (considerRequest c q s).tables = s.tables := (considerRequest_frame c q s).2.2.2.1
@[simp] theorem considerRequest_last (c : CellNo) (q : Request) (s : State) : (considerRequest c q s).tracker.last = s.tracker.last := (considerRequest_frame c q s).2.2.2.2.1
@[simp] theorem considerRequest_acc (c : CellNo) (q : Request) (s : State) : (considerRequest c q s).tracker.acc = s.tracker.acc := (considerRequest_frame c q s).2.2.2.2.2.1
@[simp] theorem considerRequest_belt (c : CellNo) (q : Request) (s : State) : (considerRequest c q s).belt = s.belt := (considerRequest_frame c q s).2.2.2.2.2.2.1
@[simp] theorem considerRequest_filtration (c : CellNo) (q : Request) (s : State) : (considerRequest c q s).filtration = s.filtration := (considerRequest_frame c q s).2.2.2.2.2.2.2.1
@[simp] theorem considerRequest_engine (c : CellNo) (q : Request) (s : State) : (considerRequest c q s).engine = s.engine := (considerRequest_frame c q s).2.2.2.2.2.2.2.2.1
@[simp] theorem considerRequest_router (c : CellNo) (q : Request) (s : State) : (considerRequest c q s).router = s.router := (considerRequest_frame c q s).2.2.2.2.2.2.2.2.2.1
@[simp] theorem considerRequest_cellState (c : CellNo) (q : Request) (s : State) : (considerRequest c q s).cellPort.state = s.cellPort.state := (considerRequest_frame c q s).2.2.2.2.2.2.2.2.2.2.1
@[simp] theorem considerRequest_plantState (c : CellNo) (q : Request) (s : State) : (considerRequest c q s).plantPort.state = s.plantPort.state := (considerRequest_frame c q s).2.2.2.2.2.2.2.2.2.2.2.1
@[simp] theorem considerRequest_eeprom (c : CellNo) (q : Request) (s : State) : (considerRequest c q s).eeprom = s.eeprom := (considerRequest_frame c q s).2.2.2.2.2.2.2.2.2.2.2.2.1
@[simp] theorem considerRequest_draws (c : CellNo) (q : Request) (s : State) : (considerRequest c q s).draws = s.draws := (considerRequest_frame c q s).2.2.2.2.2.2.2.2.2.2.2.2.2.1
@[simp] theorem considerRequest_raised (c : CellNo) (q : Request) (s : State) : (considerRequest c q s).raised = s.raised := (considerRequest_frame c q s).2.2.2.2.2.2.2.2.2.2.2.2.2.2.1
@[simp] theorem considerRequest_pending (c : CellNo) (q : Request) (s : State) : (considerRequest c q s).pending = s.pending := (considerRequest_frame c q s).2.2.2.2.2.2.2.2.2.2.2.2.2.2.2

theorem considerCell_frame (c : CellNo) (s : State) :
    (considerCell c s).now = s.now ∧
    (considerCell c s).mode = s.mode ∧
    (considerCell c s).activity = s.activity ∧
    (considerCell c s).tables = s.tables ∧
    (considerCell c s).tracker.last = s.tracker.last ∧
    (considerCell c s).tracker.acc = s.tracker.acc ∧
    (considerCell c s).belt = s.belt ∧
    (considerCell c s).filtration = s.filtration ∧
    (considerCell c s).engine = s.engine ∧
    (considerCell c s).router = s.router ∧
    (considerCell c s).cellPort.state = s.cellPort.state ∧
    (considerCell c s).plantPort.state = s.plantPort.state ∧
    (considerCell c s).eeprom = s.eeprom ∧
    (considerCell c s).draws = s.draws ∧
    (considerCell c s).raised = s.raised ∧
    (considerCell c s).pending = s.pending := by
  unfold considerCell
  repeat' split
  all_goals simp
@[simp] theorem considerCell_now (c : CellNo) (s : State) : (considerCell c s).now = s.now := (considerCell_frame c s).1
@[simp] theorem considerCell_mode (c : CellNo) (s : State) : (considerCell c s).mode = s.mode := (considerCell_frame c s).2.1
@[simp] theorem considerCell_activity (c : CellNo) (s : State) : (considerCell c s).activity = s.activity := (considerCell_frame c s).2.2.1
@[simp] theorem considerCell_tables (c : CellNo) (s : State) : (considerCell c s).tables = s.tables := (considerCell_frame c s).2.2.2.1
@[simp] theorem considerCell_last (c : CellNo) (s : State) : (considerCell c s).tracker.last = s.tracker.last := (considerCell_frame c s).2.2.2.2.1
@[simp] theorem considerCell_acc (c : CellNo) (s : State) : (considerCell c s).tracker.acc = s.tracker.acc := (considerCell_frame c s).2.2.2.2.2.1
@[simp] theorem considerCell_belt (c : CellNo) (s : State) : (considerCell c s).belt = s.belt := (considerCell_frame c s).2.2.2.2.2.2.1
@[simp] theorem considerCell_filtration (c : CellNo) (s : State) : (considerCell c s).filtration = s.filtration := (considerCell_frame c s).2.2.2.2.2.2.2.1
@[simp] theorem considerCell_engine (c : CellNo) (s : State) : (considerCell c s).engine = s.engine := (considerCell_frame c s).2.2.2.2.2.2.2.2.1
@[simp] theorem considerCell_router (c : CellNo) (s : State) : (considerCell c s).router = s.router := (considerCell_frame c s).2.2.2.2.2.2.2.2.2.1
@[simp] theorem considerCell_cellState (c : CellNo) (s : State) : (considerCell c s).cellPort.state = s.cellPort.state := (considerCell_frame c s).2.2.2.2.2.2.2.2.2.2.1
@[simp] theorem considerCell_plantState (c : CellNo) (s : State) : (considerCell c s).plantPort.state = s.plantPort.state := (considerCell_frame c s).2.2.2.2.2.2.2.2.2.2.2.1
@[simp] theorem considerCell_eeprom (c : CellNo) (s : State) : (considerCell c s).eeprom = s.eeprom := (considerCell_frame c s).2.2.2.2.2.2.2.2.2.2.2.2.1
@[simp] theorem considerCell_draws (c : CellNo) (s : State) : (considerCell c s).draws = s.draws := (considerCell_frame c s).2.2.2.2.2.2.2.2.2.2.2.2.2.1
@[simp] theorem considerCell_raised (c : CellNo) (s : State) : (considerCell c s).raised = s.raised := (considerCell_frame c s).2.2.2.2.2.2.2.2.2.2.2.2.2.2.1
@[simp] theorem considerCell_pending (c : CellNo) (s : State) : (considerCell c s).pending = s.pending := (considerCell_frame c s).2.2.2.2.2.2.2.2.2.2.2.2.2.2.2

theorem sweepPass_frame (s : State) :
    (sweepPass s).now = s.now ∧
    (sweepPass s).mode = s.mode ∧
    (sweepPass s).activity = s.activity ∧
    (sweepPass s).tables = s.tables ∧
    (sweepPass s).tracker.last = s.tracker.last ∧
    (sweepPass s).tracker.acc = s.tracker.acc ∧
    (sweepPass s).belt = s.belt ∧
    (sweepPass s).filtration = s.filtration ∧
    (sweepPass s).engine = s.engine ∧
    (sweepPass s).router = s.router ∧
    (sweepPass s).cellPort.state = s.cellPort.state ∧
    (sweepPass s).plantPort.state = s.plantPort.state ∧
    (sweepPass s).eeprom = s.eeprom ∧
    (sweepPass s).draws = s.draws ∧
    (sweepPass s).raised = s.raised ∧
    (sweepPass s).pending = s.pending := by
  unfold sweepPass
  dsimp only
  repeat' split
  all_goals simp
@[simp] theorem sweepPass_now (s : State) : (sweepPass s).now = s.now := (sweepPass_frame s).1
@[simp] theorem sweepPass_mode (s : State) : (sweepPass s).mode = s.mode := (sweepPass_frame s).2.1
@[simp] theorem sweepPass_activity (s : State) : (sweepPass s).activity = s.activity := (sweepPass_frame s).2.2.1
@[simp] theorem sweepPass_tables (s : State) : (sweepPass s).tables = s.tables := (sweepPass_frame s).2.2.2.1
@[simp] theorem sweepPass_last (s : State) : (sweepPass s).tracker.last = s.tracker.last := (sweepPass_frame s).2.2.2.2.1
@[simp] theorem sweepPass_acc (s : State) : (sweepPass s).tracker.acc = s.tracker.acc := (sweepPass_frame s).2.2.2.2.2.1
@[simp] theorem sweepPass_belt (s : State) : (sweepPass s).belt = s.belt := (sweepPass_frame s).2.2.2.2.2.2.1
@[simp] theorem sweepPass_filtration (s : State) : (sweepPass s).filtration = s.filtration := (sweepPass_frame s).2.2.2.2.2.2.2.1
@[simp] theorem sweepPass_engine (s : State) : (sweepPass s).engine = s.engine := (sweepPass_frame s).2.2.2.2.2.2.2.2.1
@[simp] theorem sweepPass_router (s : State) : (sweepPass s).router = s.router := (sweepPass_frame s).2.2.2.2.2.2.2.2.2.1
@[simp] theorem sweepPass_cellState (s : State) : (sweepPass s).cellPort.state = s.cellPort.state := (sweepPass_frame s).2.2.2.2.2.2.2.2.2.2.1
@[simp] theorem sweepPass_plantState (s : State) : (sweepPass s).plantPort.state = s.plantPort.state := (sweepPass_frame s).2.2.2.2.2.2.2.2.2.2.2.1
@[simp] theorem sweepPass_eeprom (s : State) : (sweepPass s).eeprom = s.eeprom := (sweepPass_frame s).2.2.2.2.2.2.2.2.2.2.2.2.1
@[simp] theorem sweepPass_draws (s : State) : (sweepPass s).draws = s.draws := (sweepPass_frame s).2.2.2.2.2.2.2.2.2.2.2.2.2.1
@[simp] theorem sweepPass_raised (s : State) : (sweepPass s).raised = s.raised := (sweepPass_frame s).2.2.2.2.2.2.2.2.2.2.2.2.2.2.1
@[simp] theorem sweepPass_pending (s : State) : (sweepPass s).pending = s.pending := (sweepPass_frame s).2.2.2.2.2.2.2.2.2.2.2.2.2.2.2

theorem arbiterPass_frame (s : State) :
    (arbiterPass s).now = s.now ∧
    (arbiterPass s).mode = s.mode ∧
    (arbiterPass s).activity = s.activity ∧
    (arbiterPass s).tables = s.tables ∧
    (arbiterPass s).tracker.last = s.tracker.last ∧
    (arbiterPass s).tracker.acc = s.tracker.acc ∧
    (arbiterPass s).belt = s.belt ∧
    (arbiterPass s).filtration = s.filtration ∧
    (arbiterPass s).engine = s.engine ∧
    (arbiterPass s).router = s.router ∧
    (arbiterPass s).cellPort.state = s.cellPort.state ∧
    (arbiterPass s).plantPort.state = s.plantPort.state ∧
    (arbiterPass s).eeprom = s.eeprom ∧
    (arbiterPass s).draws = s.draws ∧
    (arbiterPass s).raised = s.raised ∧
    (arbiterPass s).pending = s.pending := by
  unfold arbiterPass
  dsimp only
  repeat' split
  all_goals simp
@[simp] theorem arbiterPass_now (s : State) : (arbiterPass s).now = s.now := (arbiterPass_frame s).1
@[simp] theorem arbiterPass_mode (s : State) : (arbiterPass s).mode = s.mode := (arbiterPass_frame s).2.1
@[simp] theorem arbiterPass_activity (s : State) : (arbiterPass s).activity = s.activity := (arbiterPass_frame s).2.2.1
@[simp] theorem arbiterPass_tables (s : State) : (arbiterPass s).tables = s.tables := (arbiterPass_frame s).2.2.2.1
@[simp] theorem arbiterPass_last (s : State) : (arbiterPass s).tracker.last = s.tracker.last := (arbiterPass_frame s).2.2.2.2.1
@[simp] theorem arbiterPass_acc (s : State) : (arbiterPass s).tracker.acc = s.tracker.acc := (arbiterPass_frame s).2.2.2.2.2.1
@[simp] theorem arbiterPass_belt (s : State) : (arbiterPass s).belt = s.belt := (arbiterPass_frame s).2.2.2.2.2.2.1
@[simp] theorem arbiterPass_filtration (s : State) : (arbiterPass s).filtration = s.filtration := (arbiterPass_frame s).2.2.2.2.2.2.2.1
@[simp] theorem arbiterPass_engine (s : State) : (arbiterPass s).engine = s.engine := (arbiterPass_frame s).2.2.2.2.2.2.2.2.1
@[simp] theorem arbiterPass_router (s : State) : (arbiterPass s).router = s.router := (arbiterPass_frame s).2.2.2.2.2.2.2.2.2.1
@[simp] theorem arbiterPass_cellState (s : State) : (arbiterPass s).cellPort.state = s.cellPort.state := (arbiterPass_frame s).2.2.2.2.2.2.2.2.2.2.1
@[simp] theorem arbiterPass_plantState (s : State) : (arbiterPass s).plantPort.state = s.plantPort.state := (arbiterPass_frame s).2.2.2.2.2.2.2.2.2.2.2.1
@[simp] theorem arbiterPass_eeprom (s : State) : (arbiterPass s).eeprom = s.eeprom := (arbiterPass_frame s).2.2.2.2.2.2.2.2.2.2.2.2.1
@[simp] theorem arbiterPass_draws (s : State) : (arbiterPass s).draws = s.draws := (arbiterPass_frame s).2.2.2.2.2.2.2.2.2.2.2.2.2.1
@[simp] theorem arbiterPass_raised (s : State) : (arbiterPass s).raised = s.raised := (arbiterPass_frame s).2.2.2.2.2.2.2.2.2.2.2.2.2.2.1
@[simp] theorem arbiterPass_pending (s : State) : (arbiterPass s).pending = s.pending := (arbiterPass_frame s).2.2.2.2.2.2.2.2.2.2.2.2.2.2.2

theorem orderLoading_frame (o : Order) (c : Counter) (l : LotNo) (s : State) :
    (orderLoading o c l s).now = s.now ∧
    (orderLoading o c l s).mode = s.mode ∧
    (orderLoading o c l s).activity = s.activity ∧
    (orderLoading o c l s).tables = s.tables ∧
    (orderLoading o c l s).tracker = s.tracker ∧
    (orderLoading o c l s).lots = s.lots ∧
    (orderLoading o c l s).arbiter = s.arbiter ∧
    (orderLoading o c l s).belt = s.belt ∧
    (orderLoading o c l s).head = s.head ∧
    (orderLoading o c l s).filtration = s.filtration ∧
    (orderLoading o c l s).engine = s.engine ∧
    (orderLoading o c l s).router = s.router ∧
    (orderLoading o c l s).coalescer = s.coalescer ∧
    (orderLoading o c l s).cellPort.state = s.cellPort.state ∧
    (orderLoading o c l s).plantPort.state = s.plantPort.state ∧
    (orderLoading o c l s).eeprom = s.eeprom ∧
    (orderLoading o c l s).draws = s.draws ∧
    (orderLoading o c l s).raised = s.raised ∧
    (orderLoading o c l s).handed = s.handed ∧
    (orderLoading o c l s).pending = s.pending := by
  unfold orderLoading
  repeat' split
  all_goals simp
@[simp] theorem orderLoading_now (o : Order) (c : Counter) (l : LotNo) (s : State) : (orderLoading o c l s).now = s.now := (orderLoading_frame o c l s).1
@[simp] theorem orderLoading_mode (o : Order) (c : Counter) (l : LotNo) (s : State) : (orderLoading o c l s).mode = s.mode := (orderLoading_frame o c l s).2.1
@[simp] theorem orderLoading_activity (o : Order) (c : Counter) (l : LotNo) (s : State) : (orderLoading o c l s).activity = s.activity := (orderLoading_frame o c l s).2.2.1
@[simp] theorem orderLoading_tables (o : Order) (c : Counter) (l : LotNo) (s : State) : (orderLoading o c l s).tables = s.tables := (orderLoading_frame o c l s).2.2.2.1
@[simp] theorem orderLoading_tracker (o : Order) (c : Counter) (l : LotNo) (s : State) : (orderLoading o c l s).tracker = s.tracker := (orderLoading_frame o c l s).2.2.2.2.1
@[simp] theorem orderLoading_lots (o : Order) (c : Counter) (l : LotNo) (s : State) : (orderLoading o c l s).lots = s.lots := (orderLoading_frame o c l s).2.2.2.2.2.1
@[simp] theorem orderLoading_arbiter (o : Order) (c : Counter) (l : LotNo) (s : State) : (orderLoading o c l s).arbiter = s.arbiter := (orderLoading_frame o c l s).2.2.2.2.2.2.1
@[simp] theorem orderLoading_belt (o : Order) (c : Counter) (l : LotNo) (s : State) : (orderLoading o c l s).belt = s.belt := (orderLoading_frame o c l s).2.2.2.2.2.2.2.1
@[simp] theorem orderLoading_head (o : Order) (c : Counter) (l : LotNo) (s : State) : (orderLoading o c l s).head = s.head := (orderLoading_frame o c l s).2.2.2.2.2.2.2.2.1
@[simp] theorem orderLoading_filtration (o : Order) (c : Counter) (l : LotNo) (s : State) : (orderLoading o c l s).filtration = s.filtration := (orderLoading_frame o c l s).2.2.2.2.2.2.2.2.2.1
@[simp] theorem orderLoading_engine (o : Order) (c : Counter) (l : LotNo) (s : State) : (orderLoading o c l s).engine = s.engine := (orderLoading_frame o c l s).2.2.2.2.2.2.2.2.2.2.1
@[simp] theorem orderLoading_router (o : Order) (c : Counter) (l : LotNo) (s : State) : (orderLoading o c l s).router = s.router := (orderLoading_frame o c l s).2.2.2.2.2.2.2.2.2.2.2.1
@[simp] theorem orderLoading_coalescer (o : Order) (c : Counter) (l : LotNo) (s : State) : (orderLoading o c l s).coalescer = s.coalescer := (orderLoading_frame o c l s).2.2.2.2.2.2.2.2.2.2.2.2.1
@[simp] theorem orderLoading_cellState (o : Order) (c : Counter) (l : LotNo) (s : State) : (orderLoading o c l s).cellPort.state = s.cellPort.state := (orderLoading_frame o c l s).2.2.2.2.2.2.2.2.2.2.2.2.2.1
@[simp] theorem orderLoading_plantState (o : Order) (c : Counter) (l : LotNo) (s : State) : (orderLoading o c l s).plantPort.state = s.plantPort.state := (orderLoading_frame o c l s).2.2.2.2.2.2.2.2.2.2.2.2.2.2.1
@[simp] theorem orderLoading_eeprom (o : Order) (c : Counter) (l : LotNo) (s : State) : (orderLoading o c l s).eeprom = s.eeprom := (orderLoading_frame o c l s).2.2.2.2.2.2.2.2.2.2.2.2.2.2.2.1
@[simp] theorem orderLoading_draws (o : Order) (c : Counter) (l : LotNo) (s : State) : (orderLoading o c l s).draws = s.draws := (orderLoading_frame o c l s).2.2.2.2.2.2.2.2.2.2.2.2.2.2.2.2.1
@[simp] theorem orderLoading_raised (o : Order) (c : Counter) (l : LotNo) (s : State) : (orderLoading o c l s).raised = s.raised := (orderLoading_frame o c l s).2.2.2.2.2.2.2.2.2.2.2.2.2.2.2.2.2.1
@[simp] theorem orderLoading_handed (o : Order) (c : Counter) (l : LotNo) (s : State) : (orderLoading o c l s).handed = s.handed := (orderLoading_frame o c l s).2.2.2.2.2.2.2.2.2.2.2.2.2.2.2.2.2.2.1
@[simp] theorem orderLoading_pending (o : Order) (c : Counter) (l : LotNo) (s : State) : (orderLoading o c l s).pending = s.pending := (orderLoading_frame o c l s).2.2.2.2.2.2.2.2.2.2.2.2.2.2.2.2.2.2.2

theorem orderAllLoading_frame (o : Order) (c : Counter) (s : State) :
    (orderAllLoading o c s).now = s.now ∧
    (orderAllLoading o c s).mode = s.mode ∧
    (orderAllLoading o c s).activity = s.activity ∧
    (orderAllLoading o c s).tables = s.tables ∧
    (orderAllLoading o c s).tracker = s.tracker ∧
    (orderAllLoading o c s).lots = s.lots ∧
    (orderAllLoading o c s).arbiter = s.arbiter ∧
    (orderAllLoading o c s).belt = s.belt ∧
    (orderAllLoading o c s).head = s.head ∧
    (orderAllLoading o c s).filtration = s.filtration ∧
    (orderAllLoading o c s).engine = s.engine ∧
    (orderAllLoading o c s).router = s.router ∧
    (orderAllLoading o c s).coalescer = s.coalescer ∧
    (orderAllLoading o c s).cellPort.state = s.cellPort.state ∧
    (orderAllLoading o c s).plantPort.state = s.plantPort.state ∧
    (orderAllLoading o c s).eeprom = s.eeprom ∧
    (orderAllLoading o c s).draws = s.draws ∧
    (orderAllLoading o c s).raised = s.raised ∧
    (orderAllLoading o c s).handed = s.handed ∧
    (orderAllLoading o c s).pending = s.pending := by
  simp [orderAllLoading]
@[simp] theorem orderAllLoading_now (o : Order) (c : Counter) (s : State) : (orderAllLoading o c s).now = s.now := (orderAllLoading_frame o c s).1
@[simp] theorem orderAllLoading_mode (o : Order) (c : Counter) (s : State) : (orderAllLoading o c s).mode = s.mode := (orderAllLoading_frame o c s).2.1
@[simp] theorem orderAllLoading_activity (o : Order) (c : Counter) (s : State) : (orderAllLoading o c s).activity = s.activity := (orderAllLoading_frame o c s).2.2.1
@[simp] theorem orderAllLoading_tables (o : Order) (c : Counter) (s : State) : (orderAllLoading o c s).tables = s.tables := (orderAllLoading_frame o c s).2.2.2.1
@[simp] theorem orderAllLoading_tracker (o : Order) (c : Counter) (s : State) : (orderAllLoading o c s).tracker = s.tracker := (orderAllLoading_frame o c s).2.2.2.2.1
@[simp] theorem orderAllLoading_lots (o : Order) (c : Counter) (s : State) : (orderAllLoading o c s).lots = s.lots := (orderAllLoading_frame o c s).2.2.2.2.2.1
@[simp] theorem orderAllLoading_arbiter (o : Order) (c : Counter) (s : State) : (orderAllLoading o c s).arbiter = s.arbiter := (orderAllLoading_frame o c s).2.2.2.2.2.2.1
@[simp] theorem orderAllLoading_belt (o : Order) (c : Counter) (s : State) : (orderAllLoading o c s).belt = s.belt := (orderAllLoading_frame o c s).2.2.2.2.2.2.2.1
@[simp] theorem orderAllLoading_head (o : Order) (c : Counter) (s : State) : (orderAllLoading o c s).head = s.head := (orderAllLoading_frame o c s).2.2.2.2.2.2.2.2.1
@[simp] theorem orderAllLoading_filtration (o : Order) (c : Counter) (s : State) : (orderAllLoading o c s).filtration = s.filtration := (orderAllLoading_frame o c s).2.2.2.2.2.2.2.2.2.1
@[simp] theorem orderAllLoading_engine (o : Order) (c : Counter) (s : State) : (orderAllLoading o c s).engine = s.engine := (orderAllLoading_frame o c s).2.2.2.2.2.2.2.2.2.2.1
@[simp] theorem orderAllLoading_router (o : Order) (c : Counter) (s : State) : (orderAllLoading o c s).router = s.router := (orderAllLoading_frame o c s).2.2.2.2.2.2.2.2.2.2.2.1
@[simp] theorem orderAllLoading_coalescer (o : Order) (c : Counter) (s : State) : (orderAllLoading o c s).coalescer = s.coalescer := (orderAllLoading_frame o c s).2.2.2.2.2.2.2.2.2.2.2.2.1
@[simp] theorem orderAllLoading_cellState (o : Order) (c : Counter) (s : State) : (orderAllLoading o c s).cellPort.state = s.cellPort.state := (orderAllLoading_frame o c s).2.2.2.2.2.2.2.2.2.2.2.2.2.1
@[simp] theorem orderAllLoading_plantState (o : Order) (c : Counter) (s : State) : (orderAllLoading o c s).plantPort.state = s.plantPort.state := (orderAllLoading_frame o c s).2.2.2.2.2.2.2.2.2.2.2.2.2.2.1
@[simp] theorem orderAllLoading_eeprom (o : Order) (c : Counter) (s : State) : (orderAllLoading o c s).eeprom = s.eeprom := (orderAllLoading_frame o c s).2.2.2.2.2.2.2.2.2.2.2.2.2.2.2.1
@[simp] theorem orderAllLoading_draws (o : Order) (c : Counter) (s : State) : (orderAllLoading o c s).draws = s.draws := (orderAllLoading_frame o c s).2.2.2.2.2.2.2.2.2.2.2.2.2.2.2.2.1
@[simp] theorem orderAllLoading_raised (o : Order) (c : Counter) (s : State) : (orderAllLoading o c s).raised = s.raised := (orderAllLoading_frame o c s).2.2.2.2.2.2.2.2.2.2.2.2.2.2.2.2.2.1
@[simp] theorem orderAllLoading_handed (o : Order) (c : Counter) (s : State) : (orderAllLoading o c s).handed = s.handed := (orderAllLoading_frame o c s).2.2.2.2.2.2.2.2.2.2.2.2.2.2.2.2.2.2.1
@[simp] theorem orderAllLoading_pending (o : Order) (c : Counter) (s : State) : (orderAllLoading o c s).pending = s.pending := (orderAllLoading_frame o c s).2.2.2.2.2.2.2.2.2.2.2.2.2.2.2.2.2.2.2

theorem setCause_frame (c : HoldCause) (s : State) :
    (setCause c s).now = s.now ∧
    (setCause c s).mode = s.mode ∧
    (setCause c s).activity = s.activity ∧
    (setCause c s).tables = s.tables ∧
    (setCause c s).tracker = s.tracker ∧
    (setCause c s).lots = s.lots ∧
    (setCause c s).arbiter = s.arbiter ∧
    (setCause c s).head = s.head ∧
    (setCause c s).filtration = s.filtration ∧
    (setCause c s).engine = s.engine ∧
    (setCause c s).router = s.router ∧
    (setCause c s).cellPort.state = s.cellPort.state ∧
    (setCause c s).plantPort.state = s.plantPort.state ∧
    (setCause c s).eeprom = s.eeprom ∧
    (setCause c s).draws = s.draws ∧
    (setCause c s).raised = s.raised ∧
    (setCause c s).pending = s.pending := by
  unfold setCause
  repeat' split
  all_goals simp
@[simp] theorem setCause_now (c : HoldCause) (s : State) : (setCause c s).now = s.now := (setCause_frame c s).1
@[simp] theorem setCause_mode (c : HoldCause) (s : State) : (setCause c s).mode = s.mode := (setCause_frame c s).2.1
@[simp] theorem setCause_activity (c : HoldCause) (s : State) : (setCause c s).activity = s.activity := (setCause_frame c s).2.2.1
@[simp] theorem setCause_tables (c : HoldCause) (s : State) : (setCause c s).tables = s.tables := (setCause_frame c s).2.2.2.1
@[simp] theorem setCause_tracker (c : HoldCause) (s : State) : (setCause c s).tracker = s.tracker := (setCause_frame c s).2.2.2.2.1
@[simp] theorem setCause_lots (c : HoldCause) (s : State) : (setCause c s).lots = s.lots := (setCause_frame c s).2.2.2.2.2.1
@[simp] theorem setCause_arbiter (c : HoldCause) (s : State) : (setCause c s).arbiter = s.arbiter := (setCause_frame c s).2.2.2.2.2.2.1
@[simp] theorem setCause_head (c : HoldCause) (s : State) : (setCause c s).head = s.head := (setCause_frame c s).2.2.2.2.2.2.2.1
@[simp] theorem setCause_filtration (c : HoldCause) (s : State) : (setCause c s).filtration = s.filtration := (setCause_frame c s).2.2.2.2.2.2.2.2.1
@[simp] theorem setCause_engine (c : HoldCause) (s : State) : (setCause c s).engine = s.engine := (setCause_frame c s).2.2.2.2.2.2.2.2.2.1
@[simp] theorem setCause_router (c : HoldCause) (s : State) : (setCause c s).router = s.router := (setCause_frame c s).2.2.2.2.2.2.2.2.2.2.1
@[simp] theorem setCause_cellState (c : HoldCause) (s : State) : (setCause c s).cellPort.state = s.cellPort.state := (setCause_frame c s).2.2.2.2.2.2.2.2.2.2.2.1
@[simp] theorem setCause_plantState (c : HoldCause) (s : State) : (setCause c s).plantPort.state = s.plantPort.state := (setCause_frame c s).2.2.2.2.2.2.2.2.2.2.2.2.1
@[simp] theorem setCause_eeprom (c : HoldCause) (s : State) : (setCause c s).eeprom = s.eeprom := (setCause_frame c s).2.2.2.2.2.2.2.2.2.2.2.2.2.1
@[simp] theorem setCause_draws (c : HoldCause) (s : State) : (setCause c s).draws = s.draws := (setCause_frame c s).2.2.2.2.2.2.2.2.2.2.2.2.2.2.1
@[simp] theorem setCause_raised (c : HoldCause) (s : State) : (setCause c s).raised = s.raised := (setCause_frame c s).2.2.2.2.2.2.2.2.2.2.2.2.2.2.2.1
@[simp] theorem setCause_pending (c : HoldCause) (s : State) : (setCause c s).pending = s.pending := (setCause_frame c s).2.2.2.2.2.2.2.2.2.2.2.2.2.2.2.2

theorem clearCause_frame (c : HoldCause) (s : State) :
    (clearCause c s).now = s.now ∧
    (clearCause c s).mode = s.mode ∧
    (clearCause c s).activity = s.activity ∧
    (clearCause c s).tables = s.tables ∧
    (clearCause c s).tracker.last = s.tracker.last ∧
    (clearCause c s).tracker.acc = s.tracker.acc ∧
    (clearCause c s).filtration = s.filtration ∧
    (clearCause c s).engine = s.engine ∧
    (clearCause c s).router = s.router ∧
    (clearCause c s).cellPort.state = s.cellPort.state ∧
    (clearCause c s).plantPort.state = s.plantPort.state ∧
    (clearCause c s).eeprom = s.eeprom ∧
    (clearCause c s).draws = s.draws ∧
    (clearCause c s).raised = s.raised ∧
    (clearCause c s).pending = s.pending := by
  unfold clearCause
  repeat' split
  all_goals simp
@[simp] theorem clearCause_now (c : HoldCause) (s : State) : (clearCause c s).now = s.now := (clearCause_frame c s).1
@[simp] theorem clearCause_mode (c : HoldCause) (s : State) : (clearCause c s).mode = s.mode := (clearCause_frame c s).2.1
@[simp] theorem clearCause_activity (c : HoldCause) (s : State) : (clearCause c s).activity = s.activity := (clearCause_frame c s).2.2.1
@[simp] theorem clearCause_tables (c : HoldCause) (s : State) : (clearCause c s).tables = s.tables := (clearCause_frame c s).2.2.2.1
@[simp] theorem clearCause_last (c : HoldCause) (s : State) : (clearCause c s).tracker.last = s.tracker.last := (clearCause_frame c s).2.2.2.2.1
@[simp] theorem clearCause_acc (c : HoldCause) (s : State) : (clearCause c s).tracker.acc = s.tracker.acc := (clearCause_frame c s).2.2.2.2.2.1
@[simp] theorem clearCause_filtration (c : HoldCause) (s : State) : (clearCause c s).filtration = s.filtration := (clearCause_frame c s).2.2.2.2.2.2.1
@[simp] theorem clearCause_engine (c : HoldCause) (s : State) : (clearCause c s).engine = s.engine := (clearCause_frame c s).2.2.2.2.2.2.2.1
@[simp] theorem clearCause_router (c : HoldCause) (s : State) : (clearCause c s).router = s.router := (clearCause_frame c s).2.2.2.2.2.2.2.2.1
@[simp] theorem clearCause_cellState (c : HoldCause) (s : State) : (clearCause c s).cellPort.state = s.cellPort.state := (clearCause_frame c s).2.2.2.2.2.2.2.2.2.1
@[simp] theorem clearCause_plantState (c : HoldCause) (s : State) : (clearCause c s).plantPort.state = s.plantPort.state := (clearCause_frame c s).2.2.2.2.2.2.2.2.2.2.1
@[simp] theorem clearCause_eeprom (c : HoldCause) (s : State) : (clearCause c s).eeprom = s.eeprom := (clearCause_frame c s).2.2.2.2.2.2.2.2.2.2.2.1
@[simp] theorem clearCause_draws (c : HoldCause) (s : State) : (clearCause c s).draws = s.draws := (clearCause_frame c s).2.2.2.2.2.2.2.2.2.2.2.2.1
@[simp] theorem clearCause_raised (c : HoldCause) (s : State) : (clearCause c s).raised = s.raised := (clearCause_frame c s).2.2.2.2.2.2.2.2.2.2.2.2.2.1
@[simp] theorem clearCause_pending (c : HoldCause) (s : State) : (clearCause c s).pending = s.pending := (clearCause_frame c s).2.2.2.2.2.2.2.2.2.2.2.2.2.2

theorem placeRequest_frame (c : CellNo) (k : ClassNo) (len : Nat) (mass : Nat) (s : State) :
    (placeRequest c k len mass s).now = s.now ∧
    (placeRequest c k len mass s).mode = s.mode ∧
    (placeRequest c k len mass s).activity = s.activity ∧
    (placeRequest c k len mass s).tables = s.tables ∧
    (placeRequest c k len mass s).tracker = s.tracker ∧
    (placeRequest c k len mass s).lots = s.lots ∧
    (placeRequest c k len mass s).belt = s.belt ∧
    (placeRequest c k len mass s).head = s.head ∧
    (placeRequest c k len mass s).filtration = s.filtration ∧
    (placeRequest c k len mass s).engine = s.engine ∧
    (placeRequest c k len mass s).router = s.router ∧
    (placeRequest c k len mass s).notices = s.notices ∧
    (placeRequest c k len mass s).coalescer = s.coalescer ∧
    (placeRequest c k len mass s).cellPort = s.cellPort ∧
    (placeRequest c k len mass s).plantPort = s.plantPort ∧
    (placeRequest c k len mass s).eeprom = s.eeprom ∧
    (placeRequest c k len mass s).draws = s.draws ∧
    (placeRequest c k len mass s).raised = s.raised ∧
    (placeRequest c k len mass s).handed = s.handed ∧
    (placeRequest c k len mass s).pending = s.pending := by
  unfold placeRequest
  repeat' split
  all_goals simp
@[simp] theorem placeRequest_now (c : CellNo) (k : ClassNo) (len : Nat) (mass : Nat) (s : State) : (placeRequest c k len mass s).now = s.now := (placeRequest_frame c k len mass s).1
@[simp] theorem placeRequest_mode (c : CellNo) (k : ClassNo) (len : Nat) (mass : Nat) (s : State) : (placeRequest c k len mass s).mode = s.mode := (placeRequest_frame c k len mass s).2.1
@[simp] theorem placeRequest_activity (c : CellNo) (k : ClassNo) (len : Nat) (mass : Nat) (s : State) : (placeRequest c k len mass s).activity = s.activity := (placeRequest_frame c k len mass s).2.2.1
@[simp] theorem placeRequest_tables (c : CellNo) (k : ClassNo) (len : Nat) (mass : Nat) (s : State) : (placeRequest c k len mass s).tables = s.tables := (placeRequest_frame c k len mass s).2.2.2.1
@[simp] theorem placeRequest_tracker (c : CellNo) (k : ClassNo) (len : Nat) (mass : Nat) (s : State) : (placeRequest c k len mass s).tracker = s.tracker := (placeRequest_frame c k len mass s).2.2.2.2.1
@[simp] theorem placeRequest_lots (c : CellNo) (k : ClassNo) (len : Nat) (mass : Nat) (s : State) : (placeRequest c k len mass s).lots = s.lots := (placeRequest_frame c k len mass s).2.2.2.2.2.1
@[simp] theorem placeRequest_belt (c : CellNo) (k : ClassNo) (len : Nat) (mass : Nat) (s : State) : (placeRequest c k len mass s).belt = s.belt := (placeRequest_frame c k len mass s).2.2.2.2.2.2.1
@[simp] theorem placeRequest_head (c : CellNo) (k : ClassNo) (len : Nat) (mass : Nat) (s : State) : (placeRequest c k len mass s).head = s.head := (placeRequest_frame c k len mass s).2.2.2.2.2.2.2.1
@[simp] theorem placeRequest_filtration (c : CellNo) (k : ClassNo) (len : Nat) (mass : Nat) (s : State) : (placeRequest c k len mass s).filtration = s.filtration := (placeRequest_frame c k len mass s).2.2.2.2.2.2.2.2.1
@[simp] theorem placeRequest_engine (c : CellNo) (k : ClassNo) (len : Nat) (mass : Nat) (s : State) : (placeRequest c k len mass s).engine = s.engine := (placeRequest_frame c k len mass s).2.2.2.2.2.2.2.2.2.1
@[simp] theorem placeRequest_router (c : CellNo) (k : ClassNo) (len : Nat) (mass : Nat) (s : State) : (placeRequest c k len mass s).router = s.router := (placeRequest_frame c k len mass s).2.2.2.2.2.2.2.2.2.2.1
@[simp] theorem placeRequest_notices (c : CellNo) (k : ClassNo) (len : Nat) (mass : Nat) (s : State) : (placeRequest c k len mass s).notices = s.notices := (placeRequest_frame c k len mass s).2.2.2.2.2.2.2.2.2.2.2.1
@[simp] theorem placeRequest_coalescer (c : CellNo) (k : ClassNo) (len : Nat) (mass : Nat) (s : State) : (placeRequest c k len mass s).coalescer = s.coalescer := (placeRequest_frame c k len mass s).2.2.2.2.2.2.2.2.2.2.2.2.1
@[simp] theorem placeRequest_cellPort (c : CellNo) (k : ClassNo) (len : Nat) (mass : Nat) (s : State) : (placeRequest c k len mass s).cellPort = s.cellPort := (placeRequest_frame c k len mass s).2.2.2.2.2.2.2.2.2.2.2.2.2.1
@[simp] theorem placeRequest_plantPort (c : CellNo) (k : ClassNo) (len : Nat) (mass : Nat) (s : State) : (placeRequest c k len mass s).plantPort = s.plantPort := (placeRequest_frame c k len mass s).2.2.2.2.2.2.2.2.2.2.2.2.2.2.1
@[simp] theorem placeRequest_eeprom (c : CellNo) (k : ClassNo) (len : Nat) (mass : Nat) (s : State) : (placeRequest c k len mass s).eeprom = s.eeprom := (placeRequest_frame c k len mass s).2.2.2.2.2.2.2.2.2.2.2.2.2.2.2.1
@[simp] theorem placeRequest_draws (c : CellNo) (k : ClassNo) (len : Nat) (mass : Nat) (s : State) : (placeRequest c k len mass s).draws = s.draws := (placeRequest_frame c k len mass s).2.2.2.2.2.2.2.2.2.2.2.2.2.2.2.2.1
@[simp] theorem placeRequest_raised (c : CellNo) (k : ClassNo) (len : Nat) (mass : Nat) (s : State) : (placeRequest c k len mass s).raised = s.raised := (placeRequest_frame c k len mass s).2.2.2.2.2.2.2.2.2.2.2.2.2.2.2.2.2.1
@[simp] theorem placeRequest_handed (c : CellNo) (k : ClassNo) (len : Nat) (mass : Nat) (s : State) : (placeRequest c k len mass s).handed = s.handed := (placeRequest_frame c k len mass s).2.2.2.2.2.2.2.2.2.2.2.2.2.2.2.2.2.2.1
@[simp] theorem placeRequest_pending (c : CellNo) (k : ClassNo) (len : Nat) (mass : Nat) (s : State) : (placeRequest c k len mass s).pending = s.pending := (placeRequest_frame c k len mass s).2.2.2.2.2.2.2.2.2.2.2.2.2.2.2.2.2.2.2

theorem opDischargeRequest_frame (node : Byte) (cls : Byte) (length : Byte) (mass : Half) (s : State) :
    (opDischargeRequest node cls length mass s).now = s.now ∧
    (opDischargeRequest node cls length mass s).mode = s.mode ∧
    (opDischargeRequest node cls length mass s).activity = s.activity ∧
    (opDischargeRequest node cls length mass s).tables = s.tables ∧
    (opDischargeRequest node cls length mass s).tracker.last = s.tracker.last ∧
    (opDischargeRequest node cls length mass s).tracker.acc = s.tracker.acc ∧
    (opDischargeRequest node cls length mass s).belt = s.belt ∧
    (opDischargeRequest node cls length mass s).filtration = s.filtration ∧
    (opDischargeRequest node cls length mass s).engine = s.engine ∧
    (opDischargeRequest node cls length mass s).router = s.router ∧
    (opDischargeRequest node cls length mass s).cellPort.state = s.cellPort.state ∧
    (opDischargeRequest node cls length mass s).plantPort.state = s.plantPort.state ∧
    (opDischargeRequest node cls length mass s).eeprom = s.eeprom ∧
    (opDischargeRequest node cls length mass s).draws = s.draws ∧
    (opDischargeRequest node cls length mass s).raised = s.raised ∧
    (opDischargeRequest node cls length mass s).pending = s.pending := by
  unfold opDischargeRequest
  repeat' split
  all_goals simp
@[simp] theorem opDischargeRequest_now (node : Byte) (cls : Byte) (length : Byte) (mass : Half) (s : State) : (opDischargeRequest node cls length mass s).now = s.now := (opDischargeRequest_frame node cls length mass s).1
@[simp] theorem opDischargeRequest_mode (node : Byte) (cls : Byte) (length : Byte) (mass : Half) (s : State) : (opDischargeRequest node cls length mass s).mode = s.mode := (opDischargeRequest_frame node cls length mass s).2.1
@[simp] theorem opDischargeRequest_activity (node : Byte) (cls : Byte) (length : Byte) (mass : Half) (s : State) : (opDischargeRequest node cls length mass s).activity = s.activity := (opDischargeRequest_frame node cls length mass s).2.2.1
@[simp] theorem opDischargeRequest_tables (node : Byte) (cls : Byte) (length : Byte) (mass : Half) (s : State) : (opDischargeRequest node cls length mass s).tables = s.tables := (opDischargeRequest_frame node cls length mass s).2.2.2.1
@[simp] theorem opDischargeRequest_last (node : Byte) (cls : Byte) (length : Byte) (mass : Half) (s : State) : (opDischargeRequest node cls length mass s).tracker.last = s.tracker.last := (opDischargeRequest_frame node cls length mass s).2.2.2.2.1
@[simp] theorem opDischargeRequest_acc (node : Byte) (cls : Byte) (length : Byte) (mass : Half) (s : State) : (opDischargeRequest node cls length mass s).tracker.acc = s.tracker.acc := (opDischargeRequest_frame node cls length mass s).2.2.2.2.2.1
@[simp] theorem opDischargeRequest_belt (node : Byte) (cls : Byte) (length : Byte) (mass : Half) (s : State) : (opDischargeRequest node cls length mass s).belt = s.belt := (opDischargeRequest_frame node cls length mass s).2.2.2.2.2.2.1
@[simp] theorem opDischargeRequest_filtration (node : Byte) (cls : Byte) (length : Byte) (mass : Half) (s : State) : (opDischargeRequest node cls length mass s).filtration = s.filtration := (opDischargeRequest_frame node cls length mass s).2.2.2.2.2.2.2.1
@[simp] theorem opDischargeRequest_engine (node : Byte) (cls : Byte) (length : Byte) (mass : Half) (s : State) : (opDischargeRequest node cls length mass s).engine = s.engine := (opDischargeRequest_frame node cls length mass s).2.2.2.2.2.2.2.2.1
@[simp] theorem opDischargeRequest_router (node : Byte) (cls : Byte) (length : Byte) (mass : Half) (s : State) : (opDischargeRequest node cls length mass s).router = s.router := (opDischargeRequest_frame node cls length mass s).2.2.2.2.2.2.2.2.2.1
@[simp] theorem opDischargeRequest_cellState (node : Byte) (cls : Byte) (length : Byte) (mass : Half) (s : State) : (opDischargeRequest node cls length mass s).cellPort.state = s.cellPort.state := (opDischargeRequest_frame node cls length mass s).2.2.2.2.2.2.2.2.2.2.1
@[simp] theorem opDischargeRequest_plantState (node : Byte) (cls : Byte) (length : Byte) (mass : Half) (s : State) : (opDischargeRequest node cls length mass s).plantPort.state = s.plantPort.state := (opDischargeRequest_frame node cls length mass s).2.2.2.2.2.2.2.2.2.2.2.1
@[simp] theorem opDischargeRequest_eeprom (node : Byte) (cls : Byte) (length : Byte) (mass : Half) (s : State) : (opDischargeRequest node cls length mass s).eeprom = s.eeprom := (opDischargeRequest_frame node cls length mass s).2.2.2.2.2.2.2.2.2.2.2.2.1
@[simp] theorem opDischargeRequest_draws (node : Byte) (cls : Byte) (length : Byte) (mass : Half) (s : State) : (opDischargeRequest node cls length mass s).draws = s.draws := (opDischargeRequest_frame node cls length mass s).2.2.2.2.2.2.2.2.2.2.2.2.2.1
@[simp] theorem opDischargeRequest_raised (node : Byte) (cls : Byte) (length : Byte) (mass : Half) (s : State) : (opDischargeRequest node cls length mass s).raised = s.raised := (opDischargeRequest_frame node cls length mass s).2.2.2.2.2.2.2.2.2.2.2.2.2.2.1
@[simp] theorem opDischargeRequest_pending (node : Byte) (cls : Byte) (length : Byte) (mass : Half) (s : State) : (opDischargeRequest node cls length mass s).pending = s.pending := (opDischargeRequest_frame node cls length mass s).2.2.2.2.2.2.2.2.2.2.2.2.2.2.2

theorem opDischargeWithdraw_frame (node : Byte) (s : State) :
    (opDischargeWithdraw node s).now = s.now ∧
    (opDischargeWithdraw node s).mode = s.mode ∧
    (opDischargeWithdraw node s).activity = s.activity ∧
    (opDischargeWithdraw node s).tables = s.tables ∧
    (opDischargeWithdraw node s).tracker.last = s.tracker.last ∧
    (opDischargeWithdraw node s).tracker.acc = s.tracker.acc ∧
    (opDischargeWithdraw node s).belt = s.belt ∧
    (opDischargeWithdraw node s).engine = s.engine ∧
    (opDischargeWithdraw node s).router = s.router ∧
    (opDischargeWithdraw node s).cellPort.state = s.cellPort.state ∧
    (opDischargeWithdraw node s).plantPort.state = s.plantPort.state ∧
    (opDischargeWithdraw node s).eeprom = s.eeprom ∧
    (opDischargeWithdraw node s).draws = s.draws ∧
    (opDischargeWithdraw node s).pending = s.pending := by
  unfold opDischargeWithdraw
  repeat' split
  all_goals simp
@[simp] theorem opDischargeWithdraw_now (node : Byte) (s : State) : (opDischargeWithdraw node s).now = s.now := (opDischargeWithdraw_frame node s).1
@[simp] theorem opDischargeWithdraw_mode (node : Byte) (s : State) : (opDischargeWithdraw node s).mode = s.mode := (opDischargeWithdraw_frame node s).2.1
@[simp] theorem opDischargeWithdraw_activity (node : Byte) (s : State) : (opDischargeWithdraw node s).activity = s.activity := (opDischargeWithdraw_frame node s).2.2.1
@[simp] theorem opDischargeWithdraw_tables (node : Byte) (s : State) : (opDischargeWithdraw node s).tables = s.tables := (opDischargeWithdraw_frame node s).2.2.2.1
@[simp] theorem opDischargeWithdraw_last (node : Byte) (s : State) : (opDischargeWithdraw node s).tracker.last = s.tracker.last := (opDischargeWithdraw_frame node s).2.2.2.2.1
@[simp] theorem opDischargeWithdraw_acc (node : Byte) (s : State) : (opDischargeWithdraw node s).tracker.acc = s.tracker.acc := (opDischargeWithdraw_frame node s).2.2.2.2.2.1
@[simp] theorem opDischargeWithdraw_belt (node : Byte) (s : State) : (opDischargeWithdraw node s).belt = s.belt := (opDischargeWithdraw_frame node s).2.2.2.2.2.2.1
@[simp] theorem opDischargeWithdraw_engine (node : Byte) (s : State) : (opDischargeWithdraw node s).engine = s.engine := (opDischargeWithdraw_frame node s).2.2.2.2.2.2.2.1
@[simp] theorem opDischargeWithdraw_router (node : Byte) (s : State) : (opDischargeWithdraw node s).router = s.router := (opDischargeWithdraw_frame node s).2.2.2.2.2.2.2.2.1
@[simp] theorem opDischargeWithdraw_cellState (node : Byte) (s : State) : (opDischargeWithdraw node s).cellPort.state = s.cellPort.state := (opDischargeWithdraw_frame node s).2.2.2.2.2.2.2.2.2.1
@[simp] theorem opDischargeWithdraw_plantState (node : Byte) (s : State) : (opDischargeWithdraw node s).plantPort.state = s.plantPort.state := (opDischargeWithdraw_frame node s).2.2.2.2.2.2.2.2.2.2.1
@[simp] theorem opDischargeWithdraw_eeprom (node : Byte) (s : State) : (opDischargeWithdraw node s).eeprom = s.eeprom := (opDischargeWithdraw_frame node s).2.2.2.2.2.2.2.2.2.2.2.1
@[simp] theorem opDischargeWithdraw_draws (node : Byte) (s : State) : (opDischargeWithdraw node s).draws = s.draws := (opDischargeWithdraw_frame node s).2.2.2.2.2.2.2.2.2.2.2.2.1
@[simp] theorem opDischargeWithdraw_pending (node : Byte) (s : State) : (opDischargeWithdraw node s).pending = s.pending := (opDischargeWithdraw_frame node s).2.2.2.2.2.2.2.2.2.2.2.2.2

theorem discardDischarge_frame (s : State) :
    (discardDischarge s).now = s.now ∧
    (discardDischarge s).mode = s.mode ∧
    (discardDischarge s).activity = s.activity ∧
    (discardDischarge s).tables = s.tables ∧
    (discardDischarge s).tracker = s.tracker ∧
    (discardDischarge s).lots = s.lots ∧
    (discardDischarge s).arbiter = s.arbiter ∧
    (discardDischarge s).belt = s.belt ∧
    (discardDischarge s).head = s.head ∧
    (discardDischarge s).filtration = s.filtration ∧
    (discardDischarge s).engine = s.engine ∧
    (discardDischarge s).router = s.router ∧
    (discardDischarge s).notices = s.notices ∧
    (discardDischarge s).coalescer = s.coalescer ∧
    (discardDischarge s).cellPort = s.cellPort ∧
    (discardDischarge s).plantPort = s.plantPort ∧
    (discardDischarge s).eeprom = s.eeprom ∧
    (discardDischarge s).draws = s.draws ∧
    (discardDischarge s).raised = s.raised ∧
    (discardDischarge s).handed = s.handed ∧
    (discardDischarge s).pending = s.pending := by
  simp [discardDischarge]
@[simp] theorem discardDischarge_now (s : State) : (discardDischarge s).now = s.now := (discardDischarge_frame s).1
@[simp] theorem discardDischarge_mode (s : State) : (discardDischarge s).mode = s.mode := (discardDischarge_frame s).2.1
@[simp] theorem discardDischarge_activity (s : State) : (discardDischarge s).activity = s.activity := (discardDischarge_frame s).2.2.1
@[simp] theorem discardDischarge_tables (s : State) : (discardDischarge s).tables = s.tables := (discardDischarge_frame s).2.2.2.1
@[simp] theorem discardDischarge_tracker (s : State) : (discardDischarge s).tracker = s.tracker := (discardDischarge_frame s).2.2.2.2.1
@[simp] theorem discardDischarge_lots (s : State) : (discardDischarge s).lots = s.lots := (discardDischarge_frame s).2.2.2.2.2.1
@[simp] theorem discardDischarge_arbiter (s : State) : (discardDischarge s).arbiter = s.arbiter := (discardDischarge_frame s).2.2.2.2.2.2.1
@[simp] theorem discardDischarge_belt (s : State) : (discardDischarge s).belt = s.belt := (discardDischarge_frame s).2.2.2.2.2.2.2.1
@[simp] theorem discardDischarge_head (s : State) : (discardDischarge s).head = s.head := (discardDischarge_frame s).2.2.2.2.2.2.2.2.1
@[simp] theorem discardDischarge_filtration (s : State) : (discardDischarge s).filtration = s.filtration := (discardDischarge_frame s).2.2.2.2.2.2.2.2.2.1
@[simp] theorem discardDischarge_engine (s : State) : (discardDischarge s).engine = s.engine := (discardDischarge_frame s).2.2.2.2.2.2.2.2.2.2.1
@[simp] theorem discardDischarge_router (s : State) : (discardDischarge s).router = s.router := (discardDischarge_frame s).2.2.2.2.2.2.2.2.2.2.2.1
@[simp] theorem discardDischarge_notices (s : State) : (discardDischarge s).notices = s.notices := (discardDischarge_frame s).2.2.2.2.2.2.2.2.2.2.2.2.1
@[simp] theorem discardDischarge_coalescer (s : State) : (discardDischarge s).coalescer = s.coalescer := (discardDischarge_frame s).2.2.2.2.2.2.2.2.2.2.2.2.2.1
@[simp] theorem discardDischarge_cellPort (s : State) : (discardDischarge s).cellPort = s.cellPort := (discardDischarge_frame s).2.2.2.2.2.2.2.2.2.2.2.2.2.2.1
@[simp] theorem discardDischarge_plantPort (s : State) : (discardDischarge s).plantPort = s.plantPort := (discardDischarge_frame s).2.2.2.2.2.2.2.2.2.2.2.2.2.2.2.1
@[simp] theorem discardDischarge_eeprom (s : State) : (discardDischarge s).eeprom = s.eeprom := (discardDischarge_frame s).2.2.2.2.2.2.2.2.2.2.2.2.2.2.2.2.1
@[simp] theorem discardDischarge_draws (s : State) : (discardDischarge s).draws = s.draws := (discardDischarge_frame s).2.2.2.2.2.2.2.2.2.2.2.2.2.2.2.2.2.1
@[simp] theorem discardDischarge_raised (s : State) : (discardDischarge s).raised = s.raised := (discardDischarge_frame s).2.2.2.2.2.2.2.2.2.2.2.2.2.2.2.2.2.2.1
@[simp] theorem discardDischarge_handed (s : State) : (discardDischarge s).handed = s.handed := (discardDischarge_frame s).2.2.2.2.2.2.2.2.2.2.2.2.2.2.2.2.2.2.2.1
@[simp] theorem discardDischarge_pending (s : State) : (discardDischarge s).pending = s.pending := (discardDischarge_frame s).2.2.2.2.2.2.2.2.2.2.2.2.2.2.2.2.2.2.2.2

theorem makeUrgent_frame (c : CellNo) (s : State) :
    (makeUrgent c s).now = s.now ∧
    (makeUrgent c s).mode = s.mode ∧
    (makeUrgent c s).activity = s.activity ∧
    (makeUrgent c s).tables = s.tables ∧
    (makeUrgent c s).tracker = s.tracker ∧
    (makeUrgent c s).lots = s.lots ∧
    (makeUrgent c s).belt = s.belt ∧
    (makeUrgent c s).head = s.head ∧
    (makeUrgent c s).filtration = s.filtration ∧
    (makeUrgent c s).engine = s.engine ∧
    (makeUrgent c s).router = s.router ∧
    (makeUrgent c s).notices = s.notices ∧
    (makeUrgent c s).coalescer = s.coalescer ∧
    (makeUrgent c s).cellPort = s.cellPort ∧
    (makeUrgent c s).plantPort = s.plantPort ∧
    (makeUrgent c s).eeprom = s.eeprom ∧
    (makeUrgent c s).draws = s.draws ∧
    (makeUrgent c s).raised = s.raised ∧
    (makeUrgent c s).handed = s.handed ∧
    (makeUrgent c s).pending = s.pending := by
  unfold makeUrgent
  repeat' split
  all_goals simp
@[simp] theorem makeUrgent_now (c : CellNo) (s : State) : (makeUrgent c s).now = s.now := (makeUrgent_frame c s).1
@[simp] theorem makeUrgent_mode (c : CellNo) (s : State) : (makeUrgent c s).mode = s.mode := (makeUrgent_frame c s).2.1
@[simp] theorem makeUrgent_activity (c : CellNo) (s : State) : (makeUrgent c s).activity = s.activity := (makeUrgent_frame c s).2.2.1
@[simp] theorem makeUrgent_tables (c : CellNo) (s : State) : (makeUrgent c s).tables = s.tables := (makeUrgent_frame c s).2.2.2.1
@[simp] theorem makeUrgent_tracker (c : CellNo) (s : State) : (makeUrgent c s).tracker = s.tracker := (makeUrgent_frame c s).2.2.2.2.1
@[simp] theorem makeUrgent_lots (c : CellNo) (s : State) : (makeUrgent c s).lots = s.lots := (makeUrgent_frame c s).2.2.2.2.2.1
@[simp] theorem makeUrgent_belt (c : CellNo) (s : State) : (makeUrgent c s).belt = s.belt := (makeUrgent_frame c s).2.2.2.2.2.2.1
@[simp] theorem makeUrgent_head (c : CellNo) (s : State) : (makeUrgent c s).head = s.head := (makeUrgent_frame c s).2.2.2.2.2.2.2.1
@[simp] theorem makeUrgent_filtration (c : CellNo) (s : State) : (makeUrgent c s).filtration = s.filtration := (makeUrgent_frame c s).2.2.2.2.2.2.2.2.1
@[simp] theorem makeUrgent_engine (c : CellNo) (s : State) : (makeUrgent c s).engine = s.engine := (makeUrgent_frame c s).2.2.2.2.2.2.2.2.2.1
@[simp] theorem makeUrgent_router (c : CellNo) (s : State) : (makeUrgent c s).router = s.router := (makeUrgent_frame c s).2.2.2.2.2.2.2.2.2.2.1
@[simp] theorem makeUrgent_notices (c : CellNo) (s : State) : (makeUrgent c s).notices = s.notices := (makeUrgent_frame c s).2.2.2.2.2.2.2.2.2.2.2.1
@[simp] theorem makeUrgent_coalescer (c : CellNo) (s : State) : (makeUrgent c s).coalescer = s.coalescer := (makeUrgent_frame c s).2.2.2.2.2.2.2.2.2.2.2.2.1
@[simp] theorem makeUrgent_cellPort (c : CellNo) (s : State) : (makeUrgent c s).cellPort = s.cellPort := (makeUrgent_frame c s).2.2.2.2.2.2.2.2.2.2.2.2.2.1
@[simp] theorem makeUrgent_plantPort (c : CellNo) (s : State) : (makeUrgent c s).plantPort = s.plantPort := (makeUrgent_frame c s).2.2.2.2.2.2.2.2.2.2.2.2.2.2.1
@[simp] theorem makeUrgent_eeprom (c : CellNo) (s : State) : (makeUrgent c s).eeprom = s.eeprom := (makeUrgent_frame c s).2.2.2.2.2.2.2.2.2.2.2.2.2.2.2.1
@[simp] theorem makeUrgent_draws (c : CellNo) (s : State) : (makeUrgent c s).draws = s.draws := (makeUrgent_frame c s).2.2.2.2.2.2.2.2.2.2.2.2.2.2.2.2.1
@[simp] theorem makeUrgent_raised (c : CellNo) (s : State) : (makeUrgent c s).raised = s.raised := (makeUrgent_frame c s).2.2.2.2.2.2.2.2.2.2.2.2.2.2.2.2.2.1
@[simp] theorem makeUrgent_handed (c : CellNo) (s : State) : (makeUrgent c s).handed = s.handed := (makeUrgent_frame c s).2.2.2.2.2.2.2.2.2.2.2.2.2.2.2.2.2.2.1
@[simp] theorem makeUrgent_pending (c : CellNo) (s : State) : (makeUrgent c s).pending = s.pending := (makeUrgent_frame c s).2.2.2.2.2.2.2.2.2.2.2.2.2.2.2.2.2.2.2

theorem opRequestUrgent_frame (c : CellNo) (s : State) :
    (opRequestUrgent c s).now = s.now ∧
    (opRequestUrgent c s).mode = s.mode ∧
    (opRequestUrgent c s).activity = s.activity ∧
    (opRequestUrgent c s).tables = s.tables ∧
    (opRequestUrgent c s).tracker = s.tracker ∧
    (opRequestUrgent c s).lots = s.lots ∧
    (opRequestUrgent c s).belt = s.belt ∧
    (opRequestUrgent c s).head = s.head ∧
    (opRequestUrgent c s).filtration = s.filtration ∧
    (opRequestUrgent c s).engine = s.engine ∧
    (opRequestUrgent c s).router = s.router ∧
    (opRequestUrgent c s).notices = s.notices ∧
    (opRequestUrgent c s).coalescer = s.coalescer ∧
    (opRequestUrgent c s).cellPort = s.cellPort ∧
    (opRequestUrgent c s).plantPort = s.plantPort ∧
    (opRequestUrgent c s).eeprom = s.eeprom ∧
    (opRequestUrgent c s).draws = s.draws ∧
    (opRequestUrgent c s).raised = s.raised ∧
    (opRequestUrgent c s).handed = s.handed ∧
    (opRequestUrgent c s).pending = s.pending := by
  unfold opRequestUrgent
  repeat' split
  all_goals simp
@[simp] theorem opRequestUrgent_now (c : CellNo) (s : State) : (opRequestUrgent c s).now = s.now := (opRequestUrgent_frame c s).1
@[simp] theorem opRequestUrgent_mode (c : CellNo) (s : State) : (opRequestUrgent c s).mode = s.mode := (opRequestUrgent_frame c s).2.1
@[simp] theorem opRequestUrgent_activity (c : CellNo) (s : State) : (opRequestUrgent c s).activity = s.activity := (opRequestUrgent_frame c s).2.2.1
@[simp] theorem opRequestUrgent_tables (c : CellNo) (s : State) : (opRequestUrgent c s).tables = s.tables := (opRequestUrgent_frame c s).2.2.2.1
@[simp] theorem opRequestUrgent_tracker (c : CellNo) (s : State) : (opRequestUrgent c s).tracker = s.tracker := (opRequestUrgent_frame c s).2.2.2.2.1
@[simp] theorem opRequestUrgent_lots (c : CellNo) (s : State) : (opRequestUrgent c s).lots = s.lots := (opRequestUrgent_frame c s).2.2.2.2.2.1
@[simp] theorem opRequestUrgent_belt (c : CellNo) (s : State) : (opRequestUrgent c s).belt = s.belt := (opRequestUrgent_frame c s).2.2.2.2.2.2.1
@[simp] theorem opRequestUrgent_head (c : CellNo) (s : State) : (opRequestUrgent c s).head = s.head := (opRequestUrgent_frame c s).2.2.2.2.2.2.2.1
@[simp] theorem opRequestUrgent_filtration (c : CellNo) (s : State) : (opRequestUrgent c s).filtration = s.filtration := (opRequestUrgent_frame c s).2.2.2.2.2.2.2.2.1
@[simp] theorem opRequestUrgent_engine (c : CellNo) (s : State) : (opRequestUrgent c s).engine = s.engine := (opRequestUrgent_frame c s).2.2.2.2.2.2.2.2.2.1
@[simp] theorem opRequestUrgent_router (c : CellNo) (s : State) : (opRequestUrgent c s).router = s.router := (opRequestUrgent_frame c s).2.2.2.2.2.2.2.2.2.2.1
@[simp] theorem opRequestUrgent_notices (c : CellNo) (s : State) : (opRequestUrgent c s).notices = s.notices := (opRequestUrgent_frame c s).2.2.2.2.2.2.2.2.2.2.2.1
@[simp] theorem opRequestUrgent_coalescer (c : CellNo) (s : State) : (opRequestUrgent c s).coalescer = s.coalescer := (opRequestUrgent_frame c s).2.2.2.2.2.2.2.2.2.2.2.2.1
@[simp] theorem opRequestUrgent_cellPort (c : CellNo) (s : State) : (opRequestUrgent c s).cellPort = s.cellPort := (opRequestUrgent_frame c s).2.2.2.2.2.2.2.2.2.2.2.2.2.1
@[simp] theorem opRequestUrgent_plantPort (c : CellNo) (s : State) : (opRequestUrgent c s).plantPort = s.plantPort := (opRequestUrgent_frame c s).2.2.2.2.2.2.2.2.2.2.2.2.2.2.1
@[simp] theorem opRequestUrgent_eeprom (c : CellNo) (s : State) : (opRequestUrgent c s).eeprom = s.eeprom := (opRequestUrgent_frame c s).2.2.2.2.2.2.2.2.2.2.2.2.2.2.2.1
@[simp] theorem opRequestUrgent_draws (c : CellNo) (s : State) : (opRequestUrgent c s).draws = s.draws := (opRequestUrgent_frame c s).2.2.2.2.2.2.2.2.2.2.2.2.2.2.2.2.1
@[simp] theorem opRequestUrgent_raised (c : CellNo) (s : State) : (opRequestUrgent c s).raised = s.raised := (opRequestUrgent_frame c s).2.2.2.2.2.2.2.2.2.2.2.2.2.2.2.2.2.1
@[simp] theorem opRequestUrgent_handed (c : CellNo) (s : State) : (opRequestUrgent c s).handed = s.handed := (opRequestUrgent_frame c s).2.2.2.2.2.2.2.2.2.2.2.2.2.2.2.2.2.2.1
@[simp] theorem opRequestUrgent_pending (c : CellNo) (s : State) : (opRequestUrgent c s).pending = s.pending := (opRequestUrgent_frame c s).2.2.2.2.2.2.2.2.2.2.2.2.2.2.2.2.2.2.2

theorem expireRequest_frame (c : CellNo) (s : State) :
    (expireRequest c s).now = s.now ∧
    (expireRequest c s).mode = s.mode ∧
    (expireRequest c s).activity = s.activity ∧
    (expireRequest c s).tables = s.tables ∧
    (expireRequest c s).tracker = s.tracker ∧
    (expireRequest c s).lots = s.lots ∧
    (expireRequest c s).belt = s.belt ∧
    (expireRequest c s).head = s.head ∧
    (expireRequest c s).filtration = s.filtration ∧
    (expireRequest c s).engine = s.engine ∧
    (expireRequest c s).router = s.router ∧
    (expireRequest c s).coalescer = s.coalescer ∧
    (expireRequest c s).cellPort.state = s.cellPort.state ∧
    (expireRequest c s).plantPort.state = s.plantPort.state ∧
    (expireRequest c s).eeprom = s.eeprom ∧
    (expireRequest c s).draws = s.draws ∧
    (expireRequest c s).handed = s.handed ∧
    (expireRequest c s).pending = s.pending := by
  simp [expireRequest]
@[simp] theorem expireRequest_now (c : CellNo) (s : State) : (expireRequest c s).now = s.now := (expireRequest_frame c s).1
@[simp] theorem expireRequest_mode (c : CellNo) (s : State) : (expireRequest c s).mode = s.mode := (expireRequest_frame c s).2.1
@[simp] theorem expireRequest_activity (c : CellNo) (s : State) : (expireRequest c s).activity = s.activity := (expireRequest_frame c s).2.2.1
@[simp] theorem expireRequest_tables (c : CellNo) (s : State) : (expireRequest c s).tables = s.tables := (expireRequest_frame c s).2.2.2.1
@[simp] theorem expireRequest_tracker (c : CellNo) (s : State) : (expireRequest c s).tracker = s.tracker := (expireRequest_frame c s).2.2.2.2.1
@[simp] theorem expireRequest_lots (c : CellNo) (s : State) : (expireRequest c s).lots = s.lots := (expireRequest_frame c s).2.2.2.2.2.1
@[simp] theorem expireRequest_belt (c : CellNo) (s : State) : (expireRequest c s).belt = s.belt := (expireRequest_frame c s).2.2.2.2.2.2.1
@[simp] theorem expireRequest_head (c : CellNo) (s : State) : (expireRequest c s).head = s.head := (expireRequest_frame c s).2.2.2.2.2.2.2.1
@[simp] theorem expireRequest_filtration (c : CellNo) (s : State) : (expireRequest c s).filtration = s.filtration := (expireRequest_frame c s).2.2.2.2.2.2.2.2.1
@[simp] theorem expireRequest_engine (c : CellNo) (s : State) : (expireRequest c s).engine = s.engine := (expireRequest_frame c s).2.2.2.2.2.2.2.2.2.1
@[simp] theorem expireRequest_router (c : CellNo) (s : State) : (expireRequest c s).router = s.router := (expireRequest_frame c s).2.2.2.2.2.2.2.2.2.2.1
@[simp] theorem expireRequest_coalescer (c : CellNo) (s : State) : (expireRequest c s).coalescer = s.coalescer := (expireRequest_frame c s).2.2.2.2.2.2.2.2.2.2.2.1
@[simp] theorem expireRequest_cellState (c : CellNo) (s : State) : (expireRequest c s).cellPort.state = s.cellPort.state := (expireRequest_frame c s).2.2.2.2.2.2.2.2.2.2.2.2.1
@[simp] theorem expireRequest_plantState (c : CellNo) (s : State) : (expireRequest c s).plantPort.state = s.plantPort.state := (expireRequest_frame c s).2.2.2.2.2.2.2.2.2.2.2.2.2.1
@[simp] theorem expireRequest_eeprom (c : CellNo) (s : State) : (expireRequest c s).eeprom = s.eeprom := (expireRequest_frame c s).2.2.2.2.2.2.2.2.2.2.2.2.2.2.1
@[simp] theorem expireRequest_draws (c : CellNo) (s : State) : (expireRequest c s).draws = s.draws := (expireRequest_frame c s).2.2.2.2.2.2.2.2.2.2.2.2.2.2.2.1
@[simp] theorem expireRequest_handed (c : CellNo) (s : State) : (expireRequest c s).handed = s.handed := (expireRequest_frame c s).2.2.2.2.2.2.2.2.2.2.2.2.2.2.2.2.1
@[simp] theorem expireRequest_pending (c : CellNo) (s : State) : (expireRequest c s).pending = s.pending := (expireRequest_frame c s).2.2.2.2.2.2.2.2.2.2.2.2.2.2.2.2.2

theorem opRequestExpiry_frame (c : CellNo) (s : State) :
    (opRequestExpiry c s).now = s.now ∧
    (opRequestExpiry c s).mode = s.mode ∧
    (opRequestExpiry c s).activity = s.activity ∧
    (opRequestExpiry c s).tables = s.tables ∧
    (opRequestExpiry c s).tracker = s.tracker ∧
    (opRequestExpiry c s).lots = s.lots ∧
    (opRequestExpiry c s).belt = s.belt ∧
    (opRequestExpiry c s).head = s.head ∧
    (opRequestExpiry c s).filtration = s.filtration ∧
    (opRequestExpiry c s).engine = s.engine ∧
    (opRequestExpiry c s).router = s.router ∧
    (opRequestExpiry c s).coalescer = s.coalescer ∧
    (opRequestExpiry c s).cellPort.state = s.cellPort.state ∧
    (opRequestExpiry c s).plantPort.state = s.plantPort.state ∧
    (opRequestExpiry c s).eeprom = s.eeprom ∧
    (opRequestExpiry c s).draws = s.draws ∧
    (opRequestExpiry c s).handed = s.handed ∧
    (opRequestExpiry c s).pending = s.pending := by
  unfold opRequestExpiry
  repeat' split
  all_goals simp
@[simp] theorem opRequestExpiry_now (c : CellNo) (s : State) : (opRequestExpiry c s).now = s.now := (opRequestExpiry_frame c s).1
@[simp] theorem opRequestExpiry_mode (c : CellNo) (s : State) : (opRequestExpiry c s).mode = s.mode := (opRequestExpiry_frame c s).2.1
@[simp] theorem opRequestExpiry_activity (c : CellNo) (s : State) : (opRequestExpiry c s).activity = s.activity := (opRequestExpiry_frame c s).2.2.1
@[simp] theorem opRequestExpiry_tables (c : CellNo) (s : State) : (opRequestExpiry c s).tables = s.tables := (opRequestExpiry_frame c s).2.2.2.1
@[simp] theorem opRequestExpiry_tracker (c : CellNo) (s : State) : (opRequestExpiry c s).tracker = s.tracker := (opRequestExpiry_frame c s).2.2.2.2.1
@[simp] theorem opRequestExpiry_lots (c : CellNo) (s : State) : (opRequestExpiry c s).lots = s.lots := (opRequestExpiry_frame c s).2.2.2.2.2.1
@[simp] theorem opRequestExpiry_belt (c : CellNo) (s : State) : (opRequestExpiry c s).belt = s.belt := (opRequestExpiry_frame c s).2.2.2.2.2.2.1
@[simp] theorem opRequestExpiry_head (c : CellNo) (s : State) : (opRequestExpiry c s).head = s.head := (opRequestExpiry_frame c s).2.2.2.2.2.2.2.1
@[simp] theorem opRequestExpiry_filtration (c : CellNo) (s : State) : (opRequestExpiry c s).filtration = s.filtration := (opRequestExpiry_frame c s).2.2.2.2.2.2.2.2.1
@[simp] theorem opRequestExpiry_engine (c : CellNo) (s : State) : (opRequestExpiry c s).engine = s.engine := (opRequestExpiry_frame c s).2.2.2.2.2.2.2.2.2.1
@[simp] theorem opRequestExpiry_router (c : CellNo) (s : State) : (opRequestExpiry c s).router = s.router := (opRequestExpiry_frame c s).2.2.2.2.2.2.2.2.2.2.1
@[simp] theorem opRequestExpiry_coalescer (c : CellNo) (s : State) : (opRequestExpiry c s).coalescer = s.coalescer := (opRequestExpiry_frame c s).2.2.2.2.2.2.2.2.2.2.2.1
@[simp] theorem opRequestExpiry_cellState (c : CellNo) (s : State) : (opRequestExpiry c s).cellPort.state = s.cellPort.state := (opRequestExpiry_frame c s).2.2.2.2.2.2.2.2.2.2.2.2.1
@[simp] theorem opRequestExpiry_plantState (c : CellNo) (s : State) : (opRequestExpiry c s).plantPort.state = s.plantPort.state := (opRequestExpiry_frame c s).2.2.2.2.2.2.2.2.2.2.2.2.2.1
@[simp] theorem opRequestExpiry_eeprom (c : CellNo) (s : State) : (opRequestExpiry c s).eeprom = s.eeprom := (opRequestExpiry_frame c s).2.2.2.2.2.2.2.2.2.2.2.2.2.2.1
@[simp] theorem opRequestExpiry_draws (c : CellNo) (s : State) : (opRequestExpiry c s).draws = s.draws := (opRequestExpiry_frame c s).2.2.2.2.2.2.2.2.2.2.2.2.2.2.2.1
@[simp] theorem opRequestExpiry_handed (c : CellNo) (s : State) : (opRequestExpiry c s).handed = s.handed := (opRequestExpiry_frame c s).2.2.2.2.2.2.2.2.2.2.2.2.2.2.2.2.1
@[simp] theorem opRequestExpiry_pending (c : CellNo) (s : State) : (opRequestExpiry c s).pending = s.pending := (opRequestExpiry_frame c s).2.2.2.2.2.2.2.2.2.2.2.2.2.2.2.2.2

theorem applyAges_frame (s : State) :
    (applyAges s).now = s.now ∧
    (applyAges s).mode = s.mode ∧
    (applyAges s).activity = s.activity ∧
    (applyAges s).tables = s.tables ∧
    (applyAges s).tracker = s.tracker ∧
    (applyAges s).lots = s.lots ∧
    (applyAges s).belt = s.belt ∧
    (applyAges s).head = s.head ∧
    (applyAges s).filtration = s.filtration ∧
    (applyAges s).engine = s.engine ∧
    (applyAges s).router = s.router ∧
    (applyAges s).coalescer = s.coalescer ∧
    (applyAges s).cellPort.state = s.cellPort.state ∧
    (applyAges s).plantPort.state = s.plantPort.state ∧
    (applyAges s).eeprom = s.eeprom ∧
    (applyAges s).draws = s.draws ∧
    (applyAges s).handed = s.handed ∧
    (applyAges s).pending = s.pending := by
  simp [applyAges]
@[simp] theorem applyAges_now (s : State) : (applyAges s).now = s.now := (applyAges_frame s).1
@[simp] theorem applyAges_mode (s : State) : (applyAges s).mode = s.mode := (applyAges_frame s).2.1
@[simp] theorem applyAges_activity (s : State) : (applyAges s).activity = s.activity := (applyAges_frame s).2.2.1
@[simp] theorem applyAges_tables (s : State) : (applyAges s).tables = s.tables := (applyAges_frame s).2.2.2.1
@[simp] theorem applyAges_tracker (s : State) : (applyAges s).tracker = s.tracker := (applyAges_frame s).2.2.2.2.1
@[simp] theorem applyAges_lots (s : State) : (applyAges s).lots = s.lots := (applyAges_frame s).2.2.2.2.2.1
@[simp] theorem applyAges_belt (s : State) : (applyAges s).belt = s.belt := (applyAges_frame s).2.2.2.2.2.2.1
@[simp] theorem applyAges_head (s : State) : (applyAges s).head = s.head := (applyAges_frame s).2.2.2.2.2.2.2.1
@[simp] theorem applyAges_filtration (s : State) : (applyAges s).filtration = s.filtration := (applyAges_frame s).2.2.2.2.2.2.2.2.1
@[simp] theorem applyAges_engine (s : State) : (applyAges s).engine = s.engine := (applyAges_frame s).2.2.2.2.2.2.2.2.2.1
@[simp] theorem applyAges_router (s : State) : (applyAges s).router = s.router := (applyAges_frame s).2.2.2.2.2.2.2.2.2.2.1
@[simp] theorem applyAges_coalescer (s : State) : (applyAges s).coalescer = s.coalescer := (applyAges_frame s).2.2.2.2.2.2.2.2.2.2.2.1
@[simp] theorem applyAges_cellState (s : State) : (applyAges s).cellPort.state = s.cellPort.state := (applyAges_frame s).2.2.2.2.2.2.2.2.2.2.2.2.1
@[simp] theorem applyAges_plantState (s : State) : (applyAges s).plantPort.state = s.plantPort.state := (applyAges_frame s).2.2.2.2.2.2.2.2.2.2.2.2.2.1
@[simp] theorem applyAges_eeprom (s : State) : (applyAges s).eeprom = s.eeprom := (applyAges_frame s).2.2.2.2.2.2.2.2.2.2.2.2.2.2.1
@[simp] theorem applyAges_draws (s : State) : (applyAges s).draws = s.draws := (applyAges_frame s).2.2.2.2.2.2.2.2.2.2.2.2.2.2.2.1
@[simp] theorem applyAges_handed (s : State) : (applyAges s).handed = s.handed := (applyAges_frame s).2.2.2.2.2.2.2.2.2.2.2.2.2.2.2.2.1
@[simp] theorem applyAges_pending (s : State) : (applyAges s).pending = s.pending := (applyAges_frame s).2.2.2.2.2.2.2.2.2.2.2.2.2.2.2.2.2

theorem refuseRestarted_frame (c : CellNo) (s : State) :
    (refuseRestarted c s).now = s.now ∧
    (refuseRestarted c s).mode = s.mode ∧
    (refuseRestarted c s).activity = s.activity ∧
    (refuseRestarted c s).tables = s.tables ∧
    (refuseRestarted c s).tracker = s.tracker ∧
    (refuseRestarted c s).lots = s.lots ∧
    (refuseRestarted c s).arbiter = s.arbiter ∧
    (refuseRestarted c s).belt = s.belt ∧
    (refuseRestarted c s).head = s.head ∧
    (refuseRestarted c s).filtration = s.filtration ∧
    (refuseRestarted c s).engine = s.engine ∧
    (refuseRestarted c s).router = s.router ∧
    (refuseRestarted c s).coalescer = s.coalescer ∧
    (refuseRestarted c s).cellPort.state = s.cellPort.state ∧
    (refuseRestarted c s).plantPort.state = s.plantPort.state ∧
    (refuseRestarted c s).eeprom = s.eeprom ∧
    (refuseRestarted c s).draws = s.draws ∧
    (refuseRestarted c s).raised = s.raised ∧
    (refuseRestarted c s).handed = s.handed ∧
    (refuseRestarted c s).pending = s.pending := by
  unfold refuseRestarted
  repeat' split
  all_goals simp
@[simp] theorem refuseRestarted_now (c : CellNo) (s : State) : (refuseRestarted c s).now = s.now := (refuseRestarted_frame c s).1
@[simp] theorem refuseRestarted_mode (c : CellNo) (s : State) : (refuseRestarted c s).mode = s.mode := (refuseRestarted_frame c s).2.1
@[simp] theorem refuseRestarted_activity (c : CellNo) (s : State) : (refuseRestarted c s).activity = s.activity := (refuseRestarted_frame c s).2.2.1
@[simp] theorem refuseRestarted_tables (c : CellNo) (s : State) : (refuseRestarted c s).tables = s.tables := (refuseRestarted_frame c s).2.2.2.1
@[simp] theorem refuseRestarted_tracker (c : CellNo) (s : State) : (refuseRestarted c s).tracker = s.tracker := (refuseRestarted_frame c s).2.2.2.2.1
@[simp] theorem refuseRestarted_lots (c : CellNo) (s : State) : (refuseRestarted c s).lots = s.lots := (refuseRestarted_frame c s).2.2.2.2.2.1
@[simp] theorem refuseRestarted_arbiter (c : CellNo) (s : State) : (refuseRestarted c s).arbiter = s.arbiter := (refuseRestarted_frame c s).2.2.2.2.2.2.1
@[simp] theorem refuseRestarted_belt (c : CellNo) (s : State) : (refuseRestarted c s).belt = s.belt := (refuseRestarted_frame c s).2.2.2.2.2.2.2.1
@[simp] theorem refuseRestarted_head (c : CellNo) (s : State) : (refuseRestarted c s).head = s.head := (refuseRestarted_frame c s).2.2.2.2.2.2.2.2.1
@[simp] theorem refuseRestarted_filtration (c : CellNo) (s : State) : (refuseRestarted c s).filtration = s.filtration := (refuseRestarted_frame c s).2.2.2.2.2.2.2.2.2.1
@[simp] theorem refuseRestarted_engine (c : CellNo) (s : State) : (refuseRestarted c s).engine = s.engine := (refuseRestarted_frame c s).2.2.2.2.2.2.2.2.2.2.1
@[simp] theorem refuseRestarted_router (c : CellNo) (s : State) : (refuseRestarted c s).router = s.router := (refuseRestarted_frame c s).2.2.2.2.2.2.2.2.2.2.2.1
@[simp] theorem refuseRestarted_coalescer (c : CellNo) (s : State) : (refuseRestarted c s).coalescer = s.coalescer := (refuseRestarted_frame c s).2.2.2.2.2.2.2.2.2.2.2.2.1
@[simp] theorem refuseRestarted_cellState (c : CellNo) (s : State) : (refuseRestarted c s).cellPort.state = s.cellPort.state := (refuseRestarted_frame c s).2.2.2.2.2.2.2.2.2.2.2.2.2.1
@[simp] theorem refuseRestarted_plantState (c : CellNo) (s : State) : (refuseRestarted c s).plantPort.state = s.plantPort.state := (refuseRestarted_frame c s).2.2.2.2.2.2.2.2.2.2.2.2.2.2.1
@[simp] theorem refuseRestarted_eeprom (c : CellNo) (s : State) : (refuseRestarted c s).eeprom = s.eeprom := (refuseRestarted_frame c s).2.2.2.2.2.2.2.2.2.2.2.2.2.2.2.1
@[simp] theorem refuseRestarted_draws (c : CellNo) (s : State) : (refuseRestarted c s).draws = s.draws := (refuseRestarted_frame c s).2.2.2.2.2.2.2.2.2.2.2.2.2.2.2.2.1
@[simp] theorem refuseRestarted_raised (c : CellNo) (s : State) : (refuseRestarted c s).raised = s.raised := (refuseRestarted_frame c s).2.2.2.2.2.2.2.2.2.2.2.2.2.2.2.2.2.1
@[simp] theorem refuseRestarted_handed (c : CellNo) (s : State) : (refuseRestarted c s).handed = s.handed := (refuseRestarted_frame c s).2.2.2.2.2.2.2.2.2.2.2.2.2.2.2.2.2.2.1
@[simp] theorem refuseRestarted_pending (c : CellNo) (s : State) : (refuseRestarted c s).pending = s.pending := (refuseRestarted_frame c s).2.2.2.2.2.2.2.2.2.2.2.2.2.2.2.2.2.2.2

theorem restartRequests_frame (s : State) :
    (restartRequests s).now = s.now ∧
    (restartRequests s).mode = s.mode ∧
    (restartRequests s).activity = s.activity ∧
    (restartRequests s).tables = s.tables ∧
    (restartRequests s).tracker = s.tracker ∧
    (restartRequests s).lots = s.lots ∧
    (restartRequests s).belt = s.belt ∧
    (restartRequests s).head = s.head ∧
    (restartRequests s).filtration = s.filtration ∧
    (restartRequests s).engine = s.engine ∧
    (restartRequests s).router = s.router ∧
    (restartRequests s).coalescer = s.coalescer ∧
    (restartRequests s).cellPort.state = s.cellPort.state ∧
    (restartRequests s).plantPort.state = s.plantPort.state ∧
    (restartRequests s).eeprom = s.eeprom ∧
    (restartRequests s).draws = s.draws ∧
    (restartRequests s).raised = s.raised ∧
    (restartRequests s).handed = s.handed ∧
    (restartRequests s).pending = s.pending := by
  simp [restartRequests]
@[simp] theorem restartRequests_now (s : State) : (restartRequests s).now = s.now := (restartRequests_frame s).1
@[simp] theorem restartRequests_mode (s : State) : (restartRequests s).mode = s.mode := (restartRequests_frame s).2.1
@[simp] theorem restartRequests_activity (s : State) : (restartRequests s).activity = s.activity := (restartRequests_frame s).2.2.1
@[simp] theorem restartRequests_tables (s : State) : (restartRequests s).tables = s.tables := (restartRequests_frame s).2.2.2.1
@[simp] theorem restartRequests_tracker (s : State) : (restartRequests s).tracker = s.tracker := (restartRequests_frame s).2.2.2.2.1
@[simp] theorem restartRequests_lots (s : State) : (restartRequests s).lots = s.lots := (restartRequests_frame s).2.2.2.2.2.1
@[simp] theorem restartRequests_belt (s : State) : (restartRequests s).belt = s.belt := (restartRequests_frame s).2.2.2.2.2.2.1
@[simp] theorem restartRequests_head (s : State) : (restartRequests s).head = s.head := (restartRequests_frame s).2.2.2.2.2.2.2.1
@[simp] theorem restartRequests_filtration (s : State) : (restartRequests s).filtration = s.filtration := (restartRequests_frame s).2.2.2.2.2.2.2.2.1
@[simp] theorem restartRequests_engine (s : State) : (restartRequests s).engine = s.engine := (restartRequests_frame s).2.2.2.2.2.2.2.2.2.1
@[simp] theorem restartRequests_router (s : State) : (restartRequests s).router = s.router := (restartRequests_frame s).2.2.2.2.2.2.2.2.2.2.1
@[simp] theorem restartRequests_coalescer (s : State) : (restartRequests s).coalescer = s.coalescer := (restartRequests_frame s).2.2.2.2.2.2.2.2.2.2.2.1
@[simp] theorem restartRequests_cellState (s : State) : (restartRequests s).cellPort.state = s.cellPort.state := (restartRequests_frame s).2.2.2.2.2.2.2.2.2.2.2.2.1
@[simp] theorem restartRequests_plantState (s : State) : (restartRequests s).plantPort.state = s.plantPort.state := (restartRequests_frame s).2.2.2.2.2.2.2.2.2.2.2.2.2.1
@[simp] theorem restartRequests_eeprom (s : State) : (restartRequests s).eeprom = s.eeprom := (restartRequests_frame s).2.2.2.2.2.2.2.2.2.2.2.2.2.2.1
@[simp] theorem restartRequests_draws (s : State) : (restartRequests s).draws = s.draws := (restartRequests_frame s).2.2.2.2.2.2.2.2.2.2.2.2.2.2.2.1
@[simp] theorem restartRequests_raised (s : State) : (restartRequests s).raised = s.raised := (restartRequests_frame s).2.2.2.2.2.2.2.2.2.2.2.2.2.2.2.2.1
@[simp] theorem restartRequests_handed (s : State) : (restartRequests s).handed = s.handed := (restartRequests_frame s).2.2.2.2.2.2.2.2.2.2.2.2.2.2.2.2.2.1
@[simp] theorem restartRequests_pending (s : State) : (restartRequests s).pending = s.pending := (restartRequests_frame s).2.2.2.2.2.2.2.2.2.2.2.2.2.2.2.2.2.2


end Sys2Proof.Machine
end

