-- ==== Sys2Proof/Laws/Head.lean ====
section
/-! SUPPORT. What the head controller leaves alone (Machine/Head.lean). -/

namespace Sys2Proof.Machine

theorem computeApproach_frame (s : State) :
    (computeApproach s).now = s.now ∧
    (computeApproach s).mode = s.mode ∧
    (computeApproach s).activity = s.activity ∧
    (computeApproach s).tables = s.tables ∧
    (computeApproach s).tracker = s.tracker ∧
    (computeApproach s).lots = s.lots ∧
    (computeApproach s).arbiter = s.arbiter ∧
    (computeApproach s).belt = s.belt ∧
    (computeApproach s).filtration = s.filtration ∧
    (computeApproach s).engine = s.engine ∧
    (computeApproach s).router = s.router ∧
    (computeApproach s).notices = s.notices ∧
    (computeApproach s).coalescer = s.coalescer ∧
    (computeApproach s).cellPort = s.cellPort ∧
    (computeApproach s).plantPort = s.plantPort ∧
    (computeApproach s).eeprom = s.eeprom ∧
    (computeApproach s).draws = s.draws ∧
    (computeApproach s).handed = s.handed ∧
    (computeApproach s).pending = s.pending := by
  unfold computeApproach
  dsimp only
  repeat' split
  all_goals simp
@[simp] theorem computeApproach_now (s : State) : (computeApproach s).now = s.now := (computeApproach_frame s).1
@[simp] theorem computeApproach_mode (s : State) : (computeApproach s).mode = s.mode := (computeApproach_frame s).2.1
@[simp] theorem computeApproach_activity (s : State) : (computeApproach s).activity = s.activity := (computeApproach_frame s).2.2.1
@[simp] theorem computeApproach_tables (s : State) : (computeApproach s).tables = s.tables := (computeApproach_frame s).2.2.2.1
@[simp] theorem computeApproach_tracker (s : State) : (computeApproach s).tracker = s.tracker := (computeApproach_frame s).2.2.2.2.1
@[simp] theorem computeApproach_lots (s : State) : (computeApproach s).lots = s.lots := (computeApproach_frame s).2.2.2.2.2.1
@[simp] theorem computeApproach_arbiter (s : State) : (computeApproach s).arbiter = s.arbiter := (computeApproach_frame s).2.2.2.2.2.2.1
@[simp] theorem computeApproach_belt (s : State) : (computeApproach s).belt = s.belt := (computeApproach_frame s).2.2.2.2.2.2.2.1
@[simp] theorem computeApproach_filtration (s : State) : (computeApproach s).filtration = s.filtration := (computeApproach_frame s).2.2.2.2.2.2.2.2.1
@[simp] theorem computeApproach_engine (s : State) : (computeApproach s).engine = s.engine := (computeApproach_frame s).2.2.2.2.2.2.2.2.2.1
@[simp] theorem computeApproach_router (s : State) : (computeApproach s).router = s.router := (computeApproach_frame s).2.2.2.2.2.2.2.2.2.2.1
@[simp] theorem computeApproach_notices (s : State) : (computeApproach s).notices = s.notices := (computeApproach_frame s).2.2.2.2.2.2.2.2.2.2.2.1
@[simp] theorem computeApproach_coalescer (s : State) : (computeApproach s).coalescer = s.coalescer := (computeApproach_frame s).2.2.2.2.2.2.2.2.2.2.2.2.1
@[simp] theorem computeApproach_cellPort (s : State) : (computeApproach s).cellPort = s.cellPort := (computeApproach_frame s).2.2.2.2.2.2.2.2.2.2.2.2.2.1
@[simp] theorem computeApproach_plantPort (s : State) : (computeApproach s).plantPort = s.plantPort := (computeApproach_frame s).2.2.2.2.2.2.2.2.2.2.2.2.2.2.1
@[simp] theorem computeApproach_eeprom (s : State) : (computeApproach s).eeprom = s.eeprom := (computeApproach_frame s).2.2.2.2.2.2.2.2.2.2.2.2.2.2.2.1
@[simp] theorem computeApproach_draws (s : State) : (computeApproach s).draws = s.draws := (computeApproach_frame s).2.2.2.2.2.2.2.2.2.2.2.2.2.2.2.2.1
@[simp] theorem computeApproach_handed (s : State) : (computeApproach s).handed = s.handed := (computeApproach_frame s).2.2.2.2.2.2.2.2.2.2.2.2.2.2.2.2.2.1
@[simp] theorem computeApproach_pending (s : State) : (computeApproach s).pending = s.pending := (computeApproach_frame s).2.2.2.2.2.2.2.2.2.2.2.2.2.2.2.2.2.2

theorem interlock_frame (s : State) :
    (interlock s).now = s.now ∧
    (interlock s).mode = s.mode ∧
    (interlock s).activity = s.activity ∧
    (interlock s).tables = s.tables ∧
    (interlock s).tracker.last = s.tracker.last ∧
    (interlock s).tracker.acc = s.tracker.acc ∧
    (interlock s).filtration = s.filtration ∧
    (interlock s).engine = s.engine ∧
    (interlock s).router = s.router ∧
    (interlock s).cellPort.state = s.cellPort.state ∧
    (interlock s).plantPort.state = s.plantPort.state ∧
    (interlock s).eeprom = s.eeprom ∧
    (interlock s).draws = s.draws ∧
    (interlock s).pending = s.pending := by
  unfold interlock
  repeat' split
  all_goals simp
@[simp] theorem interlock_now (s : State) : (interlock s).now = s.now := (interlock_frame s).1
@[simp] theorem interlock_mode (s : State) : (interlock s).mode = s.mode := (interlock_frame s).2.1
@[simp] theorem interlock_activity (s : State) : (interlock s).activity = s.activity := (interlock_frame s).2.2.1
@[simp] theorem interlock_tables (s : State) : (interlock s).tables = s.tables := (interlock_frame s).2.2.2.1
@[simp] theorem interlock_last (s : State) : (interlock s).tracker.last = s.tracker.last := (interlock_frame s).2.2.2.2.1
@[simp] theorem interlock_acc (s : State) : (interlock s).tracker.acc = s.tracker.acc := (interlock_frame s).2.2.2.2.2.1
@[simp] theorem interlock_filtration (s : State) : (interlock s).filtration = s.filtration := (interlock_frame s).2.2.2.2.2.2.1
@[simp] theorem interlock_engine (s : State) : (interlock s).engine = s.engine := (interlock_frame s).2.2.2.2.2.2.2.1
@[simp] theorem interlock_router (s : State) : (interlock s).router = s.router := (interlock_frame s).2.2.2.2.2.2.2.2.1
@[simp] theorem interlock_cellState (s : State) : (interlock s).cellPort.state = s.cellPort.state := (interlock_frame s).2.2.2.2.2.2.2.2.2.1
@[simp] theorem interlock_plantState (s : State) : (interlock s).plantPort.state = s.plantPort.state := (interlock_frame s).2.2.2.2.2.2.2.2.2.2.1
@[simp] theorem interlock_eeprom (s : State) : (interlock s).eeprom = s.eeprom := (interlock_frame s).2.2.2.2.2.2.2.2.2.2.2.1
@[simp] theorem interlock_draws (s : State) : (interlock s).draws = s.draws := (interlock_frame s).2.2.2.2.2.2.2.2.2.2.2.2.1
@[simp] theorem interlock_pending (s : State) : (interlock s).pending = s.pending := (interlock_frame s).2.2.2.2.2.2.2.2.2.2.2.2.2

theorem handStop_frame (s : State) :
    (handStop s).now = s.now ∧
    (handStop s).mode = s.mode ∧
    (handStop s).activity = s.activity ∧
    (handStop s).tables = s.tables ∧
    (handStop s).tracker = s.tracker ∧
    (handStop s).lots = s.lots ∧
    (handStop s).arbiter = s.arbiter ∧
    (handStop s).belt = s.belt ∧
    (handStop s).head = s.head ∧
    (handStop s).filtration = s.filtration ∧
    (handStop s).engine = s.engine ∧
    (handStop s).router = s.router ∧
    (handStop s).notices = s.notices ∧
    (handStop s).cellPort = s.cellPort ∧
    (handStop s).plantPort = s.plantPort ∧
    (handStop s).eeprom = s.eeprom ∧
    (handStop s).draws = s.draws ∧
    (handStop s).raised = s.raised ∧
    (handStop s).pending = s.pending := by
  simp [handStop]
@[simp] theorem handStop_now (s : State) : (handStop s).now = s.now := (handStop_frame s).1
@[simp] theorem handStop_mode (s : State) : (handStop s).mode = s.mode := (handStop_frame s).2.1
@[simp] theorem handStop_activity (s : State) : (handStop s).activity = s.activity := (handStop_frame s).2.2.1
@[simp] theorem handStop_tables (s : State) : (handStop s).tables = s.tables := (handStop_frame s).2.2.2.1
@[simp] theorem handStop_tracker (s : State) : (handStop s).tracker = s.tracker := (handStop_frame s).2.2.2.2.1
@[simp] theorem handStop_lots (s : State) : (handStop s).lots = s.lots := (handStop_frame s).2.2.2.2.2.1
@[simp] theorem handStop_arbiter (s : State) : (handStop s).arbiter = s.arbiter := (handStop_frame s).2.2.2.2.2.2.1
@[simp] theorem handStop_belt (s : State) : (handStop s).belt = s.belt := (handStop_frame s).2.2.2.2.2.2.2.1
@[simp] theorem handStop_head (s : State) : (handStop s).head = s.head := (handStop_frame s).2.2.2.2.2.2.2.2.1
@[simp] theorem handStop_filtration (s : State) : (handStop s).filtration = s.filtration := (handStop_frame s).2.2.2.2.2.2.2.2.2.1
@[simp] theorem handStop_engine (s : State) : (handStop s).engine = s.engine := (handStop_frame s).2.2.2.2.2.2.2.2.2.2.1
@[simp] theorem handStop_router (s : State) : (handStop s).router = s.router := (handStop_frame s).2.2.2.2.2.2.2.2.2.2.2.1
@[simp] theorem handStop_notices (s : State) : (handStop s).notices = s.notices := (handStop_frame s).2.2.2.2.2.2.2.2.2.2.2.2.1
@[simp] theorem handStop_cellPort (s : State) : (handStop s).cellPort = s.cellPort := (handStop_frame s).2.2.2.2.2.2.2.2.2.2.2.2.2.1
@[simp] theorem handStop_plantPort (s : State) : (handStop s).plantPort = s.plantPort := (handStop_frame s).2.2.2.2.2.2.2.2.2.2.2.2.2.2.1
@[simp] theorem handStop_eeprom (s : State) : (handStop s).eeprom = s.eeprom := (handStop_frame s).2.2.2.2.2.2.2.2.2.2.2.2.2.2.2.1
@[simp] theorem handStop_draws (s : State) : (handStop s).draws = s.draws := (handStop_frame s).2.2.2.2.2.2.2.2.2.2.2.2.2.2.2.2.1
@[simp] theorem handStop_raised (s : State) : (handStop s).raised = s.raised := (handStop_frame s).2.2.2.2.2.2.2.2.2.2.2.2.2.2.2.2.2.1
@[simp] theorem handStop_pending (s : State) : (handStop s).pending = s.pending := (handStop_frame s).2.2.2.2.2.2.2.2.2.2.2.2.2.2.2.2.2.2

theorem startCrusher_frame (s : State) :
    (startCrusher s).now = s.now ∧
    (startCrusher s).mode = s.mode ∧
    (startCrusher s).activity = s.activity ∧
    (startCrusher s).tables = s.tables ∧
    (startCrusher s).tracker.last = s.tracker.last ∧
    (startCrusher s).tracker.acc = s.tracker.acc ∧
    (startCrusher s).filtration = s.filtration ∧
    (startCrusher s).engine = s.engine ∧
    (startCrusher s).router = s.router ∧
    (startCrusher s).cellPort.state = s.cellPort.state ∧
    (startCrusher s).plantPort.state = s.plantPort.state ∧
    (startCrusher s).eeprom = s.eeprom ∧
    (startCrusher s).draws = s.draws ∧
    (startCrusher s).pending = s.pending := by
  simp [startCrusher]
@[simp] theorem startCrusher_now (s : State) : (startCrusher s).now = s.now := (startCrusher_frame s).1
@[simp] theorem startCrusher_mode (s : State) : (startCrusher s).mode = s.mode := (startCrusher_frame s).2.1
@[simp] theorem startCrusher_activity (s : State) : (startCrusher s).activity = s.activity := (startCrusher_frame s).2.2.1
@[simp] theorem startCrusher_tables (s : State) : (startCrusher s).tables = s.tables := (startCrusher_frame s).2.2.2.1
@[simp] theorem startCrusher_last (s : State) : (startCrusher s).tracker.last = s.tracker.last := (startCrusher_frame s).2.2.2.2.1
@[simp] theorem startCrusher_acc (s : State) : (startCrusher s).tracker.acc = s.tracker.acc := (startCrusher_frame s).2.2.2.2.2.1
@[simp] theorem startCrusher_filtration (s : State) : (startCrusher s).filtration = s.filtration := (startCrusher_frame s).2.2.2.2.2.2.1
@[simp] theorem startCrusher_engine (s : State) : (startCrusher s).engine = s.engine := (startCrusher_frame s).2.2.2.2.2.2.2.1
@[simp] theorem startCrusher_router (s : State) : (startCrusher s).router = s.router := (startCrusher_frame s).2.2.2.2.2.2.2.2.1
@[simp] theorem startCrusher_cellState (s : State) : (startCrusher s).cellPort.state = s.cellPort.state := (startCrusher_frame s).2.2.2.2.2.2.2.2.2.1
@[simp] theorem startCrusher_plantState (s : State) : (startCrusher s).plantPort.state = s.plantPort.state := (startCrusher_frame s).2.2.2.2.2.2.2.2.2.2.1
@[simp] theorem startCrusher_eeprom (s : State) : (startCrusher s).eeprom = s.eeprom := (startCrusher_frame s).2.2.2.2.2.2.2.2.2.2.2.1
@[simp] theorem startCrusher_draws (s : State) : (startCrusher s).draws = s.draws := (startCrusher_frame s).2.2.2.2.2.2.2.2.2.2.2.2.1
@[simp] theorem startCrusher_pending (s : State) : (startCrusher s).pending = s.pending := (startCrusher_frame s).2.2.2.2.2.2.2.2.2.2.2.2.2

theorem enterRunning_frame (s : State) :
    (enterRunning s).now = s.now ∧
    (enterRunning s).mode = s.mode ∧
    (enterRunning s).activity = s.activity ∧
    (enterRunning s).tables = s.tables ∧
    (enterRunning s).tracker.last = s.tracker.last ∧
    (enterRunning s).tracker.acc = s.tracker.acc ∧
    (enterRunning s).filtration = s.filtration ∧
    (enterRunning s).engine = s.engine ∧
    (enterRunning s).router = s.router ∧
    (enterRunning s).cellPort.state = s.cellPort.state ∧
    (enterRunning s).plantPort.state = s.plantPort.state ∧
    (enterRunning s).eeprom = s.eeprom ∧
    (enterRunning s).draws = s.draws ∧
    (enterRunning s).pending = s.pending := by
  simp [enterRunning]
@[simp] theorem enterRunning_now (s : State) : (enterRunning s).now = s.now := (enterRunning_frame s).1
@[simp] theorem enterRunning_mode (s : State) : (enterRunning s).mode = s.mode := (enterRunning_frame s).2.1
@[simp] theorem enterRunning_activity (s : State) : (enterRunning s).activity = s.activity := (enterRunning_frame s).2.2.1
@[simp] theorem enterRunning_tables (s : State) : (enterRunning s).tables = s.tables := (enterRunning_frame s).2.2.2.1
@[simp] theorem enterRunning_last (s : State) : (enterRunning s).tracker.last = s.tracker.last := (enterRunning_frame s).2.2.2.2.1
@[simp] theorem enterRunning_acc (s : State) : (enterRunning s).tracker.acc = s.tracker.acc := (enterRunning_frame s).2.2.2.2.2.1
@[simp] theorem enterRunning_filtration (s : State) : (enterRunning s).filtration = s.filtration := (enterRunning_frame s).2.2.2.2.2.2.1
@[simp] theorem enterRunning_engine (s : State) : (enterRunning s).engine = s.engine := (enterRunning_frame s).2.2.2.2.2.2.2.1
@[simp] theorem enterRunning_router (s : State) : (enterRunning s).router = s.router := (enterRunning_frame s).2.2.2.2.2.2.2.2.1
@[simp] theorem enterRunning_cellState (s : State) : (enterRunning s).cellPort.state = s.cellPort.state := (enterRunning_frame s).2.2.2.2.2.2.2.2.2.1
@[simp] theorem enterRunning_plantState (s : State) : (enterRunning s).plantPort.state = s.plantPort.state := (enterRunning_frame s).2.2.2.2.2.2.2.2.2.2.1
@[simp] theorem enterRunning_eeprom (s : State) : (enterRunning s).eeprom = s.eeprom := (enterRunning_frame s).2.2.2.2.2.2.2.2.2.2.2.1
@[simp] theorem enterRunning_draws (s : State) : (enterRunning s).draws = s.draws := (enterRunning_frame s).2.2.2.2.2.2.2.2.2.2.2.2.1
@[simp] theorem enterRunning_pending (s : State) : (enterRunning s).pending = s.pending := (enterRunning_frame s).2.2.2.2.2.2.2.2.2.2.2.2.2

theorem crusherToFault_frame (src : SourceNo) (s : State) :
    (crusherToFault src s).now = s.now ∧
    (crusherToFault src s).mode = s.mode ∧
    (crusherToFault src s).activity = s.activity ∧
    (crusherToFault src s).tables = s.tables ∧
    (crusherToFault src s).tracker = s.tracker ∧
    (crusherToFault src s).lots = s.lots ∧
    (crusherToFault src s).arbiter = s.arbiter ∧
    (crusherToFault src s).belt = s.belt ∧
    (crusherToFault src s).filtration = s.filtration ∧
    (crusherToFault src s).engine = s.engine ∧
    (crusherToFault src s).router = s.router ∧
    (crusherToFault src s).cellPort = s.cellPort ∧
    (crusherToFault src s).plantPort = s.plantPort ∧
    (crusherToFault src s).eeprom = s.eeprom ∧
    (crusherToFault src s).draws = s.draws ∧
    (crusherToFault src s).pending = s.pending := by
  simp [crusherToFault]
@[simp] theorem crusherToFault_now (src : SourceNo) (s : State) : (crusherToFault src s).now = s.now := (crusherToFault_frame src s).1
@[simp] theorem crusherToFault_mode (src : SourceNo) (s : State) : (crusherToFault src s).mode = s.mode := (crusherToFault_frame src s).2.1
@[simp] theorem crusherToFault_activity (src : SourceNo) (s : State) : (crusherToFault src s).activity = s.activity := (crusherToFault_frame src s).2.2.1
@[simp] theorem crusherToFault_tables (src : SourceNo) (s : State) : (crusherToFault src s).tables = s.tables := (crusherToFault_frame src s).2.2.2.1
@[simp] theorem crusherToFault_tracker (src : SourceNo) (s : State) : (crusherToFault src s).tracker = s.tracker := (crusherToFault_frame src s).2.2.2.2.1
@[simp] theorem crusherToFault_lots (src : SourceNo) (s : State) : (crusherToFault src s).lots = s.lots := (crusherToFault_frame src s).2.2.2.2.2.1
@[simp] theorem crusherToFault_arbiter (src : SourceNo) (s : State) : (crusherToFault src s).arbiter = s.arbiter := (crusherToFault_frame src s).2.2.2.2.2.2.1
@[simp] theorem crusherToFault_belt (src : SourceNo) (s : State) : (crusherToFault src s).belt = s.belt := (crusherToFault_frame src s).2.2.2.2.2.2.2.1
@[simp] theorem crusherToFault_filtration (src : SourceNo) (s : State) : (crusherToFault src s).filtration = s.filtration := (crusherToFault_frame src s).2.2.2.2.2.2.2.2.1
@[simp] theorem crusherToFault_engine (src : SourceNo) (s : State) : (crusherToFault src s).engine = s.engine := (crusherToFault_frame src s).2.2.2.2.2.2.2.2.2.1
@[simp] theorem crusherToFault_router (src : SourceNo) (s : State) : (crusherToFault src s).router = s.router := (crusherToFault_frame src s).2.2.2.2.2.2.2.2.2.2.1
@[simp] theorem crusherToFault_cellPort (src : SourceNo) (s : State) : (crusherToFault src s).cellPort = s.cellPort := (crusherToFault_frame src s).2.2.2.2.2.2.2.2.2.2.2.1
@[simp] theorem crusherToFault_plantPort (src : SourceNo) (s : State) : (crusherToFault src s).plantPort = s.plantPort := (crusherToFault_frame src s).2.2.2.2.2.2.2.2.2.2.2.2.1
@[simp] theorem crusherToFault_eeprom (src : SourceNo) (s : State) : (crusherToFault src s).eeprom = s.eeprom := (crusherToFault_frame src s).2.2.2.2.2.2.2.2.2.2.2.2.2.1
@[simp] theorem crusherToFault_draws (src : SourceNo) (s : State) : (crusherToFault src s).draws = s.draws := (crusherToFault_frame src s).2.2.2.2.2.2.2.2.2.2.2.2.2.2.1
@[simp] theorem crusherToFault_pending (src : SourceNo) (s : State) : (crusherToFault src s).pending = s.pending := (crusherToFault_frame src s).2.2.2.2.2.2.2.2.2.2.2.2.2.2.2

theorem crusherToOff_frame (s : State) :
    (crusherToOff s).now = s.now ∧
    (crusherToOff s).mode = s.mode ∧
    (crusherToOff s).activity = s.activity ∧
    (crusherToOff s).tables = s.tables ∧
    (crusherToOff s).tracker = s.tracker ∧
    (crusherToOff s).lots = s.lots ∧
    (crusherToOff s).arbiter = s.arbiter ∧
    (crusherToOff s).belt = s.belt ∧
    (crusherToOff s).filtration = s.filtration ∧
    (crusherToOff s).engine = s.engine ∧
    (crusherToOff s).router = s.router ∧
    (crusherToOff s).notices = s.notices ∧
    (crusherToOff s).cellPort = s.cellPort ∧
    (crusherToOff s).plantPort = s.plantPort ∧
    (crusherToOff s).eeprom = s.eeprom ∧
    (crusherToOff s).draws = s.draws ∧
    (crusherToOff s).raised = s.raised ∧
    (crusherToOff s).pending = s.pending := by
  simp [crusherToOff]
@[simp] theorem crusherToOff_now (s : State) : (crusherToOff s).now = s.now := (crusherToOff_frame s).1
@[simp] theorem crusherToOff_mode (s : State) : (crusherToOff s).mode = s.mode := (crusherToOff_frame s).2.1
@[simp] theorem crusherToOff_activity (s : State) : (crusherToOff s).activity = s.activity := (crusherToOff_frame s).2.2.1
@[simp] theorem crusherToOff_tables (s : State) : (crusherToOff s).tables = s.tables := (crusherToOff_frame s).2.2.2.1
@[simp] theorem crusherToOff_tracker (s : State) : (crusherToOff s).tracker = s.tracker := (crusherToOff_frame s).2.2.2.2.1
@[simp] theorem crusherToOff_lots (s : State) : (crusherToOff s).lots = s.lots := (crusherToOff_frame s).2.2.2.2.2.1
@[simp] theorem crusherToOff_arbiter (s : State) : (crusherToOff s).arbiter = s.arbiter := (crusherToOff_frame s).2.2.2.2.2.2.1
@[simp] theorem crusherToOff_belt (s : State) : (crusherToOff s).belt = s.belt := (crusherToOff_frame s).2.2.2.2.2.2.2.1
@[simp] theorem crusherToOff_filtration (s : State) : (crusherToOff s).filtration = s.filtration := (crusherToOff_frame s).2.2.2.2.2.2.2.2.1
@[simp] theorem crusherToOff_engine (s : State) : (crusherToOff s).engine = s.engine := (crusherToOff_frame s).2.2.2.2.2.2.2.2.2.1
@[simp] theorem crusherToOff_router (s : State) : (crusherToOff s).router = s.router := (crusherToOff_frame s).2.2.2.2.2.2.2.2.2.2.1
@[simp] theorem crusherToOff_notices (s : State) : (crusherToOff s).notices = s.notices := (crusherToOff_frame s).2.2.2.2.2.2.2.2.2.2.2.1
@[simp] theorem crusherToOff_cellPort (s : State) : (crusherToOff s).cellPort = s.cellPort := (crusherToOff_frame s).2.2.2.2.2.2.2.2.2.2.2.2.1
@[simp] theorem crusherToOff_plantPort (s : State) : (crusherToOff s).plantPort = s.plantPort := (crusherToOff_frame s).2.2.2.2.2.2.2.2.2.2.2.2.2.1
@[simp] theorem crusherToOff_eeprom (s : State) : (crusherToOff s).eeprom = s.eeprom := (crusherToOff_frame s).2.2.2.2.2.2.2.2.2.2.2.2.2.2.1
@[simp] theorem crusherToOff_draws (s : State) : (crusherToOff s).draws = s.draws := (crusherToOff_frame s).2.2.2.2.2.2.2.2.2.2.2.2.2.2.2.1
@[simp] theorem crusherToOff_raised (s : State) : (crusherToOff s).raised = s.raised := (crusherToOff_frame s).2.2.2.2.2.2.2.2.2.2.2.2.2.2.2.2.1
@[simp] theorem crusherToOff_pending (s : State) : (crusherToOff s).pending = s.pending := (crusherToOff_frame s).2.2.2.2.2.2.2.2.2.2.2.2.2.2.2.2.2

theorem testCurrent_frame (current : Nat) (s : State) :
    (testCurrent current s).now = s.now ∧
    (testCurrent current s).mode = s.mode ∧
    (testCurrent current s).activity = s.activity ∧
    (testCurrent current s).tables = s.tables ∧
    (testCurrent current s).tracker.last = s.tracker.last ∧
    (testCurrent current s).tracker.acc = s.tracker.acc ∧
    (testCurrent current s).filtration = s.filtration ∧
    (testCurrent current s).engine = s.engine ∧
    (testCurrent current s).router = s.router ∧
    (testCurrent current s).cellPort.state = s.cellPort.state ∧
    (testCurrent current s).plantPort.state = s.plantPort.state ∧
    (testCurrent current s).eeprom = s.eeprom ∧
    (testCurrent current s).draws = s.draws ∧
    (testCurrent current s).pending = s.pending := by
  unfold testCurrent
  dsimp only
  repeat' split
  all_goals simp
@[simp] theorem testCurrent_now (current : Nat) (s : State) : (testCurrent current s).now = s.now := (testCurrent_frame current s).1
@[simp] theorem testCurrent_mode (current : Nat) (s : State) : (testCurrent current s).mode = s.mode := (testCurrent_frame current s).2.1
@[simp] theorem testCurrent_activity (current : Nat) (s : State) : (testCurrent current s).activity = s.activity := (testCurrent_frame current s).2.2.1
@[simp] theorem testCurrent_tables (current : Nat) (s : State) : (testCurrent current s).tables = s.tables := (testCurrent_frame current s).2.2.2.1
@[simp] theorem testCurrent_last (current : Nat) (s : State) : (testCurrent current s).tracker.last = s.tracker.last := (testCurrent_frame current s).2.2.2.2.1
@[simp] theorem testCurrent_acc (current : Nat) (s : State) : (testCurrent current s).tracker.acc = s.tracker.acc := (testCurrent_frame current s).2.2.2.2.2.1
@[simp] theorem testCurrent_filtration (current : Nat) (s : State) : (testCurrent current s).filtration = s.filtration := (testCurrent_frame current s).2.2.2.2.2.2.1
@[simp] theorem testCurrent_engine (current : Nat) (s : State) : (testCurrent current s).engine = s.engine := (testCurrent_frame current s).2.2.2.2.2.2.2.1
@[simp] theorem testCurrent_router (current : Nat) (s : State) : (testCurrent current s).router = s.router := (testCurrent_frame current s).2.2.2.2.2.2.2.2.1
@[simp] theorem testCurrent_cellState (current : Nat) (s : State) : (testCurrent current s).cellPort.state = s.cellPort.state := (testCurrent_frame current s).2.2.2.2.2.2.2.2.2.1
@[simp] theorem testCurrent_plantState (current : Nat) (s : State) : (testCurrent current s).plantPort.state = s.plantPort.state := (testCurrent_frame current s).2.2.2.2.2.2.2.2.2.2.1
@[simp] theorem testCurrent_eeprom (current : Nat) (s : State) : (testCurrent current s).eeprom = s.eeprom := (testCurrent_frame current s).2.2.2.2.2.2.2.2.2.2.2.1
@[simp] theorem testCurrent_draws (current : Nat) (s : State) : (testCurrent current s).draws = s.draws := (testCurrent_frame current s).2.2.2.2.2.2.2.2.2.2.2.2.1
@[simp] theorem testCurrent_pending (current : Nat) (s : State) : (testCurrent current s).pending = s.pending := (testCurrent_frame current s).2.2.2.2.2.2.2.2.2.2.2.2.2

theorem opCrusherStatus_frame (current : Half) (confirm : Byte) (s : State) :
    (opCrusherStatus current confirm s).now = s.now ∧
    (opCrusherStatus current confirm s).mode = s.mode ∧
    (opCrusherStatus current confirm s).activity = s.activity ∧
    (opCrusherStatus current confirm s).tables = s.tables ∧
    (opCrusherStatus current confirm s).tracker.last = s.tracker.last ∧
    (opCrusherStatus current confirm s).tracker.acc = s.tracker.acc ∧
    (opCrusherStatus current confirm s).filtration = s.filtration ∧
    (opCrusherStatus current confirm s).engine = s.engine ∧
    (opCrusherStatus current confirm s).router = s.router ∧
    (opCrusherStatus current confirm s).cellPort.state = s.cellPort.state ∧
    (opCrusherStatus current confirm s).plantPort.state = s.plantPort.state ∧
    (opCrusherStatus current confirm s).eeprom = s.eeprom ∧
    (opCrusherStatus current confirm s).draws = s.draws ∧
    (opCrusherStatus current confirm s).pending = s.pending := by
  unfold opCrusherStatus
  dsimp only
  repeat' split
  all_goals simp
@[simp] theorem opCrusherStatus_now (current : Half) (confirm : Byte) (s : State) : (opCrusherStatus current confirm s).now = s.now := (opCrusherStatus_frame current confirm s).1
@[simp] theorem opCrusherStatus_mode (current : Half) (confirm : Byte) (s : State) : (opCrusherStatus current confirm s).mode = s.mode := (opCrusherStatus_frame current confirm s).2.1
@[simp] theorem opCrusherStatus_activity (current : Half) (confirm : Byte) (s : State) : (opCrusherStatus current confirm s).activity = s.activity := (opCrusherStatus_frame current confirm s).2.2.1
@[simp] theorem opCrusherStatus_tables (current : Half) (confirm : Byte) (s : State) : (opCrusherStatus current confirm s).tables = s.tables := (opCrusherStatus_frame current confirm s).2.2.2.1
@[simp] theorem opCrusherStatus_last (current : Half) (confirm : Byte) (s : State) : (opCrusherStatus current confirm s).tracker.last = s.tracker.last := (opCrusherStatus_frame current confirm s).2.2.2.2.1
@[simp] theorem opCrusherStatus_acc (current : Half) (confirm : Byte) (s : State) : (opCrusherStatus current confirm s).tracker.acc = s.tracker.acc := (opCrusherStatus_frame current confirm s).2.2.2.2.2.1
@[simp] theorem opCrusherStatus_filtration (current : Half) (confirm : Byte) (s : State) : (opCrusherStatus current confirm s).filtration = s.filtration := (opCrusherStatus_frame current confirm s).2.2.2.2.2.2.1
@[simp] theorem opCrusherStatus_engine (current : Half) (confirm : Byte) (s : State) : (opCrusherStatus current confirm s).engine = s.engine := (opCrusherStatus_frame current confirm s).2.2.2.2.2.2.2.1
@[simp] theorem opCrusherStatus_router (current : Half) (confirm : Byte) (s : State) : (opCrusherStatus current confirm s).router = s.router := (opCrusherStatus_frame current confirm s).2.2.2.2.2.2.2.2.1
@[simp] theorem opCrusherStatus_cellState (current : Half) (confirm : Byte) (s : State) : (opCrusherStatus current confirm s).cellPort.state = s.cellPort.state := (opCrusherStatus_frame current confirm s).2.2.2.2.2.2.2.2.2.1
@[simp] theorem opCrusherStatus_plantState (current : Half) (confirm : Byte) (s : State) : (opCrusherStatus current confirm s).plantPort.state = s.plantPort.state := (opCrusherStatus_frame current confirm s).2.2.2.2.2.2.2.2.2.2.1
@[simp] theorem opCrusherStatus_eeprom (current : Half) (confirm : Byte) (s : State) : (opCrusherStatus current confirm s).eeprom = s.eeprom := (opCrusherStatus_frame current confirm s).2.2.2.2.2.2.2.2.2.2.2.1
@[simp] theorem opCrusherStatus_draws (current : Half) (confirm : Byte) (s : State) : (opCrusherStatus current confirm s).draws = s.draws := (opCrusherStatus_frame current confirm s).2.2.2.2.2.2.2.2.2.2.2.2.1
@[simp] theorem opCrusherStatus_pending (current : Half) (confirm : Byte) (s : State) : (opCrusherStatus current confirm s).pending = s.pending := (opCrusherStatus_frame current confirm s).2.2.2.2.2.2.2.2.2.2.2.2.2

theorem opStartTimerExpiry_frame (s : State) :
    (opStartTimerExpiry s).now = s.now ∧
    (opStartTimerExpiry s).mode = s.mode ∧
    (opStartTimerExpiry s).activity = s.activity ∧
    (opStartTimerExpiry s).tables = s.tables ∧
    (opStartTimerExpiry s).tracker.last = s.tracker.last ∧
    (opStartTimerExpiry s).tracker.acc = s.tracker.acc ∧
    (opStartTimerExpiry s).filtration = s.filtration ∧
    (opStartTimerExpiry s).engine = s.engine ∧
    (opStartTimerExpiry s).router = s.router ∧
    (opStartTimerExpiry s).cellPort.state = s.cellPort.state ∧
    (opStartTimerExpiry s).plantPort.state = s.plantPort.state ∧
    (opStartTimerExpiry s).eeprom = s.eeprom ∧
    (opStartTimerExpiry s).draws = s.draws ∧
    (opStartTimerExpiry s).pending = s.pending := by
  unfold opStartTimerExpiry
  repeat' split
  all_goals simp
@[simp] theorem opStartTimerExpiry_now (s : State) : (opStartTimerExpiry s).now = s.now := (opStartTimerExpiry_frame s).1
@[simp] theorem opStartTimerExpiry_mode (s : State) : (opStartTimerExpiry s).mode = s.mode := (opStartTimerExpiry_frame s).2.1
@[simp] theorem opStartTimerExpiry_activity (s : State) : (opStartTimerExpiry s).activity = s.activity := (opStartTimerExpiry_frame s).2.2.1
@[simp] theorem opStartTimerExpiry_tables (s : State) : (opStartTimerExpiry s).tables = s.tables := (opStartTimerExpiry_frame s).2.2.2.1
@[simp] theorem opStartTimerExpiry_last (s : State) : (opStartTimerExpiry s).tracker.last = s.tracker.last := (opStartTimerExpiry_frame s).2.2.2.2.1
@[simp] theorem opStartTimerExpiry_acc (s : State) : (opStartTimerExpiry s).tracker.acc = s.tracker.acc := (opStartTimerExpiry_frame s).2.2.2.2.2.1
@[simp] theorem opStartTimerExpiry_filtration (s : State) : (opStartTimerExpiry s).filtration = s.filtration := (opStartTimerExpiry_frame s).2.2.2.2.2.2.1
@[simp] theorem opStartTimerExpiry_engine (s : State) : (opStartTimerExpiry s).engine = s.engine := (opStartTimerExpiry_frame s).2.2.2.2.2.2.2.1
@[simp] theorem opStartTimerExpiry_router (s : State) : (opStartTimerExpiry s).router = s.router := (opStartTimerExpiry_frame s).2.2.2.2.2.2.2.2.1
@[simp] theorem opStartTimerExpiry_cellState (s : State) : (opStartTimerExpiry s).cellPort.state = s.cellPort.state := (opStartTimerExpiry_frame s).2.2.2.2.2.2.2.2.2.1
@[simp] theorem opStartTimerExpiry_plantState (s : State) : (opStartTimerExpiry s).plantPort.state = s.plantPort.state := (opStartTimerExpiry_frame s).2.2.2.2.2.2.2.2.2.2.1
@[simp] theorem opStartTimerExpiry_eeprom (s : State) : (opStartTimerExpiry s).eeprom = s.eeprom := (opStartTimerExpiry_frame s).2.2.2.2.2.2.2.2.2.2.2.1
@[simp] theorem opStartTimerExpiry_draws (s : State) : (opStartTimerExpiry s).draws = s.draws := (opStartTimerExpiry_frame s).2.2.2.2.2.2.2.2.2.2.2.2.1
@[simp] theorem opStartTimerExpiry_pending (s : State) : (opStartTimerExpiry s).pending = s.pending := (opStartTimerExpiry_frame s).2.2.2.2.2.2.2.2.2.2.2.2.2

theorem idleExpired_frame (s : State) :
    (idleExpired s).now = s.now ∧
    (idleExpired s).mode = s.mode ∧
    (idleExpired s).activity = s.activity ∧
    (idleExpired s).tables = s.tables ∧
    (idleExpired s).tracker.last = s.tracker.last ∧
    (idleExpired s).tracker.acc = s.tracker.acc ∧
    (idleExpired s).filtration = s.filtration ∧
    (idleExpired s).engine = s.engine ∧
    (idleExpired s).router = s.router ∧
    (idleExpired s).cellPort.state = s.cellPort.state ∧
    (idleExpired s).plantPort.state = s.plantPort.state ∧
    (idleExpired s).eeprom = s.eeprom ∧
    (idleExpired s).draws = s.draws ∧
    (idleExpired s).pending = s.pending := by
  unfold idleExpired
  repeat' split
  all_goals simp
@[simp] theorem idleExpired_now (s : State) : (idleExpired s).now = s.now := (idleExpired_frame s).1
@[simp] theorem idleExpired_mode (s : State) : (idleExpired s).mode = s.mode := (idleExpired_frame s).2.1
@[simp] theorem idleExpired_activity (s : State) : (idleExpired s).activity = s.activity := (idleExpired_frame s).2.2.1
@[simp] theorem idleExpired_tables (s : State) : (idleExpired s).tables = s.tables := (idleExpired_frame s).2.2.2.1
@[simp] theorem idleExpired_last (s : State) : (idleExpired s).tracker.last = s.tracker.last := (idleExpired_frame s).2.2.2.2.1
@[simp] theorem idleExpired_acc (s : State) : (idleExpired s).tracker.acc = s.tracker.acc := (idleExpired_frame s).2.2.2.2.2.1
@[simp] theorem idleExpired_filtration (s : State) : (idleExpired s).filtration = s.filtration := (idleExpired_frame s).2.2.2.2.2.2.1
@[simp] theorem idleExpired_engine (s : State) : (idleExpired s).engine = s.engine := (idleExpired_frame s).2.2.2.2.2.2.2.1
@[simp] theorem idleExpired_router (s : State) : (idleExpired s).router = s.router := (idleExpired_frame s).2.2.2.2.2.2.2.2.1
@[simp] theorem idleExpired_cellState (s : State) : (idleExpired s).cellPort.state = s.cellPort.state := (idleExpired_frame s).2.2.2.2.2.2.2.2.2.1
@[simp] theorem idleExpired_plantState (s : State) : (idleExpired s).plantPort.state = s.plantPort.state := (idleExpired_frame s).2.2.2.2.2.2.2.2.2.2.1
@[simp] theorem idleExpired_eeprom (s : State) : (idleExpired s).eeprom = s.eeprom := (idleExpired_frame s).2.2.2.2.2.2.2.2.2.2.2.1
@[simp] theorem idleExpired_draws (s : State) : (idleExpired s).draws = s.draws := (idleExpired_frame s).2.2.2.2.2.2.2.2.2.2.2.2.1
@[simp] theorem idleExpired_pending (s : State) : (idleExpired s).pending = s.pending := (idleExpired_frame s).2.2.2.2.2.2.2.2.2.2.2.2.2

theorem opIdleTimerExpiry_frame (s : State) :
    (opIdleTimerExpiry s).now = s.now ∧
    (opIdleTimerExpiry s).mode = s.mode ∧
    (opIdleTimerExpiry s).activity = s.activity ∧
    (opIdleTimerExpiry s).tables = s.tables ∧
    (opIdleTimerExpiry s).tracker.last = s.tracker.last ∧
    (opIdleTimerExpiry s).tracker.acc = s.tracker.acc ∧
    (opIdleTimerExpiry s).filtration = s.filtration ∧
    (opIdleTimerExpiry s).engine = s.engine ∧
    (opIdleTimerExpiry s).router = s.router ∧
    (opIdleTimerExpiry s).cellPort.state = s.cellPort.state ∧
    (opIdleTimerExpiry s).plantPort.state = s.plantPort.state ∧
    (opIdleTimerExpiry s).eeprom = s.eeprom ∧
    (opIdleTimerExpiry s).draws = s.draws ∧
    (opIdleTimerExpiry s).pending = s.pending := by
  unfold opIdleTimerExpiry
  repeat' split
  all_goals simp
@[simp] theorem opIdleTimerExpiry_now (s : State) : (opIdleTimerExpiry s).now = s.now := (opIdleTimerExpiry_frame s).1
@[simp] theorem opIdleTimerExpiry_mode (s : State) : (opIdleTimerExpiry s).mode = s.mode := (opIdleTimerExpiry_frame s).2.1
@[simp] theorem opIdleTimerExpiry_activity (s : State) : (opIdleTimerExpiry s).activity = s.activity := (opIdleTimerExpiry_frame s).2.2.1
@[simp] theorem opIdleTimerExpiry_tables (s : State) : (opIdleTimerExpiry s).tables = s.tables := (opIdleTimerExpiry_frame s).2.2.2.1
@[simp] theorem opIdleTimerExpiry_last (s : State) : (opIdleTimerExpiry s).tracker.last = s.tracker.last := (opIdleTimerExpiry_frame s).2.2.2.2.1
@[simp] theorem opIdleTimerExpiry_acc (s : State) : (opIdleTimerExpiry s).tracker.acc = s.tracker.acc := (opIdleTimerExpiry_frame s).2.2.2.2.2.1
@[simp] theorem opIdleTimerExpiry_filtration (s : State) : (opIdleTimerExpiry s).filtration = s.filtration := (opIdleTimerExpiry_frame s).2.2.2.2.2.2.1
@[simp] theorem opIdleTimerExpiry_engine (s : State) : (opIdleTimerExpiry s).engine = s.engine := (opIdleTimerExpiry_frame s).2.2.2.2.2.2.2.1
@[simp] theorem opIdleTimerExpiry_router (s : State) : (opIdleTimerExpiry s).router = s.router := (opIdleTimerExpiry_frame s).2.2.2.2.2.2.2.2.1
@[simp] theorem opIdleTimerExpiry_cellState (s : State) : (opIdleTimerExpiry s).cellPort.state = s.cellPort.state := (opIdleTimerExpiry_frame s).2.2.2.2.2.2.2.2.2.1
@[simp] theorem opIdleTimerExpiry_plantState (s : State) : (opIdleTimerExpiry s).plantPort.state = s.plantPort.state := (opIdleTimerExpiry_frame s).2.2.2.2.2.2.2.2.2.2.1
@[simp] theorem opIdleTimerExpiry_eeprom (s : State) : (opIdleTimerExpiry s).eeprom = s.eeprom := (opIdleTimerExpiry_frame s).2.2.2.2.2.2.2.2.2.2.2.1
@[simp] theorem opIdleTimerExpiry_draws (s : State) : (opIdleTimerExpiry s).draws = s.draws := (opIdleTimerExpiry_frame s).2.2.2.2.2.2.2.2.2.2.2.2.1
@[simp] theorem opIdleTimerExpiry_pending (s : State) : (opIdleTimerExpiry s).pending = s.pending := (opIdleTimerExpiry_frame s).2.2.2.2.2.2.2.2.2.2.2.2.2

theorem crusherHeld_frame (s : State) :
    (crusherHeld s).now = s.now ∧
    (crusherHeld s).mode = s.mode ∧
    (crusherHeld s).activity = s.activity ∧
    (crusherHeld s).tables = s.tables ∧
    (crusherHeld s).tracker.last = s.tracker.last ∧
    (crusherHeld s).tracker.acc = s.tracker.acc ∧
    (crusherHeld s).filtration = s.filtration ∧
    (crusherHeld s).engine = s.engine ∧
    (crusherHeld s).router = s.router ∧
    (crusherHeld s).cellPort.state = s.cellPort.state ∧
    (crusherHeld s).plantPort.state = s.plantPort.state ∧
    (crusherHeld s).eeprom = s.eeprom ∧
    (crusherHeld s).draws = s.draws ∧
    (crusherHeld s).pending = s.pending := by
  simp [crusherHeld]
@[simp] theorem crusherHeld_now (s : State) : (crusherHeld s).now = s.now := (crusherHeld_frame s).1
@[simp] theorem crusherHeld_mode (s : State) : (crusherHeld s).mode = s.mode := (crusherHeld_frame s).2.1
@[simp] theorem crusherHeld_activity (s : State) : (crusherHeld s).activity = s.activity := (crusherHeld_frame s).2.2.1
@[simp] theorem crusherHeld_tables (s : State) : (crusherHeld s).tables = s.tables := (crusherHeld_frame s).2.2.2.1
@[simp] theorem crusherHeld_last (s : State) : (crusherHeld s).tracker.last = s.tracker.last := (crusherHeld_frame s).2.2.2.2.1
@[simp] theorem crusherHeld_acc (s : State) : (crusherHeld s).tracker.acc = s.tracker.acc := (crusherHeld_frame s).2.2.2.2.2.1
@[simp] theorem crusherHeld_filtration (s : State) : (crusherHeld s).filtration = s.filtration := (crusherHeld_frame s).2.2.2.2.2.2.1
@[simp] theorem crusherHeld_engine (s : State) : (crusherHeld s).engine = s.engine := (crusherHeld_frame s).2.2.2.2.2.2.2.1
@[simp] theorem crusherHeld_router (s : State) : (crusherHeld s).router = s.router := (crusherHeld_frame s).2.2.2.2.2.2.2.2.1
@[simp] theorem crusherHeld_cellState (s : State) : (crusherHeld s).cellPort.state = s.cellPort.state := (crusherHeld_frame s).2.2.2.2.2.2.2.2.2.1
@[simp] theorem crusherHeld_plantState (s : State) : (crusherHeld s).plantPort.state = s.plantPort.state := (crusherHeld_frame s).2.2.2.2.2.2.2.2.2.2.1
@[simp] theorem crusherHeld_eeprom (s : State) : (crusherHeld s).eeprom = s.eeprom := (crusherHeld_frame s).2.2.2.2.2.2.2.2.2.2.2.1
@[simp] theorem crusherHeld_draws (s : State) : (crusherHeld s).draws = s.draws := (crusherHeld_frame s).2.2.2.2.2.2.2.2.2.2.2.2.1
@[simp] theorem crusherHeld_pending (s : State) : (crusherHeld s).pending = s.pending := (crusherHeld_frame s).2.2.2.2.2.2.2.2.2.2.2.2.2

theorem crusherReleased_frame (o : ChainOutcome) (s : State) :
    (crusherReleased o s).now = s.now ∧
    (crusherReleased o s).mode = s.mode ∧
    (crusherReleased o s).activity = s.activity ∧
    (crusherReleased o s).tables = s.tables ∧
    (crusherReleased o s).tracker.last = s.tracker.last ∧
    (crusherReleased o s).tracker.acc = s.tracker.acc ∧
    (crusherReleased o s).filtration = s.filtration ∧
    (crusherReleased o s).engine = s.engine ∧
    (crusherReleased o s).router = s.router ∧
    (crusherReleased o s).cellPort.state = s.cellPort.state ∧
    (crusherReleased o s).plantPort.state = s.plantPort.state ∧
    (crusherReleased o s).eeprom = s.eeprom ∧
    (crusherReleased o s).draws = s.draws ∧
    (crusherReleased o s).pending = s.pending := by
  unfold crusherReleased
  repeat' split
  all_goals simp
@[simp] theorem crusherReleased_now (o : ChainOutcome) (s : State) : (crusherReleased o s).now = s.now := (crusherReleased_frame o s).1
@[simp] theorem crusherReleased_mode (o : ChainOutcome) (s : State) : (crusherReleased o s).mode = s.mode := (crusherReleased_frame o s).2.1
@[simp] theorem crusherReleased_activity (o : ChainOutcome) (s : State) : (crusherReleased o s).activity = s.activity := (crusherReleased_frame o s).2.2.1
@[simp] theorem crusherReleased_tables (o : ChainOutcome) (s : State) : (crusherReleased o s).tables = s.tables := (crusherReleased_frame o s).2.2.2.1
@[simp] theorem crusherReleased_last (o : ChainOutcome) (s : State) : (crusherReleased o s).tracker.last = s.tracker.last := (crusherReleased_frame o s).2.2.2.2.1
@[simp] theorem crusherReleased_acc (o : ChainOutcome) (s : State) : (crusherReleased o s).tracker.acc = s.tracker.acc := (crusherReleased_frame o s).2.2.2.2.2.1
@[simp] theorem crusherReleased_filtration (o : ChainOutcome) (s : State) : (crusherReleased o s).filtration = s.filtration := (crusherReleased_frame o s).2.2.2.2.2.2.1
@[simp] theorem crusherReleased_engine (o : ChainOutcome) (s : State) : (crusherReleased o s).engine = s.engine := (crusherReleased_frame o s).2.2.2.2.2.2.2.1
@[simp] theorem crusherReleased_router (o : ChainOutcome) (s : State) : (crusherReleased o s).router = s.router := (crusherReleased_frame o s).2.2.2.2.2.2.2.2.1
@[simp] theorem crusherReleased_cellState (o : ChainOutcome) (s : State) : (crusherReleased o s).cellPort.state = s.cellPort.state := (crusherReleased_frame o s).2.2.2.2.2.2.2.2.2.1
@[simp] theorem crusherReleased_plantState (o : ChainOutcome) (s : State) : (crusherReleased o s).plantPort.state = s.plantPort.state := (crusherReleased_frame o s).2.2.2.2.2.2.2.2.2.2.1
@[simp] theorem crusherReleased_eeprom (o : ChainOutcome) (s : State) : (crusherReleased o s).eeprom = s.eeprom := (crusherReleased_frame o s).2.2.2.2.2.2.2.2.2.2.2.1
@[simp] theorem crusherReleased_draws (o : ChainOutcome) (s : State) : (crusherReleased o s).draws = s.draws := (crusherReleased_frame o s).2.2.2.2.2.2.2.2.2.2.2.2.1
@[simp] theorem crusherReleased_pending (o : ChainOutcome) (s : State) : (crusherReleased o s).pending = s.pending := (crusherReleased_frame o s).2.2.2.2.2.2.2.2.2.2.2.2.2

theorem creditRoute_frame (outcome : Option RouteNo) (credit : Nat) (s : State) :
    (creditRoute outcome credit s).now = s.now ∧
    (creditRoute outcome credit s).mode = s.mode ∧
    (creditRoute outcome credit s).activity = s.activity ∧
    (creditRoute outcome credit s).tables = s.tables ∧
    (creditRoute outcome credit s).tracker = s.tracker ∧
    (creditRoute outcome credit s).lots = s.lots ∧
    (creditRoute outcome credit s).arbiter = s.arbiter ∧
    (creditRoute outcome credit s).belt = s.belt ∧
    (creditRoute outcome credit s).head = s.head ∧
    (creditRoute outcome credit s).filtration = s.filtration ∧
    (creditRoute outcome credit s).engine = s.engine ∧
    (creditRoute outcome credit s).router = s.router ∧
    (creditRoute outcome credit s).notices = s.notices ∧
    (creditRoute outcome credit s).coalescer = s.coalescer ∧
    (creditRoute outcome credit s).cellPort = s.cellPort ∧
    (creditRoute outcome credit s).plantPort = s.plantPort ∧
    (creditRoute outcome credit s).eeprom = s.eeprom ∧
    (creditRoute outcome credit s).draws = s.draws ∧
    (creditRoute outcome credit s).raised = s.raised ∧
    (creditRoute outcome credit s).handed = s.handed ∧
    (creditRoute outcome credit s).pending = s.pending := by
  unfold creditRoute
  repeat' split
  all_goals simp
@[simp] theorem creditRoute_now (outcome : Option RouteNo) (credit : Nat) (s : State) : (creditRoute outcome credit s).now = s.now := (creditRoute_frame outcome credit s).1
@[simp] theorem creditRoute_mode (outcome : Option RouteNo) (credit : Nat) (s : State) : (creditRoute outcome credit s).mode = s.mode := (creditRoute_frame outcome credit s).2.1
@[simp] theorem creditRoute_activity (outcome : Option RouteNo) (credit : Nat) (s : State) : (creditRoute outcome credit s).activity = s.activity := (creditRoute_frame outcome credit s).2.2.1
@[simp] theorem creditRoute_tables (outcome : Option RouteNo) (credit : Nat) (s : State) : (creditRoute outcome credit s).tables = s.tables := (creditRoute_frame outcome credit s).2.2.2.1
@[simp] theorem creditRoute_tracker (outcome : Option RouteNo) (credit : Nat) (s : State) : (creditRoute outcome credit s).tracker = s.tracker := (creditRoute_frame outcome credit s).2.2.2.2.1
@[simp] theorem creditRoute_lots (outcome : Option RouteNo) (credit : Nat) (s : State) : (creditRoute outcome credit s).lots = s.lots := (creditRoute_frame outcome credit s).2.2.2.2.2.1
@[simp] theorem creditRoute_arbiter (outcome : Option RouteNo) (credit : Nat) (s : State) : (creditRoute outcome credit s).arbiter = s.arbiter := (creditRoute_frame outcome credit s).2.2.2.2.2.2.1
@[simp] theorem creditRoute_belt (outcome : Option RouteNo) (credit : Nat) (s : State) : (creditRoute outcome credit s).belt = s.belt := (creditRoute_frame outcome credit s).2.2.2.2.2.2.2.1
@[simp] theorem creditRoute_head (outcome : Option RouteNo) (credit : Nat) (s : State) : (creditRoute outcome credit s).head = s.head := (creditRoute_frame outcome credit s).2.2.2.2.2.2.2.2.1
@[simp] theorem creditRoute_filtration (outcome : Option RouteNo) (credit : Nat) (s : State) : (creditRoute outcome credit s).filtration = s.filtration := (creditRoute_frame outcome credit s).2.2.2.2.2.2.2.2.2.1
@[simp] theorem creditRoute_engine (outcome : Option RouteNo) (credit : Nat) (s : State) : (creditRoute outcome credit s).engine = s.engine := (creditRoute_frame outcome credit s).2.2.2.2.2.2.2.2.2.2.1
@[simp] theorem creditRoute_router (outcome : Option RouteNo) (credit : Nat) (s : State) : (creditRoute outcome credit s).router = s.router := (creditRoute_frame outcome credit s).2.2.2.2.2.2.2.2.2.2.2.1
@[simp] theorem creditRoute_notices (outcome : Option RouteNo) (credit : Nat) (s : State) : (creditRoute outcome credit s).notices = s.notices := (creditRoute_frame outcome credit s).2.2.2.2.2.2.2.2.2.2.2.2.1
@[simp] theorem creditRoute_coalescer (outcome : Option RouteNo) (credit : Nat) (s : State) : (creditRoute outcome credit s).coalescer = s.coalescer := (creditRoute_frame outcome credit s).2.2.2.2.2.2.2.2.2.2.2.2.2.1
@[simp] theorem creditRoute_cellPort (outcome : Option RouteNo) (credit : Nat) (s : State) : (creditRoute outcome credit s).cellPort = s.cellPort := (creditRoute_frame outcome credit s).2.2.2.2.2.2.2.2.2.2.2.2.2.2.1
@[simp] theorem creditRoute_plantPort (outcome : Option RouteNo) (credit : Nat) (s : State) : (creditRoute outcome credit s).plantPort = s.plantPort := (creditRoute_frame outcome credit s).2.2.2.2.2.2.2.2.2.2.2.2.2.2.2.1
@[simp] theorem creditRoute_eeprom (outcome : Option RouteNo) (credit : Nat) (s : State) : (creditRoute outcome credit s).eeprom = s.eeprom := (creditRoute_frame outcome credit s).2.2.2.2.2.2.2.2.2.2.2.2.2.2.2.2.1
@[simp] theorem creditRoute_draws (outcome : Option RouteNo) (credit : Nat) (s : State) : (creditRoute outcome credit s).draws = s.draws := (creditRoute_frame outcome credit s).2.2.2.2.2.2.2.2.2.2.2.2.2.2.2.2.2.1
@[simp] theorem creditRoute_raised (outcome : Option RouteNo) (credit : Nat) (s : State) : (creditRoute outcome credit s).raised = s.raised := (creditRoute_frame outcome credit s).2.2.2.2.2.2.2.2.2.2.2.2.2.2.2.2.2.2.1
@[simp] theorem creditRoute_handed (outcome : Option RouteNo) (credit : Nat) (s : State) : (creditRoute outcome credit s).handed = s.handed := (creditRoute_frame outcome credit s).2.2.2.2.2.2.2.2.2.2.2.2.2.2.2.2.2.2.2.1
@[simp] theorem creditRoute_pending (outcome : Option RouteNo) (credit : Nat) (s : State) : (creditRoute outcome credit s).pending = s.pending := (creditRoute_frame outcome credit s).2.2.2.2.2.2.2.2.2.2.2.2.2.2.2.2.2.2.2.2

theorem reportMisroute_frame (l : LotNo) (a : ActiveLot) (s : State) :
    (reportMisroute l a s).now = s.now ∧
    (reportMisroute l a s).mode = s.mode ∧
    (reportMisroute l a s).activity = s.activity ∧
    (reportMisroute l a s).tables = s.tables ∧
    (reportMisroute l a s).tracker = s.tracker ∧
    (reportMisroute l a s).lots = s.lots ∧
    (reportMisroute l a s).arbiter = s.arbiter ∧
    (reportMisroute l a s).belt = s.belt ∧
    (reportMisroute l a s).head = s.head ∧
    (reportMisroute l a s).filtration = s.filtration ∧
    (reportMisroute l a s).engine = s.engine ∧
    (reportMisroute l a s).router = s.router ∧
    (reportMisroute l a s).coalescer = s.coalescer ∧
    (reportMisroute l a s).cellPort = s.cellPort ∧
    (reportMisroute l a s).plantPort = s.plantPort ∧
    (reportMisroute l a s).eeprom = s.eeprom ∧
    (reportMisroute l a s).draws = s.draws ∧
    (reportMisroute l a s).handed = s.handed ∧
    (reportMisroute l a s).pending = s.pending := by
  simp [reportMisroute]
@[simp] theorem reportMisroute_now (l : LotNo) (a : ActiveLot) (s : State) : (reportMisroute l a s).now = s.now := (reportMisroute_frame l a s).1
@[simp] theorem reportMisroute_mode (l : LotNo) (a : ActiveLot) (s : State) : (reportMisroute l a s).mode = s.mode := (reportMisroute_frame l a s).2.1
@[simp] theorem reportMisroute_activity (l : LotNo) (a : ActiveLot) (s : State) : (reportMisroute l a s).activity = s.activity := (reportMisroute_frame l a s).2.2.1
@[simp] theorem reportMisroute_tables (l : LotNo) (a : ActiveLot) (s : State) : (reportMisroute l a s).tables = s.tables := (reportMisroute_frame l a s).2.2.2.1
@[simp] theorem reportMisroute_tracker (l : LotNo) (a : ActiveLot) (s : State) : (reportMisroute l a s).tracker = s.tracker := (reportMisroute_frame l a s).2.2.2.2.1
@[simp] theorem reportMisroute_lots (l : LotNo) (a : ActiveLot) (s : State) : (reportMisroute l a s).lots = s.lots := (reportMisroute_frame l a s).2.2.2.2.2.1
@[simp] theorem reportMisroute_arbiter (l : LotNo) (a : ActiveLot) (s : State) : (reportMisroute l a s).arbiter = s.arbiter := (reportMisroute_frame l a s).2.2.2.2.2.2.1
@[simp] theorem reportMisroute_belt (l : LotNo) (a : ActiveLot) (s : State) : (reportMisroute l a s).belt = s.belt := (reportMisroute_frame l a s).2.2.2.2.2.2.2.1
@[simp] theorem reportMisroute_head (l : LotNo) (a : ActiveLot) (s : State) : (reportMisroute l a s).head = s.head := (reportMisroute_frame l a s).2.2.2.2.2.2.2.2.1
@[simp] theorem reportMisroute_filtration (l : LotNo) (a : ActiveLot) (s : State) : (reportMisroute l a s).filtration = s.filtration := (reportMisroute_frame l a s).2.2.2.2.2.2.2.2.2.1
@[simp] theorem reportMisroute_engine (l : LotNo) (a : ActiveLot) (s : State) : (reportMisroute l a s).engine = s.engine := (reportMisroute_frame l a s).2.2.2.2.2.2.2.2.2.2.1
@[simp] theorem reportMisroute_router (l : LotNo) (a : ActiveLot) (s : State) : (reportMisroute l a s).router = s.router := (reportMisroute_frame l a s).2.2.2.2.2.2.2.2.2.2.2.1
@[simp] theorem reportMisroute_coalescer (l : LotNo) (a : ActiveLot) (s : State) : (reportMisroute l a s).coalescer = s.coalescer := (reportMisroute_frame l a s).2.2.2.2.2.2.2.2.2.2.2.2.1
@[simp] theorem reportMisroute_cellPort (l : LotNo) (a : ActiveLot) (s : State) : (reportMisroute l a s).cellPort = s.cellPort := (reportMisroute_frame l a s).2.2.2.2.2.2.2.2.2.2.2.2.2.1
@[simp] theorem reportMisroute_plantPort (l : LotNo) (a : ActiveLot) (s : State) : (reportMisroute l a s).plantPort = s.plantPort := (reportMisroute_frame l a s).2.2.2.2.2.2.2.2.2.2.2.2.2.2.1
@[simp] theorem reportMisroute_eeprom (l : LotNo) (a : ActiveLot) (s : State) : (reportMisroute l a s).eeprom = s.eeprom := (reportMisroute_frame l a s).2.2.2.2.2.2.2.2.2.2.2.2.2.2.2.1
@[simp] theorem reportMisroute_draws (l : LotNo) (a : ActiveLot) (s : State) : (reportMisroute l a s).draws = s.draws := (reportMisroute_frame l a s).2.2.2.2.2.2.2.2.2.2.2.2.2.2.2.2.1
@[simp] theorem reportMisroute_handed (l : LotNo) (a : ActiveLot) (s : State) : (reportMisroute l a s).handed = s.handed := (reportMisroute_frame l a s).2.2.2.2.2.2.2.2.2.2.2.2.2.2.2.2.2.1
@[simp] theorem reportMisroute_pending (l : LotNo) (a : ActiveLot) (s : State) : (reportMisroute l a s).pending = s.pending := (reportMisroute_frame l a s).2.2.2.2.2.2.2.2.2.2.2.2.2.2.2.2.2.2

theorem testUncrushed_frame (l : LotNo) (a : ActiveLot) (k : ClassNo) (s : State) :
    (testUncrushed l a k s).now = s.now ∧
    (testUncrushed l a k s).mode = s.mode ∧
    (testUncrushed l a k s).activity = s.activity ∧
    (testUncrushed l a k s).tables = s.tables ∧
    (testUncrushed l a k s).tracker = s.tracker ∧
    (testUncrushed l a k s).lots = s.lots ∧
    (testUncrushed l a k s).arbiter = s.arbiter ∧
    (testUncrushed l a k s).belt = s.belt ∧
    (testUncrushed l a k s).head = s.head ∧
    (testUncrushed l a k s).filtration = s.filtration ∧
    (testUncrushed l a k s).engine = s.engine ∧
    (testUncrushed l a k s).router = s.router ∧
    (testUncrushed l a k s).coalescer = s.coalescer ∧
    (testUncrushed l a k s).cellPort = s.cellPort ∧
    (testUncrushed l a k s).plantPort = s.plantPort ∧
    (testUncrushed l a k s).eeprom = s.eeprom ∧
    (testUncrushed l a k s).draws = s.draws ∧
    (testUncrushed l a k s).raised = s.raised ∧
    (testUncrushed l a k s).handed = s.handed ∧
    (testUncrushed l a k s).pending = s.pending := by
  unfold testUncrushed
  repeat' split
  all_goals simp
@[simp] theorem testUncrushed_now (l : LotNo) (a : ActiveLot) (k : ClassNo) (s : State) : (testUncrushed l a k s).now = s.now := (testUncrushed_frame l a k s).1
@[simp] theorem testUncrushed_mode (l : LotNo) (a : ActiveLot) (k : ClassNo) (s : State) : (testUncrushed l a k s).mode = s.mode := (testUncrushed_frame l a k s).2.1
@[simp] theorem testUncrushed_activity (l : LotNo) (a : ActiveLot) (k : ClassNo) (s : State) : (testUncrushed l a k s).activity = s.activity := (testUncrushed_frame l a k s).2.2.1
@[simp] theorem testUncrushed_tables (l : LotNo) (a : ActiveLot) (k : ClassNo) (s : State) : (testUncrushed l a k s).tables = s.tables := (testUncrushed_frame l a k s).2.2.2.1
@[simp] theorem testUncrushed_tracker (l : LotNo) (a : ActiveLot) (k : ClassNo) (s : State) : (testUncrushed l a k s).tracker = s.tracker := (testUncrushed_frame l a k s).2.2.2.2.1
@[simp] theorem testUncrushed_lots (l : LotNo) (a : ActiveLot) (k : ClassNo) (s : State) : (testUncrushed l a k s).lots = s.lots := (testUncrushed_frame l a k s).2.2.2.2.2.1
@[simp] theorem testUncrushed_arbiter (l : LotNo) (a : ActiveLot) (k : ClassNo) (s : State) : (testUncrushed l a k s).arbiter = s.arbiter := (testUncrushed_frame l a k s).2.2.2.2.2.2.1
@[simp] theorem testUncrushed_belt (l : LotNo) (a : ActiveLot) (k : ClassNo) (s : State) : (testUncrushed l a k s).belt = s.belt := (testUncrushed_frame l a k s).2.2.2.2.2.2.2.1
@[simp] theorem testUncrushed_head (l : LotNo) (a : ActiveLot) (k : ClassNo) (s : State) : (testUncrushed l a k s).head = s.head := (testUncrushed_frame l a k s).2.2.2.2.2.2.2.2.1
@[simp] theorem testUncrushed_filtration (l : LotNo) (a : ActiveLot) (k : ClassNo) (s : State) : (testUncrushed l a k s).filtration = s.filtration := (testUncrushed_frame l a k s).2.2.2.2.2.2.2.2.2.1
@[simp] theorem testUncrushed_engine (l : LotNo) (a : ActiveLot) (k : ClassNo) (s : State) : (testUncrushed l a k s).engine = s.engine := (testUncrushed_frame l a k s).2.2.2.2.2.2.2.2.2.2.1
@[simp] theorem testUncrushed_router (l : LotNo) (a : ActiveLot) (k : ClassNo) (s : State) : (testUncrushed l a k s).router = s.router := (testUncrushed_frame l a k s).2.2.2.2.2.2.2.2.2.2.2.1
@[simp] theorem testUncrushed_coalescer (l : LotNo) (a : ActiveLot) (k : ClassNo) (s : State) : (testUncrushed l a k s).coalescer = s.coalescer := (testUncrushed_frame l a k s).2.2.2.2.2.2.2.2.2.2.2.2.1
@[simp] theorem testUncrushed_cellPort (l : LotNo) (a : ActiveLot) (k : ClassNo) (s : State) : (testUncrushed l a k s).cellPort = s.cellPort := (testUncrushed_frame l a k s).2.2.2.2.2.2.2.2.2.2.2.2.2.1
@[simp] theorem testUncrushed_plantPort (l : LotNo) (a : ActiveLot) (k : ClassNo) (s : State) : (testUncrushed l a k s).plantPort = s.plantPort := (testUncrushed_frame l a k s).2.2.2.2.2.2.2.2.2.2.2.2.2.2.1
@[simp] theorem testUncrushed_eeprom (l : LotNo) (a : ActiveLot) (k : ClassNo) (s : State) : (testUncrushed l a k s).eeprom = s.eeprom := (testUncrushed_frame l a k s).2.2.2.2.2.2.2.2.2.2.2.2.2.2.2.1
@[simp] theorem testUncrushed_draws (l : LotNo) (a : ActiveLot) (k : ClassNo) (s : State) : (testUncrushed l a k s).draws = s.draws := (testUncrushed_frame l a k s).2.2.2.2.2.2.2.2.2.2.2.2.2.2.2.2.1
@[simp] theorem testUncrushed_raised (l : LotNo) (a : ActiveLot) (k : ClassNo) (s : State) : (testUncrushed l a k s).raised = s.raised := (testUncrushed_frame l a k s).2.2.2.2.2.2.2.2.2.2.2.2.2.2.2.2.2.1
@[simp] theorem testUncrushed_handed (l : LotNo) (a : ActiveLot) (k : ClassNo) (s : State) : (testUncrushed l a k s).handed = s.handed := (testUncrushed_frame l a k s).2.2.2.2.2.2.2.2.2.2.2.2.2.2.2.2.2.2.1
@[simp] theorem testUncrushed_pending (l : LotNo) (a : ActiveLot) (k : ClassNo) (s : State) : (testUncrushed l a k s).pending = s.pending := (testUncrushed_frame l a k s).2.2.2.2.2.2.2.2.2.2.2.2.2.2.2.2.2.2.2

theorem countCompletion_frame (a : ActiveLot) (s : State) :
    (countCompletion a s).now = s.now ∧
    (countCompletion a s).mode = s.mode ∧
    (countCompletion a s).activity = s.activity ∧
    (countCompletion a s).tables = s.tables ∧
    (countCompletion a s).tracker = s.tracker ∧
    (countCompletion a s).lots = s.lots ∧
    (countCompletion a s).arbiter = s.arbiter ∧
    (countCompletion a s).belt = s.belt ∧
    (countCompletion a s).head = s.head ∧
    (countCompletion a s).filtration = s.filtration ∧
    (countCompletion a s).engine = s.engine ∧
    (countCompletion a s).router = s.router ∧
    (countCompletion a s).notices = s.notices ∧
    (countCompletion a s).coalescer = s.coalescer ∧
    (countCompletion a s).cellPort = s.cellPort ∧
    (countCompletion a s).plantPort = s.plantPort ∧
    (countCompletion a s).eeprom = s.eeprom ∧
    (countCompletion a s).draws = s.draws ∧
    (countCompletion a s).raised = s.raised ∧
    (countCompletion a s).handed = s.handed ∧
    (countCompletion a s).pending = s.pending := by
  unfold countCompletion
  repeat' split
  all_goals simp
@[simp] theorem countCompletion_now (a : ActiveLot) (s : State) : (countCompletion a s).now = s.now := (countCompletion_frame a s).1
@[simp] theorem countCompletion_mode (a : ActiveLot) (s : State) : (countCompletion a s).mode = s.mode := (countCompletion_frame a s).2.1
@[simp] theorem countCompletion_activity (a : ActiveLot) (s : State) : (countCompletion a s).activity = s.activity := (countCompletion_frame a s).2.2.1
@[simp] theorem countCompletion_tables (a : ActiveLot) (s : State) : (countCompletion a s).tables = s.tables := (countCompletion_frame a s).2.2.2.1
@[simp] theorem countCompletion_tracker (a : ActiveLot) (s : State) : (countCompletion a s).tracker = s.tracker := (countCompletion_frame a s).2.2.2.2.1
@[simp] theorem countCompletion_lots (a : ActiveLot) (s : State) : (countCompletion a s).lots = s.lots := (countCompletion_frame a s).2.2.2.2.2.1
@[simp] theorem countCompletion_arbiter (a : ActiveLot) (s : State) : (countCompletion a s).arbiter = s.arbiter := (countCompletion_frame a s).2.2.2.2.2.2.1
@[simp] theorem countCompletion_belt (a : ActiveLot) (s : State) : (countCompletion a s).belt = s.belt := (countCompletion_frame a s).2.2.2.2.2.2.2.1
@[simp] theorem countCompletion_head (a : ActiveLot) (s : State) : (countCompletion a s).head = s.head := (countCompletion_frame a s).2.2.2.2.2.2.2.2.1
@[simp] theorem countCompletion_filtration (a : ActiveLot) (s : State) : (countCompletion a s).filtration = s.filtration := (countCompletion_frame a s).2.2.2.2.2.2.2.2.2.1
@[simp] theorem countCompletion_engine (a : ActiveLot) (s : State) : (countCompletion a s).engine = s.engine := (countCompletion_frame a s).2.2.2.2.2.2.2.2.2.2.1
@[simp] theorem countCompletion_router (a : ActiveLot) (s : State) : (countCompletion a s).router = s.router := (countCompletion_frame a s).2.2.2.2.2.2.2.2.2.2.2.1
@[simp] theorem countCompletion_notices (a : ActiveLot) (s : State) : (countCompletion a s).notices = s.notices := (countCompletion_frame a s).2.2.2.2.2.2.2.2.2.2.2.2.1
@[simp] theorem countCompletion_coalescer (a : ActiveLot) (s : State) : (countCompletion a s).coalescer = s.coalescer := (countCompletion_frame a s).2.2.2.2.2.2.2.2.2.2.2.2.2.1
@[simp] theorem countCompletion_cellPort (a : ActiveLot) (s : State) : (countCompletion a s).cellPort = s.cellPort := (countCompletion_frame a s).2.2.2.2.2.2.2.2.2.2.2.2.2.2.1
@[simp] theorem countCompletion_plantPort (a : ActiveLot) (s : State) : (countCompletion a s).plantPort = s.plantPort := (countCompletion_frame a s).2.2.2.2.2.2.2.2.2.2.2.2.2.2.2.1
@[simp] theorem countCompletion_eeprom (a : ActiveLot) (s : State) : (countCompletion a s).eeprom = s.eeprom := (countCompletion_frame a s).2.2.2.2.2.2.2.2.2.2.2.2.2.2.2.2.1
@[simp] theorem countCompletion_draws (a : ActiveLot) (s : State) : (countCompletion a s).draws = s.draws := (countCompletion_frame a s).2.2.2.2.2.2.2.2.2.2.2.2.2.2.2.2.2.1
@[simp] theorem countCompletion_raised (a : ActiveLot) (s : State) : (countCompletion a s).raised = s.raised := (countCompletion_frame a s).2.2.2.2.2.2.2.2.2.2.2.2.2.2.2.2.2.2.1
@[simp] theorem countCompletion_handed (a : ActiveLot) (s : State) : (countCompletion a s).handed = s.handed := (countCompletion_frame a s).2.2.2.2.2.2.2.2.2.2.2.2.2.2.2.2.2.2.2.1
@[simp] theorem countCompletion_pending (a : ActiveLot) (s : State) : (countCompletion a s).pending = s.pending := (countCompletion_frame a s).2.2.2.2.2.2.2.2.2.2.2.2.2.2.2.2.2.2.2.2

theorem deliverPitch_frame (l : LotNo) (k : ClassNo) (a : ActiveLot) (s : State) :
    (deliverPitch l k a s).now = s.now ∧
    (deliverPitch l k a s).mode = s.mode ∧
    (deliverPitch l k a s).activity = s.activity ∧
    (deliverPitch l k a s).tables = s.tables ∧
    (deliverPitch l k a s).tracker = s.tracker ∧
    (deliverPitch l k a s).arbiter = s.arbiter ∧
    (deliverPitch l k a s).belt = s.belt ∧
    (deliverPitch l k a s).head = s.head ∧
    (deliverPitch l k a s).filtration = s.filtration ∧
    (deliverPitch l k a s).engine = s.engine ∧
    (deliverPitch l k a s).router = s.router ∧
    (deliverPitch l k a s).coalescer = s.coalescer ∧
    (deliverPitch l k a s).cellPort = s.cellPort ∧
    (deliverPitch l k a s).plantPort = s.plantPort ∧
    (deliverPitch l k a s).eeprom = s.eeprom ∧
    (deliverPitch l k a s).draws = s.draws ∧
    (deliverPitch l k a s).handed = s.handed ∧
    (deliverPitch l k a s).pending = s.pending := by
  unfold deliverPitch
  dsimp only
  repeat' split
  all_goals simp
@[simp] theorem deliverPitch_now (l : LotNo) (k : ClassNo) (a : ActiveLot) (s : State) : (deliverPitch l k a s).now = s.now := (deliverPitch_frame l k a s).1
@[simp] theorem deliverPitch_mode (l : LotNo) (k : ClassNo) (a : ActiveLot) (s : State) : (deliverPitch l k a s).mode = s.mode := (deliverPitch_frame l k a s).2.1
@[simp] theorem deliverPitch_activity (l : LotNo) (k : ClassNo) (a : ActiveLot) (s : State) : (deliverPitch l k a s).activity = s.activity := (deliverPitch_frame l k a s).2.2.1
@[simp] theorem deliverPitch_tables (l : LotNo) (k : ClassNo) (a : ActiveLot) (s : State) : (deliverPitch l k a s).tables = s.tables := (deliverPitch_frame l k a s).2.2.2.1
@[simp] theorem deliverPitch_tracker (l : LotNo) (k : ClassNo) (a : ActiveLot) (s : State) : (deliverPitch l k a s).tracker = s.tracker := (deliverPitch_frame l k a s).2.2.2.2.1
@[simp] theorem deliverPitch_arbiter (l : LotNo) (k : ClassNo) (a : ActiveLot) (s : State) : (deliverPitch l k a s).arbiter = s.arbiter := (deliverPitch_frame l k a s).2.2.2.2.2.1
@[simp] theorem deliverPitch_belt (l : LotNo) (k : ClassNo) (a : ActiveLot) (s : State) : (deliverPitch l k a s).belt = s.belt := (deliverPitch_frame l k a s).2.2.2.2.2.2.1
@[simp] theorem deliverPitch_head (l : LotNo) (k : ClassNo) (a : ActiveLot) (s : State) : (deliverPitch l k a s).head = s.head := (deliverPitch_frame l k a s).2.2.2.2.2.2.2.1
@[simp] theorem deliverPitch_filtration (l : LotNo) (k : ClassNo) (a : ActiveLot) (s : State) : (deliverPitch l k a s).filtration = s.filtration := (deliverPitch_frame l k a s).2.2.2.2.2.2.2.2.1
@[simp] theorem deliverPitch_engine (l : LotNo) (k : ClassNo) (a : ActiveLot) (s : State) : (deliverPitch l k a s).engine = s.engine := (deliverPitch_frame l k a s).2.2.2.2.2.2.2.2.2.1
@[simp] theorem deliverPitch_router (l : LotNo) (k : ClassNo) (a : ActiveLot) (s : State) : (deliverPitch l k a s).router = s.router := (deliverPitch_frame l k a s).2.2.2.2.2.2.2.2.2.2.1
@[simp] theorem deliverPitch_coalescer (l : LotNo) (k : ClassNo) (a : ActiveLot) (s : State) : (deliverPitch l k a s).coalescer = s.coalescer := (deliverPitch_frame l k a s).2.2.2.2.2.2.2.2.2.2.2.1
@[simp] theorem deliverPitch_cellPort (l : LotNo) (k : ClassNo) (a : ActiveLot) (s : State) : (deliverPitch l k a s).cellPort = s.cellPort := (deliverPitch_frame l k a s).2.2.2.2.2.2.2.2.2.2.2.2.1
@[simp] theorem deliverPitch_plantPort (l : LotNo) (k : ClassNo) (a : ActiveLot) (s : State) : (deliverPitch l k a s).plantPort = s.plantPort := (deliverPitch_frame l k a s).2.2.2.2.2.2.2.2.2.2.2.2.2.1
@[simp] theorem deliverPitch_eeprom (l : LotNo) (k : ClassNo) (a : ActiveLot) (s : State) : (deliverPitch l k a s).eeprom = s.eeprom := (deliverPitch_frame l k a s).2.2.2.2.2.2.2.2.2.2.2.2.2.2.1
@[simp] theorem deliverPitch_draws (l : LotNo) (k : ClassNo) (a : ActiveLot) (s : State) : (deliverPitch l k a s).draws = s.draws := (deliverPitch_frame l k a s).2.2.2.2.2.2.2.2.2.2.2.2.2.2.2.1
@[simp] theorem deliverPitch_handed (l : LotNo) (k : ClassNo) (a : ActiveLot) (s : State) : (deliverPitch l k a s).handed = s.handed := (deliverPitch_frame l k a s).2.2.2.2.2.2.2.2.2.2.2.2.2.2.2.2.1
@[simp] theorem deliverPitch_pending (l : LotNo) (k : ClassNo) (a : ActiveLot) (s : State) : (deliverPitch l k a s).pending = s.pending := (deliverPitch_frame l k a s).2.2.2.2.2.2.2.2.2.2.2.2.2.2.2.2.2

theorem takeDelivered_frame (p : Pitch) (s : State) :
    (takeDelivered p s).now = s.now ∧
    (takeDelivered p s).mode = s.mode ∧
    (takeDelivered p s).activity = s.activity ∧
    (takeDelivered p s).tables = s.tables ∧
    (takeDelivered p s).tracker = s.tracker ∧
    (takeDelivered p s).arbiter = s.arbiter ∧
    (takeDelivered p s).belt = s.belt ∧
    (takeDelivered p s).filtration = s.filtration ∧
    (takeDelivered p s).engine = s.engine ∧
    (takeDelivered p s).router = s.router ∧
    (takeDelivered p s).cellPort = s.cellPort ∧
    (takeDelivered p s).plantPort = s.plantPort ∧
    (takeDelivered p s).eeprom = s.eeprom ∧
    (takeDelivered p s).draws = s.draws ∧
    (takeDelivered p s).pending = s.pending := by
  unfold takeDelivered
  repeat' split
  all_goals simp
@[simp] theorem takeDelivered_now (p : Pitch) (s : State) : (takeDelivered p s).now = s.now := (takeDelivered_frame p s).1
@[simp] theorem takeDelivered_mode (p : Pitch) (s : State) : (takeDelivered p s).mode = s.mode := (takeDelivered_frame p s).2.1
@[simp] theorem takeDelivered_activity (p : Pitch) (s : State) : (takeDelivered p s).activity = s.activity := (takeDelivered_frame p s).2.2.1
@[simp] theorem takeDelivered_tables (p : Pitch) (s : State) : (takeDelivered p s).tables = s.tables := (takeDelivered_frame p s).2.2.2.1
@[simp] theorem takeDelivered_tracker (p : Pitch) (s : State) : (takeDelivered p s).tracker = s.tracker := (takeDelivered_frame p s).2.2.2.2.1
@[simp] theorem takeDelivered_arbiter (p : Pitch) (s : State) : (takeDelivered p s).arbiter = s.arbiter := (takeDelivered_frame p s).2.2.2.2.2.1
@[simp] theorem takeDelivered_belt (p : Pitch) (s : State) : (takeDelivered p s).belt = s.belt := (takeDelivered_frame p s).2.2.2.2.2.2.1
@[simp] theorem takeDelivered_filtration (p : Pitch) (s : State) : (takeDelivered p s).filtration = s.filtration := (takeDelivered_frame p s).2.2.2.2.2.2.2.1
@[simp] theorem takeDelivered_engine (p : Pitch) (s : State) : (takeDelivered p s).engine = s.engine := (takeDelivered_frame p s).2.2.2.2.2.2.2.2.1
@[simp] theorem takeDelivered_router (p : Pitch) (s : State) : (takeDelivered p s).router = s.router := (takeDelivered_frame p s).2.2.2.2.2.2.2.2.2.1
@[simp] theorem takeDelivered_cellPort (p : Pitch) (s : State) : (takeDelivered p s).cellPort = s.cellPort := (takeDelivered_frame p s).2.2.2.2.2.2.2.2.2.2.1
@[simp] theorem takeDelivered_plantPort (p : Pitch) (s : State) : (takeDelivered p s).plantPort = s.plantPort := (takeDelivered_frame p s).2.2.2.2.2.2.2.2.2.2.2.1
@[simp] theorem takeDelivered_eeprom (p : Pitch) (s : State) : (takeDelivered p s).eeprom = s.eeprom := (takeDelivered_frame p s).2.2.2.2.2.2.2.2.2.2.2.2.1
@[simp] theorem takeDelivered_draws (p : Pitch) (s : State) : (takeDelivered p s).draws = s.draws := (takeDelivered_frame p s).2.2.2.2.2.2.2.2.2.2.2.2.2.1
@[simp] theorem takeDelivered_pending (p : Pitch) (s : State) : (takeDelivered p s).pending = s.pending := (takeDelivered_frame p s).2.2.2.2.2.2.2.2.2.2.2.2.2.2

theorem reactCrusher_frame (s : State) :
    (reactCrusher s).now = s.now ∧
    (reactCrusher s).mode = s.mode ∧
    (reactCrusher s).activity = s.activity ∧
    (reactCrusher s).tables = s.tables ∧
    (reactCrusher s).tracker.last = s.tracker.last ∧
    (reactCrusher s).tracker.acc = s.tracker.acc ∧
    (reactCrusher s).filtration = s.filtration ∧
    (reactCrusher s).engine = s.engine ∧
    (reactCrusher s).router = s.router ∧
    (reactCrusher s).cellPort.state = s.cellPort.state ∧
    (reactCrusher s).plantPort.state = s.plantPort.state ∧
    (reactCrusher s).eeprom = s.eeprom ∧
    (reactCrusher s).draws = s.draws ∧
    (reactCrusher s).pending = s.pending := by
  unfold reactCrusher
  repeat' split
  all_goals simp
@[simp] theorem reactCrusher_now (s : State) : (reactCrusher s).now = s.now := (reactCrusher_frame s).1
@[simp] theorem reactCrusher_mode (s : State) : (reactCrusher s).mode = s.mode := (reactCrusher_frame s).2.1
@[simp] theorem reactCrusher_activity (s : State) : (reactCrusher s).activity = s.activity := (reactCrusher_frame s).2.2.1
@[simp] theorem reactCrusher_tables (s : State) : (reactCrusher s).tables = s.tables := (reactCrusher_frame s).2.2.2.1
@[simp] theorem reactCrusher_last (s : State) : (reactCrusher s).tracker.last = s.tracker.last := (reactCrusher_frame s).2.2.2.2.1
@[simp] theorem reactCrusher_acc (s : State) : (reactCrusher s).tracker.acc = s.tracker.acc := (reactCrusher_frame s).2.2.2.2.2.1
@[simp] theorem reactCrusher_filtration (s : State) : (reactCrusher s).filtration = s.filtration := (reactCrusher_frame s).2.2.2.2.2.2.1
@[simp] theorem reactCrusher_engine (s : State) : (reactCrusher s).engine = s.engine := (reactCrusher_frame s).2.2.2.2.2.2.2.1
@[simp] theorem reactCrusher_router (s : State) : (reactCrusher s).router = s.router := (reactCrusher_frame s).2.2.2.2.2.2.2.2.1
@[simp] theorem reactCrusher_cellState (s : State) : (reactCrusher s).cellPort.state = s.cellPort.state := (reactCrusher_frame s).2.2.2.2.2.2.2.2.2.1
@[simp] theorem reactCrusher_plantState (s : State) : (reactCrusher s).plantPort.state = s.plantPort.state := (reactCrusher_frame s).2.2.2.2.2.2.2.2.2.2.1
@[simp] theorem reactCrusher_eeprom (s : State) : (reactCrusher s).eeprom = s.eeprom := (reactCrusher_frame s).2.2.2.2.2.2.2.2.2.2.2.1
@[simp] theorem reactCrusher_draws (s : State) : (reactCrusher s).draws = s.draws := (reactCrusher_frame s).2.2.2.2.2.2.2.2.2.2.2.2.1
@[simp] theorem reactCrusher_pending (s : State) : (reactCrusher s).pending = s.pending := (reactCrusher_frame s).2.2.2.2.2.2.2.2.2.2.2.2.2

theorem headReaction_frame (s : State) :
    (headReaction s).now = s.now ∧
    (headReaction s).mode = s.mode ∧
    (headReaction s).activity = s.activity ∧
    (headReaction s).tables = s.tables ∧
    (headReaction s).tracker.last = s.tracker.last ∧
    (headReaction s).tracker.acc = s.tracker.acc ∧
    (headReaction s).filtration = s.filtration ∧
    (headReaction s).engine = s.engine ∧
    (headReaction s).router = s.router ∧
    (headReaction s).cellPort.state = s.cellPort.state ∧
    (headReaction s).plantPort.state = s.plantPort.state ∧
    (headReaction s).eeprom = s.eeprom ∧
    (headReaction s).draws = s.draws ∧
    (headReaction s).pending = s.pending := by
  simp [headReaction]
@[simp] theorem headReaction_now (s : State) : (headReaction s).now = s.now := (headReaction_frame s).1
@[simp] theorem headReaction_mode (s : State) : (headReaction s).mode = s.mode := (headReaction_frame s).2.1
@[simp] theorem headReaction_activity (s : State) : (headReaction s).activity = s.activity := (headReaction_frame s).2.2.1
@[simp] theorem headReaction_tables (s : State) : (headReaction s).tables = s.tables := (headReaction_frame s).2.2.2.1
@[simp] theorem headReaction_last (s : State) : (headReaction s).tracker.last = s.tracker.last := (headReaction_frame s).2.2.2.2.1
@[simp] theorem headReaction_acc (s : State) : (headReaction s).tracker.acc = s.tracker.acc := (headReaction_frame s).2.2.2.2.2.1
@[simp] theorem headReaction_filtration (s : State) : (headReaction s).filtration = s.filtration := (headReaction_frame s).2.2.2.2.2.2.1
@[simp] theorem headReaction_engine (s : State) : (headReaction s).engine = s.engine := (headReaction_frame s).2.2.2.2.2.2.2.1
@[simp] theorem headReaction_router (s : State) : (headReaction s).router = s.router := (headReaction_frame s).2.2.2.2.2.2.2.2.1
@[simp] theorem headReaction_cellState (s : State) : (headReaction s).cellPort.state = s.cellPort.state := (headReaction_frame s).2.2.2.2.2.2.2.2.2.1
@[simp] theorem headReaction_plantState (s : State) : (headReaction s).plantPort.state = s.plantPort.state := (headReaction_frame s).2.2.2.2.2.2.2.2.2.2.1
@[simp] theorem headReaction_eeprom (s : State) : (headReaction s).eeprom = s.eeprom := (headReaction_frame s).2.2.2.2.2.2.2.2.2.2.2.1
@[simp] theorem headReaction_draws (s : State) : (headReaction s).draws = s.draws := (headReaction_frame s).2.2.2.2.2.2.2.2.2.2.2.2.1
@[simp] theorem headReaction_pending (s : State) : (headReaction s).pending = s.pending := (headReaction_frame s).2.2.2.2.2.2.2.2.2.2.2.2.2

theorem headReevaluate_frame (s : State) :
    (headReevaluate s).now = s.now ∧
    (headReevaluate s).mode = s.mode ∧
    (headReevaluate s).activity = s.activity ∧
    (headReevaluate s).tables = s.tables ∧
    (headReevaluate s).tracker.last = s.tracker.last ∧
    (headReevaluate s).tracker.acc = s.tracker.acc ∧
    (headReevaluate s).filtration = s.filtration ∧
    (headReevaluate s).engine = s.engine ∧
    (headReevaluate s).router = s.router ∧
    (headReevaluate s).cellPort.state = s.cellPort.state ∧
    (headReevaluate s).plantPort.state = s.plantPort.state ∧
    (headReevaluate s).eeprom = s.eeprom ∧
    (headReevaluate s).draws = s.draws ∧
    (headReevaluate s).pending = s.pending := by
  simp [headReevaluate]
@[simp] theorem headReevaluate_now (s : State) : (headReevaluate s).now = s.now := (headReevaluate_frame s).1
@[simp] theorem headReevaluate_mode (s : State) : (headReevaluate s).mode = s.mode := (headReevaluate_frame s).2.1
@[simp] theorem headReevaluate_activity (s : State) : (headReevaluate s).activity = s.activity := (headReevaluate_frame s).2.2.1
@[simp] theorem headReevaluate_tables (s : State) : (headReevaluate s).tables = s.tables := (headReevaluate_frame s).2.2.2.1
@[simp] theorem headReevaluate_last (s : State) : (headReevaluate s).tracker.last = s.tracker.last := (headReevaluate_frame s).2.2.2.2.1
@[simp] theorem headReevaluate_acc (s : State) : (headReevaluate s).tracker.acc = s.tracker.acc := (headReevaluate_frame s).2.2.2.2.2.1
@[simp] theorem headReevaluate_filtration (s : State) : (headReevaluate s).filtration = s.filtration := (headReevaluate_frame s).2.2.2.2.2.2.1
@[simp] theorem headReevaluate_engine (s : State) : (headReevaluate s).engine = s.engine := (headReevaluate_frame s).2.2.2.2.2.2.2.1
@[simp] theorem headReevaluate_router (s : State) : (headReevaluate s).router = s.router := (headReevaluate_frame s).2.2.2.2.2.2.2.2.1
@[simp] theorem headReevaluate_cellState (s : State) : (headReevaluate s).cellPort.state = s.cellPort.state := (headReevaluate_frame s).2.2.2.2.2.2.2.2.2.1
@[simp] theorem headReevaluate_plantState (s : State) : (headReevaluate s).plantPort.state = s.plantPort.state := (headReevaluate_frame s).2.2.2.2.2.2.2.2.2.2.1
@[simp] theorem headReevaluate_eeprom (s : State) : (headReevaluate s).eeprom = s.eeprom := (headReevaluate_frame s).2.2.2.2.2.2.2.2.2.2.2.1
@[simp] theorem headReevaluate_draws (s : State) : (headReevaluate s).draws = s.draws := (headReevaluate_frame s).2.2.2.2.2.2.2.2.2.2.2.2.1
@[simp] theorem headReevaluate_pending (s : State) : (headReevaluate s).pending = s.pending := (headReevaluate_frame s).2.2.2.2.2.2.2.2.2.2.2.2.2


end Sys2Proof.Machine
end

