-- ==== Sys2Proof/Laws/Program.lean ====
section
/-! SUPPORT. What the program engine, the event router and the belt tracker leave alone (Machine/Program.lean, Machine/Belt.lean). -/

namespace Sys2Proof.Machine

theorem ownerHeld_frame (t : Target) (s : State) :
    (ownerHeld t s).now = s.now ∧
    (ownerHeld t s).mode = s.mode ∧
    (ownerHeld t s).activity = s.activity ∧
    (ownerHeld t s).tables = s.tables ∧
    (ownerHeld t s).tracker.last = s.tracker.last ∧
    (ownerHeld t s).tracker.acc = s.tracker.acc ∧
    (ownerHeld t s).filtration = s.filtration ∧
    (ownerHeld t s).engine = s.engine ∧
    (ownerHeld t s).router = s.router ∧
    (ownerHeld t s).cellPort.state = s.cellPort.state ∧
    (ownerHeld t s).plantPort.state = s.plantPort.state ∧
    (ownerHeld t s).eeprom = s.eeprom ∧
    (ownerHeld t s).draws = s.draws ∧
    (ownerHeld t s).pending = s.pending := by
  unfold ownerHeld
  repeat' split
  all_goals simp
@[simp] theorem ownerHeld_now (t : Target) (s : State) : (ownerHeld t s).now = s.now := (ownerHeld_frame t s).1
@[simp] theorem ownerHeld_mode (t : Target) (s : State) : (ownerHeld t s).mode = s.mode := (ownerHeld_frame t s).2.1
@[simp] theorem ownerHeld_activity (t : Target) (s : State) : (ownerHeld t s).activity = s.activity := (ownerHeld_frame t s).2.2.1
@[simp] theorem ownerHeld_tables (t : Target) (s : State) : (ownerHeld t s).tables = s.tables := (ownerHeld_frame t s).2.2.2.1
@[simp] theorem ownerHeld_last (t : Target) (s : State) : (ownerHeld t s).tracker.last = s.tracker.last := (ownerHeld_frame t s).2.2.2.2.1
@[simp] theorem ownerHeld_acc (t : Target) (s : State) : (ownerHeld t s).tracker.acc = s.tracker.acc := (ownerHeld_frame t s).2.2.2.2.2.1
@[simp] theorem ownerHeld_filtration (t : Target) (s : State) : (ownerHeld t s).filtration = s.filtration := (ownerHeld_frame t s).2.2.2.2.2.2.1
@[simp] theorem ownerHeld_engine (t : Target) (s : State) : (ownerHeld t s).engine = s.engine := (ownerHeld_frame t s).2.2.2.2.2.2.2.1
@[simp] theorem ownerHeld_router (t : Target) (s : State) : (ownerHeld t s).router = s.router := (ownerHeld_frame t s).2.2.2.2.2.2.2.2.1
@[simp] theorem ownerHeld_cellState (t : Target) (s : State) : (ownerHeld t s).cellPort.state = s.cellPort.state := (ownerHeld_frame t s).2.2.2.2.2.2.2.2.2.1
@[simp] theorem ownerHeld_plantState (t : Target) (s : State) : (ownerHeld t s).plantPort.state = s.plantPort.state := (ownerHeld_frame t s).2.2.2.2.2.2.2.2.2.2.1
@[simp] theorem ownerHeld_eeprom (t : Target) (s : State) : (ownerHeld t s).eeprom = s.eeprom := (ownerHeld_frame t s).2.2.2.2.2.2.2.2.2.2.2.1
@[simp] theorem ownerHeld_draws (t : Target) (s : State) : (ownerHeld t s).draws = s.draws := (ownerHeld_frame t s).2.2.2.2.2.2.2.2.2.2.2.2.1
@[simp] theorem ownerHeld_pending (t : Target) (s : State) : (ownerHeld t s).pending = s.pending := (ownerHeld_frame t s).2.2.2.2.2.2.2.2.2.2.2.2.2

theorem takeHold_frame (t : Target) (s : State) :
    (takeHold t s).now = s.now ∧
    (takeHold t s).mode = s.mode ∧
    (takeHold t s).activity = s.activity ∧
    (takeHold t s).tables = s.tables ∧
    (takeHold t s).tracker.last = s.tracker.last ∧
    (takeHold t s).tracker.acc = s.tracker.acc ∧
    (takeHold t s).filtration = s.filtration ∧
    (takeHold t s).router = s.router ∧
    (takeHold t s).cellPort.state = s.cellPort.state ∧
    (takeHold t s).plantPort.state = s.plantPort.state ∧
    (takeHold t s).eeprom = s.eeprom ∧
    (takeHold t s).draws = s.draws ∧
    (takeHold t s).pending = s.pending := by
  unfold takeHold
  repeat' split
  all_goals simp
@[simp] theorem takeHold_now (t : Target) (s : State) : (takeHold t s).now = s.now := (takeHold_frame t s).1
@[simp] theorem takeHold_mode (t : Target) (s : State) : (takeHold t s).mode = s.mode := (takeHold_frame t s).2.1
@[simp] theorem takeHold_activity (t : Target) (s : State) : (takeHold t s).activity = s.activity := (takeHold_frame t s).2.2.1
@[simp] theorem takeHold_tables (t : Target) (s : State) : (takeHold t s).tables = s.tables := (takeHold_frame t s).2.2.2.1
@[simp] theorem takeHold_last (t : Target) (s : State) : (takeHold t s).tracker.last = s.tracker.last := (takeHold_frame t s).2.2.2.2.1
@[simp] theorem takeHold_acc (t : Target) (s : State) : (takeHold t s).tracker.acc = s.tracker.acc := (takeHold_frame t s).2.2.2.2.2.1
@[simp] theorem takeHold_filtration (t : Target) (s : State) : (takeHold t s).filtration = s.filtration := (takeHold_frame t s).2.2.2.2.2.2.1
@[simp] theorem takeHold_router (t : Target) (s : State) : (takeHold t s).router = s.router := (takeHold_frame t s).2.2.2.2.2.2.2.1
@[simp] theorem takeHold_cellState (t : Target) (s : State) : (takeHold t s).cellPort.state = s.cellPort.state := (takeHold_frame t s).2.2.2.2.2.2.2.2.1
@[simp] theorem takeHold_plantState (t : Target) (s : State) : (takeHold t s).plantPort.state = s.plantPort.state := (takeHold_frame t s).2.2.2.2.2.2.2.2.2.1
@[simp] theorem takeHold_eeprom (t : Target) (s : State) : (takeHold t s).eeprom = s.eeprom := (takeHold_frame t s).2.2.2.2.2.2.2.2.2.2.1
@[simp] theorem takeHold_draws (t : Target) (s : State) : (takeHold t s).draws = s.draws := (takeHold_frame t s).2.2.2.2.2.2.2.2.2.2.2.1
@[simp] theorem takeHold_pending (t : Target) (s : State) : (takeHold t s).pending = s.pending := (takeHold_frame t s).2.2.2.2.2.2.2.2.2.2.2.2

theorem beltReleased_frame (s : State) :
    (beltReleased s).now = s.now ∧
    (beltReleased s).mode = s.mode ∧
    (beltReleased s).activity = s.activity ∧
    (beltReleased s).tables = s.tables ∧
    (beltReleased s).tracker = s.tracker ∧
    (beltReleased s).lots = s.lots ∧
    (beltReleased s).arbiter = s.arbiter ∧
    (beltReleased s).head = s.head ∧
    (beltReleased s).filtration = s.filtration ∧
    (beltReleased s).engine = s.engine ∧
    (beltReleased s).router = s.router ∧
    (beltReleased s).notices = s.notices ∧
    (beltReleased s).cellPort = s.cellPort ∧
    (beltReleased s).plantPort = s.plantPort ∧
    (beltReleased s).eeprom = s.eeprom ∧
    (beltReleased s).draws = s.draws ∧
    (beltReleased s).raised = s.raised ∧
    (beltReleased s).pending = s.pending := by
  simp [beltReleased]
@[simp] theorem beltReleased_now (s : State) : (beltReleased s).now = s.now := (beltReleased_frame s).1
@[simp] theorem beltReleased_mode (s : State) : (beltReleased s).mode = s.mode := (beltReleased_frame s).2.1
@[simp] theorem beltReleased_activity (s : State) : (beltReleased s).activity = s.activity := (beltReleased_frame s).2.2.1
@[simp] theorem beltReleased_tables (s : State) : (beltReleased s).tables = s.tables := (beltReleased_frame s).2.2.2.1
@[simp] theorem beltReleased_tracker (s : State) : (beltReleased s).tracker = s.tracker := (beltReleased_frame s).2.2.2.2.1
@[simp] theorem beltReleased_lots (s : State) : (beltReleased s).lots = s.lots := (beltReleased_frame s).2.2.2.2.2.1
@[simp] theorem beltReleased_arbiter (s : State) : (beltReleased s).arbiter = s.arbiter := (beltReleased_frame s).2.2.2.2.2.2.1
@[simp] theorem beltReleased_head (s : State) : (beltReleased s).head = s.head := (beltReleased_frame s).2.2.2.2.2.2.2.1
@[simp] theorem beltReleased_filtration (s : State) : (beltReleased s).filtration = s.filtration := (beltReleased_frame s).2.2.2.2.2.2.2.2.1
@[simp] theorem beltReleased_engine (s : State) : (beltReleased s).engine = s.engine := (beltReleased_frame s).2.2.2.2.2.2.2.2.2.1
@[simp] theorem beltReleased_router (s : State) : (beltReleased s).router = s.router := (beltReleased_frame s).2.2.2.2.2.2.2.2.2.2.1
@[simp] theorem beltReleased_notices (s : State) : (beltReleased s).notices = s.notices := (beltReleased_frame s).2.2.2.2.2.2.2.2.2.2.2.1
@[simp] theorem beltReleased_cellPort (s : State) : (beltReleased s).cellPort = s.cellPort := (beltReleased_frame s).2.2.2.2.2.2.2.2.2.2.2.2.1
@[simp] theorem beltReleased_plantPort (s : State) : (beltReleased s).plantPort = s.plantPort := (beltReleased_frame s).2.2.2.2.2.2.2.2.2.2.2.2.2.1
@[simp] theorem beltReleased_eeprom (s : State) : (beltReleased s).eeprom = s.eeprom := (beltReleased_frame s).2.2.2.2.2.2.2.2.2.2.2.2.2.2.1
@[simp] theorem beltReleased_draws (s : State) : (beltReleased s).draws = s.draws := (beltReleased_frame s).2.2.2.2.2.2.2.2.2.2.2.2.2.2.2.1
@[simp] theorem beltReleased_raised (s : State) : (beltReleased s).raised = s.raised := (beltReleased_frame s).2.2.2.2.2.2.2.2.2.2.2.2.2.2.2.2.1
@[simp] theorem beltReleased_pending (s : State) : (beltReleased s).pending = s.pending := (beltReleased_frame s).2.2.2.2.2.2.2.2.2.2.2.2.2.2.2.2.2

theorem ownerReleased_frame (o : ChainOutcome) (t : Target) (s : State) :
    (ownerReleased o t s).now = s.now ∧
    (ownerReleased o t s).mode = s.mode ∧
    (ownerReleased o t s).activity = s.activity ∧
    (ownerReleased o t s).tables = s.tables ∧
    (ownerReleased o t s).tracker.last = s.tracker.last ∧
    (ownerReleased o t s).tracker.acc = s.tracker.acc ∧
    (ownerReleased o t s).filtration = s.filtration ∧
    (ownerReleased o t s).engine = s.engine ∧
    (ownerReleased o t s).router = s.router ∧
    (ownerReleased o t s).cellPort.state = s.cellPort.state ∧
    (ownerReleased o t s).plantPort.state = s.plantPort.state ∧
    (ownerReleased o t s).eeprom = s.eeprom ∧
    (ownerReleased o t s).draws = s.draws ∧
    (ownerReleased o t s).pending = s.pending := by
  unfold ownerReleased
  repeat' split
  all_goals simp
@[simp] theorem ownerReleased_now (o : ChainOutcome) (t : Target) (s : State) : (ownerReleased o t s).now = s.now := (ownerReleased_frame o t s).1
@[simp] theorem ownerReleased_mode (o : ChainOutcome) (t : Target) (s : State) : (ownerReleased o t s).mode = s.mode := (ownerReleased_frame o t s).2.1
@[simp] theorem ownerReleased_activity (o : ChainOutcome) (t : Target) (s : State) : (ownerReleased o t s).activity = s.activity := (ownerReleased_frame o t s).2.2.1
@[simp] theorem ownerReleased_tables (o : ChainOutcome) (t : Target) (s : State) : (ownerReleased o t s).tables = s.tables := (ownerReleased_frame o t s).2.2.2.1
@[simp] theorem ownerReleased_last (o : ChainOutcome) (t : Target) (s : State) : (ownerReleased o t s).tracker.last = s.tracker.last := (ownerReleased_frame o t s).2.2.2.2.1
@[simp] theorem ownerReleased_acc (o : ChainOutcome) (t : Target) (s : State) : (ownerReleased o t s).tracker.acc = s.tracker.acc := (ownerReleased_frame o t s).2.2.2.2.2.1
@[simp] theorem ownerReleased_filtration (o : ChainOutcome) (t : Target) (s : State) : (ownerReleased o t s).filtration = s.filtration := (ownerReleased_frame o t s).2.2.2.2.2.2.1
@[simp] theorem ownerReleased_engine (o : ChainOutcome) (t : Target) (s : State) : (ownerReleased o t s).engine = s.engine := (ownerReleased_frame o t s).2.2.2.2.2.2.2.1
@[simp] theorem ownerReleased_router (o : ChainOutcome) (t : Target) (s : State) : (ownerReleased o t s).router = s.router := (ownerReleased_frame o t s).2.2.2.2.2.2.2.2.1
@[simp] theorem ownerReleased_cellState (o : ChainOutcome) (t : Target) (s : State) : (ownerReleased o t s).cellPort.state = s.cellPort.state := (ownerReleased_frame o t s).2.2.2.2.2.2.2.2.2.1
@[simp] theorem ownerReleased_plantState (o : ChainOutcome) (t : Target) (s : State) : (ownerReleased o t s).plantPort.state = s.plantPort.state := (ownerReleased_frame o t s).2.2.2.2.2.2.2.2.2.2.1
@[simp] theorem ownerReleased_eeprom (o : ChainOutcome) (t : Target) (s : State) : (ownerReleased o t s).eeprom = s.eeprom := (ownerReleased_frame o t s).2.2.2.2.2.2.2.2.2.2.2.1
@[simp] theorem ownerReleased_draws (o : ChainOutcome) (t : Target) (s : State) : (ownerReleased o t s).draws = s.draws := (ownerReleased_frame o t s).2.2.2.2.2.2.2.2.2.2.2.2.1
@[simp] theorem ownerReleased_pending (o : ChainOutcome) (t : Target) (s : State) : (ownerReleased o t s).pending = s.pending := (ownerReleased_frame o t s).2.2.2.2.2.2.2.2.2.2.2.2.2

@[simp] theorem releaseTarget_now (reissue : Target → State → State) (t : Target) (s : State)
    (h : ∀ t u, (reissue t u).now = u.now) : (releaseTarget reissue t s).now = s.now := by
  unfold releaseTarget
  repeat' split
  all_goals simp [h]
@[simp] theorem releaseTarget_mode (reissue : Target → State → State) (t : Target) (s : State)
    (h : ∀ t u, (reissue t u).mode = u.mode) : (releaseTarget reissue t s).mode = s.mode := by
  unfold releaseTarget
  repeat' split
  all_goals simp [h]
@[simp] theorem releaseTarget_activity (reissue : Target → State → State) (t : Target) (s : State)
    (h : ∀ t u, (reissue t u).activity = u.activity) : (releaseTarget reissue t s).activity = s.activity := by
  unfold releaseTarget
  repeat' split
  all_goals simp [h]
@[simp] theorem releaseTarget_tables (reissue : Target → State → State) (t : Target) (s : State)
    (h : ∀ t u, (reissue t u).tables = u.tables) : (releaseTarget reissue t s).tables = s.tables := by
  unfold releaseTarget
  repeat' split
  all_goals simp [h]
@[simp] theorem releaseTarget_tracker (reissue : Target → State → State) (t : Target) (s : State)
    (h : ∀ t u, (reissue t u).tracker = u.tracker) : (releaseTarget reissue t s).tracker = s.tracker := by
  unfold releaseTarget
  repeat' split
  all_goals simp [h]
@[simp] theorem releaseTarget_map (reissue : Target → State → State) (t : Target) (s : State)
    (h : ∀ t u, (reissue t u).tracker.map = u.tracker.map) : (releaseTarget reissue t s).tracker.map = s.tracker.map := by
  unfold releaseTarget
  repeat' split
  all_goals simp [h]
@[simp] theorem releaseTarget_last (reissue : Target → State → State) (t : Target) (s : State)
    (h : ∀ t u, (reissue t u).tracker.last = u.tracker.last) : (releaseTarget reissue t s).tracker.last = s.tracker.last := by
  unfold releaseTarget
  repeat' split
  all_goals simp [h]
@[simp] theorem releaseTarget_acc (reissue : Target → State → State) (t : Target) (s : State)
    (h : ∀ t u, (reissue t u).tracker.acc = u.tracker.acc) : (releaseTarget reissue t s).tracker.acc = s.tracker.acc := by
  unfold releaseTarget
  repeat' split
  all_goals simp [h]
@[simp] theorem releaseTarget_lots (reissue : Target → State → State) (t : Target) (s : State)
    (h : ∀ t u, (reissue t u).lots = u.lots) : (releaseTarget reissue t s).lots = s.lots := by
  unfold releaseTarget
  repeat' split
  all_goals simp [h]
@[simp] theorem releaseTarget_arbiter (reissue : Target → State → State) (t : Target) (s : State)
    (h : ∀ t u, (reissue t u).arbiter = u.arbiter) : (releaseTarget reissue t s).arbiter = s.arbiter := by
  unfold releaseTarget
  repeat' split
  all_goals simp [h]
@[simp] theorem releaseTarget_belt (reissue : Target → State → State) (t : Target) (s : State)
    (h : ∀ t u, (reissue t u).belt = u.belt) : (releaseTarget reissue t s).belt = s.belt := by
  unfold releaseTarget
  repeat' split
  all_goals simp [h]
@[simp] theorem releaseTarget_head (reissue : Target → State → State) (t : Target) (s : State)
    (h : ∀ t u, (reissue t u).head = u.head) : (releaseTarget reissue t s).head = s.head := by
  unfold releaseTarget
  repeat' split
  all_goals simp [h]
@[simp] theorem releaseTarget_filtration (reissue : Target → State → State) (t : Target) (s : State)
    (h : ∀ t u, (reissue t u).filtration = u.filtration) : (releaseTarget reissue t s).filtration = s.filtration := by
  unfold releaseTarget
  repeat' split
  all_goals simp [h]
@[simp] theorem releaseTarget_router (reissue : Target → State → State) (t : Target) (s : State)
    (h : ∀ t u, (reissue t u).router = u.router) : (releaseTarget reissue t s).router = s.router := by
  unfold releaseTarget
  repeat' split
  all_goals simp [h]
@[simp] theorem releaseTarget_notices (reissue : Target → State → State) (t : Target) (s : State)
    (h : ∀ t u, (reissue t u).notices = u.notices) : (releaseTarget reissue t s).notices = s.notices := by
  unfold releaseTarget
  repeat' split
  all_goals simp [h]
@[simp] theorem releaseTarget_coalescer (reissue : Target → State → State) (t : Target) (s : State)
    (h : ∀ t u, (reissue t u).coalescer = u.coalescer) : (releaseTarget reissue t s).coalescer = s.coalescer := by
  unfold releaseTarget
  repeat' split
  all_goals simp [h]
@[simp] theorem releaseTarget_cellPort (reissue : Target → State → State) (t : Target) (s : State)
    (h : ∀ t u, (reissue t u).cellPort = u.cellPort) : (releaseTarget reissue t s).cellPort = s.cellPort := by
  unfold releaseTarget
  repeat' split
  all_goals simp [h]
@[simp] theorem releaseTarget_cellQueue (reissue : Target → State → State) (t : Target) (s : State)
    (h : ∀ t u, (reissue t u).cellPort.queue = u.cellPort.queue) : (releaseTarget reissue t s).cellPort.queue = s.cellPort.queue := by
  unfold releaseTarget
  repeat' split
  all_goals simp [h]
@[simp] theorem releaseTarget_cellState (reissue : Target → State → State) (t : Target) (s : State)
    (h : ∀ t u, (reissue t u).cellPort.state = u.cellPort.state) : (releaseTarget reissue t s).cellPort.state = s.cellPort.state := by
  unfold releaseTarget
  repeat' split
  all_goals simp [h]
@[simp] theorem releaseTarget_plantPort (reissue : Target → State → State) (t : Target) (s : State)
    (h : ∀ t u, (reissue t u).plantPort = u.plantPort) : (releaseTarget reissue t s).plantPort = s.plantPort := by
  unfold releaseTarget
  repeat' split
  all_goals simp [h]
@[simp] theorem releaseTarget_plantQueue (reissue : Target → State → State) (t : Target) (s : State)
    (h : ∀ t u, (reissue t u).plantPort.queue = u.plantPort.queue) : (releaseTarget reissue t s).plantPort.queue = s.plantPort.queue := by
  unfold releaseTarget
  repeat' split
  all_goals simp [h]
@[simp] theorem releaseTarget_plantState (reissue : Target → State → State) (t : Target) (s : State)
    (h : ∀ t u, (reissue t u).plantPort.state = u.plantPort.state) : (releaseTarget reissue t s).plantPort.state = s.plantPort.state := by
  unfold releaseTarget
  repeat' split
  all_goals simp [h]
@[simp] theorem releaseTarget_counters (reissue : Target → State → State) (t : Target) (s : State)
    (h : ∀ t u, (reissue t u).counters = u.counters) : (releaseTarget reissue t s).counters = s.counters := by
  unfold releaseTarget
  repeat' split
  all_goals simp [h]
@[simp] theorem releaseTarget_eeprom (reissue : Target → State → State) (t : Target) (s : State)
    (h : ∀ t u, (reissue t u).eeprom = u.eeprom) : (releaseTarget reissue t s).eeprom = s.eeprom := by
  unfold releaseTarget
  repeat' split
  all_goals simp [h]
@[simp] theorem releaseTarget_draws (reissue : Target → State → State) (t : Target) (s : State)
    (h : ∀ t u, (reissue t u).draws = u.draws) : (releaseTarget reissue t s).draws = s.draws := by
  unfold releaseTarget
  repeat' split
  all_goals simp [h]
@[simp] theorem releaseTarget_raised (reissue : Target → State → State) (t : Target) (s : State)
    (h : ∀ t u, (reissue t u).raised = u.raised) : (releaseTarget reissue t s).raised = s.raised := by
  unfold releaseTarget
  repeat' split
  all_goals simp [h]
@[simp] theorem releaseTarget_handed (reissue : Target → State → State) (t : Target) (s : State)
    (h : ∀ t u, (reissue t u).handed = u.handed) : (releaseTarget reissue t s).handed = s.handed := by
  unfold releaseTarget
  repeat' split
  all_goals simp [h]
@[simp] theorem releaseTarget_pending (reissue : Target → State → State) (t : Target) (s : State)
    (h : ∀ t u, (reissue t u).pending = u.pending) : (releaseTarget reissue t s).pending = s.pending := by
  unfold releaseTarget
  repeat' split
  all_goals simp [h]
@[simp] theorem releaseAll_now (reissue : Target → State → State) (s : State)
    (h : ∀ t u, (reissue t u).now = u.now) : (releaseAll reissue s).now = s.now := by
  simp [releaseAll, h]
@[simp] theorem releaseAll_mode (reissue : Target → State → State) (s : State)
    (h : ∀ t u, (reissue t u).mode = u.mode) : (releaseAll reissue s).mode = s.mode := by
  simp [releaseAll, h]
@[simp] theorem releaseAll_activity (reissue : Target → State → State) (s : State)
    (h : ∀ t u, (reissue t u).activity = u.activity) : (releaseAll reissue s).activity = s.activity := by
  simp [releaseAll, h]
@[simp] theorem releaseAll_tables (reissue : Target → State → State) (s : State)
    (h : ∀ t u, (reissue t u).tables = u.tables) : (releaseAll reissue s).tables = s.tables := by
  simp [releaseAll, h]
@[simp] theorem releaseAll_tracker (reissue : Target → State → State) (s : State)
    (h : ∀ t u, (reissue t u).tracker = u.tracker) : (releaseAll reissue s).tracker = s.tracker := by
  simp [releaseAll, h]
@[simp] theorem releaseAll_map (reissue : Target → State → State) (s : State)
    (h : ∀ t u, (reissue t u).tracker.map = u.tracker.map) : (releaseAll reissue s).tracker.map = s.tracker.map := by
  simp [releaseAll, h]
@[simp] theorem releaseAll_last (reissue : Target → State → State) (s : State)
    (h : ∀ t u, (reissue t u).tracker.last = u.tracker.last) : (releaseAll reissue s).tracker.last = s.tracker.last := by
  simp [releaseAll, h]
@[simp] theorem releaseAll_acc (reissue : Target → State → State) (s : State)
    (h : ∀ t u, (reissue t u).tracker.acc = u.tracker.acc) : (releaseAll reissue s).tracker.acc = s.tracker.acc := by
  simp [releaseAll, h]
@[simp] theorem releaseAll_lots (reissue : Target → State → State) (s : State)
    (h : ∀ t u, (reissue t u).lots = u.lots) : (releaseAll reissue s).lots = s.lots := by
  simp [releaseAll, h]
@[simp] theorem releaseAll_arbiter (reissue : Target → State → State) (s : State)
    (h : ∀ t u, (reissue t u).arbiter = u.arbiter) : (releaseAll reissue s).arbiter = s.arbiter := by
  simp [releaseAll, h]
@[simp] theorem releaseAll_belt (reissue : Target → State → State) (s : State)
    (h : ∀ t u, (reissue t u).belt = u.belt) : (releaseAll reissue s).belt = s.belt := by
  simp [releaseAll, h]
@[simp] theorem releaseAll_head (reissue : Target → State → State) (s : State)
    (h : ∀ t u, (reissue t u).head = u.head) : (releaseAll reissue s).head = s.head := by
  simp [releaseAll, h]
@[simp] theorem releaseAll_filtration (reissue : Target → State → State) (s : State)
    (h : ∀ t u, (reissue t u).filtration = u.filtration) : (releaseAll reissue s).filtration = s.filtration := by
  simp [releaseAll, h]
@[simp] theorem releaseAll_router (reissue : Target → State → State) (s : State)
    (h : ∀ t u, (reissue t u).router = u.router) : (releaseAll reissue s).router = s.router := by
  simp [releaseAll, h]
@[simp] theorem releaseAll_notices (reissue : Target → State → State) (s : State)
    (h : ∀ t u, (reissue t u).notices = u.notices) : (releaseAll reissue s).notices = s.notices := by
  simp [releaseAll, h]
@[simp] theorem releaseAll_coalescer (reissue : Target → State → State) (s : State)
    (h : ∀ t u, (reissue t u).coalescer = u.coalescer) : (releaseAll reissue s).coalescer = s.coalescer := by
  simp [releaseAll, h]
@[simp] theorem releaseAll_cellPort (reissue : Target → State → State) (s : State)
    (h : ∀ t u, (reissue t u).cellPort = u.cellPort) : (releaseAll reissue s).cellPort = s.cellPort := by
  simp [releaseAll, h]
@[simp] theorem releaseAll_cellQueue (reissue : Target → State → State) (s : State)
    (h : ∀ t u, (reissue t u).cellPort.queue = u.cellPort.queue) : (releaseAll reissue s).cellPort.queue = s.cellPort.queue := by
  simp [releaseAll, h]
@[simp] theorem releaseAll_cellState (reissue : Target → State → State) (s : State)
    (h : ∀ t u, (reissue t u).cellPort.state = u.cellPort.state) : (releaseAll reissue s).cellPort.state = s.cellPort.state := by
  simp [releaseAll, h]
@[simp] theorem releaseAll_plantPort (reissue : Target → State → State) (s : State)
    (h : ∀ t u, (reissue t u).plantPort = u.plantPort) : (releaseAll reissue s).plantPort = s.plantPort := by
  simp [releaseAll, h]
@[simp] theorem releaseAll_plantQueue (reissue : Target → State → State) (s : State)
    (h : ∀ t u, (reissue t u).plantPort.queue = u.plantPort.queue) : (releaseAll reissue s).plantPort.queue = s.plantPort.queue := by
  simp [releaseAll, h]
@[simp] theorem releaseAll_plantState (reissue : Target → State → State) (s : State)
    (h : ∀ t u, (reissue t u).plantPort.state = u.plantPort.state) : (releaseAll reissue s).plantPort.state = s.plantPort.state := by
  simp [releaseAll, h]
@[simp] theorem releaseAll_counters (reissue : Target → State → State) (s : State)
    (h : ∀ t u, (reissue t u).counters = u.counters) : (releaseAll reissue s).counters = s.counters := by
  simp [releaseAll, h]
@[simp] theorem releaseAll_eeprom (reissue : Target → State → State) (s : State)
    (h : ∀ t u, (reissue t u).eeprom = u.eeprom) : (releaseAll reissue s).eeprom = s.eeprom := by
  simp [releaseAll, h]
@[simp] theorem releaseAll_draws (reissue : Target → State → State) (s : State)
    (h : ∀ t u, (reissue t u).draws = u.draws) : (releaseAll reissue s).draws = s.draws := by
  simp [releaseAll, h]
@[simp] theorem releaseAll_raised (reissue : Target → State → State) (s : State)
    (h : ∀ t u, (reissue t u).raised = u.raised) : (releaseAll reissue s).raised = s.raised := by
  simp [releaseAll, h]
@[simp] theorem releaseAll_handed (reissue : Target → State → State) (s : State)
    (h : ∀ t u, (reissue t u).handed = u.handed) : (releaseAll reissue s).handed = s.handed := by
  simp [releaseAll, h]
@[simp] theorem releaseAll_pending (reissue : Target → State → State) (s : State)
    (h : ∀ t u, (reissue t u).pending = u.pending) : (releaseAll reissue s).pending = s.pending := by
  simp [releaseAll, h]

theorem issueStep_frame (t : Target) (st : StepEntry) (s : State) :
    (issueStep t st s).now = s.now ∧
    (issueStep t st s).mode = s.mode ∧
    (issueStep t st s).activity = s.activity ∧
    (issueStep t st s).tables = s.tables ∧
    (issueStep t st s).tracker = s.tracker ∧
    (issueStep t st s).lots = s.lots ∧
    (issueStep t st s).arbiter = s.arbiter ∧
    (issueStep t st s).head = s.head ∧
    (issueStep t st s).filtration = s.filtration ∧
    (issueStep t st s).engine = s.engine ∧
    (issueStep t st s).router = s.router ∧
    (issueStep t st s).notices = s.notices ∧
    (issueStep t st s).cellPort = s.cellPort ∧
    (issueStep t st s).plantPort = s.plantPort ∧
    (issueStep t st s).eeprom = s.eeprom ∧
    (issueStep t st s).draws = s.draws ∧
    (issueStep t st s).raised = s.raised ∧
    (issueStep t st s).pending = s.pending := by
  unfold issueStep
  repeat' split
  all_goals simp
@[simp] theorem issueStep_now (t : Target) (st : StepEntry) (s : State) : (issueStep t st s).now = s.now := (issueStep_frame t st s).1
@[simp] theorem issueStep_mode (t : Target) (st : StepEntry) (s : State) : (issueStep t st s).mode = s.mode := (issueStep_frame t st s).2.1
@[simp] theorem issueStep_activity (t : Target) (st : StepEntry) (s : State) : (issueStep t st s).activity = s.activity := (issueStep_frame t st s).2.2.1
@[simp] theorem issueStep_tables (t : Target) (st : StepEntry) (s : State) : (issueStep t st s).tables = s.tables := (issueStep_frame t st s).2.2.2.1
@[simp] theorem issueStep_tracker (t : Target) (st : StepEntry) (s : State) : (issueStep t st s).tracker = s.tracker := (issueStep_frame t st s).2.2.2.2.1
@[simp] theorem issueStep_lots (t : Target) (st : StepEntry) (s : State) : (issueStep t st s).lots = s.lots := (issueStep_frame t st s).2.2.2.2.2.1
@[simp] theorem issueStep_arbiter (t : Target) (st : StepEntry) (s : State) : (issueStep t st s).arbiter = s.arbiter := (issueStep_frame t st s).2.2.2.2.2.2.1
@[simp] theorem issueStep_head (t : Target) (st : StepEntry) (s : State) : (issueStep t st s).head = s.head := (issueStep_frame t st s).2.2.2.2.2.2.2.1
@[simp] theorem issueStep_filtration (t : Target) (st : StepEntry) (s : State) : (issueStep t st s).filtration = s.filtration := (issueStep_frame t st s).2.2.2.2.2.2.2.2.1
@[simp] theorem issueStep_engine (t : Target) (st : StepEntry) (s : State) : (issueStep t st s).engine = s.engine := (issueStep_frame t st s).2.2.2.2.2.2.2.2.2.1
@[simp] theorem issueStep_router (t : Target) (st : StepEntry) (s : State) : (issueStep t st s).router = s.router := (issueStep_frame t st s).2.2.2.2.2.2.2.2.2.2.1
@[simp] theorem issueStep_notices (t : Target) (st : StepEntry) (s : State) : (issueStep t st s).notices = s.notices := (issueStep_frame t st s).2.2.2.2.2.2.2.2.2.2.2.1
@[simp] theorem issueStep_cellPort (t : Target) (st : StepEntry) (s : State) : (issueStep t st s).cellPort = s.cellPort := (issueStep_frame t st s).2.2.2.2.2.2.2.2.2.2.2.2.1
@[simp] theorem issueStep_plantPort (t : Target) (st : StepEntry) (s : State) : (issueStep t st s).plantPort = s.plantPort := (issueStep_frame t st s).2.2.2.2.2.2.2.2.2.2.2.2.2.1
@[simp] theorem issueStep_eeprom (t : Target) (st : StepEntry) (s : State) : (issueStep t st s).eeprom = s.eeprom := (issueStep_frame t st s).2.2.2.2.2.2.2.2.2.2.2.2.2.2.1
@[simp] theorem issueStep_draws (t : Target) (st : StepEntry) (s : State) : (issueStep t st s).draws = s.draws := (issueStep_frame t st s).2.2.2.2.2.2.2.2.2.2.2.2.2.2.2.1
@[simp] theorem issueStep_raised (t : Target) (st : StepEntry) (s : State) : (issueStep t st s).raised = s.raised := (issueStep_frame t st s).2.2.2.2.2.2.2.2.2.2.2.2.2.2.2.2.1
@[simp] theorem issueStep_pending (t : Target) (st : StepEntry) (s : State) : (issueStep t st s).pending = s.pending := (issueStep_frame t st s).2.2.2.2.2.2.2.2.2.2.2.2.2.2.2.2.2

theorem startStep_frame (c : Chain) (inB : Bool) (st : StepEntry) (s : State) :
    (startStep c inB st s).now = s.now ∧
    (startStep c inB st s).mode = s.mode ∧
    (startStep c inB st s).activity = s.activity ∧
    (startStep c inB st s).tables = s.tables ∧
    (startStep c inB st s).tracker = s.tracker ∧
    (startStep c inB st s).lots = s.lots ∧
    (startStep c inB st s).arbiter = s.arbiter ∧
    (startStep c inB st s).head = s.head ∧
    (startStep c inB st s).filtration = s.filtration ∧
    (startStep c inB st s).router = s.router ∧
    (startStep c inB st s).notices = s.notices ∧
    (startStep c inB st s).cellPort = s.cellPort ∧
    (startStep c inB st s).plantPort = s.plantPort ∧
    (startStep c inB st s).eeprom = s.eeprom ∧
    (startStep c inB st s).draws = s.draws ∧
    (startStep c inB st s).raised = s.raised ∧
    (startStep c inB st s).pending = s.pending := by
  simp [startStep]
@[simp] theorem startStep_now (c : Chain) (inB : Bool) (st : StepEntry) (s : State) : (startStep c inB st s).now = s.now := (startStep_frame c inB st s).1
@[simp] theorem startStep_mode (c : Chain) (inB : Bool) (st : StepEntry) (s : State) : (startStep c inB st s).mode = s.mode := (startStep_frame c inB st s).2.1
@[simp] theorem startStep_activity (c : Chain) (inB : Bool) (st : StepEntry) (s : State) : (startStep c inB st s).activity = s.activity := (startStep_frame c inB st s).2.2.1
@[simp] theorem startStep_tables (c : Chain) (inB : Bool) (st : StepEntry) (s : State) : (startStep c inB st s).tables = s.tables := (startStep_frame c inB st s).2.2.2.1
@[simp] theorem startStep_tracker (c : Chain) (inB : Bool) (st : StepEntry) (s : State) : (startStep c inB st s).tracker = s.tracker := (startStep_frame c inB st s).2.2.2.2.1
@[simp] theorem startStep_lots (c : Chain) (inB : Bool) (st : StepEntry) (s : State) : (startStep c inB st s).lots = s.lots := (startStep_frame c inB st s).2.2.2.2.2.1
@[simp] theorem startStep_arbiter (c : Chain) (inB : Bool) (st : StepEntry) (s : State) : (startStep c inB st s).arbiter = s.arbiter := (startStep_frame c inB st s).2.2.2.2.2.2.1
@[simp] theorem startStep_head (c : Chain) (inB : Bool) (st : StepEntry) (s : State) : (startStep c inB st s).head = s.head := (startStep_frame c inB st s).2.2.2.2.2.2.2.1
@[simp] theorem startStep_filtration (c : Chain) (inB : Bool) (st : StepEntry) (s : State) : (startStep c inB st s).filtration = s.filtration := (startStep_frame c inB st s).2.2.2.2.2.2.2.2.1
@[simp] theorem startStep_router (c : Chain) (inB : Bool) (st : StepEntry) (s : State) : (startStep c inB st s).router = s.router := (startStep_frame c inB st s).2.2.2.2.2.2.2.2.2.1
@[simp] theorem startStep_notices (c : Chain) (inB : Bool) (st : StepEntry) (s : State) : (startStep c inB st s).notices = s.notices := (startStep_frame c inB st s).2.2.2.2.2.2.2.2.2.2.1
@[simp] theorem startStep_cellPort (c : Chain) (inB : Bool) (st : StepEntry) (s : State) : (startStep c inB st s).cellPort = s.cellPort := (startStep_frame c inB st s).2.2.2.2.2.2.2.2.2.2.2.1
@[simp] theorem startStep_plantPort (c : Chain) (inB : Bool) (st : StepEntry) (s : State) : (startStep c inB st s).plantPort = s.plantPort := (startStep_frame c inB st s).2.2.2.2.2.2.2.2.2.2.2.2.1
@[simp] theorem startStep_eeprom (c : Chain) (inB : Bool) (st : StepEntry) (s : State) : (startStep c inB st s).eeprom = s.eeprom := (startStep_frame c inB st s).2.2.2.2.2.2.2.2.2.2.2.2.2.1
@[simp] theorem startStep_draws (c : Chain) (inB : Bool) (st : StepEntry) (s : State) : (startStep c inB st s).draws = s.draws := (startStep_frame c inB st s).2.2.2.2.2.2.2.2.2.2.2.2.2.2.1
@[simp] theorem startStep_raised (c : Chain) (inB : Bool) (st : StepEntry) (s : State) : (startStep c inB st s).raised = s.raised := (startStep_frame c inB st s).2.2.2.2.2.2.2.2.2.2.2.2.2.2.2.1
@[simp] theorem startStep_pending (c : Chain) (inB : Bool) (st : StepEntry) (s : State) : (startStep c inB st s).pending = s.pending := (startStep_frame c inB st s).2.2.2.2.2.2.2.2.2.2.2.2.2.2.2.2

theorem startRepetition_frame (n : Nat) (c : Chain) (s : State) :
    (startRepetition n c s).now = s.now ∧
    (startRepetition n c s).mode = s.mode ∧
    (startRepetition n c s).activity = s.activity ∧
    (startRepetition n c s).tables = s.tables ∧
    (startRepetition n c s).tracker = s.tracker ∧
    (startRepetition n c s).lots = s.lots ∧
    (startRepetition n c s).arbiter = s.arbiter ∧
    (startRepetition n c s).head = s.head ∧
    (startRepetition n c s).filtration = s.filtration ∧
    (startRepetition n c s).router = s.router ∧
    (startRepetition n c s).notices = s.notices ∧
    (startRepetition n c s).cellPort = s.cellPort ∧
    (startRepetition n c s).plantPort = s.plantPort ∧
    (startRepetition n c s).eeprom = s.eeprom ∧
    (startRepetition n c s).draws = s.draws ∧
    (startRepetition n c s).raised = s.raised ∧
    (startRepetition n c s).pending = s.pending := by
  simp [startRepetition]
@[simp] theorem startRepetition_now (n : Nat) (c : Chain) (s : State) : (startRepetition n c s).now = s.now := (startRepetition_frame n c s).1
@[simp] theorem startRepetition_mode (n : Nat) (c : Chain) (s : State) : (startRepetition n c s).mode = s.mode := (startRepetition_frame n c s).2.1
@[simp] theorem startRepetition_activity (n : Nat) (c : Chain) (s : State) : (startRepetition n c s).activity = s.activity := (startRepetition_frame n c s).2.2.1
@[simp] theorem startRepetition_tables (n : Nat) (c : Chain) (s : State) : (startRepetition n c s).tables = s.tables := (startRepetition_frame n c s).2.2.2.1
@[simp] theorem startRepetition_tracker (n : Nat) (c : Chain) (s : State) : (startRepetition n c s).tracker = s.tracker := (startRepetition_frame n c s).2.2.2.2.1
@[simp] theorem startRepetition_lots (n : Nat) (c : Chain) (s : State) : (startRepetition n c s).lots = s.lots := (startRepetition_frame n c s).2.2.2.2.2.1
@[simp] theorem startRepetition_arbiter (n : Nat) (c : Chain) (s : State) : (startRepetition n c s).arbiter = s.arbiter := (startRepetition_frame n c s).2.2.2.2.2.2.1
@[simp] theorem startRepetition_head (n : Nat) (c : Chain) (s : State) : (startRepetition n c s).head = s.head := (startRepetition_frame n c s).2.2.2.2.2.2.2.1
@[simp] theorem startRepetition_filtration (n : Nat) (c : Chain) (s : State) : (startRepetition n c s).filtration = s.filtration := (startRepetition_frame n c s).2.2.2.2.2.2.2.2.1
@[simp] theorem startRepetition_router (n : Nat) (c : Chain) (s : State) : (startRepetition n c s).router = s.router := (startRepetition_frame n c s).2.2.2.2.2.2.2.2.2.1
@[simp] theorem startRepetition_notices (n : Nat) (c : Chain) (s : State) : (startRepetition n c s).notices = s.notices := (startRepetition_frame n c s).2.2.2.2.2.2.2.2.2.2.1
@[simp] theorem startRepetition_cellPort (n : Nat) (c : Chain) (s : State) : (startRepetition n c s).cellPort = s.cellPort := (startRepetition_frame n c s).2.2.2.2.2.2.2.2.2.2.2.1
@[simp] theorem startRepetition_plantPort (n : Nat) (c : Chain) (s : State) : (startRepetition n c s).plantPort = s.plantPort := (startRepetition_frame n c s).2.2.2.2.2.2.2.2.2.2.2.2.1
@[simp] theorem startRepetition_eeprom (n : Nat) (c : Chain) (s : State) : (startRepetition n c s).eeprom = s.eeprom := (startRepetition_frame n c s).2.2.2.2.2.2.2.2.2.2.2.2.2.1
@[simp] theorem startRepetition_draws (n : Nat) (c : Chain) (s : State) : (startRepetition n c s).draws = s.draws := (startRepetition_frame n c s).2.2.2.2.2.2.2.2.2.2.2.2.2.2.1
@[simp] theorem startRepetition_raised (n : Nat) (c : Chain) (s : State) : (startRepetition n c s).raised = s.raised := (startRepetition_frame n c s).2.2.2.2.2.2.2.2.2.2.2.2.2.2.2.1
@[simp] theorem startRepetition_pending (n : Nat) (c : Chain) (s : State) : (startRepetition n c s).pending = s.pending := (startRepetition_frame n c s).2.2.2.2.2.2.2.2.2.2.2.2.2.2.2.2

theorem beginDescriptor_frame (s : State) :
    (beginDescriptor s).now = s.now ∧
    (beginDescriptor s).mode = s.mode ∧
    (beginDescriptor s).activity = s.activity ∧
    (beginDescriptor s).tables = s.tables ∧
    (beginDescriptor s).tracker = s.tracker ∧
    (beginDescriptor s).lots = s.lots ∧
    (beginDescriptor s).arbiter = s.arbiter ∧
    (beginDescriptor s).head = s.head ∧
    (beginDescriptor s).filtration = s.filtration ∧
    (beginDescriptor s).router = s.router ∧
    (beginDescriptor s).notices = s.notices ∧
    (beginDescriptor s).cellPort = s.cellPort ∧
    (beginDescriptor s).plantPort = s.plantPort ∧
    (beginDescriptor s).eeprom = s.eeprom ∧
    (beginDescriptor s).draws = s.draws ∧
    (beginDescriptor s).raised = s.raised ∧
    (beginDescriptor s).pending = s.pending := by
  unfold beginDescriptor
  repeat' split
  all_goals simp
@[simp] theorem beginDescriptor_now (s : State) : (beginDescriptor s).now = s.now := (beginDescriptor_frame s).1
@[simp] theorem beginDescriptor_mode (s : State) : (beginDescriptor s).mode = s.mode := (beginDescriptor_frame s).2.1
@[simp] theorem beginDescriptor_activity (s : State) : (beginDescriptor s).activity = s.activity := (beginDescriptor_frame s).2.2.1
@[simp] theorem beginDescriptor_tables (s : State) : (beginDescriptor s).tables = s.tables := (beginDescriptor_frame s).2.2.2.1
@[simp] theorem beginDescriptor_tracker (s : State) : (beginDescriptor s).tracker = s.tracker := (beginDescriptor_frame s).2.2.2.2.1
@[simp] theorem beginDescriptor_lots (s : State) : (beginDescriptor s).lots = s.lots := (beginDescriptor_frame s).2.2.2.2.2.1
@[simp] theorem beginDescriptor_arbiter (s : State) : (beginDescriptor s).arbiter = s.arbiter := (beginDescriptor_frame s).2.2.2.2.2.2.1
@[simp] theorem beginDescriptor_head (s : State) : (beginDescriptor s).head = s.head := (beginDescriptor_frame s).2.2.2.2.2.2.2.1
@[simp] theorem beginDescriptor_filtration (s : State) : (beginDescriptor s).filtration = s.filtration := (beginDescriptor_frame s).2.2.2.2.2.2.2.2.1
@[simp] theorem beginDescriptor_router (s : State) : (beginDescriptor s).router = s.router := (beginDescriptor_frame s).2.2.2.2.2.2.2.2.2.1
@[simp] theorem beginDescriptor_notices (s : State) : (beginDescriptor s).notices = s.notices := (beginDescriptor_frame s).2.2.2.2.2.2.2.2.2.2.1
@[simp] theorem beginDescriptor_cellPort (s : State) : (beginDescriptor s).cellPort = s.cellPort := (beginDescriptor_frame s).2.2.2.2.2.2.2.2.2.2.2.1
@[simp] theorem beginDescriptor_plantPort (s : State) : (beginDescriptor s).plantPort = s.plantPort := (beginDescriptor_frame s).2.2.2.2.2.2.2.2.2.2.2.2.1
@[simp] theorem beginDescriptor_eeprom (s : State) : (beginDescriptor s).eeprom = s.eeprom := (beginDescriptor_frame s).2.2.2.2.2.2.2.2.2.2.2.2.2.1
@[simp] theorem beginDescriptor_draws (s : State) : (beginDescriptor s).draws = s.draws := (beginDescriptor_frame s).2.2.2.2.2.2.2.2.2.2.2.2.2.2.1
@[simp] theorem beginDescriptor_raised (s : State) : (beginDescriptor s).raised = s.raised := (beginDescriptor_frame s).2.2.2.2.2.2.2.2.2.2.2.2.2.2.2.1
@[simp] theorem beginDescriptor_pending (s : State) : (beginDescriptor s).pending = s.pending := (beginDescriptor_frame s).2.2.2.2.2.2.2.2.2.2.2.2.2.2.2.2

theorem startDescriptor_frame (i : ActionNo) (c : Chain) (s : State) :
    (startDescriptor i c s).now = s.now ∧
    (startDescriptor i c s).mode = s.mode ∧
    (startDescriptor i c s).activity = s.activity ∧
    (startDescriptor i c s).tables = s.tables ∧
    (startDescriptor i c s).tracker.last = s.tracker.last ∧
    (startDescriptor i c s).tracker.acc = s.tracker.acc ∧
    (startDescriptor i c s).filtration = s.filtration ∧
    (startDescriptor i c s).router = s.router ∧
    (startDescriptor i c s).cellPort.state = s.cellPort.state ∧
    (startDescriptor i c s).plantPort.state = s.plantPort.state ∧
    (startDescriptor i c s).eeprom = s.eeprom ∧
    (startDescriptor i c s).draws = s.draws ∧
    (startDescriptor i c s).pending = s.pending := by
  simp [startDescriptor]
@[simp] theorem startDescriptor_now (i : ActionNo) (c : Chain) (s : State) : (startDescriptor i c s).now = s.now := (startDescriptor_frame i c s).1
@[simp] theorem startDescriptor_mode (i : ActionNo) (c : Chain) (s : State) : (startDescriptor i c s).mode = s.mode := (startDescriptor_frame i c s).2.1
@[simp] theorem startDescriptor_activity (i : ActionNo) (c : Chain) (s : State) : (startDescriptor i c s).activity = s.activity := (startDescriptor_frame i c s).2.2.1
@[simp] theorem startDescriptor_tables (i : ActionNo) (c : Chain) (s : State) : (startDescriptor i c s).tables = s.tables := (startDescriptor_frame i c s).2.2.2.1
@[simp] theorem startDescriptor_last (i : ActionNo) (c : Chain) (s : State) : (startDescriptor i c s).tracker.last = s.tracker.last := (startDescriptor_frame i c s).2.2.2.2.1
@[simp] theorem startDescriptor_acc (i : ActionNo) (c : Chain) (s : State) : (startDescriptor i c s).tracker.acc = s.tracker.acc := (startDescriptor_frame i c s).2.2.2.2.2.1
@[simp] theorem startDescriptor_filtration (i : ActionNo) (c : Chain) (s : State) : (startDescriptor i c s).filtration = s.filtration := (startDescriptor_frame i c s).2.2.2.2.2.2.1
@[simp] theorem startDescriptor_router (i : ActionNo) (c : Chain) (s : State) : (startDescriptor i c s).router = s.router := (startDescriptor_frame i c s).2.2.2.2.2.2.2.1
@[simp] theorem startDescriptor_cellState (i : ActionNo) (c : Chain) (s : State) : (startDescriptor i c s).cellPort.state = s.cellPort.state := (startDescriptor_frame i c s).2.2.2.2.2.2.2.2.1
@[simp] theorem startDescriptor_plantState (i : ActionNo) (c : Chain) (s : State) : (startDescriptor i c s).plantPort.state = s.plantPort.state := (startDescriptor_frame i c s).2.2.2.2.2.2.2.2.2.1
@[simp] theorem startDescriptor_eeprom (i : ActionNo) (c : Chain) (s : State) : (startDescriptor i c s).eeprom = s.eeprom := (startDescriptor_frame i c s).2.2.2.2.2.2.2.2.2.2.1
@[simp] theorem startDescriptor_draws (i : ActionNo) (c : Chain) (s : State) : (startDescriptor i c s).draws = s.draws := (startDescriptor_frame i c s).2.2.2.2.2.2.2.2.2.2.2.1
@[simp] theorem startDescriptor_pending (i : ActionNo) (c : Chain) (s : State) : (startDescriptor i c s).pending = s.pending := (startDescriptor_frame i c s).2.2.2.2.2.2.2.2.2.2.2.2

theorem startChain_frame (i : ActionNo) (src : Option SourceNo) (t : Trigger) (s : State) :
    (startChain i src t s).now = s.now ∧
    (startChain i src t s).mode = s.mode ∧
    (startChain i src t s).activity = s.activity ∧
    (startChain i src t s).tables = s.tables ∧
    (startChain i src t s).tracker.last = s.tracker.last ∧
    (startChain i src t s).tracker.acc = s.tracker.acc ∧
    (startChain i src t s).filtration = s.filtration ∧
    (startChain i src t s).router = s.router ∧
    (startChain i src t s).cellPort.state = s.cellPort.state ∧
    (startChain i src t s).plantPort.state = s.plantPort.state ∧
    (startChain i src t s).eeprom = s.eeprom ∧
    (startChain i src t s).draws = s.draws ∧
    (startChain i src t s).pending = s.pending := by
  simp [startChain]
@[simp] theorem startChain_now (i : ActionNo) (src : Option SourceNo) (t : Trigger) (s : State) : (startChain i src t s).now = s.now := (startChain_frame i src t s).1
@[simp] theorem startChain_mode (i : ActionNo) (src : Option SourceNo) (t : Trigger) (s : State) : (startChain i src t s).mode = s.mode := (startChain_frame i src t s).2.1
@[simp] theorem startChain_activity (i : ActionNo) (src : Option SourceNo) (t : Trigger) (s : State) : (startChain i src t s).activity = s.activity := (startChain_frame i src t s).2.2.1
@[simp] theorem startChain_tables (i : ActionNo) (src : Option SourceNo) (t : Trigger) (s : State) : (startChain i src t s).tables = s.tables := (startChain_frame i src t s).2.2.2.1
@[simp] theorem startChain_last (i : ActionNo) (src : Option SourceNo) (t : Trigger) (s : State) : (startChain i src t s).tracker.last = s.tracker.last := (startChain_frame i src t s).2.2.2.2.1
@[simp] theorem startChain_acc (i : ActionNo) (src : Option SourceNo) (t : Trigger) (s : State) : (startChain i src t s).tracker.acc = s.tracker.acc := (startChain_frame i src t s).2.2.2.2.2.1
@[simp] theorem startChain_filtration (i : ActionNo) (src : Option SourceNo) (t : Trigger) (s : State) : (startChain i src t s).filtration = s.filtration := (startChain_frame i src t s).2.2.2.2.2.2.1
@[simp] theorem startChain_router (i : ActionNo) (src : Option SourceNo) (t : Trigger) (s : State) : (startChain i src t s).router = s.router := (startChain_frame i src t s).2.2.2.2.2.2.2.1
@[simp] theorem startChain_cellState (i : ActionNo) (src : Option SourceNo) (t : Trigger) (s : State) : (startChain i src t s).cellPort.state = s.cellPort.state := (startChain_frame i src t s).2.2.2.2.2.2.2.2.1
@[simp] theorem startChain_plantState (i : ActionNo) (src : Option SourceNo) (t : Trigger) (s : State) : (startChain i src t s).plantPort.state = s.plantPort.state := (startChain_frame i src t s).2.2.2.2.2.2.2.2.2.1
@[simp] theorem startChain_eeprom (i : ActionNo) (src : Option SourceNo) (t : Trigger) (s : State) : (startChain i src t s).eeprom = s.eeprom := (startChain_frame i src t s).2.2.2.2.2.2.2.2.2.2.1
@[simp] theorem startChain_draws (i : ActionNo) (src : Option SourceNo) (t : Trigger) (s : State) : (startChain i src t s).draws = s.draws := (startChain_frame i src t s).2.2.2.2.2.2.2.2.2.2.2.1
@[simp] theorem startChain_pending (i : ActionNo) (src : Option SourceNo) (t : Trigger) (s : State) : (startChain i src t s).pending = s.pending := (startChain_frame i src t s).2.2.2.2.2.2.2.2.2.2.2.2

theorem dropTrigger_frame (i : SourceNo) (s : State) :
    (dropTrigger i s).now = s.now ∧
    (dropTrigger i s).mode = s.mode ∧
    (dropTrigger i s).activity = s.activity ∧
    (dropTrigger i s).tables = s.tables ∧
    (dropTrigger i s).tracker = s.tracker ∧
    (dropTrigger i s).lots = s.lots ∧
    (dropTrigger i s).arbiter = s.arbiter ∧
    (dropTrigger i s).belt = s.belt ∧
    (dropTrigger i s).head = s.head ∧
    (dropTrigger i s).filtration = s.filtration ∧
    (dropTrigger i s).router = s.router ∧
    (dropTrigger i s).notices = s.notices ∧
    (dropTrigger i s).coalescer = s.coalescer ∧
    (dropTrigger i s).cellPort = s.cellPort ∧
    (dropTrigger i s).plantPort = s.plantPort ∧
    (dropTrigger i s).counters = s.counters ∧
    (dropTrigger i s).eeprom = s.eeprom ∧
    (dropTrigger i s).draws = s.draws ∧
    (dropTrigger i s).raised = s.raised ∧
    (dropTrigger i s).handed = s.handed ∧
    (dropTrigger i s).pending = s.pending := by
  simp [dropTrigger]
@[simp] theorem dropTrigger_now (i : SourceNo) (s : State) : (dropTrigger i s).now = s.now := (dropTrigger_frame i s).1
@[simp] theorem dropTrigger_mode (i : SourceNo) (s : State) : (dropTrigger i s).mode = s.mode := (dropTrigger_frame i s).2.1
@[simp] theorem dropTrigger_activity (i : SourceNo) (s : State) : (dropTrigger i s).activity = s.activity := (dropTrigger_frame i s).2.2.1
@[simp] theorem dropTrigger_tables (i : SourceNo) (s : State) : (dropTrigger i s).tables = s.tables := (dropTrigger_frame i s).2.2.2.1
@[simp] theorem dropTrigger_tracker (i : SourceNo) (s : State) : (dropTrigger i s).tracker = s.tracker := (dropTrigger_frame i s).2.2.2.2.1
@[simp] theorem dropTrigger_lots (i : SourceNo) (s : State) : (dropTrigger i s).lots = s.lots := (dropTrigger_frame i s).2.2.2.2.2.1
@[simp] theorem dropTrigger_arbiter (i : SourceNo) (s : State) : (dropTrigger i s).arbiter = s.arbiter := (dropTrigger_frame i s).2.2.2.2.2.2.1
@[simp] theorem dropTrigger_belt (i : SourceNo) (s : State) : (dropTrigger i s).belt = s.belt := (dropTrigger_frame i s).2.2.2.2.2.2.2.1
@[simp] theorem dropTrigger_head (i : SourceNo) (s : State) : (dropTrigger i s).head = s.head := (dropTrigger_frame i s).2.2.2.2.2.2.2.2.1
@[simp] theorem dropTrigger_filtration (i : SourceNo) (s : State) : (dropTrigger i s).filtration = s.filtration := (dropTrigger_frame i s).2.2.2.2.2.2.2.2.2.1
@[simp] theorem dropTrigger_router (i : SourceNo) (s : State) : (dropTrigger i s).router = s.router := (dropTrigger_frame i s).2.2.2.2.2.2.2.2.2.2.1
@[simp] theorem dropTrigger_notices (i : SourceNo) (s : State) : (dropTrigger i s).notices = s.notices := (dropTrigger_frame i s).2.2.2.2.2.2.2.2.2.2.2.1
@[simp] theorem dropTrigger_coalescer (i : SourceNo) (s : State) : (dropTrigger i s).coalescer = s.coalescer := (dropTrigger_frame i s).2.2.2.2.2.2.2.2.2.2.2.2.1
@[simp] theorem dropTrigger_cellPort (i : SourceNo) (s : State) : (dropTrigger i s).cellPort = s.cellPort := (dropTrigger_frame i s).2.2.2.2.2.2.2.2.2.2.2.2.2.1
@[simp] theorem dropTrigger_plantPort (i : SourceNo) (s : State) : (dropTrigger i s).plantPort = s.plantPort := (dropTrigger_frame i s).2.2.2.2.2.2.2.2.2.2.2.2.2.2.1
@[simp] theorem dropTrigger_counters (i : SourceNo) (s : State) : (dropTrigger i s).counters = s.counters := (dropTrigger_frame i s).2.2.2.2.2.2.2.2.2.2.2.2.2.2.2.1
@[simp] theorem dropTrigger_eeprom (i : SourceNo) (s : State) : (dropTrigger i s).eeprom = s.eeprom := (dropTrigger_frame i s).2.2.2.2.2.2.2.2.2.2.2.2.2.2.2.2.1
@[simp] theorem dropTrigger_draws (i : SourceNo) (s : State) : (dropTrigger i s).draws = s.draws := (dropTrigger_frame i s).2.2.2.2.2.2.2.2.2.2.2.2.2.2.2.2.2.1
@[simp] theorem dropTrigger_raised (i : SourceNo) (s : State) : (dropTrigger i s).raised = s.raised := (dropTrigger_frame i s).2.2.2.2.2.2.2.2.2.2.2.2.2.2.2.2.2.2.1
@[simp] theorem dropTrigger_handed (i : SourceNo) (s : State) : (dropTrigger i s).handed = s.handed := (dropTrigger_frame i s).2.2.2.2.2.2.2.2.2.2.2.2.2.2.2.2.2.2.2.1
@[simp] theorem dropTrigger_pending (i : SourceNo) (s : State) : (dropTrigger i s).pending = s.pending := (dropTrigger_frame i s).2.2.2.2.2.2.2.2.2.2.2.2.2.2.2.2.2.2.2.2

theorem servePending_frame (a1 : Nat) (s : State) :
    (servePending a1 s).now = s.now ∧
    (servePending a1 s).mode = s.mode ∧
    (servePending a1 s).activity = s.activity ∧
    (servePending a1 s).tables = s.tables ∧
    (servePending a1 s).tracker.last = s.tracker.last ∧
    (servePending a1 s).tracker.acc = s.tracker.acc ∧
    (servePending a1 s).filtration = s.filtration ∧
    (servePending a1 s).router = s.router ∧
    (servePending a1 s).cellPort.state = s.cellPort.state ∧
    (servePending a1 s).plantPort.state = s.plantPort.state ∧
    (servePending a1 s).eeprom = s.eeprom ∧
    (servePending a1 s).draws = s.draws ∧
    (servePending a1 s).pending = s.pending := by
  induction a1 generalizing s with
  | zero => simp [servePending]
  | succ n ih =>
    unfold servePending
    split
    · simp
    · split
      · simp
      · rename_i i _ _ _ _
        have := ih (bump .triggersDiscarded (dropTrigger i s))
        simpa using this
@[simp] theorem servePending_now (a1 : Nat) (s : State) : (servePending a1 s).now = s.now := (servePending_frame a1 s).1
@[simp] theorem servePending_mode (a1 : Nat) (s : State) : (servePending a1 s).mode = s.mode := (servePending_frame a1 s).2.1
@[simp] theorem servePending_activity (a1 : Nat) (s : State) : (servePending a1 s).activity = s.activity := (servePending_frame a1 s).2.2.1
@[simp] theorem servePending_tables (a1 : Nat) (s : State) : (servePending a1 s).tables = s.tables := (servePending_frame a1 s).2.2.2.1
@[simp] theorem servePending_last (a1 : Nat) (s : State) : (servePending a1 s).tracker.last = s.tracker.last := (servePending_frame a1 s).2.2.2.2.1
@[simp] theorem servePending_acc (a1 : Nat) (s : State) : (servePending a1 s).tracker.acc = s.tracker.acc := (servePending_frame a1 s).2.2.2.2.2.1
@[simp] theorem servePending_filtration (a1 : Nat) (s : State) : (servePending a1 s).filtration = s.filtration := (servePending_frame a1 s).2.2.2.2.2.2.1
@[simp] theorem servePending_router (a1 : Nat) (s : State) : (servePending a1 s).router = s.router := (servePending_frame a1 s).2.2.2.2.2.2.2.1
@[simp] theorem servePending_cellState (a1 : Nat) (s : State) : (servePending a1 s).cellPort.state = s.cellPort.state := (servePending_frame a1 s).2.2.2.2.2.2.2.2.1
@[simp] theorem servePending_plantState (a1 : Nat) (s : State) : (servePending a1 s).plantPort.state = s.plantPort.state := (servePending_frame a1 s).2.2.2.2.2.2.2.2.2.1
@[simp] theorem servePending_eeprom (a1 : Nat) (s : State) : (servePending a1 s).eeprom = s.eeprom := (servePending_frame a1 s).2.2.2.2.2.2.2.2.2.2.1
@[simp] theorem servePending_draws (a1 : Nat) (s : State) : (servePending a1 s).draws = s.draws := (servePending_frame a1 s).2.2.2.2.2.2.2.2.2.2.2.1
@[simp] theorem servePending_pending (a1 : Nat) (s : State) : (servePending a1 s).pending = s.pending := (servePending_frame a1 s).2.2.2.2.2.2.2.2.2.2.2.2

theorem recordOutcome_frame (o : ChainOutcome) (s : State) :
    (recordOutcome o s).now = s.now ∧
    (recordOutcome o s).mode = s.mode ∧
    (recordOutcome o s).activity = s.activity ∧
    (recordOutcome o s).tables = s.tables ∧
    (recordOutcome o s).tracker = s.tracker ∧
    (recordOutcome o s).lots = s.lots ∧
    (recordOutcome o s).arbiter = s.arbiter ∧
    (recordOutcome o s).belt = s.belt ∧
    (recordOutcome o s).head = s.head ∧
    (recordOutcome o s).filtration = s.filtration ∧
    (recordOutcome o s).router = s.router ∧
    (recordOutcome o s).notices = s.notices ∧
    (recordOutcome o s).coalescer = s.coalescer ∧
    (recordOutcome o s).cellPort = s.cellPort ∧
    (recordOutcome o s).plantPort = s.plantPort ∧
    (recordOutcome o s).eeprom = s.eeprom ∧
    (recordOutcome o s).draws = s.draws ∧
    (recordOutcome o s).raised = s.raised ∧
    (recordOutcome o s).handed = s.handed ∧
    (recordOutcome o s).pending = s.pending := by
  simp [recordOutcome]
@[simp] theorem recordOutcome_now (o : ChainOutcome) (s : State) : (recordOutcome o s).now = s.now := (recordOutcome_frame o s).1
@[simp] theorem recordOutcome_mode (o : ChainOutcome) (s : State) : (recordOutcome o s).mode = s.mode := (recordOutcome_frame o s).2.1
@[simp] theorem recordOutcome_activity (o : ChainOutcome) (s : State) : (recordOutcome o s).activity = s.activity := (recordOutcome_frame o s).2.2.1
@[simp] theorem recordOutcome_tables (o : ChainOutcome) (s : State) : (recordOutcome o s).tables = s.tables := (recordOutcome_frame o s).2.2.2.1
@[simp] theorem recordOutcome_tracker (o : ChainOutcome) (s : State) : (recordOutcome o s).tracker = s.tracker := (recordOutcome_frame o s).2.2.2.2.1
@[simp] theorem recordOutcome_lots (o : ChainOutcome) (s : State) : (recordOutcome o s).lots = s.lots := (recordOutcome_frame o s).2.2.2.2.2.1
@[simp] theorem recordOutcome_arbiter (o : ChainOutcome) (s : State) : (recordOutcome o s).arbiter = s.arbiter := (recordOutcome_frame o s).2.2.2.2.2.2.1
@[simp] theorem recordOutcome_belt (o : ChainOutcome) (s : State) : (recordOutcome o s).belt = s.belt := (recordOutcome_frame o s).2.2.2.2.2.2.2.1
@[simp] theorem recordOutcome_head (o : ChainOutcome) (s : State) : (recordOutcome o s).head = s.head := (recordOutcome_frame o s).2.2.2.2.2.2.2.2.1
@[simp] theorem recordOutcome_filtration (o : ChainOutcome) (s : State) : (recordOutcome o s).filtration = s.filtration := (recordOutcome_frame o s).2.2.2.2.2.2.2.2.2.1
@[simp] theorem recordOutcome_router (o : ChainOutcome) (s : State) : (recordOutcome o s).router = s.router := (recordOutcome_frame o s).2.2.2.2.2.2.2.2.2.2.1
@[simp] theorem recordOutcome_notices (o : ChainOutcome) (s : State) : (recordOutcome o s).notices = s.notices := (recordOutcome_frame o s).2.2.2.2.2.2.2.2.2.2.2.1
@[simp] theorem recordOutcome_coalescer (o : ChainOutcome) (s : State) : (recordOutcome o s).coalescer = s.coalescer := (recordOutcome_frame o s).2.2.2.2.2.2.2.2.2.2.2.2.1
@[simp] theorem recordOutcome_cellPort (o : ChainOutcome) (s : State) : (recordOutcome o s).cellPort = s.cellPort := (recordOutcome_frame o s).2.2.2.2.2.2.2.2.2.2.2.2.2.1
@[simp] theorem recordOutcome_plantPort (o : ChainOutcome) (s : State) : (recordOutcome o s).plantPort = s.plantPort := (recordOutcome_frame o s).2.2.2.2.2.2.2.2.2.2.2.2.2.2.1
@[simp] theorem recordOutcome_eeprom (o : ChainOutcome) (s : State) : (recordOutcome o s).eeprom = s.eeprom := (recordOutcome_frame o s).2.2.2.2.2.2.2.2.2.2.2.2.2.2.2.1
@[simp] theorem recordOutcome_draws (o : ChainOutcome) (s : State) : (recordOutcome o s).draws = s.draws := (recordOutcome_frame o s).2.2.2.2.2.2.2.2.2.2.2.2.2.2.2.2.1
@[simp] theorem recordOutcome_raised (o : ChainOutcome) (s : State) : (recordOutcome o s).raised = s.raised := (recordOutcome_frame o s).2.2.2.2.2.2.2.2.2.2.2.2.2.2.2.2.2.1
@[simp] theorem recordOutcome_handed (o : ChainOutcome) (s : State) : (recordOutcome o s).handed = s.handed := (recordOutcome_frame o s).2.2.2.2.2.2.2.2.2.2.2.2.2.2.2.2.2.2.1
@[simp] theorem recordOutcome_pending (o : ChainOutcome) (s : State) : (recordOutcome o s).pending = s.pending := (recordOutcome_frame o s).2.2.2.2.2.2.2.2.2.2.2.2.2.2.2.2.2.2.2

theorem endNotice_frame (o : ChainOutcome) (c : Chain) (s : State) :
    (endNotice o c s).now = s.now ∧
    (endNotice o c s).mode = s.mode ∧
    (endNotice o c s).activity = s.activity ∧
    (endNotice o c s).tables = s.tables ∧
    (endNotice o c s).tracker = s.tracker ∧
    (endNotice o c s).lots = s.lots ∧
    (endNotice o c s).arbiter = s.arbiter ∧
    (endNotice o c s).belt = s.belt ∧
    (endNotice o c s).head = s.head ∧
    (endNotice o c s).filtration = s.filtration ∧
    (endNotice o c s).engine = s.engine ∧
    (endNotice o c s).router = s.router ∧
    (endNotice o c s).coalescer = s.coalescer ∧
    (endNotice o c s).cellPort.state = s.cellPort.state ∧
    (endNotice o c s).plantPort.state = s.plantPort.state ∧
    (endNotice o c s).eeprom = s.eeprom ∧
    (endNotice o c s).draws = s.draws ∧
    (endNotice o c s).raised = s.raised ∧
    (endNotice o c s).handed = s.handed ∧
    (endNotice o c s).pending = s.pending := by
  unfold endNotice
  repeat' split
  all_goals simp
@[simp] theorem endNotice_now (o : ChainOutcome) (c : Chain) (s : State) : (endNotice o c s).now = s.now := (endNotice_frame o c s).1
@[simp] theorem endNotice_mode (o : ChainOutcome) (c : Chain) (s : State) : (endNotice o c s).mode = s.mode := (endNotice_frame o c s).2.1
@[simp] theorem endNotice_activity (o : ChainOutcome) (c : Chain) (s : State) : (endNotice o c s).activity = s.activity := (endNotice_frame o c s).2.2.1
@[simp] theorem endNotice_tables (o : ChainOutcome) (c : Chain) (s : State) : (endNotice o c s).tables = s.tables := (endNotice_frame o c s).2.2.2.1
@[simp] theorem endNotice_tracker (o : ChainOutcome) (c : Chain) (s : State) : (endNotice o c s).tracker = s.tracker := (endNotice_frame o c s).2.2.2.2.1
@[simp] theorem endNotice_lots (o : ChainOutcome) (c : Chain) (s : State) : (endNotice o c s).lots = s.lots := (endNotice_frame o c s).2.2.2.2.2.1
@[simp] theorem endNotice_arbiter (o : ChainOutcome) (c : Chain) (s : State) : (endNotice o c s).arbiter = s.arbiter := (endNotice_frame o c s).2.2.2.2.2.2.1
@[simp] theorem endNotice_belt (o : ChainOutcome) (c : Chain) (s : State) : (endNotice o c s).belt = s.belt := (endNotice_frame o c s).2.2.2.2.2.2.2.1
@[simp] theorem endNotice_head (o : ChainOutcome) (c : Chain) (s : State) : (endNotice o c s).head = s.head := (endNotice_frame o c s).2.2.2.2.2.2.2.2.1
@[simp] theorem endNotice_filtration (o : ChainOutcome) (c : Chain) (s : State) : (endNotice o c s).filtration = s.filtration := (endNotice_frame o c s).2.2.2.2.2.2.2.2.2.1
@[simp] theorem endNotice_engine (o : ChainOutcome) (c : Chain) (s : State) : (endNotice o c s).engine = s.engine := (endNotice_frame o c s).2.2.2.2.2.2.2.2.2.2.1
@[simp] theorem endNotice_router (o : ChainOutcome) (c : Chain) (s : State) : (endNotice o c s).router = s.router := (endNotice_frame o c s).2.2.2.2.2.2.2.2.2.2.2.1
@[simp] theorem endNotice_coalescer (o : ChainOutcome) (c : Chain) (s : State) : (endNotice o c s).coalescer = s.coalescer := (endNotice_frame o c s).2.2.2.2.2.2.2.2.2.2.2.2.1
@[simp] theorem endNotice_cellState (o : ChainOutcome) (c : Chain) (s : State) : (endNotice o c s).cellPort.state = s.cellPort.state := (endNotice_frame o c s).2.2.2.2.2.2.2.2.2.2.2.2.2.1
@[simp] theorem endNotice_plantState (o : ChainOutcome) (c : Chain) (s : State) : (endNotice o c s).plantPort.state = s.plantPort.state := (endNotice_frame o c s).2.2.2.2.2.2.2.2.2.2.2.2.2.2.1
@[simp] theorem endNotice_eeprom (o : ChainOutcome) (c : Chain) (s : State) : (endNotice o c s).eeprom = s.eeprom := (endNotice_frame o c s).2.2.2.2.2.2.2.2.2.2.2.2.2.2.2.1
@[simp] theorem endNotice_draws (o : ChainOutcome) (c : Chain) (s : State) : (endNotice o c s).draws = s.draws := (endNotice_frame o c s).2.2.2.2.2.2.2.2.2.2.2.2.2.2.2.2.1
@[simp] theorem endNotice_raised (o : ChainOutcome) (c : Chain) (s : State) : (endNotice o c s).raised = s.raised := (endNotice_frame o c s).2.2.2.2.2.2.2.2.2.2.2.2.2.2.2.2.2.1
@[simp] theorem endNotice_handed (o : ChainOutcome) (c : Chain) (s : State) : (endNotice o c s).handed = s.handed := (endNotice_frame o c s).2.2.2.2.2.2.2.2.2.2.2.2.2.2.2.2.2.2.1
@[simp] theorem endNotice_pending (o : ChainOutcome) (c : Chain) (s : State) : (endNotice o c s).pending = s.pending := (endNotice_frame o c s).2.2.2.2.2.2.2.2.2.2.2.2.2.2.2.2.2.2.2

theorem endChain_frame (o : ChainOutcome) (c : Chain) (s : State) :
    (endChain o c s).now = s.now ∧
    (endChain o c s).mode = s.mode ∧
    (endChain o c s).activity = s.activity ∧
    (endChain o c s).tables = s.tables ∧
    (endChain o c s).tracker.last = s.tracker.last ∧
    (endChain o c s).tracker.acc = s.tracker.acc ∧
    (endChain o c s).filtration = s.filtration ∧
    (endChain o c s).router = s.router ∧
    (endChain o c s).cellPort.state = s.cellPort.state ∧
    (endChain o c s).plantPort.state = s.plantPort.state ∧
    (endChain o c s).eeprom = s.eeprom ∧
    (endChain o c s).draws = s.draws ∧
    (endChain o c s).pending = s.pending := by
  simp [endChain]
@[simp] theorem endChain_now (o : ChainOutcome) (c : Chain) (s : State) : (endChain o c s).now = s.now := (endChain_frame o c s).1
@[simp] theorem endChain_mode (o : ChainOutcome) (c : Chain) (s : State) : (endChain o c s).mode = s.mode := (endChain_frame o c s).2.1
@[simp] theorem endChain_activity (o : ChainOutcome) (c : Chain) (s : State) : (endChain o c s).activity = s.activity := (endChain_frame o c s).2.2.1
@[simp] theorem endChain_tables (o : ChainOutcome) (c : Chain) (s : State) : (endChain o c s).tables = s.tables := (endChain_frame o c s).2.2.2.1
@[simp] theorem endChain_last (o : ChainOutcome) (c : Chain) (s : State) : (endChain o c s).tracker.last = s.tracker.last := (endChain_frame o c s).2.2.2.2.1
@[simp] theorem endChain_acc (o : ChainOutcome) (c : Chain) (s : State) : (endChain o c s).tracker.acc = s.tracker.acc := (endChain_frame o c s).2.2.2.2.2.1
@[simp] theorem endChain_filtration (o : ChainOutcome) (c : Chain) (s : State) : (endChain o c s).filtration = s.filtration := (endChain_frame o c s).2.2.2.2.2.2.1
@[simp] theorem endChain_router (o : ChainOutcome) (c : Chain) (s : State) : (endChain o c s).router = s.router := (endChain_frame o c s).2.2.2.2.2.2.2.1
@[simp] theorem endChain_cellState (o : ChainOutcome) (c : Chain) (s : State) : (endChain o c s).cellPort.state = s.cellPort.state := (endChain_frame o c s).2.2.2.2.2.2.2.2.1
@[simp] theorem endChain_plantState (o : ChainOutcome) (c : Chain) (s : State) : (endChain o c s).plantPort.state = s.plantPort.state := (endChain_frame o c s).2.2.2.2.2.2.2.2.2.1
@[simp] theorem endChain_eeprom (o : ChainOutcome) (c : Chain) (s : State) : (endChain o c s).eeprom = s.eeprom := (endChain_frame o c s).2.2.2.2.2.2.2.2.2.2.1
@[simp] theorem endChain_draws (o : ChainOutcome) (c : Chain) (s : State) : (endChain o c s).draws = s.draws := (endChain_frame o c s).2.2.2.2.2.2.2.2.2.2.2.1
@[simp] theorem endChain_pending (o : ChainOutcome) (c : Chain) (s : State) : (endChain o c s).pending = s.pending := (endChain_frame o c s).2.2.2.2.2.2.2.2.2.2.2.2

theorem reissueAtRestart_frame (t : Target) (s : State) :
    (reissueAtRestart t s).now = s.now ∧
    (reissueAtRestart t s).mode = s.mode ∧
    (reissueAtRestart t s).activity = s.activity ∧
    (reissueAtRestart t s).tables = s.tables ∧
    (reissueAtRestart t s).tracker.last = s.tracker.last ∧
    (reissueAtRestart t s).tracker.acc = s.tracker.acc ∧
    (reissueAtRestart t s).filtration = s.filtration ∧
    (reissueAtRestart t s).engine = s.engine ∧
    (reissueAtRestart t s).router = s.router ∧
    (reissueAtRestart t s).cellPort.state = s.cellPort.state ∧
    (reissueAtRestart t s).plantPort.state = s.plantPort.state ∧
    (reissueAtRestart t s).eeprom = s.eeprom ∧
    (reissueAtRestart t s).draws = s.draws ∧
    (reissueAtRestart t s).pending = s.pending := by
  unfold reissueAtRestart
  repeat' split
  all_goals simp
@[simp] theorem reissueAtRestart_now (t : Target) (s : State) : (reissueAtRestart t s).now = s.now := (reissueAtRestart_frame t s).1
@[simp] theorem reissueAtRestart_mode (t : Target) (s : State) : (reissueAtRestart t s).mode = s.mode := (reissueAtRestart_frame t s).2.1
@[simp] theorem reissueAtRestart_activity (t : Target) (s : State) : (reissueAtRestart t s).activity = s.activity := (reissueAtRestart_frame t s).2.2.1
@[simp] theorem reissueAtRestart_tables (t : Target) (s : State) : (reissueAtRestart t s).tables = s.tables := (reissueAtRestart_frame t s).2.2.2.1
@[simp] theorem reissueAtRestart_last (t : Target) (s : State) : (reissueAtRestart t s).tracker.last = s.tracker.last := (reissueAtRestart_frame t s).2.2.2.2.1
@[simp] theorem reissueAtRestart_acc (t : Target) (s : State) : (reissueAtRestart t s).tracker.acc = s.tracker.acc := (reissueAtRestart_frame t s).2.2.2.2.2.1
@[simp] theorem reissueAtRestart_filtration (t : Target) (s : State) : (reissueAtRestart t s).filtration = s.filtration := (reissueAtRestart_frame t s).2.2.2.2.2.2.1
@[simp] theorem reissueAtRestart_engine (t : Target) (s : State) : (reissueAtRestart t s).engine = s.engine := (reissueAtRestart_frame t s).2.2.2.2.2.2.2.1
@[simp] theorem reissueAtRestart_router (t : Target) (s : State) : (reissueAtRestart t s).router = s.router := (reissueAtRestart_frame t s).2.2.2.2.2.2.2.2.1
@[simp] theorem reissueAtRestart_cellState (t : Target) (s : State) : (reissueAtRestart t s).cellPort.state = s.cellPort.state := (reissueAtRestart_frame t s).2.2.2.2.2.2.2.2.2.1
@[simp] theorem reissueAtRestart_plantState (t : Target) (s : State) : (reissueAtRestart t s).plantPort.state = s.plantPort.state := (reissueAtRestart_frame t s).2.2.2.2.2.2.2.2.2.2.1
@[simp] theorem reissueAtRestart_eeprom (t : Target) (s : State) : (reissueAtRestart t s).eeprom = s.eeprom := (reissueAtRestart_frame t s).2.2.2.2.2.2.2.2.2.2.2.1
@[simp] theorem reissueAtRestart_draws (t : Target) (s : State) : (reissueAtRestart t s).draws = s.draws := (reissueAtRestart_frame t s).2.2.2.2.2.2.2.2.2.2.2.2.1
@[simp] theorem reissueAtRestart_pending (t : Target) (s : State) : (reissueAtRestart t s).pending = s.pending := (reissueAtRestart_frame t s).2.2.2.2.2.2.2.2.2.2.2.2.2

theorem abortForRestart_frame (s : State) :
    (abortForRestart s).now = s.now ∧
    (abortForRestart s).mode = s.mode ∧
    (abortForRestart s).activity = s.activity ∧
    (abortForRestart s).tables = s.tables ∧
    (abortForRestart s).tracker.last = s.tracker.last ∧
    (abortForRestart s).tracker.acc = s.tracker.acc ∧
    (abortForRestart s).filtration = s.filtration ∧
    (abortForRestart s).router = s.router ∧
    (abortForRestart s).cellPort.state = s.cellPort.state ∧
    (abortForRestart s).plantPort.state = s.plantPort.state ∧
    (abortForRestart s).eeprom = s.eeprom ∧
    (abortForRestart s).draws = s.draws ∧
    (abortForRestart s).pending = s.pending := by
  unfold abortForRestart
  repeat' split
  all_goals simp
@[simp] theorem abortForRestart_now (s : State) : (abortForRestart s).now = s.now := (abortForRestart_frame s).1
@[simp] theorem abortForRestart_mode (s : State) : (abortForRestart s).mode = s.mode := (abortForRestart_frame s).2.1
@[simp] theorem abortForRestart_activity (s : State) : (abortForRestart s).activity = s.activity := (abortForRestart_frame s).2.2.1
@[simp] theorem abortForRestart_tables (s : State) : (abortForRestart s).tables = s.tables := (abortForRestart_frame s).2.2.2.1
@[simp] theorem abortForRestart_last (s : State) : (abortForRestart s).tracker.last = s.tracker.last := (abortForRestart_frame s).2.2.2.2.1
@[simp] theorem abortForRestart_acc (s : State) : (abortForRestart s).tracker.acc = s.tracker.acc := (abortForRestart_frame s).2.2.2.2.2.1
@[simp] theorem abortForRestart_filtration (s : State) : (abortForRestart s).filtration = s.filtration := (abortForRestart_frame s).2.2.2.2.2.2.1
@[simp] theorem abortForRestart_router (s : State) : (abortForRestart s).router = s.router := (abortForRestart_frame s).2.2.2.2.2.2.2.1
@[simp] theorem abortForRestart_cellState (s : State) : (abortForRestart s).cellPort.state = s.cellPort.state := (abortForRestart_frame s).2.2.2.2.2.2.2.2.1
@[simp] theorem abortForRestart_plantState (s : State) : (abortForRestart s).plantPort.state = s.plantPort.state := (abortForRestart_frame s).2.2.2.2.2.2.2.2.2.1
@[simp] theorem abortForRestart_eeprom (s : State) : (abortForRestart s).eeprom = s.eeprom := (abortForRestart_frame s).2.2.2.2.2.2.2.2.2.2.1
@[simp] theorem abortForRestart_draws (s : State) : (abortForRestart s).draws = s.draws := (abortForRestart_frame s).2.2.2.2.2.2.2.2.2.2.2.1
@[simp] theorem abortForRestart_pending (s : State) : (abortForRestart s).pending = s.pending := (abortForRestart_frame s).2.2.2.2.2.2.2.2.2.2.2.2

theorem exhaustDescriptor_frame (c : Chain) (s : State) :
    (exhaustDescriptor c s).now = s.now ∧
    (exhaustDescriptor c s).mode = s.mode ∧
    (exhaustDescriptor c s).activity = s.activity ∧
    (exhaustDescriptor c s).tables = s.tables ∧
    (exhaustDescriptor c s).tracker.last = s.tracker.last ∧
    (exhaustDescriptor c s).tracker.acc = s.tracker.acc ∧
    (exhaustDescriptor c s).filtration = s.filtration ∧
    (exhaustDescriptor c s).router = s.router ∧
    (exhaustDescriptor c s).cellPort.state = s.cellPort.state ∧
    (exhaustDescriptor c s).plantPort.state = s.plantPort.state ∧
    (exhaustDescriptor c s).eeprom = s.eeprom ∧
    (exhaustDescriptor c s).draws = s.draws ∧
    (exhaustDescriptor c s).pending = s.pending := by
  unfold exhaustDescriptor
  repeat' split
  all_goals simp
@[simp] theorem exhaustDescriptor_now (c : Chain) (s : State) : (exhaustDescriptor c s).now = s.now := (exhaustDescriptor_frame c s).1
@[simp] theorem exhaustDescriptor_mode (c : Chain) (s : State) : (exhaustDescriptor c s).mode = s.mode := (exhaustDescriptor_frame c s).2.1
@[simp] theorem exhaustDescriptor_activity (c : Chain) (s : State) : (exhaustDescriptor c s).activity = s.activity := (exhaustDescriptor_frame c s).2.2.1
@[simp] theorem exhaustDescriptor_tables (c : Chain) (s : State) : (exhaustDescriptor c s).tables = s.tables := (exhaustDescriptor_frame c s).2.2.2.1
@[simp] theorem exhaustDescriptor_last (c : Chain) (s : State) : (exhaustDescriptor c s).tracker.last = s.tracker.last := (exhaustDescriptor_frame c s).2.2.2.2.1
@[simp] theorem exhaustDescriptor_acc (c : Chain) (s : State) : (exhaustDescriptor c s).tracker.acc = s.tracker.acc := (exhaustDescriptor_frame c s).2.2.2.2.2.1
@[simp] theorem exhaustDescriptor_filtration (c : Chain) (s : State) : (exhaustDescriptor c s).filtration = s.filtration := (exhaustDescriptor_frame c s).2.2.2.2.2.2.1
@[simp] theorem exhaustDescriptor_router (c : Chain) (s : State) : (exhaustDescriptor c s).router = s.router := (exhaustDescriptor_frame c s).2.2.2.2.2.2.2.1
@[simp] theorem exhaustDescriptor_cellState (c : Chain) (s : State) : (exhaustDescriptor c s).cellPort.state = s.cellPort.state := (exhaustDescriptor_frame c s).2.2.2.2.2.2.2.2.1
@[simp] theorem exhaustDescriptor_plantState (c : Chain) (s : State) : (exhaustDescriptor c s).plantPort.state = s.plantPort.state := (exhaustDescriptor_frame c s).2.2.2.2.2.2.2.2.2.1
@[simp] theorem exhaustDescriptor_eeprom (c : Chain) (s : State) : (exhaustDescriptor c s).eeprom = s.eeprom := (exhaustDescriptor_frame c s).2.2.2.2.2.2.2.2.2.2.1
@[simp] theorem exhaustDescriptor_draws (c : Chain) (s : State) : (exhaustDescriptor c s).draws = s.draws := (exhaustDescriptor_frame c s).2.2.2.2.2.2.2.2.2.2.2.1
@[simp] theorem exhaustDescriptor_pending (c : Chain) (s : State) : (exhaustDescriptor c s).pending = s.pending := (exhaustDescriptor_frame c s).2.2.2.2.2.2.2.2.2.2.2.2

theorem endRepetition_frame (c : Chain) (s : State) :
    (endRepetition c s).now = s.now ∧
    (endRepetition c s).mode = s.mode ∧
    (endRepetition c s).activity = s.activity ∧
    (endRepetition c s).tables = s.tables ∧
    (endRepetition c s).tracker.last = s.tracker.last ∧
    (endRepetition c s).tracker.acc = s.tracker.acc ∧
    (endRepetition c s).filtration = s.filtration ∧
    (endRepetition c s).router = s.router ∧
    (endRepetition c s).cellPort.state = s.cellPort.state ∧
    (endRepetition c s).plantPort.state = s.plantPort.state ∧
    (endRepetition c s).eeprom = s.eeprom ∧
    (endRepetition c s).draws = s.draws ∧
    (endRepetition c s).pending = s.pending := by
  unfold endRepetition
  repeat' split
  all_goals simp
@[simp] theorem endRepetition_now (c : Chain) (s : State) : (endRepetition c s).now = s.now := (endRepetition_frame c s).1
@[simp] theorem endRepetition_mode (c : Chain) (s : State) : (endRepetition c s).mode = s.mode := (endRepetition_frame c s).2.1
@[simp] theorem endRepetition_activity (c : Chain) (s : State) : (endRepetition c s).activity = s.activity := (endRepetition_frame c s).2.2.1
@[simp] theorem endRepetition_tables (c : Chain) (s : State) : (endRepetition c s).tables = s.tables := (endRepetition_frame c s).2.2.2.1
@[simp] theorem endRepetition_last (c : Chain) (s : State) : (endRepetition c s).tracker.last = s.tracker.last := (endRepetition_frame c s).2.2.2.2.1
@[simp] theorem endRepetition_acc (c : Chain) (s : State) : (endRepetition c s).tracker.acc = s.tracker.acc := (endRepetition_frame c s).2.2.2.2.2.1
@[simp] theorem endRepetition_filtration (c : Chain) (s : State) : (endRepetition c s).filtration = s.filtration := (endRepetition_frame c s).2.2.2.2.2.2.1
@[simp] theorem endRepetition_router (c : Chain) (s : State) : (endRepetition c s).router = s.router := (endRepetition_frame c s).2.2.2.2.2.2.2.1
@[simp] theorem endRepetition_cellState (c : Chain) (s : State) : (endRepetition c s).cellPort.state = s.cellPort.state := (endRepetition_frame c s).2.2.2.2.2.2.2.2.1
@[simp] theorem endRepetition_plantState (c : Chain) (s : State) : (endRepetition c s).plantPort.state = s.plantPort.state := (endRepetition_frame c s).2.2.2.2.2.2.2.2.2.1
@[simp] theorem endRepetition_eeprom (c : Chain) (s : State) : (endRepetition c s).eeprom = s.eeprom := (endRepetition_frame c s).2.2.2.2.2.2.2.2.2.2.1
@[simp] theorem endRepetition_draws (c : Chain) (s : State) : (endRepetition c s).draws = s.draws := (endRepetition_frame c s).2.2.2.2.2.2.2.2.2.2.2.1
@[simp] theorem endRepetition_pending (c : Chain) (s : State) : (endRepetition c s).pending = s.pending := (endRepetition_frame c s).2.2.2.2.2.2.2.2.2.2.2.2

theorem stepExpired_frame (c : Chain) (s : State) :
    (stepExpired c s).now = s.now ∧
    (stepExpired c s).mode = s.mode ∧
    (stepExpired c s).activity = s.activity ∧
    (stepExpired c s).tables = s.tables ∧
    (stepExpired c s).tracker.last = s.tracker.last ∧
    (stepExpired c s).tracker.acc = s.tracker.acc ∧
    (stepExpired c s).filtration = s.filtration ∧
    (stepExpired c s).router = s.router ∧
    (stepExpired c s).cellPort.state = s.cellPort.state ∧
    (stepExpired c s).plantPort.state = s.plantPort.state ∧
    (stepExpired c s).eeprom = s.eeprom ∧
    (stepExpired c s).draws = s.draws ∧
    (stepExpired c s).pending = s.pending := by
  unfold stepExpired
  repeat' split
  all_goals simp
@[simp] theorem stepExpired_now (c : Chain) (s : State) : (stepExpired c s).now = s.now := (stepExpired_frame c s).1
@[simp] theorem stepExpired_mode (c : Chain) (s : State) : (stepExpired c s).mode = s.mode := (stepExpired_frame c s).2.1
@[simp] theorem stepExpired_activity (c : Chain) (s : State) : (stepExpired c s).activity = s.activity := (stepExpired_frame c s).2.2.1
@[simp] theorem stepExpired_tables (c : Chain) (s : State) : (stepExpired c s).tables = s.tables := (stepExpired_frame c s).2.2.2.1
@[simp] theorem stepExpired_last (c : Chain) (s : State) : (stepExpired c s).tracker.last = s.tracker.last := (stepExpired_frame c s).2.2.2.2.1
@[simp] theorem stepExpired_acc (c : Chain) (s : State) : (stepExpired c s).tracker.acc = s.tracker.acc := (stepExpired_frame c s).2.2.2.2.2.1
@[simp] theorem stepExpired_filtration (c : Chain) (s : State) : (stepExpired c s).filtration = s.filtration := (stepExpired_frame c s).2.2.2.2.2.2.1
@[simp] theorem stepExpired_router (c : Chain) (s : State) : (stepExpired c s).router = s.router := (stepExpired_frame c s).2.2.2.2.2.2.2.1
@[simp] theorem stepExpired_cellState (c : Chain) (s : State) : (stepExpired c s).cellPort.state = s.cellPort.state := (stepExpired_frame c s).2.2.2.2.2.2.2.2.1
@[simp] theorem stepExpired_plantState (c : Chain) (s : State) : (stepExpired c s).plantPort.state = s.plantPort.state := (stepExpired_frame c s).2.2.2.2.2.2.2.2.2.1
@[simp] theorem stepExpired_eeprom (c : Chain) (s : State) : (stepExpired c s).eeprom = s.eeprom := (stepExpired_frame c s).2.2.2.2.2.2.2.2.2.2.1
@[simp] theorem stepExpired_draws (c : Chain) (s : State) : (stepExpired c s).draws = s.draws := (stepExpired_frame c s).2.2.2.2.2.2.2.2.2.2.2.1
@[simp] theorem stepExpired_pending (c : Chain) (s : State) : (stepExpired c s).pending = s.pending := (stepExpired_frame c s).2.2.2.2.2.2.2.2.2.2.2.2

theorem opStepHoldExpiry_frame (s : State) :
    (opStepHoldExpiry s).now = s.now ∧
    (opStepHoldExpiry s).mode = s.mode ∧
    (opStepHoldExpiry s).activity = s.activity ∧
    (opStepHoldExpiry s).tables = s.tables ∧
    (opStepHoldExpiry s).tracker.last = s.tracker.last ∧
    (opStepHoldExpiry s).tracker.acc = s.tracker.acc ∧
    (opStepHoldExpiry s).filtration = s.filtration ∧
    (opStepHoldExpiry s).router = s.router ∧
    (opStepHoldExpiry s).cellPort.state = s.cellPort.state ∧
    (opStepHoldExpiry s).plantPort.state = s.plantPort.state ∧
    (opStepHoldExpiry s).eeprom = s.eeprom ∧
    (opStepHoldExpiry s).draws = s.draws ∧
    (opStepHoldExpiry s).pending = s.pending := by
  unfold opStepHoldExpiry
  repeat' split
  all_goals simp
@[simp] theorem opStepHoldExpiry_now (s : State) : (opStepHoldExpiry s).now = s.now := (opStepHoldExpiry_frame s).1
@[simp] theorem opStepHoldExpiry_mode (s : State) : (opStepHoldExpiry s).mode = s.mode := (opStepHoldExpiry_frame s).2.1
@[simp] theorem opStepHoldExpiry_activity (s : State) : (opStepHoldExpiry s).activity = s.activity := (opStepHoldExpiry_frame s).2.2.1
@[simp] theorem opStepHoldExpiry_tables (s : State) : (opStepHoldExpiry s).tables = s.tables := (opStepHoldExpiry_frame s).2.2.2.1
@[simp] theorem opStepHoldExpiry_last (s : State) : (opStepHoldExpiry s).tracker.last = s.tracker.last := (opStepHoldExpiry_frame s).2.2.2.2.1
@[simp] theorem opStepHoldExpiry_acc (s : State) : (opStepHoldExpiry s).tracker.acc = s.tracker.acc := (opStepHoldExpiry_frame s).2.2.2.2.2.1
@[simp] theorem opStepHoldExpiry_filtration (s : State) : (opStepHoldExpiry s).filtration = s.filtration := (opStepHoldExpiry_frame s).2.2.2.2.2.2.1
@[simp] theorem opStepHoldExpiry_router (s : State) : (opStepHoldExpiry s).router = s.router := (opStepHoldExpiry_frame s).2.2.2.2.2.2.2.1
@[simp] theorem opStepHoldExpiry_cellState (s : State) : (opStepHoldExpiry s).cellPort.state = s.cellPort.state := (opStepHoldExpiry_frame s).2.2.2.2.2.2.2.2.1
@[simp] theorem opStepHoldExpiry_plantState (s : State) : (opStepHoldExpiry s).plantPort.state = s.plantPort.state := (opStepHoldExpiry_frame s).2.2.2.2.2.2.2.2.2.1
@[simp] theorem opStepHoldExpiry_eeprom (s : State) : (opStepHoldExpiry s).eeprom = s.eeprom := (opStepHoldExpiry_frame s).2.2.2.2.2.2.2.2.2.2.1
@[simp] theorem opStepHoldExpiry_draws (s : State) : (opStepHoldExpiry s).draws = s.draws := (opStepHoldExpiry_frame s).2.2.2.2.2.2.2.2.2.2.2.1
@[simp] theorem opStepHoldExpiry_pending (s : State) : (opStepHoldExpiry s).pending = s.pending := (opStepHoldExpiry_frame s).2.2.2.2.2.2.2.2.2.2.2.2

theorem trigger_frame (i : SourceNo) (p : ActionNo) (t : Trigger) (s : State) :
    (trigger i p t s).now = s.now ∧
    (trigger i p t s).mode = s.mode ∧
    (trigger i p t s).activity = s.activity ∧
    (trigger i p t s).tables = s.tables ∧
    (trigger i p t s).tracker.last = s.tracker.last ∧
    (trigger i p t s).tracker.acc = s.tracker.acc ∧
    (trigger i p t s).filtration = s.filtration ∧
    (trigger i p t s).router = s.router ∧
    (trigger i p t s).cellPort.state = s.cellPort.state ∧
    (trigger i p t s).plantPort.state = s.plantPort.state ∧
    (trigger i p t s).eeprom = s.eeprom ∧
    (trigger i p t s).draws = s.draws ∧
    (trigger i p t s).pending = s.pending := by
  unfold trigger
  repeat' split
  all_goals simp
@[simp] theorem trigger_now (i : SourceNo) (p : ActionNo) (t : Trigger) (s : State) : (trigger i p t s).now = s.now := (trigger_frame i p t s).1
@[simp] theorem trigger_mode (i : SourceNo) (p : ActionNo) (t : Trigger) (s : State) : (trigger i p t s).mode = s.mode := (trigger_frame i p t s).2.1
@[simp] theorem trigger_activity (i : SourceNo) (p : ActionNo) (t : Trigger) (s : State) : (trigger i p t s).activity = s.activity := (trigger_frame i p t s).2.2.1
@[simp] theorem trigger_tables (i : SourceNo) (p : ActionNo) (t : Trigger) (s : State) : (trigger i p t s).tables = s.tables := (trigger_frame i p t s).2.2.2.1
@[simp] theorem trigger_last (i : SourceNo) (p : ActionNo) (t : Trigger) (s : State) : (trigger i p t s).tracker.last = s.tracker.last := (trigger_frame i p t s).2.2.2.2.1
@[simp] theorem trigger_acc (i : SourceNo) (p : ActionNo) (t : Trigger) (s : State) : (trigger i p t s).tracker.acc = s.tracker.acc := (trigger_frame i p t s).2.2.2.2.2.1
@[simp] theorem trigger_filtration (i : SourceNo) (p : ActionNo) (t : Trigger) (s : State) : (trigger i p t s).filtration = s.filtration := (trigger_frame i p t s).2.2.2.2.2.2.1
@[simp] theorem trigger_router (i : SourceNo) (p : ActionNo) (t : Trigger) (s : State) : (trigger i p t s).router = s.router := (trigger_frame i p t s).2.2.2.2.2.2.2.1
@[simp] theorem trigger_cellState (i : SourceNo) (p : ActionNo) (t : Trigger) (s : State) : (trigger i p t s).cellPort.state = s.cellPort.state := (trigger_frame i p t s).2.2.2.2.2.2.2.2.1
@[simp] theorem trigger_plantState (i : SourceNo) (p : ActionNo) (t : Trigger) (s : State) : (trigger i p t s).plantPort.state = s.plantPort.state := (trigger_frame i p t s).2.2.2.2.2.2.2.2.2.1
@[simp] theorem trigger_eeprom (i : SourceNo) (p : ActionNo) (t : Trigger) (s : State) : (trigger i p t s).eeprom = s.eeprom := (trigger_frame i p t s).2.2.2.2.2.2.2.2.2.2.1
@[simp] theorem trigger_draws (i : SourceNo) (p : ActionNo) (t : Trigger) (s : State) : (trigger i p t s).draws = s.draws := (trigger_frame i p t s).2.2.2.2.2.2.2.2.2.2.2.1
@[simp] theorem trigger_pending (i : SourceNo) (p : ActionNo) (t : Trigger) (s : State) : (trigger i p t s).pending = s.pending := (trigger_frame i p t s).2.2.2.2.2.2.2.2.2.2.2.2

theorem countOccurrence_frame (i : SourceNo) (s : State) :
    (countOccurrence i s).now = s.now ∧
    (countOccurrence i s).mode = s.mode ∧
    (countOccurrence i s).activity = s.activity ∧
    (countOccurrence i s).tables = s.tables ∧
    (countOccurrence i s).tracker = s.tracker ∧
    (countOccurrence i s).lots = s.lots ∧
    (countOccurrence i s).arbiter = s.arbiter ∧
    (countOccurrence i s).belt = s.belt ∧
    (countOccurrence i s).head = s.head ∧
    (countOccurrence i s).filtration = s.filtration ∧
    (countOccurrence i s).engine = s.engine ∧
    (countOccurrence i s).notices = s.notices ∧
    (countOccurrence i s).coalescer = s.coalescer ∧
    (countOccurrence i s).cellPort = s.cellPort ∧
    (countOccurrence i s).plantPort = s.plantPort ∧
    (countOccurrence i s).eeprom = s.eeprom ∧
    (countOccurrence i s).draws = s.draws ∧
    (countOccurrence i s).raised = s.raised ∧
    (countOccurrence i s).handed = s.handed ∧
    (countOccurrence i s).pending = s.pending := by
  simp [countOccurrence]
@[simp] theorem countOccurrence_now (i : SourceNo) (s : State) : (countOccurrence i s).now = s.now := (countOccurrence_frame i s).1
@[simp] theorem countOccurrence_mode (i : SourceNo) (s : State) : (countOccurrence i s).mode = s.mode := (countOccurrence_frame i s).2.1
@[simp] theorem countOccurrence_activity (i : SourceNo) (s : State) : (countOccurrence i s).activity = s.activity := (countOccurrence_frame i s).2.2.1
@[simp] theorem countOccurrence_tables (i : SourceNo) (s : State) : (countOccurrence i s).tables = s.tables := (countOccurrence_frame i s).2.2.2.1
@[simp] theorem countOccurrence_tracker (i : SourceNo) (s : State) : (countOccurrence i s).tracker = s.tracker := (countOccurrence_frame i s).2.2.2.2.1
@[simp] theorem countOccurrence_lots (i : SourceNo) (s : State) : (countOccurrence i s).lots = s.lots := (countOccurrence_frame i s).2.2.2.2.2.1
@[simp] theorem countOccurrence_arbiter (i : SourceNo) (s : State) : (countOccurrence i s).arbiter = s.arbiter := (countOccurrence_frame i s).2.2.2.2.2.2.1
@[simp] theorem countOccurrence_belt (i : SourceNo) (s : State) : (countOccurrence i s).belt = s.belt := (countOccurrence_frame i s).2.2.2.2.2.2.2.1
@[simp] theorem countOccurrence_head (i : SourceNo) (s : State) : (countOccurrence i s).head = s.head := (countOccurrence_frame i s).2.2.2.2.2.2.2.2.1
@[simp] theorem countOccurrence_filtration (i : SourceNo) (s : State) : (countOccurrence i s).filtration = s.filtration := (countOccurrence_frame i s).2.2.2.2.2.2.2.2.2.1
@[simp] theorem countOccurrence_engine (i : SourceNo) (s : State) : (countOccurrence i s).engine = s.engine := (countOccurrence_frame i s).2.2.2.2.2.2.2.2.2.2.1
@[simp] theorem countOccurrence_notices (i : SourceNo) (s : State) : (countOccurrence i s).notices = s.notices := (countOccurrence_frame i s).2.2.2.2.2.2.2.2.2.2.2.1
@[simp] theorem countOccurrence_coalescer (i : SourceNo) (s : State) : (countOccurrence i s).coalescer = s.coalescer := (countOccurrence_frame i s).2.2.2.2.2.2.2.2.2.2.2.2.1
@[simp] theorem countOccurrence_cellPort (i : SourceNo) (s : State) : (countOccurrence i s).cellPort = s.cellPort := (countOccurrence_frame i s).2.2.2.2.2.2.2.2.2.2.2.2.2.1
@[simp] theorem countOccurrence_plantPort (i : SourceNo) (s : State) : (countOccurrence i s).plantPort = s.plantPort := (countOccurrence_frame i s).2.2.2.2.2.2.2.2.2.2.2.2.2.2.1
@[simp] theorem countOccurrence_eeprom (i : SourceNo) (s : State) : (countOccurrence i s).eeprom = s.eeprom := (countOccurrence_frame i s).2.2.2.2.2.2.2.2.2.2.2.2.2.2.2.1
@[simp] theorem countOccurrence_draws (i : SourceNo) (s : State) : (countOccurrence i s).draws = s.draws := (countOccurrence_frame i s).2.2.2.2.2.2.2.2.2.2.2.2.2.2.2.2.1
@[simp] theorem countOccurrence_raised (i : SourceNo) (s : State) : (countOccurrence i s).raised = s.raised := (countOccurrence_frame i s).2.2.2.2.2.2.2.2.2.2.2.2.2.2.2.2.2.1
@[simp] theorem countOccurrence_handed (i : SourceNo) (s : State) : (countOccurrence i s).handed = s.handed := (countOccurrence_frame i s).2.2.2.2.2.2.2.2.2.2.2.2.2.2.2.2.2.2.1
@[simp] theorem countOccurrence_pending (i : SourceNo) (s : State) : (countOccurrence i s).pending = s.pending := (countOccurrence_frame i s).2.2.2.2.2.2.2.2.2.2.2.2.2.2.2.2.2.2.2

theorem triggerRoute_frame (o : Occurrence) (s : State) :
    (triggerRoute o s).now = s.now ∧
    (triggerRoute o s).mode = s.mode ∧
    (triggerRoute o s).activity = s.activity ∧
    (triggerRoute o s).tables = s.tables ∧
    (triggerRoute o s).tracker.last = s.tracker.last ∧
    (triggerRoute o s).tracker.acc = s.tracker.acc ∧
    (triggerRoute o s).filtration = s.filtration ∧
    (triggerRoute o s).router = s.router ∧
    (triggerRoute o s).cellPort.state = s.cellPort.state ∧
    (triggerRoute o s).plantPort.state = s.plantPort.state ∧
    (triggerRoute o s).eeprom = s.eeprom ∧
    (triggerRoute o s).draws = s.draws ∧
    (triggerRoute o s).pending = s.pending := by
  unfold triggerRoute
  repeat' split
  all_goals simp
@[simp] theorem triggerRoute_now (o : Occurrence) (s : State) : (triggerRoute o s).now = s.now := (triggerRoute_frame o s).1
@[simp] theorem triggerRoute_mode (o : Occurrence) (s : State) : (triggerRoute o s).mode = s.mode := (triggerRoute_frame o s).2.1
@[simp] theorem triggerRoute_activity (o : Occurrence) (s : State) : (triggerRoute o s).activity = s.activity := (triggerRoute_frame o s).2.2.1
@[simp] theorem triggerRoute_tables (o : Occurrence) (s : State) : (triggerRoute o s).tables = s.tables := (triggerRoute_frame o s).2.2.2.1
@[simp] theorem triggerRoute_last (o : Occurrence) (s : State) : (triggerRoute o s).tracker.last = s.tracker.last := (triggerRoute_frame o s).2.2.2.2.1
@[simp] theorem triggerRoute_acc (o : Occurrence) (s : State) : (triggerRoute o s).tracker.acc = s.tracker.acc := (triggerRoute_frame o s).2.2.2.2.2.1
@[simp] theorem triggerRoute_filtration (o : Occurrence) (s : State) : (triggerRoute o s).filtration = s.filtration := (triggerRoute_frame o s).2.2.2.2.2.2.1
@[simp] theorem triggerRoute_router (o : Occurrence) (s : State) : (triggerRoute o s).router = s.router := (triggerRoute_frame o s).2.2.2.2.2.2.2.1
@[simp] theorem triggerRoute_cellState (o : Occurrence) (s : State) : (triggerRoute o s).cellPort.state = s.cellPort.state := (triggerRoute_frame o s).2.2.2.2.2.2.2.2.1
@[simp] theorem triggerRoute_plantState (o : Occurrence) (s : State) : (triggerRoute o s).plantPort.state = s.plantPort.state := (triggerRoute_frame o s).2.2.2.2.2.2.2.2.2.1
@[simp] theorem triggerRoute_eeprom (o : Occurrence) (s : State) : (triggerRoute o s).eeprom = s.eeprom := (triggerRoute_frame o s).2.2.2.2.2.2.2.2.2.2.1
@[simp] theorem triggerRoute_draws (o : Occurrence) (s : State) : (triggerRoute o s).draws = s.draws := (triggerRoute_frame o s).2.2.2.2.2.2.2.2.2.2.2.1
@[simp] theorem triggerRoute_pending (o : Occurrence) (s : State) : (triggerRoute o s).pending = s.pending := (triggerRoute_frame o s).2.2.2.2.2.2.2.2.2.2.2.2

theorem overrideRoute_frame (i : SourceNo) (s : State) :
    (overrideRoute i s).now = s.now ∧
    (overrideRoute i s).mode = s.mode ∧
    (overrideRoute i s).activity = s.activity ∧
    (overrideRoute i s).tables = s.tables ∧
    (overrideRoute i s).tracker = s.tracker ∧
    (overrideRoute i s).lots = s.lots ∧
    (overrideRoute i s).arbiter = s.arbiter ∧
    (overrideRoute i s).head = s.head ∧
    (overrideRoute i s).filtration = s.filtration ∧
    (overrideRoute i s).engine = s.engine ∧
    (overrideRoute i s).router = s.router ∧
    (overrideRoute i s).notices = s.notices ∧
    (overrideRoute i s).cellPort = s.cellPort ∧
    (overrideRoute i s).plantPort = s.plantPort ∧
    (overrideRoute i s).eeprom = s.eeprom ∧
    (overrideRoute i s).draws = s.draws ∧
    (overrideRoute i s).raised = s.raised ∧
    (overrideRoute i s).pending = s.pending := by
  unfold overrideRoute
  repeat' split
  all_goals simp
@[simp] theorem overrideRoute_now (i : SourceNo) (s : State) : (overrideRoute i s).now = s.now := (overrideRoute_frame i s).1
@[simp] theorem overrideRoute_mode (i : SourceNo) (s : State) : (overrideRoute i s).mode = s.mode := (overrideRoute_frame i s).2.1
@[simp] theorem overrideRoute_activity (i : SourceNo) (s : State) : (overrideRoute i s).activity = s.activity := (overrideRoute_frame i s).2.2.1
@[simp] theorem overrideRoute_tables (i : SourceNo) (s : State) : (overrideRoute i s).tables = s.tables := (overrideRoute_frame i s).2.2.2.1
@[simp] theorem overrideRoute_tracker (i : SourceNo) (s : State) : (overrideRoute i s).tracker = s.tracker := (overrideRoute_frame i s).2.2.2.2.1
@[simp] theorem overrideRoute_lots (i : SourceNo) (s : State) : (overrideRoute i s).lots = s.lots := (overrideRoute_frame i s).2.2.2.2.2.1
@[simp] theorem overrideRoute_arbiter (i : SourceNo) (s : State) : (overrideRoute i s).arbiter = s.arbiter := (overrideRoute_frame i s).2.2.2.2.2.2.1
@[simp] theorem overrideRoute_head (i : SourceNo) (s : State) : (overrideRoute i s).head = s.head := (overrideRoute_frame i s).2.2.2.2.2.2.2.1
@[simp] theorem overrideRoute_filtration (i : SourceNo) (s : State) : (overrideRoute i s).filtration = s.filtration := (overrideRoute_frame i s).2.2.2.2.2.2.2.2.1
@[simp] theorem overrideRoute_engine (i : SourceNo) (s : State) : (overrideRoute i s).engine = s.engine := (overrideRoute_frame i s).2.2.2.2.2.2.2.2.2.1
@[simp] theorem overrideRoute_router (i : SourceNo) (s : State) : (overrideRoute i s).router = s.router := (overrideRoute_frame i s).2.2.2.2.2.2.2.2.2.2.1
@[simp] theorem overrideRoute_notices (i : SourceNo) (s : State) : (overrideRoute i s).notices = s.notices := (overrideRoute_frame i s).2.2.2.2.2.2.2.2.2.2.2.1
@[simp] theorem overrideRoute_cellPort (i : SourceNo) (s : State) : (overrideRoute i s).cellPort = s.cellPort := (overrideRoute_frame i s).2.2.2.2.2.2.2.2.2.2.2.2.1
@[simp] theorem overrideRoute_plantPort (i : SourceNo) (s : State) : (overrideRoute i s).plantPort = s.plantPort := (overrideRoute_frame i s).2.2.2.2.2.2.2.2.2.2.2.2.2.1
@[simp] theorem overrideRoute_eeprom (i : SourceNo) (s : State) : (overrideRoute i s).eeprom = s.eeprom := (overrideRoute_frame i s).2.2.2.2.2.2.2.2.2.2.2.2.2.2.1
@[simp] theorem overrideRoute_draws (i : SourceNo) (s : State) : (overrideRoute i s).draws = s.draws := (overrideRoute_frame i s).2.2.2.2.2.2.2.2.2.2.2.2.2.2.2.1
@[simp] theorem overrideRoute_raised (i : SourceNo) (s : State) : (overrideRoute i s).raised = s.raised := (overrideRoute_frame i s).2.2.2.2.2.2.2.2.2.2.2.2.2.2.2.2.1
@[simp] theorem overrideRoute_pending (i : SourceNo) (s : State) : (overrideRoute i s).pending = s.pending := (overrideRoute_frame i s).2.2.2.2.2.2.2.2.2.2.2.2.2.2.2.2.2

theorem noticeRoute_frame (o : Occurrence) (wasSet : Bool) (count : Nat) (s : State) :
    (noticeRoute o wasSet count s).now = s.now ∧
    (noticeRoute o wasSet count s).mode = s.mode ∧
    (noticeRoute o wasSet count s).activity = s.activity ∧
    (noticeRoute o wasSet count s).tables = s.tables ∧
    (noticeRoute o wasSet count s).tracker = s.tracker ∧
    (noticeRoute o wasSet count s).lots = s.lots ∧
    (noticeRoute o wasSet count s).arbiter = s.arbiter ∧
    (noticeRoute o wasSet count s).belt = s.belt ∧
    (noticeRoute o wasSet count s).head = s.head ∧
    (noticeRoute o wasSet count s).filtration = s.filtration ∧
    (noticeRoute o wasSet count s).engine = s.engine ∧
    (noticeRoute o wasSet count s).router = s.router ∧
    (noticeRoute o wasSet count s).coalescer = s.coalescer ∧
    (noticeRoute o wasSet count s).cellPort.state = s.cellPort.state ∧
    (noticeRoute o wasSet count s).plantPort.state = s.plantPort.state ∧
    (noticeRoute o wasSet count s).eeprom = s.eeprom ∧
    (noticeRoute o wasSet count s).draws = s.draws ∧
    (noticeRoute o wasSet count s).raised = s.raised ∧
    (noticeRoute o wasSet count s).handed = s.handed ∧
    (noticeRoute o wasSet count s).pending = s.pending := by
  unfold noticeRoute
  repeat' split
  all_goals simp
@[simp] theorem noticeRoute_now (o : Occurrence) (wasSet : Bool) (count : Nat) (s : State) : (noticeRoute o wasSet count s).now = s.now := (noticeRoute_frame o wasSet count s).1
@[simp] theorem noticeRoute_mode (o : Occurrence) (wasSet : Bool) (count : Nat) (s : State) : (noticeRoute o wasSet count s).mode = s.mode := (noticeRoute_frame o wasSet count s).2.1
@[simp] theorem noticeRoute_activity (o : Occurrence) (wasSet : Bool) (count : Nat) (s : State) : (noticeRoute o wasSet count s).activity = s.activity := (noticeRoute_frame o wasSet count s).2.2.1
@[simp] theorem noticeRoute_tables (o : Occurrence) (wasSet : Bool) (count : Nat) (s : State) : (noticeRoute o wasSet count s).tables = s.tables := (noticeRoute_frame o wasSet count s).2.2.2.1
@[simp] theorem noticeRoute_tracker (o : Occurrence) (wasSet : Bool) (count : Nat) (s : State) : (noticeRoute o wasSet count s).tracker = s.tracker := (noticeRoute_frame o wasSet count s).2.2.2.2.1
@[simp] theorem noticeRoute_lots (o : Occurrence) (wasSet : Bool) (count : Nat) (s : State) : (noticeRoute o wasSet count s).lots = s.lots := (noticeRoute_frame o wasSet count s).2.2.2.2.2.1
@[simp] theorem noticeRoute_arbiter (o : Occurrence) (wasSet : Bool) (count : Nat) (s : State) : (noticeRoute o wasSet count s).arbiter = s.arbiter := (noticeRoute_frame o wasSet count s).2.2.2.2.2.2.1
@[simp] theorem noticeRoute_belt (o : Occurrence) (wasSet : Bool) (count : Nat) (s : State) : (noticeRoute o wasSet count s).belt = s.belt := (noticeRoute_frame o wasSet count s).2.2.2.2.2.2.2.1
@[simp] theorem noticeRoute_head (o : Occurrence) (wasSet : Bool) (count : Nat) (s : State) : (noticeRoute o wasSet count s).head = s.head := (noticeRoute_frame o wasSet count s).2.2.2.2.2.2.2.2.1
@[simp] theorem noticeRoute_filtration (o : Occurrence) (wasSet : Bool) (count : Nat) (s : State) : (noticeRoute o wasSet count s).filtration = s.filtration := (noticeRoute_frame o wasSet count s).2.2.2.2.2.2.2.2.2.1
@[simp] theorem noticeRoute_engine (o : Occurrence) (wasSet : Bool) (count : Nat) (s : State) : (noticeRoute o wasSet count s).engine = s.engine := (noticeRoute_frame o wasSet count s).2.2.2.2.2.2.2.2.2.2.1
@[simp] theorem noticeRoute_router (o : Occurrence) (wasSet : Bool) (count : Nat) (s : State) : (noticeRoute o wasSet count s).router = s.router := (noticeRoute_frame o wasSet count s).2.2.2.2.2.2.2.2.2.2.2.1
@[simp] theorem noticeRoute_coalescer (o : Occurrence) (wasSet : Bool) (count : Nat) (s : State) : (noticeRoute o wasSet count s).coalescer = s.coalescer := (noticeRoute_frame o wasSet count s).2.2.2.2.2.2.2.2.2.2.2.2.1
@[simp] theorem noticeRoute_cellState (o : Occurrence) (wasSet : Bool) (count : Nat) (s : State) : (noticeRoute o wasSet count s).cellPort.state = s.cellPort.state := (noticeRoute_frame o wasSet count s).2.2.2.2.2.2.2.2.2.2.2.2.2.1
@[simp] theorem noticeRoute_plantState (o : Occurrence) (wasSet : Bool) (count : Nat) (s : State) : (noticeRoute o wasSet count s).plantPort.state = s.plantPort.state := (noticeRoute_frame o wasSet count s).2.2.2.2.2.2.2.2.2.2.2.2.2.2.1
@[simp] theorem noticeRoute_eeprom (o : Occurrence) (wasSet : Bool) (count : Nat) (s : State) : (noticeRoute o wasSet count s).eeprom = s.eeprom := (noticeRoute_frame o wasSet count s).2.2.2.2.2.2.2.2.2.2.2.2.2.2.2.1
@[simp] theorem noticeRoute_draws (o : Occurrence) (wasSet : Bool) (count : Nat) (s : State) : (noticeRoute o wasSet count s).draws = s.draws := (noticeRoute_frame o wasSet count s).2.2.2.2.2.2.2.2.2.2.2.2.2.2.2.2.1
@[simp] theorem noticeRoute_raised (o : Occurrence) (wasSet : Bool) (count : Nat) (s : State) : (noticeRoute o wasSet count s).raised = s.raised := (noticeRoute_frame o wasSet count s).2.2.2.2.2.2.2.2.2.2.2.2.2.2.2.2.2.1
@[simp] theorem noticeRoute_handed (o : Occurrence) (wasSet : Bool) (count : Nat) (s : State) : (noticeRoute o wasSet count s).handed = s.handed := (noticeRoute_frame o wasSet count s).2.2.2.2.2.2.2.2.2.2.2.2.2.2.2.2.2.2.1
@[simp] theorem noticeRoute_pending (o : Occurrence) (wasSet : Bool) (count : Nat) (s : State) : (noticeRoute o wasSet count s).pending = s.pending := (noticeRoute_frame o wasSet count s).2.2.2.2.2.2.2.2.2.2.2.2.2.2.2.2.2.2.2

theorem takeOccurrence_frame (o : Occurrence) (s : State) :
    (takeOccurrence o s).now = s.now ∧
    (takeOccurrence o s).mode = s.mode ∧
    (takeOccurrence o s).activity = s.activity ∧
    (takeOccurrence o s).tables = s.tables ∧
    (takeOccurrence o s).tracker.last = s.tracker.last ∧
    (takeOccurrence o s).tracker.acc = s.tracker.acc ∧
    (takeOccurrence o s).filtration = s.filtration ∧
    (takeOccurrence o s).cellPort.state = s.cellPort.state ∧
    (takeOccurrence o s).plantPort.state = s.plantPort.state ∧
    (takeOccurrence o s).eeprom = s.eeprom ∧
    (takeOccurrence o s).draws = s.draws ∧
    (takeOccurrence o s).pending = s.pending := by
  unfold takeOccurrence
  repeat' split
  all_goals simp
@[simp] theorem takeOccurrence_now (o : Occurrence) (s : State) : (takeOccurrence o s).now = s.now := (takeOccurrence_frame o s).1
@[simp] theorem takeOccurrence_mode (o : Occurrence) (s : State) : (takeOccurrence o s).mode = s.mode := (takeOccurrence_frame o s).2.1
@[simp] theorem takeOccurrence_activity (o : Occurrence) (s : State) : (takeOccurrence o s).activity = s.activity := (takeOccurrence_frame o s).2.2.1
@[simp] theorem takeOccurrence_tables (o : Occurrence) (s : State) : (takeOccurrence o s).tables = s.tables := (takeOccurrence_frame o s).2.2.2.1
@[simp] theorem takeOccurrence_last (o : Occurrence) (s : State) : (takeOccurrence o s).tracker.last = s.tracker.last := (takeOccurrence_frame o s).2.2.2.2.1
@[simp] theorem takeOccurrence_acc (o : Occurrence) (s : State) : (takeOccurrence o s).tracker.acc = s.tracker.acc := (takeOccurrence_frame o s).2.2.2.2.2.1
@[simp] theorem takeOccurrence_filtration (o : Occurrence) (s : State) : (takeOccurrence o s).filtration = s.filtration := (takeOccurrence_frame o s).2.2.2.2.2.2.1
@[simp] theorem takeOccurrence_cellState (o : Occurrence) (s : State) : (takeOccurrence o s).cellPort.state = s.cellPort.state := (takeOccurrence_frame o s).2.2.2.2.2.2.2.1
@[simp] theorem takeOccurrence_plantState (o : Occurrence) (s : State) : (takeOccurrence o s).plantPort.state = s.plantPort.state := (takeOccurrence_frame o s).2.2.2.2.2.2.2.2.1
@[simp] theorem takeOccurrence_eeprom (o : Occurrence) (s : State) : (takeOccurrence o s).eeprom = s.eeprom := (takeOccurrence_frame o s).2.2.2.2.2.2.2.2.2.1
@[simp] theorem takeOccurrence_draws (o : Occurrence) (s : State) : (takeOccurrence o s).draws = s.draws := (takeOccurrence_frame o s).2.2.2.2.2.2.2.2.2.2.1
@[simp] theorem takeOccurrence_pending (o : Occurrence) (s : State) : (takeOccurrence o s).pending = s.pending := (takeOccurrence_frame o s).2.2.2.2.2.2.2.2.2.2.2

theorem takeOccurrences_frame (a1 : Nat) (s : State) :
    (takeOccurrences a1 s).now = s.now ∧
    (takeOccurrences a1 s).mode = s.mode ∧
    (takeOccurrences a1 s).activity = s.activity ∧
    (takeOccurrences a1 s).tables = s.tables ∧
    (takeOccurrences a1 s).tracker.last = s.tracker.last ∧
    (takeOccurrences a1 s).tracker.acc = s.tracker.acc ∧
    (takeOccurrences a1 s).filtration = s.filtration ∧
    (takeOccurrences a1 s).cellPort.state = s.cellPort.state ∧
    (takeOccurrences a1 s).plantPort.state = s.plantPort.state ∧
    (takeOccurrences a1 s).eeprom = s.eeprom ∧
    (takeOccurrences a1 s).draws = s.draws ∧
    (takeOccurrences a1 s).pending = s.pending := by
  induction a1 generalizing s with
  | zero => simp [takeOccurrences]
  | succ n ih =>
    unfold takeOccurrences
    split
    · simp
    · rename_i o rest _
      have := ih (takeOccurrence o { s with raised := rest })
      simpa using this
@[simp] theorem takeOccurrences_now (a1 : Nat) (s : State) : (takeOccurrences a1 s).now = s.now := (takeOccurrences_frame a1 s).1
@[simp] theorem takeOccurrences_mode (a1 : Nat) (s : State) : (takeOccurrences a1 s).mode = s.mode := (takeOccurrences_frame a1 s).2.1
@[simp] theorem takeOccurrences_activity (a1 : Nat) (s : State) : (takeOccurrences a1 s).activity = s.activity := (takeOccurrences_frame a1 s).2.2.1
@[simp] theorem takeOccurrences_tables (a1 : Nat) (s : State) : (takeOccurrences a1 s).tables = s.tables := (takeOccurrences_frame a1 s).2.2.2.1
@[simp] theorem takeOccurrences_last (a1 : Nat) (s : State) : (takeOccurrences a1 s).tracker.last = s.tracker.last := (takeOccurrences_frame a1 s).2.2.2.2.1
@[simp] theorem takeOccurrences_acc (a1 : Nat) (s : State) : (takeOccurrences a1 s).tracker.acc = s.tracker.acc := (takeOccurrences_frame a1 s).2.2.2.2.2.1
@[simp] theorem takeOccurrences_filtration (a1 : Nat) (s : State) : (takeOccurrences a1 s).filtration = s.filtration := (takeOccurrences_frame a1 s).2.2.2.2.2.2.1
@[simp] theorem takeOccurrences_cellState (a1 : Nat) (s : State) : (takeOccurrences a1 s).cellPort.state = s.cellPort.state := (takeOccurrences_frame a1 s).2.2.2.2.2.2.2.1
@[simp] theorem takeOccurrences_plantState (a1 : Nat) (s : State) : (takeOccurrences a1 s).plantPort.state = s.plantPort.state := (takeOccurrences_frame a1 s).2.2.2.2.2.2.2.2.1
@[simp] theorem takeOccurrences_eeprom (a1 : Nat) (s : State) : (takeOccurrences a1 s).eeprom = s.eeprom := (takeOccurrences_frame a1 s).2.2.2.2.2.2.2.2.2.1
@[simp] theorem takeOccurrences_draws (a1 : Nat) (s : State) : (takeOccurrences a1 s).draws = s.draws := (takeOccurrences_frame a1 s).2.2.2.2.2.2.2.2.2.2.1
@[simp] theorem takeOccurrences_pending (a1 : Nat) (s : State) : (takeOccurrences a1 s).pending = s.pending := (takeOccurrences_frame a1 s).2.2.2.2.2.2.2.2.2.2.2

theorem routeAll_frame (s : State) :
    (routeAll s).now = s.now ∧
    (routeAll s).mode = s.mode ∧
    (routeAll s).activity = s.activity ∧
    (routeAll s).tables = s.tables ∧
    (routeAll s).tracker.last = s.tracker.last ∧
    (routeAll s).tracker.acc = s.tracker.acc ∧
    (routeAll s).filtration = s.filtration ∧
    (routeAll s).cellPort.state = s.cellPort.state ∧
    (routeAll s).plantPort.state = s.plantPort.state ∧
    (routeAll s).eeprom = s.eeprom ∧
    (routeAll s).draws = s.draws ∧
    (routeAll s).pending = s.pending := by
  simp [routeAll]
@[simp] theorem routeAll_now (s : State) : (routeAll s).now = s.now := (routeAll_frame s).1
@[simp] theorem routeAll_mode (s : State) : (routeAll s).mode = s.mode := (routeAll_frame s).2.1
@[simp] theorem routeAll_activity (s : State) : (routeAll s).activity = s.activity := (routeAll_frame s).2.2.1
@[simp] theorem routeAll_tables (s : State) : (routeAll s).tables = s.tables := (routeAll_frame s).2.2.2.1
@[simp] theorem routeAll_last (s : State) : (routeAll s).tracker.last = s.tracker.last := (routeAll_frame s).2.2.2.2.1
@[simp] theorem routeAll_acc (s : State) : (routeAll s).tracker.acc = s.tracker.acc := (routeAll_frame s).2.2.2.2.2.1
@[simp] theorem routeAll_filtration (s : State) : (routeAll s).filtration = s.filtration := (routeAll_frame s).2.2.2.2.2.2.1
@[simp] theorem routeAll_cellState (s : State) : (routeAll s).cellPort.state = s.cellPort.state := (routeAll_frame s).2.2.2.2.2.2.2.1
@[simp] theorem routeAll_plantState (s : State) : (routeAll s).plantPort.state = s.plantPort.state := (routeAll_frame s).2.2.2.2.2.2.2.2.1
@[simp] theorem routeAll_eeprom (s : State) : (routeAll s).eeprom = s.eeprom := (routeAll_frame s).2.2.2.2.2.2.2.2.2.1
@[simp] theorem routeAll_draws (s : State) : (routeAll s).draws = s.draws := (routeAll_frame s).2.2.2.2.2.2.2.2.2.2.1
@[simp] theorem routeAll_pending (s : State) : (routeAll s).pending = s.pending := (routeAll_frame s).2.2.2.2.2.2.2.2.2.2.2

theorem complete_frame (s : State) :
    (complete s).now = s.now ∧
    (complete s).mode = s.mode ∧
    (complete s).activity = s.activity ∧
    (complete s).tables = s.tables ∧
    (complete s).tracker.last = s.tracker.last ∧
    (complete s).tracker.acc = s.tracker.acc ∧
    (complete s).filtration = s.filtration ∧
    (complete s).cellPort.state = s.cellPort.state ∧
    (complete s).plantPort.state = s.plantPort.state ∧
    (complete s).eeprom = s.eeprom ∧
    (complete s).draws = s.draws ∧
    (complete s).pending = s.pending := by
  simp [complete]
@[simp] theorem complete_now (s : State) : (complete s).now = s.now := (complete_frame s).1
@[simp] theorem complete_mode (s : State) : (complete s).mode = s.mode := (complete_frame s).2.1
@[simp] theorem complete_activity (s : State) : (complete s).activity = s.activity := (complete_frame s).2.2.1
@[simp] theorem complete_tables (s : State) : (complete s).tables = s.tables := (complete_frame s).2.2.2.1
@[simp] theorem complete_last (s : State) : (complete s).tracker.last = s.tracker.last := (complete_frame s).2.2.2.2.1
@[simp] theorem complete_acc (s : State) : (complete s).tracker.acc = s.tracker.acc := (complete_frame s).2.2.2.2.2.1
@[simp] theorem complete_filtration (s : State) : (complete s).filtration = s.filtration := (complete_frame s).2.2.2.2.2.2.1
@[simp] theorem complete_cellState (s : State) : (complete s).cellPort.state = s.cellPort.state := (complete_frame s).2.2.2.2.2.2.2.1
@[simp] theorem complete_plantState (s : State) : (complete s).plantPort.state = s.plantPort.state := (complete_frame s).2.2.2.2.2.2.2.2.1
@[simp] theorem complete_eeprom (s : State) : (complete s).eeprom = s.eeprom := (complete_frame s).2.2.2.2.2.2.2.2.2.1
@[simp] theorem complete_draws (s : State) : (complete s).draws = s.draws := (complete_frame s).2.2.2.2.2.2.2.2.2.2.1
@[simp] theorem complete_pending (s : State) : (complete s).pending = s.pending := (complete_frame s).2.2.2.2.2.2.2.2.2.2.2

theorem shiftPitch_frame (s : State) :
    (shiftPitch s).now = s.now ∧
    (shiftPitch s).mode = s.mode ∧
    (shiftPitch s).activity = s.activity ∧
    (shiftPitch s).tables = s.tables ∧
    (shiftPitch s).tracker.last = s.tracker.last ∧
    (shiftPitch s).tracker.acc = s.tracker.acc ∧
    (shiftPitch s).arbiter = s.arbiter ∧
    (shiftPitch s).belt = s.belt ∧
    (shiftPitch s).engine = s.engine ∧
    (shiftPitch s).router = s.router ∧
    (shiftPitch s).cellPort.state = s.cellPort.state ∧
    (shiftPitch s).plantPort.state = s.plantPort.state ∧
    (shiftPitch s).eeprom = s.eeprom ∧
    (shiftPitch s).draws = s.draws ∧
    (shiftPitch s).pending = s.pending := by
  unfold shiftPitch
  repeat' split
  all_goals simp
@[simp] theorem shiftPitch_now (s : State) : (shiftPitch s).now = s.now := (shiftPitch_frame s).1
@[simp] theorem shiftPitch_mode (s : State) : (shiftPitch s).mode = s.mode := (shiftPitch_frame s).2.1
@[simp] theorem shiftPitch_activity (s : State) : (shiftPitch s).activity = s.activity := (shiftPitch_frame s).2.2.1
@[simp] theorem shiftPitch_tables (s : State) : (shiftPitch s).tables = s.tables := (shiftPitch_frame s).2.2.2.1
@[simp] theorem shiftPitch_last (s : State) : (shiftPitch s).tracker.last = s.tracker.last := (shiftPitch_frame s).2.2.2.2.1
@[simp] theorem shiftPitch_acc (s : State) : (shiftPitch s).tracker.acc = s.tracker.acc := (shiftPitch_frame s).2.2.2.2.2.1
@[simp] theorem shiftPitch_arbiter (s : State) : (shiftPitch s).arbiter = s.arbiter := (shiftPitch_frame s).2.2.2.2.2.2.1
@[simp] theorem shiftPitch_belt (s : State) : (shiftPitch s).belt = s.belt := (shiftPitch_frame s).2.2.2.2.2.2.2.1
@[simp] theorem shiftPitch_engine (s : State) : (shiftPitch s).engine = s.engine := (shiftPitch_frame s).2.2.2.2.2.2.2.2.1
@[simp] theorem shiftPitch_router (s : State) : (shiftPitch s).router = s.router := (shiftPitch_frame s).2.2.2.2.2.2.2.2.2.1
@[simp] theorem shiftPitch_cellState (s : State) : (shiftPitch s).cellPort.state = s.cellPort.state := (shiftPitch_frame s).2.2.2.2.2.2.2.2.2.2.1
@[simp] theorem shiftPitch_plantState (s : State) : (shiftPitch s).plantPort.state = s.plantPort.state := (shiftPitch_frame s).2.2.2.2.2.2.2.2.2.2.2.1
@[simp] theorem shiftPitch_eeprom (s : State) : (shiftPitch s).eeprom = s.eeprom := (shiftPitch_frame s).2.2.2.2.2.2.2.2.2.2.2.2.1
@[simp] theorem shiftPitch_draws (s : State) : (shiftPitch s).draws = s.draws := (shiftPitch_frame s).2.2.2.2.2.2.2.2.2.2.2.2.2.1
@[simp] theorem shiftPitch_pending (s : State) : (shiftPitch s).pending = s.pending := (shiftPitch_frame s).2.2.2.2.2.2.2.2.2.2.2.2.2.2

theorem shiftPitches_frame (a1 : Nat) (s : State) :
    (shiftPitches a1 s).now = s.now ∧
    (shiftPitches a1 s).mode = s.mode ∧
    (shiftPitches a1 s).activity = s.activity ∧
    (shiftPitches a1 s).tables = s.tables ∧
    (shiftPitches a1 s).tracker.last = s.tracker.last ∧
    (shiftPitches a1 s).tracker.acc = s.tracker.acc ∧
    (shiftPitches a1 s).arbiter = s.arbiter ∧
    (shiftPitches a1 s).belt = s.belt ∧
    (shiftPitches a1 s).engine = s.engine ∧
    (shiftPitches a1 s).router = s.router ∧
    (shiftPitches a1 s).cellPort.state = s.cellPort.state ∧
    (shiftPitches a1 s).plantPort.state = s.plantPort.state ∧
    (shiftPitches a1 s).eeprom = s.eeprom ∧
    (shiftPitches a1 s).draws = s.draws ∧
    (shiftPitches a1 s).pending = s.pending := by
  induction a1 generalizing s with
  | zero => simp [shiftPitches]
  | succ n ih =>
    have := ih (shiftPitch s)
    simpa [shiftPitches] using this
@[simp] theorem shiftPitches_now (a1 : Nat) (s : State) : (shiftPitches a1 s).now = s.now := (shiftPitches_frame a1 s).1
@[simp] theorem shiftPitches_mode (a1 : Nat) (s : State) : (shiftPitches a1 s).mode = s.mode := (shiftPitches_frame a1 s).2.1
@[simp] theorem shiftPitches_activity (a1 : Nat) (s : State) : (shiftPitches a1 s).activity = s.activity := (shiftPitches_frame a1 s).2.2.1
@[simp] theorem shiftPitches_tables (a1 : Nat) (s : State) : (shiftPitches a1 s).tables = s.tables := (shiftPitches_frame a1 s).2.2.2.1
@[simp] theorem shiftPitches_last (a1 : Nat) (s : State) : (shiftPitches a1 s).tracker.last = s.tracker.last := (shiftPitches_frame a1 s).2.2.2.2.1
@[simp] theorem shiftPitches_acc (a1 : Nat) (s : State) : (shiftPitches a1 s).tracker.acc = s.tracker.acc := (shiftPitches_frame a1 s).2.2.2.2.2.1
@[simp] theorem shiftPitches_arbiter (a1 : Nat) (s : State) : (shiftPitches a1 s).arbiter = s.arbiter := (shiftPitches_frame a1 s).2.2.2.2.2.2.1
@[simp] theorem shiftPitches_belt (a1 : Nat) (s : State) : (shiftPitches a1 s).belt = s.belt := (shiftPitches_frame a1 s).2.2.2.2.2.2.2.1
@[simp] theorem shiftPitches_engine (a1 : Nat) (s : State) : (shiftPitches a1 s).engine = s.engine := (shiftPitches_frame a1 s).2.2.2.2.2.2.2.2.1
@[simp] theorem shiftPitches_router (a1 : Nat) (s : State) : (shiftPitches a1 s).router = s.router := (shiftPitches_frame a1 s).2.2.2.2.2.2.2.2.2.1
@[simp] theorem shiftPitches_cellState (a1 : Nat) (s : State) : (shiftPitches a1 s).cellPort.state = s.cellPort.state := (shiftPitches_frame a1 s).2.2.2.2.2.2.2.2.2.2.1
@[simp] theorem shiftPitches_plantState (a1 : Nat) (s : State) : (shiftPitches a1 s).plantPort.state = s.plantPort.state := (shiftPitches_frame a1 s).2.2.2.2.2.2.2.2.2.2.2.1
@[simp] theorem shiftPitches_eeprom (a1 : Nat) (s : State) : (shiftPitches a1 s).eeprom = s.eeprom := (shiftPitches_frame a1 s).2.2.2.2.2.2.2.2.2.2.2.2.1
@[simp] theorem shiftPitches_draws (a1 : Nat) (s : State) : (shiftPitches a1 s).draws = s.draws := (shiftPitches_frame a1 s).2.2.2.2.2.2.2.2.2.2.2.2.2.1
@[simp] theorem shiftPitches_pending (a1 : Nat) (s : State) : (shiftPitches a1 s).pending = s.pending := (shiftPitches_frame a1 s).2.2.2.2.2.2.2.2.2.2.2.2.2.2

theorem sampleCompleted_frame (s : State) :
    (sampleCompleted s).now = s.now ∧
    (sampleCompleted s).mode = s.mode ∧
    (sampleCompleted s).activity = s.activity ∧
    (sampleCompleted s).tables = s.tables ∧
    (sampleCompleted s).tracker.last = s.tracker.last ∧
    (sampleCompleted s).tracker.acc = s.tracker.acc ∧
    (sampleCompleted s).filtration = s.filtration ∧
    (sampleCompleted s).engine = s.engine ∧
    (sampleCompleted s).router = s.router ∧
    (sampleCompleted s).cellPort.state = s.cellPort.state ∧
    (sampleCompleted s).plantPort.state = s.plantPort.state ∧
    (sampleCompleted s).eeprom = s.eeprom ∧
    (sampleCompleted s).draws = s.draws ∧
    (sampleCompleted s).pending = s.pending := by
  simp [sampleCompleted]
@[simp] theorem sampleCompleted_now (s : State) : (sampleCompleted s).now = s.now := (sampleCompleted_frame s).1
@[simp] theorem sampleCompleted_mode (s : State) : (sampleCompleted s).mode = s.mode := (sampleCompleted_frame s).2.1
@[simp] theorem sampleCompleted_activity (s : State) : (sampleCompleted s).activity = s.activity := (sampleCompleted_frame s).2.2.1
@[simp] theorem sampleCompleted_tables (s : State) : (sampleCompleted s).tables = s.tables := (sampleCompleted_frame s).2.2.2.1
@[simp] theorem sampleCompleted_last (s : State) : (sampleCompleted s).tracker.last = s.tracker.last := (sampleCompleted_frame s).2.2.2.2.1
@[simp] theorem sampleCompleted_acc (s : State) : (sampleCompleted s).tracker.acc = s.tracker.acc := (sampleCompleted_frame s).2.2.2.2.2.1
@[simp] theorem sampleCompleted_filtration (s : State) : (sampleCompleted s).filtration = s.filtration := (sampleCompleted_frame s).2.2.2.2.2.2.1
@[simp] theorem sampleCompleted_engine (s : State) : (sampleCompleted s).engine = s.engine := (sampleCompleted_frame s).2.2.2.2.2.2.2.1
@[simp] theorem sampleCompleted_router (s : State) : (sampleCompleted s).router = s.router := (sampleCompleted_frame s).2.2.2.2.2.2.2.2.1
@[simp] theorem sampleCompleted_cellState (s : State) : (sampleCompleted s).cellPort.state = s.cellPort.state := (sampleCompleted_frame s).2.2.2.2.2.2.2.2.2.1
@[simp] theorem sampleCompleted_plantState (s : State) : (sampleCompleted s).plantPort.state = s.plantPort.state := (sampleCompleted_frame s).2.2.2.2.2.2.2.2.2.2.1
@[simp] theorem sampleCompleted_eeprom (s : State) : (sampleCompleted s).eeprom = s.eeprom := (sampleCompleted_frame s).2.2.2.2.2.2.2.2.2.2.2.1
@[simp] theorem sampleCompleted_draws (s : State) : (sampleCompleted s).draws = s.draws := (sampleCompleted_frame s).2.2.2.2.2.2.2.2.2.2.2.2.1
@[simp] theorem sampleCompleted_pending (s : State) : (sampleCompleted s).pending = s.pending := (sampleCompleted_frame s).2.2.2.2.2.2.2.2.2.2.2.2.2

theorem firstSample_frame (count : Word) (s : State) :
    (firstSample count s).now = s.now ∧
    (firstSample count s).mode = s.mode ∧
    (firstSample count s).activity = s.activity ∧
    (firstSample count s).tables = s.tables ∧
    (firstSample count s).filtration = s.filtration ∧
    (firstSample count s).engine = s.engine ∧
    (firstSample count s).router = s.router ∧
    (firstSample count s).cellPort.state = s.cellPort.state ∧
    (firstSample count s).plantPort.state = s.plantPort.state ∧
    (firstSample count s).eeprom = s.eeprom ∧
    (firstSample count s).draws = s.draws ∧
    (firstSample count s).pending = s.pending := by
  simp [firstSample]
@[simp] theorem firstSample_now (count : Word) (s : State) : (firstSample count s).now = s.now := (firstSample_frame count s).1
@[simp] theorem firstSample_mode (count : Word) (s : State) : (firstSample count s).mode = s.mode := (firstSample_frame count s).2.1
@[simp] theorem firstSample_activity (count : Word) (s : State) : (firstSample count s).activity = s.activity := (firstSample_frame count s).2.2.1
@[simp] theorem firstSample_tables (count : Word) (s : State) : (firstSample count s).tables = s.tables := (firstSample_frame count s).2.2.2.1
@[simp] theorem firstSample_filtration (count : Word) (s : State) : (firstSample count s).filtration = s.filtration := (firstSample_frame count s).2.2.2.2.1
@[simp] theorem firstSample_engine (count : Word) (s : State) : (firstSample count s).engine = s.engine := (firstSample_frame count s).2.2.2.2.2.1
@[simp] theorem firstSample_router (count : Word) (s : State) : (firstSample count s).router = s.router := (firstSample_frame count s).2.2.2.2.2.2.1
@[simp] theorem firstSample_cellState (count : Word) (s : State) : (firstSample count s).cellPort.state = s.cellPort.state := (firstSample_frame count s).2.2.2.2.2.2.2.1
@[simp] theorem firstSample_plantState (count : Word) (s : State) : (firstSample count s).plantPort.state = s.plantPort.state := (firstSample_frame count s).2.2.2.2.2.2.2.2.1
@[simp] theorem firstSample_eeprom (count : Word) (s : State) : (firstSample count s).eeprom = s.eeprom := (firstSample_frame count s).2.2.2.2.2.2.2.2.2.1
@[simp] theorem firstSample_draws (count : Word) (s : State) : (firstSample count s).draws = s.draws := (firstSample_frame count s).2.2.2.2.2.2.2.2.2.2.1
@[simp] theorem firstSample_pending (count : Word) (s : State) : (firstSample count s).pending = s.pending := (firstSample_frame count s).2.2.2.2.2.2.2.2.2.2.2

theorem rejectSample_frame (s : State) :
    (rejectSample s).now = s.now ∧
    (rejectSample s).mode = s.mode ∧
    (rejectSample s).activity = s.activity ∧
    (rejectSample s).tables = s.tables ∧
    (rejectSample s).tracker = s.tracker ∧
    (rejectSample s).lots = s.lots ∧
    (rejectSample s).arbiter = s.arbiter ∧
    (rejectSample s).belt = s.belt ∧
    (rejectSample s).head = s.head ∧
    (rejectSample s).filtration = s.filtration ∧
    (rejectSample s).engine = s.engine ∧
    (rejectSample s).router = s.router ∧
    (rejectSample s).coalescer = s.coalescer ∧
    (rejectSample s).cellPort = s.cellPort ∧
    (rejectSample s).plantPort = s.plantPort ∧
    (rejectSample s).eeprom = s.eeprom ∧
    (rejectSample s).draws = s.draws ∧
    (rejectSample s).handed = s.handed ∧
    (rejectSample s).pending = s.pending := by
  simp [rejectSample]
@[simp] theorem rejectSample_now (s : State) : (rejectSample s).now = s.now := (rejectSample_frame s).1
@[simp] theorem rejectSample_mode (s : State) : (rejectSample s).mode = s.mode := (rejectSample_frame s).2.1
@[simp] theorem rejectSample_activity (s : State) : (rejectSample s).activity = s.activity := (rejectSample_frame s).2.2.1
@[simp] theorem rejectSample_tables (s : State) : (rejectSample s).tables = s.tables := (rejectSample_frame s).2.2.2.1
@[simp] theorem rejectSample_tracker (s : State) : (rejectSample s).tracker = s.tracker := (rejectSample_frame s).2.2.2.2.1
@[simp] theorem rejectSample_lots (s : State) : (rejectSample s).lots = s.lots := (rejectSample_frame s).2.2.2.2.2.1
@[simp] theorem rejectSample_arbiter (s : State) : (rejectSample s).arbiter = s.arbiter := (rejectSample_frame s).2.2.2.2.2.2.1
@[simp] theorem rejectSample_belt (s : State) : (rejectSample s).belt = s.belt := (rejectSample_frame s).2.2.2.2.2.2.2.1
@[simp] theorem rejectSample_head (s : State) : (rejectSample s).head = s.head := (rejectSample_frame s).2.2.2.2.2.2.2.2.1
@[simp] theorem rejectSample_filtration (s : State) : (rejectSample s).filtration = s.filtration := (rejectSample_frame s).2.2.2.2.2.2.2.2.2.1
@[simp] theorem rejectSample_engine (s : State) : (rejectSample s).engine = s.engine := (rejectSample_frame s).2.2.2.2.2.2.2.2.2.2.1
@[simp] theorem rejectSample_router (s : State) : (rejectSample s).router = s.router := (rejectSample_frame s).2.2.2.2.2.2.2.2.2.2.2.1
@[simp] theorem rejectSample_coalescer (s : State) : (rejectSample s).coalescer = s.coalescer := (rejectSample_frame s).2.2.2.2.2.2.2.2.2.2.2.2.1
@[simp] theorem rejectSample_cellPort (s : State) : (rejectSample s).cellPort = s.cellPort := (rejectSample_frame s).2.2.2.2.2.2.2.2.2.2.2.2.2.1
@[simp] theorem rejectSample_plantPort (s : State) : (rejectSample s).plantPort = s.plantPort := (rejectSample_frame s).2.2.2.2.2.2.2.2.2.2.2.2.2.2.1
@[simp] theorem rejectSample_eeprom (s : State) : (rejectSample s).eeprom = s.eeprom := (rejectSample_frame s).2.2.2.2.2.2.2.2.2.2.2.2.2.2.2.1
@[simp] theorem rejectSample_draws (s : State) : (rejectSample s).draws = s.draws := (rejectSample_frame s).2.2.2.2.2.2.2.2.2.2.2.2.2.2.2.2.1
@[simp] theorem rejectSample_handed (s : State) : (rejectSample s).handed = s.handed := (rejectSample_frame s).2.2.2.2.2.2.2.2.2.2.2.2.2.2.2.2.2.1
@[simp] theorem rejectSample_pending (s : State) : (rejectSample s).pending = s.pending := (rejectSample_frame s).2.2.2.2.2.2.2.2.2.2.2.2.2.2.2.2.2.2

theorem acceptSample_frame (count : Word) (delta : Nat) (s : State) :
    (acceptSample count delta s).now = s.now ∧
    (acceptSample count delta s).mode = s.mode ∧
    (acceptSample count delta s).activity = s.activity ∧
    (acceptSample count delta s).tables = s.tables ∧
    (acceptSample count delta s).engine = s.engine ∧
    (acceptSample count delta s).router = s.router ∧
    (acceptSample count delta s).cellPort.state = s.cellPort.state ∧
    (acceptSample count delta s).plantPort.state = s.plantPort.state ∧
    (acceptSample count delta s).eeprom = s.eeprom ∧
    (acceptSample count delta s).draws = s.draws ∧
    (acceptSample count delta s).pending = s.pending := by
  simp [acceptSample]
@[simp] theorem acceptSample_now (count : Word) (delta : Nat) (s : State) : (acceptSample count delta s).now = s.now := (acceptSample_frame count delta s).1
@[simp] theorem acceptSample_mode (count : Word) (delta : Nat) (s : State) : (acceptSample count delta s).mode = s.mode := (acceptSample_frame count delta s).2.1
@[simp] theorem acceptSample_activity (count : Word) (delta : Nat) (s : State) : (acceptSample count delta s).activity = s.activity := (acceptSample_frame count delta s).2.2.1
@[simp] theorem acceptSample_tables (count : Word) (delta : Nat) (s : State) : (acceptSample count delta s).tables = s.tables := (acceptSample_frame count delta s).2.2.2.1
@[simp] theorem acceptSample_engine (count : Word) (delta : Nat) (s : State) : (acceptSample count delta s).engine = s.engine := (acceptSample_frame count delta s).2.2.2.2.1
@[simp] theorem acceptSample_router (count : Word) (delta : Nat) (s : State) : (acceptSample count delta s).router = s.router := (acceptSample_frame count delta s).2.2.2.2.2.1
@[simp] theorem acceptSample_cellState (count : Word) (delta : Nat) (s : State) : (acceptSample count delta s).cellPort.state = s.cellPort.state := (acceptSample_frame count delta s).2.2.2.2.2.2.1
@[simp] theorem acceptSample_plantState (count : Word) (delta : Nat) (s : State) : (acceptSample count delta s).plantPort.state = s.plantPort.state := (acceptSample_frame count delta s).2.2.2.2.2.2.2.1
@[simp] theorem acceptSample_eeprom (count : Word) (delta : Nat) (s : State) : (acceptSample count delta s).eeprom = s.eeprom := (acceptSample_frame count delta s).2.2.2.2.2.2.2.2.1
@[simp] theorem acceptSample_draws (count : Word) (delta : Nat) (s : State) : (acceptSample count delta s).draws = s.draws := (acceptSample_frame count delta s).2.2.2.2.2.2.2.2.2.1
@[simp] theorem acceptSample_pending (count : Word) (delta : Nat) (s : State) : (acceptSample count delta s).pending = s.pending := (acceptSample_frame count delta s).2.2.2.2.2.2.2.2.2.2

theorem opBeltSample_frame (count : Word) (s : State) :
    (opBeltSample count s).now = s.now ∧
    (opBeltSample count s).mode = s.mode ∧
    (opBeltSample count s).activity = s.activity ∧
    (opBeltSample count s).tables = s.tables ∧
    (opBeltSample count s).engine = s.engine ∧
    (opBeltSample count s).router = s.router ∧
    (opBeltSample count s).cellPort.state = s.cellPort.state ∧
    (opBeltSample count s).plantPort.state = s.plantPort.state ∧
    (opBeltSample count s).eeprom = s.eeprom ∧
    (opBeltSample count s).draws = s.draws ∧
    (opBeltSample count s).pending = s.pending := by
  unfold opBeltSample
  repeat' split
  all_goals simp
@[simp] theorem opBeltSample_now (count : Word) (s : State) : (opBeltSample count s).now = s.now := (opBeltSample_frame count s).1
@[simp] theorem opBeltSample_mode (count : Word) (s : State) : (opBeltSample count s).mode = s.mode := (opBeltSample_frame count s).2.1
@[simp] theorem opBeltSample_activity (count : Word) (s : State) : (opBeltSample count s).activity = s.activity := (opBeltSample_frame count s).2.2.1
@[simp] theorem opBeltSample_tables (count : Word) (s : State) : (opBeltSample count s).tables = s.tables := (opBeltSample_frame count s).2.2.2.1
@[simp] theorem opBeltSample_engine (count : Word) (s : State) : (opBeltSample count s).engine = s.engine := (opBeltSample_frame count s).2.2.2.2.1
@[simp] theorem opBeltSample_router (count : Word) (s : State) : (opBeltSample count s).router = s.router := (opBeltSample_frame count s).2.2.2.2.2.1
@[simp] theorem opBeltSample_cellState (count : Word) (s : State) : (opBeltSample count s).cellPort.state = s.cellPort.state := (opBeltSample_frame count s).2.2.2.2.2.2.1
@[simp] theorem opBeltSample_plantState (count : Word) (s : State) : (opBeltSample count s).plantPort.state = s.plantPort.state := (opBeltSample_frame count s).2.2.2.2.2.2.2.1
@[simp] theorem opBeltSample_eeprom (count : Word) (s : State) : (opBeltSample count s).eeprom = s.eeprom := (opBeltSample_frame count s).2.2.2.2.2.2.2.2.1
@[simp] theorem opBeltSample_draws (count : Word) (s : State) : (opBeltSample count s).draws = s.draws := (opBeltSample_frame count s).2.2.2.2.2.2.2.2.2.1
@[simp] theorem opBeltSample_pending (count : Word) (s : State) : (opBeltSample count s).pending = s.pending := (opBeltSample_frame count s).2.2.2.2.2.2.2.2.2.2

end Sys2Proof.Machine
end

