-- ==== Sys2Proof/Laws/Serve.lean ====
section
/-! SUPPORT. What the management responder, the port pair and the line restart leave alone (Machine/Serve.lean, Machine/Ports.lean, Machine/Commands.lean). -/

namespace Sys2Proof.Machine

theorem reply_frame (node : Byte) (command : Nat) (r : Req) (st : Status) (data : List Byte) (s : State) :
    (reply node command r st data s).now = s.now ∧
    (reply node command r st data s).mode = s.mode ∧
    (reply node command r st data s).activity = s.activity ∧
    (reply node command r st data s).tables = s.tables ∧
    (reply node command r st data s).tracker = s.tracker ∧
    (reply node command r st data s).lots = s.lots ∧
    (reply node command r st data s).arbiter = s.arbiter ∧
    (reply node command r st data s).belt = s.belt ∧
    (reply node command r st data s).head = s.head ∧
    (reply node command r st data s).filtration = s.filtration ∧
    (reply node command r st data s).engine = s.engine ∧
    (reply node command r st data s).router = s.router ∧
    (reply node command r st data s).coalescer = s.coalescer ∧
    (reply node command r st data s).cellPort.state = s.cellPort.state ∧
    (reply node command r st data s).plantPort.state = s.plantPort.state ∧
    (reply node command r st data s).eeprom = s.eeprom ∧
    (reply node command r st data s).draws = s.draws ∧
    (reply node command r st data s).raised = s.raised ∧
    (reply node command r st data s).handed = s.handed ∧
    (reply node command r st data s).pending = s.pending := by
  simp [reply]
@[simp] theorem reply_now (node : Byte) (command : Nat) (r : Req) (st : Status) (data : List Byte) (s : State) : (reply node command r st data s).now = s.now := (reply_frame node command r st data s).1
@[simp] theorem reply_mode (node : Byte) (command : Nat) (r : Req) (st : Status) (data : List Byte) (s : State) : (reply node command r st data s).mode = s.mode := (reply_frame node command r st data s).2.1
@[simp] theorem reply_activity (node : Byte) (command : Nat) (r : Req) (st : Status) (data : List Byte) (s : State) : (reply node command r st data s).activity = s.activity := (reply_frame node command r st data s).2.2.1
@[simp] theorem reply_tables (node : Byte) (command : Nat) (r : Req) (st : Status) (data : List Byte) (s : State) : (reply node command r st data s).tables = s.tables := (reply_frame node command r st data s).2.2.2.1
@[simp] theorem reply_tracker (node : Byte) (command : Nat) (r : Req) (st : Status) (data : List Byte) (s : State) : (reply node command r st data s).tracker = s.tracker := (reply_frame node command r st data s).2.2.2.2.1
@[simp] theorem reply_lots (node : Byte) (command : Nat) (r : Req) (st : Status) (data : List Byte) (s : State) : (reply node command r st data s).lots = s.lots := (reply_frame node command r st data s).2.2.2.2.2.1
@[simp] theorem reply_arbiter (node : Byte) (command : Nat) (r : Req) (st : Status) (data : List Byte) (s : State) : (reply node command r st data s).arbiter = s.arbiter := (reply_frame node command r st data s).2.2.2.2.2.2.1
@[simp] theorem reply_belt (node : Byte) (command : Nat) (r : Req) (st : Status) (data : List Byte) (s : State) : (reply node command r st data s).belt = s.belt := (reply_frame node command r st data s).2.2.2.2.2.2.2.1
@[simp] theorem reply_head (node : Byte) (command : Nat) (r : Req) (st : Status) (data : List Byte) (s : State) : (reply node command r st data s).head = s.head := (reply_frame node command r st data s).2.2.2.2.2.2.2.2.1
@[simp] theorem reply_filtration (node : Byte) (command : Nat) (r : Req) (st : Status) (data : List Byte) (s : State) : (reply node command r st data s).filtration = s.filtration := (reply_frame node command r st data s).2.2.2.2.2.2.2.2.2.1
@[simp] theorem reply_engine (node : Byte) (command : Nat) (r : Req) (st : Status) (data : List Byte) (s : State) : (reply node command r st data s).engine = s.engine := (reply_frame node command r st data s).2.2.2.2.2.2.2.2.2.2.1
@[simp] theorem reply_router (node : Byte) (command : Nat) (r : Req) (st : Status) (data : List Byte) (s : State) : (reply node command r st data s).router = s.router := (reply_frame node command r st data s).2.2.2.2.2.2.2.2.2.2.2.1
@[simp] theorem reply_coalescer (node : Byte) (command : Nat) (r : Req) (st : Status) (data : List Byte) (s : State) : (reply node command r st data s).coalescer = s.coalescer := (reply_frame node command r st data s).2.2.2.2.2.2.2.2.2.2.2.2.1
@[simp] theorem reply_cellState (node : Byte) (command : Nat) (r : Req) (st : Status) (data : List Byte) (s : State) : (reply node command r st data s).cellPort.state = s.cellPort.state := (reply_frame node command r st data s).2.2.2.2.2.2.2.2.2.2.2.2.2.1
@[simp] theorem reply_plantState (node : Byte) (command : Nat) (r : Req) (st : Status) (data : List Byte) (s : State) : (reply node command r st data s).plantPort.state = s.plantPort.state := (reply_frame node command r st data s).2.2.2.2.2.2.2.2.2.2.2.2.2.2.1
@[simp] theorem reply_eeprom (node : Byte) (command : Nat) (r : Req) (st : Status) (data : List Byte) (s : State) : (reply node command r st data s).eeprom = s.eeprom := (reply_frame node command r st data s).2.2.2.2.2.2.2.2.2.2.2.2.2.2.2.1
@[simp] theorem reply_draws (node : Byte) (command : Nat) (r : Req) (st : Status) (data : List Byte) (s : State) : (reply node command r st data s).draws = s.draws := (reply_frame node command r st data s).2.2.2.2.2.2.2.2.2.2.2.2.2.2.2.2.1
@[simp] theorem reply_raised (node : Byte) (command : Nat) (r : Req) (st : Status) (data : List Byte) (s : State) : (reply node command r st data s).raised = s.raised := (reply_frame node command r st data s).2.2.2.2.2.2.2.2.2.2.2.2.2.2.2.2.2.1
@[simp] theorem reply_handed (node : Byte) (command : Nat) (r : Req) (st : Status) (data : List Byte) (s : State) : (reply node command r st data s).handed = s.handed := (reply_frame node command r st data s).2.2.2.2.2.2.2.2.2.2.2.2.2.2.2.2.2.2.1
@[simp] theorem reply_pending (node : Byte) (command : Nat) (r : Req) (st : Status) (data : List Byte) (s : State) : (reply node command r st data s).pending = s.pending := (reply_frame node command r st data s).2.2.2.2.2.2.2.2.2.2.2.2.2.2.2.2.2.2.2

theorem countServed_frame (st : Status) (s : State) :
    (countServed st s).now = s.now ∧
    (countServed st s).mode = s.mode ∧
    (countServed st s).activity = s.activity ∧
    (countServed st s).tables = s.tables ∧
    (countServed st s).tracker = s.tracker ∧
    (countServed st s).lots = s.lots ∧
    (countServed st s).arbiter = s.arbiter ∧
    (countServed st s).belt = s.belt ∧
    (countServed st s).head = s.head ∧
    (countServed st s).filtration = s.filtration ∧
    (countServed st s).engine = s.engine ∧
    (countServed st s).router = s.router ∧
    (countServed st s).notices = s.notices ∧
    (countServed st s).coalescer = s.coalescer ∧
    (countServed st s).cellPort = s.cellPort ∧
    (countServed st s).plantPort = s.plantPort ∧
    (countServed st s).eeprom = s.eeprom ∧
    (countServed st s).draws = s.draws ∧
    (countServed st s).raised = s.raised ∧
    (countServed st s).handed = s.handed ∧
    (countServed st s).pending = s.pending := by
  unfold countServed
  repeat' split
  all_goals simp
@[simp] theorem countServed_now (st : Status) (s : State) : (countServed st s).now = s.now := (countServed_frame st s).1
@[simp] theorem countServed_mode (st : Status) (s : State) : (countServed st s).mode = s.mode := (countServed_frame st s).2.1
@[simp] theorem countServed_activity (st : Status) (s : State) : (countServed st s).activity = s.activity := (countServed_frame st s).2.2.1
@[simp] theorem countServed_tables (st : Status) (s : State) : (countServed st s).tables = s.tables := (countServed_frame st s).2.2.2.1
@[simp] theorem countServed_tracker (st : Status) (s : State) : (countServed st s).tracker = s.tracker := (countServed_frame st s).2.2.2.2.1
@[simp] theorem countServed_lots (st : Status) (s : State) : (countServed st s).lots = s.lots := (countServed_frame st s).2.2.2.2.2.1
@[simp] theorem countServed_arbiter (st : Status) (s : State) : (countServed st s).arbiter = s.arbiter := (countServed_frame st s).2.2.2.2.2.2.1
@[simp] theorem countServed_belt (st : Status) (s : State) : (countServed st s).belt = s.belt := (countServed_frame st s).2.2.2.2.2.2.2.1
@[simp] theorem countServed_head (st : Status) (s : State) : (countServed st s).head = s.head := (countServed_frame st s).2.2.2.2.2.2.2.2.1
@[simp] theorem countServed_filtration (st : Status) (s : State) : (countServed st s).filtration = s.filtration := (countServed_frame st s).2.2.2.2.2.2.2.2.2.1
@[simp] theorem countServed_engine (st : Status) (s : State) : (countServed st s).engine = s.engine := (countServed_frame st s).2.2.2.2.2.2.2.2.2.2.1
@[simp] theorem countServed_router (st : Status) (s : State) : (countServed st s).router = s.router := (countServed_frame st s).2.2.2.2.2.2.2.2.2.2.2.1
@[simp] theorem countServed_notices (st : Status) (s : State) : (countServed st s).notices = s.notices := (countServed_frame st s).2.2.2.2.2.2.2.2.2.2.2.2.1
@[simp] theorem countServed_coalescer (st : Status) (s : State) : (countServed st s).coalescer = s.coalescer := (countServed_frame st s).2.2.2.2.2.2.2.2.2.2.2.2.2.1
@[simp] theorem countServed_cellPort (st : Status) (s : State) : (countServed st s).cellPort = s.cellPort := (countServed_frame st s).2.2.2.2.2.2.2.2.2.2.2.2.2.2.1
@[simp] theorem countServed_plantPort (st : Status) (s : State) : (countServed st s).plantPort = s.plantPort := (countServed_frame st s).2.2.2.2.2.2.2.2.2.2.2.2.2.2.2.1
@[simp] theorem countServed_eeprom (st : Status) (s : State) : (countServed st s).eeprom = s.eeprom := (countServed_frame st s).2.2.2.2.2.2.2.2.2.2.2.2.2.2.2.2.1
@[simp] theorem countServed_draws (st : Status) (s : State) : (countServed st s).draws = s.draws := (countServed_frame st s).2.2.2.2.2.2.2.2.2.2.2.2.2.2.2.2.2.1
@[simp] theorem countServed_raised (st : Status) (s : State) : (countServed st s).raised = s.raised := (countServed_frame st s).2.2.2.2.2.2.2.2.2.2.2.2.2.2.2.2.2.2.1
@[simp] theorem countServed_handed (st : Status) (s : State) : (countServed st s).handed = s.handed := (countServed_frame st s).2.2.2.2.2.2.2.2.2.2.2.2.2.2.2.2.2.2.2.1
@[simp] theorem countServed_pending (st : Status) (s : State) : (countServed st s).pending = s.pending := (countServed_frame st s).2.2.2.2.2.2.2.2.2.2.2.2.2.2.2.2.2.2.2.2

theorem finishRequest_frame (node : Byte) (command : Nat) (r : Req) (a : Answer) (s : State) :
    (finishRequest node command r a s).now = s.now ∧
    (finishRequest node command r a s).mode = s.mode ∧
    (finishRequest node command r a s).activity = s.activity ∧
    (finishRequest node command r a s).tables = s.tables ∧
    (finishRequest node command r a s).tracker.last = s.tracker.last ∧
    (finishRequest node command r a s).tracker.acc = s.tracker.acc ∧
    (finishRequest node command r a s).filtration = s.filtration ∧
    (finishRequest node command r a s).cellPort.state = s.cellPort.state ∧
    (finishRequest node command r a s).plantPort.state = s.plantPort.state ∧
    (finishRequest node command r a s).eeprom = s.eeprom ∧
    (finishRequest node command r a s).draws = s.draws ∧
    (finishRequest node command r a s).pending = s.pending := by
  unfold finishRequest
  repeat' split
  all_goals simp
@[simp] theorem finishRequest_now (node : Byte) (command : Nat) (r : Req) (a : Answer) (s : State) : (finishRequest node command r a s).now = s.now := (finishRequest_frame node command r a s).1
@[simp] theorem finishRequest_mode (node : Byte) (command : Nat) (r : Req) (a : Answer) (s : State) : (finishRequest node command r a s).mode = s.mode := (finishRequest_frame node command r a s).2.1
@[simp] theorem finishRequest_activity (node : Byte) (command : Nat) (r : Req) (a : Answer) (s : State) : (finishRequest node command r a s).activity = s.activity := (finishRequest_frame node command r a s).2.2.1
@[simp] theorem finishRequest_tables (node : Byte) (command : Nat) (r : Req) (a : Answer) (s : State) : (finishRequest node command r a s).tables = s.tables := (finishRequest_frame node command r a s).2.2.2.1
@[simp] theorem finishRequest_last (node : Byte) (command : Nat) (r : Req) (a : Answer) (s : State) : (finishRequest node command r a s).tracker.last = s.tracker.last := (finishRequest_frame node command r a s).2.2.2.2.1
@[simp] theorem finishRequest_acc (node : Byte) (command : Nat) (r : Req) (a : Answer) (s : State) : (finishRequest node command r a s).tracker.acc = s.tracker.acc := (finishRequest_frame node command r a s).2.2.2.2.2.1
@[simp] theorem finishRequest_filtration (node : Byte) (command : Nat) (r : Req) (a : Answer) (s : State) : (finishRequest node command r a s).filtration = s.filtration := (finishRequest_frame node command r a s).2.2.2.2.2.2.1
@[simp] theorem finishRequest_cellState (node : Byte) (command : Nat) (r : Req) (a : Answer) (s : State) : (finishRequest node command r a s).cellPort.state = s.cellPort.state := (finishRequest_frame node command r a s).2.2.2.2.2.2.2.1
@[simp] theorem finishRequest_plantState (node : Byte) (command : Nat) (r : Req) (a : Answer) (s : State) : (finishRequest node command r a s).plantPort.state = s.plantPort.state := (finishRequest_frame node command r a s).2.2.2.2.2.2.2.2.1
@[simp] theorem finishRequest_eeprom (node : Byte) (command : Nat) (r : Req) (a : Answer) (s : State) : (finishRequest node command r a s).eeprom = s.eeprom := (finishRequest_frame node command r a s).2.2.2.2.2.2.2.2.2.1
@[simp] theorem finishRequest_draws (node : Byte) (command : Nat) (r : Req) (a : Answer) (s : State) : (finishRequest node command r a s).draws = s.draws := (finishRequest_frame node command r a s).2.2.2.2.2.2.2.2.2.2.1
@[simp] theorem finishRequest_pending (node : Byte) (command : Nat) (r : Req) (a : Answer) (s : State) : (finishRequest node command r a s).pending = s.pending := (finishRequest_frame node command r a s).2.2.2.2.2.2.2.2.2.2.2

theorem refuseCellSide_frame (command : Nat) (r : Req) (s : State) :
    (refuseCellSide command r s).now = s.now ∧
    (refuseCellSide command r s).mode = s.mode ∧
    (refuseCellSide command r s).activity = s.activity ∧
    (refuseCellSide command r s).tables = s.tables ∧
    (refuseCellSide command r s).tracker = s.tracker ∧
    (refuseCellSide command r s).lots = s.lots ∧
    (refuseCellSide command r s).arbiter = s.arbiter ∧
    (refuseCellSide command r s).belt = s.belt ∧
    (refuseCellSide command r s).head = s.head ∧
    (refuseCellSide command r s).filtration = s.filtration ∧
    (refuseCellSide command r s).engine = s.engine ∧
    (refuseCellSide command r s).router = s.router ∧
    (refuseCellSide command r s).coalescer = s.coalescer ∧
    (refuseCellSide command r s).cellPort.state = s.cellPort.state ∧
    (refuseCellSide command r s).plantPort.state = s.plantPort.state ∧
    (refuseCellSide command r s).eeprom = s.eeprom ∧
    (refuseCellSide command r s).draws = s.draws ∧
    (refuseCellSide command r s).raised = s.raised ∧
    (refuseCellSide command r s).handed = s.handed ∧
    (refuseCellSide command r s).pending = s.pending := by
  simp [refuseCellSide]
@[simp] theorem refuseCellSide_now (command : Nat) (r : Req) (s : State) : (refuseCellSide command r s).now = s.now := (refuseCellSide_frame command r s).1
@[simp] theorem refuseCellSide_mode (command : Nat) (r : Req) (s : State) : (refuseCellSide command r s).mode = s.mode := (refuseCellSide_frame command r s).2.1
@[simp] theorem refuseCellSide_activity (command : Nat) (r : Req) (s : State) : (refuseCellSide command r s).activity = s.activity := (refuseCellSide_frame command r s).2.2.1
@[simp] theorem refuseCellSide_tables (command : Nat) (r : Req) (s : State) : (refuseCellSide command r s).tables = s.tables := (refuseCellSide_frame command r s).2.2.2.1
@[simp] theorem refuseCellSide_tracker (command : Nat) (r : Req) (s : State) : (refuseCellSide command r s).tracker = s.tracker := (refuseCellSide_frame command r s).2.2.2.2.1
@[simp] theorem refuseCellSide_lots (command : Nat) (r : Req) (s : State) : (refuseCellSide command r s).lots = s.lots := (refuseCellSide_frame command r s).2.2.2.2.2.1
@[simp] theorem refuseCellSide_arbiter (command : Nat) (r : Req) (s : State) : (refuseCellSide command r s).arbiter = s.arbiter := (refuseCellSide_frame command r s).2.2.2.2.2.2.1
@[simp] theorem refuseCellSide_belt (command : Nat) (r : Req) (s : State) : (refuseCellSide command r s).belt = s.belt := (refuseCellSide_frame command r s).2.2.2.2.2.2.2.1
@[simp] theorem refuseCellSide_head (command : Nat) (r : Req) (s : State) : (refuseCellSide command r s).head = s.head := (refuseCellSide_frame command r s).2.2.2.2.2.2.2.2.1
@[simp] theorem refuseCellSide_filtration (command : Nat) (r : Req) (s : State) : (refuseCellSide command r s).filtration = s.filtration := (refuseCellSide_frame command r s).2.2.2.2.2.2.2.2.2.1
@[simp] theorem refuseCellSide_engine (command : Nat) (r : Req) (s : State) : (refuseCellSide command r s).engine = s.engine := (refuseCellSide_frame command r s).2.2.2.2.2.2.2.2.2.2.1
@[simp] theorem refuseCellSide_router (command : Nat) (r : Req) (s : State) : (refuseCellSide command r s).router = s.router := (refuseCellSide_frame command r s).2.2.2.2.2.2.2.2.2.2.2.1
@[simp] theorem refuseCellSide_coalescer (command : Nat) (r : Req) (s : State) : (refuseCellSide command r s).coalescer = s.coalescer := (refuseCellSide_frame command r s).2.2.2.2.2.2.2.2.2.2.2.2.1
@[simp] theorem refuseCellSide_cellState (command : Nat) (r : Req) (s : State) : (refuseCellSide command r s).cellPort.state = s.cellPort.state := (refuseCellSide_frame command r s).2.2.2.2.2.2.2.2.2.2.2.2.2.1
@[simp] theorem refuseCellSide_plantState (command : Nat) (r : Req) (s : State) : (refuseCellSide command r s).plantPort.state = s.plantPort.state := (refuseCellSide_frame command r s).2.2.2.2.2.2.2.2.2.2.2.2.2.2.1
@[simp] theorem refuseCellSide_eeprom (command : Nat) (r : Req) (s : State) : (refuseCellSide command r s).eeprom = s.eeprom := (refuseCellSide_frame command r s).2.2.2.2.2.2.2.2.2.2.2.2.2.2.2.1
@[simp] theorem refuseCellSide_draws (command : Nat) (r : Req) (s : State) : (refuseCellSide command r s).draws = s.draws := (refuseCellSide_frame command r s).2.2.2.2.2.2.2.2.2.2.2.2.2.2.2.2.1
@[simp] theorem refuseCellSide_raised (command : Nat) (r : Req) (s : State) : (refuseCellSide command r s).raised = s.raised := (refuseCellSide_frame command r s).2.2.2.2.2.2.2.2.2.2.2.2.2.2.2.2.2.1
@[simp] theorem refuseCellSide_handed (command : Nat) (r : Req) (s : State) : (refuseCellSide command r s).handed = s.handed := (refuseCellSide_frame command r s).2.2.2.2.2.2.2.2.2.2.2.2.2.2.2.2.2.2.1
@[simp] theorem refuseCellSide_pending (command : Nat) (r : Req) (s : State) : (refuseCellSide command r s).pending = s.pending := (refuseCellSide_frame command r s).2.2.2.2.2.2.2.2.2.2.2.2.2.2.2.2.2.2.2

@[simp] theorem serveAlways_now (command : Nat) (r : Req) (body : State → State × Answer) (s : State)
    (h : (body s).1.now = s.now) : (serveAlways command r body s).now = s.now := by
  unfold serveAlways
  repeat' split
  all_goals simp [h]
@[simp] theorem serve_now (command : Nat) (r : Req) (body : State → State × Answer) (s : State)
    (h : (body s).1.now = s.now) : (serve command r body s).now = s.now := by
  unfold serve
  apply serveAlways_now
  split
  · rfl
  · exact h
@[simp] theorem operate_now (op : State → State) (s : State)
    (h : (op s).now = s.now) : (operate op s).now = s.now := by
  unfold operate
  split <;> simp [h]
@[simp] theorem serveAlways_mode (command : Nat) (r : Req) (body : State → State × Answer) (s : State)
    (h : (body s).1.mode = s.mode) : (serveAlways command r body s).mode = s.mode := by
  unfold serveAlways
  repeat' split
  all_goals simp [h]
@[simp] theorem serve_mode (command : Nat) (r : Req) (body : State → State × Answer) (s : State)
    (h : (body s).1.mode = s.mode) : (serve command r body s).mode = s.mode := by
  unfold serve
  apply serveAlways_mode
  split
  · rfl
  · exact h
@[simp] theorem operate_mode (op : State → State) (s : State)
    (h : (op s).mode = s.mode) : (operate op s).mode = s.mode := by
  unfold operate
  split <;> simp [h]
@[simp] theorem serveAlways_activity (command : Nat) (r : Req) (body : State → State × Answer) (s : State)
    (h : (body s).1.activity = s.activity) : (serveAlways command r body s).activity = s.activity := by
  unfold serveAlways
  repeat' split
  all_goals simp [h]
@[simp] theorem serve_activity (command : Nat) (r : Req) (body : State → State × Answer) (s : State)
    (h : (body s).1.activity = s.activity) : (serve command r body s).activity = s.activity := by
  unfold serve
  apply serveAlways_activity
  split
  · rfl
  · exact h
@[simp] theorem operate_activity (op : State → State) (s : State)
    (h : (op s).activity = s.activity) : (operate op s).activity = s.activity := by
  unfold operate
  split <;> simp [h]
@[simp] theorem serveAlways_tables (command : Nat) (r : Req) (body : State → State × Answer) (s : State)
    (h : (body s).1.tables = s.tables) : (serveAlways command r body s).tables = s.tables := by
  unfold serveAlways
  repeat' split
  all_goals simp [h]
@[simp] theorem serve_tables (command : Nat) (r : Req) (body : State → State × Answer) (s : State)
    (h : (body s).1.tables = s.tables) : (serve command r body s).tables = s.tables := by
  unfold serve
  apply serveAlways_tables
  split
  · rfl
  · exact h
@[simp] theorem operate_tables (op : State → State) (s : State)
    (h : (op s).tables = s.tables) : (operate op s).tables = s.tables := by
  unfold operate
  split <;> simp [h]
@[simp] theorem serveAlways_last (command : Nat) (r : Req) (body : State → State × Answer) (s : State)
    (h : (body s).1.tracker.last = s.tracker.last) : (serveAlways command r body s).tracker.last = s.tracker.last := by
  unfold serveAlways
  repeat' split
  all_goals simp [h]
@[simp] theorem serve_last (command : Nat) (r : Req) (body : State → State × Answer) (s : State)
    (h : (body s).1.tracker.last = s.tracker.last) : (serve command r body s).tracker.last = s.tracker.last := by
  unfold serve
  apply serveAlways_last
  split
  · rfl
  · exact h
@[simp] theorem operate_last (op : State → State) (s : State)
    (h : (op s).tracker.last = s.tracker.last) : (operate op s).tracker.last = s.tracker.last := by
  unfold operate
  split <;> simp [h]
@[simp] theorem serveAlways_acc (command : Nat) (r : Req) (body : State → State × Answer) (s : State)
    (h : (body s).1.tracker.acc = s.tracker.acc) : (serveAlways command r body s).tracker.acc = s.tracker.acc := by
  unfold serveAlways
  repeat' split
  all_goals simp [h]
@[simp] theorem serve_acc (command : Nat) (r : Req) (body : State → State × Answer) (s : State)
    (h : (body s).1.tracker.acc = s.tracker.acc) : (serve command r body s).tracker.acc = s.tracker.acc := by
  unfold serve
  apply serveAlways_acc
  split
  · rfl
  · exact h
@[simp] theorem operate_acc (op : State → State) (s : State)
    (h : (op s).tracker.acc = s.tracker.acc) : (operate op s).tracker.acc = s.tracker.acc := by
  unfold operate
  split <;> simp [h]
@[simp] theorem serveAlways_filtration (command : Nat) (r : Req) (body : State → State × Answer) (s : State)
    (h : (body s).1.filtration = s.filtration) : (serveAlways command r body s).filtration = s.filtration := by
  unfold serveAlways
  repeat' split
  all_goals simp [h]
@[simp] theorem serve_filtration (command : Nat) (r : Req) (body : State → State × Answer) (s : State)
    (h : (body s).1.filtration = s.filtration) : (serve command r body s).filtration = s.filtration := by
  unfold serve
  apply serveAlways_filtration
  split
  · rfl
  · exact h
@[simp] theorem operate_filtration (op : State → State) (s : State)
    (h : (op s).filtration = s.filtration) : (operate op s).filtration = s.filtration := by
  unfold operate
  split <;> simp [h]
@[simp] theorem serveAlways_cellState (command : Nat) (r : Req) (body : State → State × Answer) (s : State)
    (h : (body s).1.cellPort.state = s.cellPort.state) : (serveAlways command r body s).cellPort.state = s.cellPort.state := by
  unfold serveAlways
  repeat' split
  all_goals simp [h]
@[simp] theorem serve_cellState (command : Nat) (r : Req) (body : State → State × Answer) (s : State)
    (h : (body s).1.cellPort.state = s.cellPort.state) : (serve command r body s).cellPort.state = s.cellPort.state := by
  unfold serve
  apply serveAlways_cellState
  split
  · rfl
  · exact h
@[simp] theorem operate_cellState (op : State → State) (s : State)
    (h : (op s).cellPort.state = s.cellPort.state) : (operate op s).cellPort.state = s.cellPort.state := by
  unfold operate
  split <;> simp [h]
@[simp] theorem serveAlways_plantState (command : Nat) (r : Req) (body : State → State × Answer) (s : State)
    (h : (body s).1.plantPort.state = s.plantPort.state) : (serveAlways command r body s).plantPort.state = s.plantPort.state := by
  unfold serveAlways
  repeat' split
  all_goals simp [h]
@[simp] theorem serve_plantState (command : Nat) (r : Req) (body : State → State × Answer) (s : State)
    (h : (body s).1.plantPort.state = s.plantPort.state) : (serve command r body s).plantPort.state = s.plantPort.state := by
  unfold serve
  apply serveAlways_plantState
  split
  · rfl
  · exact h
@[simp] theorem operate_plantState (op : State → State) (s : State)
    (h : (op s).plantPort.state = s.plantPort.state) : (operate op s).plantPort.state = s.plantPort.state := by
  unfold operate
  split <;> simp [h]
@[simp] theorem serveAlways_eeprom (command : Nat) (r : Req) (body : State → State × Answer) (s : State)
    (h : (body s).1.eeprom = s.eeprom) : (serveAlways command r body s).eeprom = s.eeprom := by
  unfold serveAlways
  repeat' split
  all_goals simp [h]
@[simp] theorem serve_eeprom (command : Nat) (r : Req) (body : State → State × Answer) (s : State)
    (h : (body s).1.eeprom = s.eeprom) : (serve command r body s).eeprom = s.eeprom := by
  unfold serve
  apply serveAlways_eeprom
  split
  · rfl
  · exact h
@[simp] theorem operate_eeprom (op : State → State) (s : State)
    (h : (op s).eeprom = s.eeprom) : (operate op s).eeprom = s.eeprom := by
  unfold operate
  split <;> simp [h]
@[simp] theorem serveAlways_draws (command : Nat) (r : Req) (body : State → State × Answer) (s : State)
    (h : (body s).1.draws = s.draws) : (serveAlways command r body s).draws = s.draws := by
  unfold serveAlways
  repeat' split
  all_goals simp [h]
@[simp] theorem serve_draws (command : Nat) (r : Req) (body : State → State × Answer) (s : State)
    (h : (body s).1.draws = s.draws) : (serve command r body s).draws = s.draws := by
  unfold serve
  apply serveAlways_draws
  split
  · rfl
  · exact h
@[simp] theorem operate_draws (op : State → State) (s : State)
    (h : (op s).draws = s.draws) : (operate op s).draws = s.draws := by
  unfold operate
  split <;> simp [h]
@[simp] theorem serveAlways_pending (command : Nat) (r : Req) (body : State → State × Answer) (s : State)
    (h : (body s).1.pending = s.pending) : (serveAlways command r body s).pending = s.pending := by
  unfold serveAlways
  repeat' split
  all_goals simp [h]
@[simp] theorem serve_pending (command : Nat) (r : Req) (body : State → State × Answer) (s : State)
    (h : (body s).1.pending = s.pending) : (serve command r body s).pending = s.pending := by
  unfold serve
  apply serveAlways_pending
  split
  · rfl
  · exact h
@[simp] theorem operate_pending (op : State → State) (s : State)
    (h : (op s).pending = s.pending) : (operate op s).pending = s.pending := by
  unfold operate
  split <;> simp [h]

theorem portDown_frame (p : Port) (s : State) :
    (portDown p s).now = s.now ∧
    (portDown p s).mode = s.mode ∧
    (portDown p s).activity = s.activity ∧
    (portDown p s).tables = s.tables ∧
    (portDown p s).tracker = s.tracker ∧
    (portDown p s).lots = s.lots ∧
    (portDown p s).arbiter = s.arbiter ∧
    (portDown p s).head = s.head ∧
    (portDown p s).filtration = s.filtration ∧
    (portDown p s).engine = s.engine ∧
    (portDown p s).router = s.router ∧
    (portDown p s).eeprom = s.eeprom ∧
    (portDown p s).draws = s.draws ∧
    (portDown p s).pending = s.pending := by
  unfold portDown
  dsimp only
  repeat' split
  all_goals simp
@[simp] theorem portDown_now (p : Port) (s : State) : (portDown p s).now = s.now := (portDown_frame p s).1
@[simp] theorem portDown_mode (p : Port) (s : State) : (portDown p s).mode = s.mode := (portDown_frame p s).2.1
@[simp] theorem portDown_activity (p : Port) (s : State) : (portDown p s).activity = s.activity := (portDown_frame p s).2.2.1
@[simp] theorem portDown_tables (p : Port) (s : State) : (portDown p s).tables = s.tables := (portDown_frame p s).2.2.2.1
@[simp] theorem portDown_tracker (p : Port) (s : State) : (portDown p s).tracker = s.tracker := (portDown_frame p s).2.2.2.2.1
@[simp] theorem portDown_lots (p : Port) (s : State) : (portDown p s).lots = s.lots := (portDown_frame p s).2.2.2.2.2.1
@[simp] theorem portDown_arbiter (p : Port) (s : State) : (portDown p s).arbiter = s.arbiter := (portDown_frame p s).2.2.2.2.2.2.1
@[simp] theorem portDown_head (p : Port) (s : State) : (portDown p s).head = s.head := (portDown_frame p s).2.2.2.2.2.2.2.1
@[simp] theorem portDown_filtration (p : Port) (s : State) : (portDown p s).filtration = s.filtration := (portDown_frame p s).2.2.2.2.2.2.2.2.1
@[simp] theorem portDown_engine (p : Port) (s : State) : (portDown p s).engine = s.engine := (portDown_frame p s).2.2.2.2.2.2.2.2.2.1
@[simp] theorem portDown_router (p : Port) (s : State) : (portDown p s).router = s.router := (portDown_frame p s).2.2.2.2.2.2.2.2.2.2.1
@[simp] theorem portDown_eeprom (p : Port) (s : State) : (portDown p s).eeprom = s.eeprom := (portDown_frame p s).2.2.2.2.2.2.2.2.2.2.2.1
@[simp] theorem portDown_draws (p : Port) (s : State) : (portDown p s).draws = s.draws := (portDown_frame p s).2.2.2.2.2.2.2.2.2.2.2.2.1
@[simp] theorem portDown_pending (p : Port) (s : State) : (portDown p s).pending = s.pending := (portDown_frame p s).2.2.2.2.2.2.2.2.2.2.2.2.2

theorem portUp_frame (p : Port) (s : State) :
    (portUp p s).now = s.now ∧
    (portUp p s).mode = s.mode ∧
    (portUp p s).activity = s.activity ∧
    (portUp p s).tables = s.tables ∧
    (portUp p s).tracker.last = s.tracker.last ∧
    (portUp p s).tracker.acc = s.tracker.acc ∧
    (portUp p s).filtration = s.filtration ∧
    (portUp p s).engine = s.engine ∧
    (portUp p s).router = s.router ∧
    (portUp p s).eeprom = s.eeprom ∧
    (portUp p s).draws = s.draws ∧
    (portUp p s).raised = s.raised ∧
    (portUp p s).pending = s.pending := by
  unfold portUp
  dsimp only
  repeat' split
  all_goals simp
@[simp] theorem portUp_now (p : Port) (s : State) : (portUp p s).now = s.now := (portUp_frame p s).1
@[simp] theorem portUp_mode (p : Port) (s : State) : (portUp p s).mode = s.mode := (portUp_frame p s).2.1
@[simp] theorem portUp_activity (p : Port) (s : State) : (portUp p s).activity = s.activity := (portUp_frame p s).2.2.1
@[simp] theorem portUp_tables (p : Port) (s : State) : (portUp p s).tables = s.tables := (portUp_frame p s).2.2.2.1
@[simp] theorem portUp_last (p : Port) (s : State) : (portUp p s).tracker.last = s.tracker.last := (portUp_frame p s).2.2.2.2.1
@[simp] theorem portUp_acc (p : Port) (s : State) : (portUp p s).tracker.acc = s.tracker.acc := (portUp_frame p s).2.2.2.2.2.1
@[simp] theorem portUp_filtration (p : Port) (s : State) : (portUp p s).filtration = s.filtration := (portUp_frame p s).2.2.2.2.2.2.1
@[simp] theorem portUp_engine (p : Port) (s : State) : (portUp p s).engine = s.engine := (portUp_frame p s).2.2.2.2.2.2.2.1
@[simp] theorem portUp_router (p : Port) (s : State) : (portUp p s).router = s.router := (portUp_frame p s).2.2.2.2.2.2.2.2.1
@[simp] theorem portUp_eeprom (p : Port) (s : State) : (portUp p s).eeprom = s.eeprom := (portUp_frame p s).2.2.2.2.2.2.2.2.2.1
@[simp] theorem portUp_draws (p : Port) (s : State) : (portUp p s).draws = s.draws := (portUp_frame p s).2.2.2.2.2.2.2.2.2.2.1
@[simp] theorem portUp_raised (p : Port) (s : State) : (portUp p s).raised = s.raised := (portUp_frame p s).2.2.2.2.2.2.2.2.2.2.2.1
@[simp] theorem portUp_pending (p : Port) (s : State) : (portUp p s).pending = s.pending := (portUp_frame p s).2.2.2.2.2.2.2.2.2.2.2.2

theorem goodFrame_frame (p : Port) (s : State) :
    (goodFrame p s).now = s.now ∧
    (goodFrame p s).mode = s.mode ∧
    (goodFrame p s).activity = s.activity ∧
    (goodFrame p s).tables = s.tables ∧
    (goodFrame p s).tracker.last = s.tracker.last ∧
    (goodFrame p s).tracker.acc = s.tracker.acc ∧
    (goodFrame p s).filtration = s.filtration ∧
    (goodFrame p s).engine = s.engine ∧
    (goodFrame p s).router = s.router ∧
    (goodFrame p s).eeprom = s.eeprom ∧
    (goodFrame p s).draws = s.draws ∧
    (goodFrame p s).raised = s.raised ∧
    (goodFrame p s).pending = s.pending := by
  unfold goodFrame
  dsimp only
  repeat' split
  all_goals simp
@[simp] theorem goodFrame_now (p : Port) (s : State) : (goodFrame p s).now = s.now := (goodFrame_frame p s).1
@[simp] theorem goodFrame_mode (p : Port) (s : State) : (goodFrame p s).mode = s.mode := (goodFrame_frame p s).2.1
@[simp] theorem goodFrame_activity (p : Port) (s : State) : (goodFrame p s).activity = s.activity := (goodFrame_frame p s).2.2.1
@[simp] theorem goodFrame_tables (p : Port) (s : State) : (goodFrame p s).tables = s.tables := (goodFrame_frame p s).2.2.2.1
@[simp] theorem goodFrame_last (p : Port) (s : State) : (goodFrame p s).tracker.last = s.tracker.last := (goodFrame_frame p s).2.2.2.2.1
@[simp] theorem goodFrame_acc (p : Port) (s : State) : (goodFrame p s).tracker.acc = s.tracker.acc := (goodFrame_frame p s).2.2.2.2.2.1
@[simp] theorem goodFrame_filtration (p : Port) (s : State) : (goodFrame p s).filtration = s.filtration := (goodFrame_frame p s).2.2.2.2.2.2.1
@[simp] theorem goodFrame_engine (p : Port) (s : State) : (goodFrame p s).engine = s.engine := (goodFrame_frame p s).2.2.2.2.2.2.2.1
@[simp] theorem goodFrame_router (p : Port) (s : State) : (goodFrame p s).router = s.router := (goodFrame_frame p s).2.2.2.2.2.2.2.2.1
@[simp] theorem goodFrame_eeprom (p : Port) (s : State) : (goodFrame p s).eeprom = s.eeprom := (goodFrame_frame p s).2.2.2.2.2.2.2.2.2.1
@[simp] theorem goodFrame_draws (p : Port) (s : State) : (goodFrame p s).draws = s.draws := (goodFrame_frame p s).2.2.2.2.2.2.2.2.2.2.1
@[simp] theorem goodFrame_raised (p : Port) (s : State) : (goodFrame p s).raised = s.raised := (goodFrame_frame p s).2.2.2.2.2.2.2.2.2.2.2.1
@[simp] theorem goodFrame_pending (p : Port) (s : State) : (goodFrame p s).pending = s.pending := (goodFrame_frame p s).2.2.2.2.2.2.2.2.2.2.2.2

theorem opSilenceTimeout_frame (p : Port) (s : State) :
    (opSilenceTimeout p s).now = s.now ∧
    (opSilenceTimeout p s).mode = s.mode ∧
    (opSilenceTimeout p s).activity = s.activity ∧
    (opSilenceTimeout p s).tables = s.tables ∧
    (opSilenceTimeout p s).tracker = s.tracker ∧
    (opSilenceTimeout p s).lots = s.lots ∧
    (opSilenceTimeout p s).arbiter = s.arbiter ∧
    (opSilenceTimeout p s).head = s.head ∧
    (opSilenceTimeout p s).filtration = s.filtration ∧
    (opSilenceTimeout p s).engine = s.engine ∧
    (opSilenceTimeout p s).router = s.router ∧
    (opSilenceTimeout p s).eeprom = s.eeprom ∧
    (opSilenceTimeout p s).draws = s.draws ∧
    (opSilenceTimeout p s).pending = s.pending := by
  unfold opSilenceTimeout
  repeat' split
  all_goals simp
@[simp] theorem opSilenceTimeout_now (p : Port) (s : State) : (opSilenceTimeout p s).now = s.now := (opSilenceTimeout_frame p s).1
@[simp] theorem opSilenceTimeout_mode (p : Port) (s : State) : (opSilenceTimeout p s).mode = s.mode := (opSilenceTimeout_frame p s).2.1
@[simp] theorem opSilenceTimeout_activity (p : Port) (s : State) : (opSilenceTimeout p s).activity = s.activity := (opSilenceTimeout_frame p s).2.2.1
@[simp] theorem opSilenceTimeout_tables (p : Port) (s : State) : (opSilenceTimeout p s).tables = s.tables := (opSilenceTimeout_frame p s).2.2.2.1
@[simp] theorem opSilenceTimeout_tracker (p : Port) (s : State) : (opSilenceTimeout p s).tracker = s.tracker := (opSilenceTimeout_frame p s).2.2.2.2.1
@[simp] theorem opSilenceTimeout_lots (p : Port) (s : State) : (opSilenceTimeout p s).lots = s.lots := (opSilenceTimeout_frame p s).2.2.2.2.2.1
@[simp] theorem opSilenceTimeout_arbiter (p : Port) (s : State) : (opSilenceTimeout p s).arbiter = s.arbiter := (opSilenceTimeout_frame p s).2.2.2.2.2.2.1
@[simp] theorem opSilenceTimeout_head (p : Port) (s : State) : (opSilenceTimeout p s).head = s.head := (opSilenceTimeout_frame p s).2.2.2.2.2.2.2.1
@[simp] theorem opSilenceTimeout_filtration (p : Port) (s : State) : (opSilenceTimeout p s).filtration = s.filtration := (opSilenceTimeout_frame p s).2.2.2.2.2.2.2.2.1
@[simp] theorem opSilenceTimeout_engine (p : Port) (s : State) : (opSilenceTimeout p s).engine = s.engine := (opSilenceTimeout_frame p s).2.2.2.2.2.2.2.2.2.1
@[simp] theorem opSilenceTimeout_router (p : Port) (s : State) : (opSilenceTimeout p s).router = s.router := (opSilenceTimeout_frame p s).2.2.2.2.2.2.2.2.2.2.1
@[simp] theorem opSilenceTimeout_eeprom (p : Port) (s : State) : (opSilenceTimeout p s).eeprom = s.eeprom := (opSilenceTimeout_frame p s).2.2.2.2.2.2.2.2.2.2.2.1
@[simp] theorem opSilenceTimeout_draws (p : Port) (s : State) : (opSilenceTimeout p s).draws = s.draws := (opSilenceTimeout_frame p s).2.2.2.2.2.2.2.2.2.2.2.2.1
@[simp] theorem opSilenceTimeout_pending (p : Port) (s : State) : (opSilenceTimeout p s).pending = s.pending := (opSilenceTimeout_frame p s).2.2.2.2.2.2.2.2.2.2.2.2.2

theorem dequeue_frame (p : Port) (rest : List Frame) (s : State) :
    (dequeue p rest s).now = s.now ∧
    (dequeue p rest s).mode = s.mode ∧
    (dequeue p rest s).activity = s.activity ∧
    (dequeue p rest s).tables = s.tables ∧
    (dequeue p rest s).tracker = s.tracker ∧
    (dequeue p rest s).lots = s.lots ∧
    (dequeue p rest s).arbiter = s.arbiter ∧
    (dequeue p rest s).belt = s.belt ∧
    (dequeue p rest s).head = s.head ∧
    (dequeue p rest s).filtration = s.filtration ∧
    (dequeue p rest s).engine = s.engine ∧
    (dequeue p rest s).router = s.router ∧
    (dequeue p rest s).notices = s.notices ∧
    (dequeue p rest s).coalescer = s.coalescer ∧
    (dequeue p rest s).cellPort.state = s.cellPort.state ∧
    (dequeue p rest s).plantPort.state = s.plantPort.state ∧
    (dequeue p rest s).eeprom = s.eeprom ∧
    (dequeue p rest s).draws = s.draws ∧
    (dequeue p rest s).raised = s.raised ∧
    (dequeue p rest s).handed = s.handed ∧
    (dequeue p rest s).pending = s.pending := by
  cases p <;> simp [dequeue, State.setPort, State.port]
@[simp] theorem dequeue_now (p : Port) (rest : List Frame) (s : State) : (dequeue p rest s).now = s.now := (dequeue_frame p rest s).1
@[simp] theorem dequeue_mode (p : Port) (rest : List Frame) (s : State) : (dequeue p rest s).mode = s.mode := (dequeue_frame p rest s).2.1
@[simp] theorem dequeue_activity (p : Port) (rest : List Frame) (s : State) : (dequeue p rest s).activity = s.activity := (dequeue_frame p rest s).2.2.1
@[simp] theorem dequeue_tables (p : Port) (rest : List Frame) (s : State) : (dequeue p rest s).tables = s.tables := (dequeue_frame p rest s).2.2.2.1
@[simp] theorem dequeue_tracker (p : Port) (rest : List Frame) (s : State) : (dequeue p rest s).tracker = s.tracker := (dequeue_frame p rest s).2.2.2.2.1
@[simp] theorem dequeue_lots (p : Port) (rest : List Frame) (s : State) : (dequeue p rest s).lots = s.lots := (dequeue_frame p rest s).2.2.2.2.2.1
@[simp] theorem dequeue_arbiter (p : Port) (rest : List Frame) (s : State) : (dequeue p rest s).arbiter = s.arbiter := (dequeue_frame p rest s).2.2.2.2.2.2.1
@[simp] theorem dequeue_belt (p : Port) (rest : List Frame) (s : State) : (dequeue p rest s).belt = s.belt := (dequeue_frame p rest s).2.2.2.2.2.2.2.1
@[simp] theorem dequeue_head (p : Port) (rest : List Frame) (s : State) : (dequeue p rest s).head = s.head := (dequeue_frame p rest s).2.2.2.2.2.2.2.2.1
@[simp] theorem dequeue_filtration (p : Port) (rest : List Frame) (s : State) : (dequeue p rest s).filtration = s.filtration := (dequeue_frame p rest s).2.2.2.2.2.2.2.2.2.1
@[simp] theorem dequeue_engine (p : Port) (rest : List Frame) (s : State) : (dequeue p rest s).engine = s.engine := (dequeue_frame p rest s).2.2.2.2.2.2.2.2.2.2.1
@[simp] theorem dequeue_router (p : Port) (rest : List Frame) (s : State) : (dequeue p rest s).router = s.router := (dequeue_frame p rest s).2.2.2.2.2.2.2.2.2.2.2.1
@[simp] theorem dequeue_notices (p : Port) (rest : List Frame) (s : State) : (dequeue p rest s).notices = s.notices := (dequeue_frame p rest s).2.2.2.2.2.2.2.2.2.2.2.2.1
@[simp] theorem dequeue_coalescer (p : Port) (rest : List Frame) (s : State) : (dequeue p rest s).coalescer = s.coalescer := (dequeue_frame p rest s).2.2.2.2.2.2.2.2.2.2.2.2.2.1
@[simp] theorem dequeue_cellState (p : Port) (rest : List Frame) (s : State) : (dequeue p rest s).cellPort.state = s.cellPort.state := (dequeue_frame p rest s).2.2.2.2.2.2.2.2.2.2.2.2.2.2.1
@[simp] theorem dequeue_plantState (p : Port) (rest : List Frame) (s : State) : (dequeue p rest s).plantPort.state = s.plantPort.state := (dequeue_frame p rest s).2.2.2.2.2.2.2.2.2.2.2.2.2.2.2.1
@[simp] theorem dequeue_eeprom (p : Port) (rest : List Frame) (s : State) : (dequeue p rest s).eeprom = s.eeprom := (dequeue_frame p rest s).2.2.2.2.2.2.2.2.2.2.2.2.2.2.2.2.1
@[simp] theorem dequeue_draws (p : Port) (rest : List Frame) (s : State) : (dequeue p rest s).draws = s.draws := (dequeue_frame p rest s).2.2.2.2.2.2.2.2.2.2.2.2.2.2.2.2.2.1
@[simp] theorem dequeue_raised (p : Port) (rest : List Frame) (s : State) : (dequeue p rest s).raised = s.raised := (dequeue_frame p rest s).2.2.2.2.2.2.2.2.2.2.2.2.2.2.2.2.2.2.1
@[simp] theorem dequeue_handed (p : Port) (rest : List Frame) (s : State) : (dequeue p rest s).handed = s.handed := (dequeue_frame p rest s).2.2.2.2.2.2.2.2.2.2.2.2.2.2.2.2.2.2.2.1
@[simp] theorem dequeue_pending (p : Port) (rest : List Frame) (s : State) : (dequeue p rest s).pending = s.pending := (dequeue_frame p rest s).2.2.2.2.2.2.2.2.2.2.2.2.2.2.2.2.2.2.2.2

theorem opFrameTransmitted_frame (p : Port) (s : State) :
    (opFrameTransmitted p s).now = s.now ∧
    (opFrameTransmitted p s).mode = s.mode ∧
    (opFrameTransmitted p s).activity = s.activity ∧
    (opFrameTransmitted p s).tables = s.tables ∧
    (opFrameTransmitted p s).tracker = s.tracker ∧
    (opFrameTransmitted p s).lots = s.lots ∧
    (opFrameTransmitted p s).arbiter = s.arbiter ∧
    (opFrameTransmitted p s).belt = s.belt ∧
    (opFrameTransmitted p s).head = s.head ∧
    (opFrameTransmitted p s).filtration = s.filtration ∧
    (opFrameTransmitted p s).engine = s.engine ∧
    (opFrameTransmitted p s).router = s.router ∧
    (opFrameTransmitted p s).cellPort.state = s.cellPort.state ∧
    (opFrameTransmitted p s).plantPort.state = s.plantPort.state ∧
    (opFrameTransmitted p s).eeprom = s.eeprom ∧
    (opFrameTransmitted p s).draws = s.draws ∧
    (opFrameTransmitted p s).raised = s.raised ∧
    (opFrameTransmitted p s).handed = s.handed ∧
    (opFrameTransmitted p s).pending = s.pending := by
  unfold opFrameTransmitted
  repeat' split
  all_goals simp
@[simp] theorem opFrameTransmitted_now (p : Port) (s : State) : (opFrameTransmitted p s).now = s.now := (opFrameTransmitted_frame p s).1
@[simp] theorem opFrameTransmitted_mode (p : Port) (s : State) : (opFrameTransmitted p s).mode = s.mode := (opFrameTransmitted_frame p s).2.1
@[simp] theorem opFrameTransmitted_activity (p : Port) (s : State) : (opFrameTransmitted p s).activity = s.activity := (opFrameTransmitted_frame p s).2.2.1
@[simp] theorem opFrameTransmitted_tables (p : Port) (s : State) : (opFrameTransmitted p s).tables = s.tables := (opFrameTransmitted_frame p s).2.2.2.1
@[simp] theorem opFrameTransmitted_tracker (p : Port) (s : State) : (opFrameTransmitted p s).tracker = s.tracker := (opFrameTransmitted_frame p s).2.2.2.2.1
@[simp] theorem opFrameTransmitted_lots (p : Port) (s : State) : (opFrameTransmitted p s).lots = s.lots := (opFrameTransmitted_frame p s).2.2.2.2.2.1
@[simp] theorem opFrameTransmitted_arbiter (p : Port) (s : State) : (opFrameTransmitted p s).arbiter = s.arbiter := (opFrameTransmitted_frame p s).2.2.2.2.2.2.1
@[simp] theorem opFrameTransmitted_belt (p : Port) (s : State) : (opFrameTransmitted p s).belt = s.belt := (opFrameTransmitted_frame p s).2.2.2.2.2.2.2.1
@[simp] theorem opFrameTransmitted_head (p : Port) (s : State) : (opFrameTransmitted p s).head = s.head := (opFrameTransmitted_frame p s).2.2.2.2.2.2.2.2.1
@[simp] theorem opFrameTransmitted_filtration (p : Port) (s : State) : (opFrameTransmitted p s).filtration = s.filtration := (opFrameTransmitted_frame p s).2.2.2.2.2.2.2.2.2.1
@[simp] theorem opFrameTransmitted_engine (p : Port) (s : State) : (opFrameTransmitted p s).engine = s.engine := (opFrameTransmitted_frame p s).2.2.2.2.2.2.2.2.2.2.1
@[simp] theorem opFrameTransmitted_router (p : Port) (s : State) : (opFrameTransmitted p s).router = s.router := (opFrameTransmitted_frame p s).2.2.2.2.2.2.2.2.2.2.2.1
@[simp] theorem opFrameTransmitted_cellState (p : Port) (s : State) : (opFrameTransmitted p s).cellPort.state = s.cellPort.state := (opFrameTransmitted_frame p s).2.2.2.2.2.2.2.2.2.2.2.2.1
@[simp] theorem opFrameTransmitted_plantState (p : Port) (s : State) : (opFrameTransmitted p s).plantPort.state = s.plantPort.state := (opFrameTransmitted_frame p s).2.2.2.2.2.2.2.2.2.2.2.2.2.1
@[simp] theorem opFrameTransmitted_eeprom (p : Port) (s : State) : (opFrameTransmitted p s).eeprom = s.eeprom := (opFrameTransmitted_frame p s).2.2.2.2.2.2.2.2.2.2.2.2.2.2.1
@[simp] theorem opFrameTransmitted_draws (p : Port) (s : State) : (opFrameTransmitted p s).draws = s.draws := (opFrameTransmitted_frame p s).2.2.2.2.2.2.2.2.2.2.2.2.2.2.2.1
@[simp] theorem opFrameTransmitted_raised (p : Port) (s : State) : (opFrameTransmitted p s).raised = s.raised := (opFrameTransmitted_frame p s).2.2.2.2.2.2.2.2.2.2.2.2.2.2.2.2.1
@[simp] theorem opFrameTransmitted_handed (p : Port) (s : State) : (opFrameTransmitted p s).handed = s.handed := (opFrameTransmitted_frame p s).2.2.2.2.2.2.2.2.2.2.2.2.2.2.2.2.2.1
@[simp] theorem opFrameTransmitted_pending (p : Port) (s : State) : (opFrameTransmitted p s).pending = s.pending := (opFrameTransmitted_frame p s).2.2.2.2.2.2.2.2.2.2.2.2.2.2.2.2.2.2

theorem opOverrideSecond_frame (s : State) :
    (opOverrideSecond s).now = s.now ∧
    (opOverrideSecond s).mode = s.mode ∧
    (opOverrideSecond s).activity = s.activity ∧
    (opOverrideSecond s).tables = s.tables ∧
    (opOverrideSecond s).tracker = s.tracker ∧
    (opOverrideSecond s).lots = s.lots ∧
    (opOverrideSecond s).arbiter = s.arbiter ∧
    (opOverrideSecond s).head = s.head ∧
    (opOverrideSecond s).filtration = s.filtration ∧
    (opOverrideSecond s).engine = s.engine ∧
    (opOverrideSecond s).router = s.router ∧
    (opOverrideSecond s).notices = s.notices ∧
    (opOverrideSecond s).coalescer = s.coalescer ∧
    (opOverrideSecond s).cellPort = s.cellPort ∧
    (opOverrideSecond s).plantPort = s.plantPort ∧
    (opOverrideSecond s).counters = s.counters ∧
    (opOverrideSecond s).eeprom = s.eeprom ∧
    (opOverrideSecond s).draws = s.draws ∧
    (opOverrideSecond s).raised = s.raised ∧
    (opOverrideSecond s).handed = s.handed ∧
    (opOverrideSecond s).pending = s.pending := by
  unfold opOverrideSecond
  repeat' split
  all_goals simp
@[simp] theorem opOverrideSecond_now (s : State) : (opOverrideSecond s).now = s.now := (opOverrideSecond_frame s).1
@[simp] theorem opOverrideSecond_mode (s : State) : (opOverrideSecond s).mode = s.mode := (opOverrideSecond_frame s).2.1
@[simp] theorem opOverrideSecond_activity (s : State) : (opOverrideSecond s).activity = s.activity := (opOverrideSecond_frame s).2.2.1
@[simp] theorem opOverrideSecond_tables (s : State) : (opOverrideSecond s).tables = s.tables := (opOverrideSecond_frame s).2.2.2.1
@[simp] theorem opOverrideSecond_tracker (s : State) : (opOverrideSecond s).tracker = s.tracker := (opOverrideSecond_frame s).2.2.2.2.1
@[simp] theorem opOverrideSecond_lots (s : State) : (opOverrideSecond s).lots = s.lots := (opOverrideSecond_frame s).2.2.2.2.2.1
@[simp] theorem opOverrideSecond_arbiter (s : State) : (opOverrideSecond s).arbiter = s.arbiter := (opOverrideSecond_frame s).2.2.2.2.2.2.1
@[simp] theorem opOverrideSecond_head (s : State) : (opOverrideSecond s).head = s.head := (opOverrideSecond_frame s).2.2.2.2.2.2.2.1
@[simp] theorem opOverrideSecond_filtration (s : State) : (opOverrideSecond s).filtration = s.filtration := (opOverrideSecond_frame s).2.2.2.2.2.2.2.2.1
@[simp] theorem opOverrideSecond_engine (s : State) : (opOverrideSecond s).engine = s.engine := (opOverrideSecond_frame s).2.2.2.2.2.2.2.2.2.1
@[simp] theorem opOverrideSecond_router (s : State) : (opOverrideSecond s).router = s.router := (opOverrideSecond_frame s).2.2.2.2.2.2.2.2.2.2.1
@[simp] theorem opOverrideSecond_notices (s : State) : (opOverrideSecond s).notices = s.notices := (opOverrideSecond_frame s).2.2.2.2.2.2.2.2.2.2.2.1
@[simp] theorem opOverrideSecond_coalescer (s : State) : (opOverrideSecond s).coalescer = s.coalescer := (opOverrideSecond_frame s).2.2.2.2.2.2.2.2.2.2.2.2.1
@[simp] theorem opOverrideSecond_cellPort (s : State) : (opOverrideSecond s).cellPort = s.cellPort := (opOverrideSecond_frame s).2.2.2.2.2.2.2.2.2.2.2.2.2.1
@[simp] theorem opOverrideSecond_plantPort (s : State) : (opOverrideSecond s).plantPort = s.plantPort := (opOverrideSecond_frame s).2.2.2.2.2.2.2.2.2.2.2.2.2.2.1
@[simp] theorem opOverrideSecond_counters (s : State) : (opOverrideSecond s).counters = s.counters := (opOverrideSecond_frame s).2.2.2.2.2.2.2.2.2.2.2.2.2.2.2.1
@[simp] theorem opOverrideSecond_eeprom (s : State) : (opOverrideSecond s).eeprom = s.eeprom := (opOverrideSecond_frame s).2.2.2.2.2.2.2.2.2.2.2.2.2.2.2.2.1
@[simp] theorem opOverrideSecond_draws (s : State) : (opOverrideSecond s).draws = s.draws := (opOverrideSecond_frame s).2.2.2.2.2.2.2.2.2.2.2.2.2.2.2.2.2.1
@[simp] theorem opOverrideSecond_raised (s : State) : (opOverrideSecond s).raised = s.raised := (opOverrideSecond_frame s).2.2.2.2.2.2.2.2.2.2.2.2.2.2.2.2.2.2.1
@[simp] theorem opOverrideSecond_handed (s : State) : (opOverrideSecond s).handed = s.handed := (opOverrideSecond_frame s).2.2.2.2.2.2.2.2.2.2.2.2.2.2.2.2.2.2.2.1
@[simp] theorem opOverrideSecond_pending (s : State) : (opOverrideSecond s).pending = s.pending := (opOverrideSecond_frame s).2.2.2.2.2.2.2.2.2.2.2.2.2.2.2.2.2.2.2.2

theorem opCoalesceAgeLimit_frame (s : State) :
    (opCoalesceAgeLimit s).now = s.now ∧
    (opCoalesceAgeLimit s).mode = s.mode ∧
    (opCoalesceAgeLimit s).activity = s.activity ∧
    (opCoalesceAgeLimit s).tables = s.tables ∧
    (opCoalesceAgeLimit s).tracker = s.tracker ∧
    (opCoalesceAgeLimit s).lots = s.lots ∧
    (opCoalesceAgeLimit s).arbiter = s.arbiter ∧
    (opCoalesceAgeLimit s).belt = s.belt ∧
    (opCoalesceAgeLimit s).head = s.head ∧
    (opCoalesceAgeLimit s).filtration = s.filtration ∧
    (opCoalesceAgeLimit s).engine = s.engine ∧
    (opCoalesceAgeLimit s).router = s.router ∧
    (opCoalesceAgeLimit s).cellPort.state = s.cellPort.state ∧
    (opCoalesceAgeLimit s).plantPort.state = s.plantPort.state ∧
    (opCoalesceAgeLimit s).eeprom = s.eeprom ∧
    (opCoalesceAgeLimit s).draws = s.draws ∧
    (opCoalesceAgeLimit s).raised = s.raised ∧
    (opCoalesceAgeLimit s).handed = s.handed ∧
    (opCoalesceAgeLimit s).pending = s.pending := by
  unfold opCoalesceAgeLimit
  repeat' split
  all_goals simp
@[simp] theorem opCoalesceAgeLimit_now (s : State) : (opCoalesceAgeLimit s).now = s.now := (opCoalesceAgeLimit_frame s).1
@[simp] theorem opCoalesceAgeLimit_mode (s : State) : (opCoalesceAgeLimit s).mode = s.mode := (opCoalesceAgeLimit_frame s).2.1
@[simp] theorem opCoalesceAgeLimit_activity (s : State) : (opCoalesceAgeLimit s).activity = s.activity := (opCoalesceAgeLimit_frame s).2.2.1
@[simp] theorem opCoalesceAgeLimit_tables (s : State) : (opCoalesceAgeLimit s).tables = s.tables := (opCoalesceAgeLimit_frame s).2.2.2.1
@[simp] theorem opCoalesceAgeLimit_tracker (s : State) : (opCoalesceAgeLimit s).tracker = s.tracker := (opCoalesceAgeLimit_frame s).2.2.2.2.1
@[simp] theorem opCoalesceAgeLimit_lots (s : State) : (opCoalesceAgeLimit s).lots = s.lots := (opCoalesceAgeLimit_frame s).2.2.2.2.2.1
@[simp] theorem opCoalesceAgeLimit_arbiter (s : State) : (opCoalesceAgeLimit s).arbiter = s.arbiter := (opCoalesceAgeLimit_frame s).2.2.2.2.2.2.1
@[simp] theorem opCoalesceAgeLimit_belt (s : State) : (opCoalesceAgeLimit s).belt = s.belt := (opCoalesceAgeLimit_frame s).2.2.2.2.2.2.2.1
@[simp] theorem opCoalesceAgeLimit_head (s : State) : (opCoalesceAgeLimit s).head = s.head := (opCoalesceAgeLimit_frame s).2.2.2.2.2.2.2.2.1
@[simp] theorem opCoalesceAgeLimit_filtration (s : State) : (opCoalesceAgeLimit s).filtration = s.filtration := (opCoalesceAgeLimit_frame s).2.2.2.2.2.2.2.2.2.1
@[simp] theorem opCoalesceAgeLimit_engine (s : State) : (opCoalesceAgeLimit s).engine = s.engine := (opCoalesceAgeLimit_frame s).2.2.2.2.2.2.2.2.2.2.1
@[simp] theorem opCoalesceAgeLimit_router (s : State) : (opCoalesceAgeLimit s).router = s.router := (opCoalesceAgeLimit_frame s).2.2.2.2.2.2.2.2.2.2.2.1
@[simp] theorem opCoalesceAgeLimit_cellState (s : State) : (opCoalesceAgeLimit s).cellPort.state = s.cellPort.state := (opCoalesceAgeLimit_frame s).2.2.2.2.2.2.2.2.2.2.2.2.1
@[simp] theorem opCoalesceAgeLimit_plantState (s : State) : (opCoalesceAgeLimit s).plantPort.state = s.plantPort.state := (opCoalesceAgeLimit_frame s).2.2.2.2.2.2.2.2.2.2.2.2.2.1
@[simp] theorem opCoalesceAgeLimit_eeprom (s : State) : (opCoalesceAgeLimit s).eeprom = s.eeprom := (opCoalesceAgeLimit_frame s).2.2.2.2.2.2.2.2.2.2.2.2.2.2.1
@[simp] theorem opCoalesceAgeLimit_draws (s : State) : (opCoalesceAgeLimit s).draws = s.draws := (opCoalesceAgeLimit_frame s).2.2.2.2.2.2.2.2.2.2.2.2.2.2.2.1
@[simp] theorem opCoalesceAgeLimit_raised (s : State) : (opCoalesceAgeLimit s).raised = s.raised := (opCoalesceAgeLimit_frame s).2.2.2.2.2.2.2.2.2.2.2.2.2.2.2.2.1
@[simp] theorem opCoalesceAgeLimit_handed (s : State) : (opCoalesceAgeLimit s).handed = s.handed := (opCoalesceAgeLimit_frame s).2.2.2.2.2.2.2.2.2.2.2.2.2.2.2.2.2.1
@[simp] theorem opCoalesceAgeLimit_pending (s : State) : (opCoalesceAgeLimit s).pending = s.pending := (opCoalesceAgeLimit_frame s).2.2.2.2.2.2.2.2.2.2.2.2.2.2.2.2.2.2

theorem applyIdle_frame (s : State) :
    (applyIdle s).now = s.now ∧
    (applyIdle s).mode = s.mode ∧
    (applyIdle s).activity = s.activity ∧
    (applyIdle s).tables = s.tables ∧
    (applyIdle s).tracker.last = s.tracker.last ∧
    (applyIdle s).tracker.acc = s.tracker.acc ∧
    (applyIdle s).filtration = s.filtration ∧
    (applyIdle s).engine = s.engine ∧
    (applyIdle s).router = s.router ∧
    (applyIdle s).cellPort.state = s.cellPort.state ∧
    (applyIdle s).plantPort.state = s.plantPort.state ∧
    (applyIdle s).eeprom = s.eeprom ∧
    (applyIdle s).draws = s.draws ∧
    (applyIdle s).pending = s.pending := by
  unfold applyIdle
  repeat' split
  all_goals simp
@[simp] theorem applyIdle_now (s : State) : (applyIdle s).now = s.now := (applyIdle_frame s).1
@[simp] theorem applyIdle_mode (s : State) : (applyIdle s).mode = s.mode := (applyIdle_frame s).2.1
@[simp] theorem applyIdle_activity (s : State) : (applyIdle s).activity = s.activity := (applyIdle_frame s).2.2.1
@[simp] theorem applyIdle_tables (s : State) : (applyIdle s).tables = s.tables := (applyIdle_frame s).2.2.2.1
@[simp] theorem applyIdle_last (s : State) : (applyIdle s).tracker.last = s.tracker.last := (applyIdle_frame s).2.2.2.2.1
@[simp] theorem applyIdle_acc (s : State) : (applyIdle s).tracker.acc = s.tracker.acc := (applyIdle_frame s).2.2.2.2.2.1
@[simp] theorem applyIdle_filtration (s : State) : (applyIdle s).filtration = s.filtration := (applyIdle_frame s).2.2.2.2.2.2.1
@[simp] theorem applyIdle_engine (s : State) : (applyIdle s).engine = s.engine := (applyIdle_frame s).2.2.2.2.2.2.2.1
@[simp] theorem applyIdle_router (s : State) : (applyIdle s).router = s.router := (applyIdle_frame s).2.2.2.2.2.2.2.2.1
@[simp] theorem applyIdle_cellState (s : State) : (applyIdle s).cellPort.state = s.cellPort.state := (applyIdle_frame s).2.2.2.2.2.2.2.2.2.1
@[simp] theorem applyIdle_plantState (s : State) : (applyIdle s).plantPort.state = s.plantPort.state := (applyIdle_frame s).2.2.2.2.2.2.2.2.2.2.1
@[simp] theorem applyIdle_eeprom (s : State) : (applyIdle s).eeprom = s.eeprom := (applyIdle_frame s).2.2.2.2.2.2.2.2.2.2.2.1
@[simp] theorem applyIdle_draws (s : State) : (applyIdle s).draws = s.draws := (applyIdle_frame s).2.2.2.2.2.2.2.2.2.2.2.2.1
@[simp] theorem applyIdle_pending (s : State) : (applyIdle s).pending = s.pending := (applyIdle_frame s).2.2.2.2.2.2.2.2.2.2.2.2.2

theorem haltBody_frame (s : State) :
    (haltBody s).1.now = s.now ∧
    (haltBody s).1.mode = s.mode ∧
    (haltBody s).1.activity = s.activity ∧
    (haltBody s).1.tables = s.tables ∧
    (haltBody s).1.tracker = s.tracker ∧
    (haltBody s).1.lots = s.lots ∧
    (haltBody s).1.arbiter = s.arbiter ∧
    (haltBody s).1.head = s.head ∧
    (haltBody s).1.filtration = s.filtration ∧
    (haltBody s).1.engine = s.engine ∧
    (haltBody s).1.router = s.router ∧
    (haltBody s).1.cellPort.state = s.cellPort.state ∧
    (haltBody s).1.plantPort.state = s.plantPort.state ∧
    (haltBody s).1.eeprom = s.eeprom ∧
    (haltBody s).1.draws = s.draws ∧
    (haltBody s).1.raised = s.raised ∧
    (haltBody s).1.pending = s.pending := by
  simp [haltBody]
@[simp] theorem haltBody_now (s : State) : (haltBody s).1.now = s.now := (haltBody_frame s).1
@[simp] theorem haltBody_mode (s : State) : (haltBody s).1.mode = s.mode := (haltBody_frame s).2.1
@[simp] theorem haltBody_activity (s : State) : (haltBody s).1.activity = s.activity := (haltBody_frame s).2.2.1
@[simp] theorem haltBody_tables (s : State) : (haltBody s).1.tables = s.tables := (haltBody_frame s).2.2.2.1
@[simp] theorem haltBody_tracker (s : State) : (haltBody s).1.tracker = s.tracker := (haltBody_frame s).2.2.2.2.1
@[simp] theorem haltBody_lots (s : State) : (haltBody s).1.lots = s.lots := (haltBody_frame s).2.2.2.2.2.1
@[simp] theorem haltBody_arbiter (s : State) : (haltBody s).1.arbiter = s.arbiter := (haltBody_frame s).2.2.2.2.2.2.1
@[simp] theorem haltBody_head (s : State) : (haltBody s).1.head = s.head := (haltBody_frame s).2.2.2.2.2.2.2.1
@[simp] theorem haltBody_filtration (s : State) : (haltBody s).1.filtration = s.filtration := (haltBody_frame s).2.2.2.2.2.2.2.2.1
@[simp] theorem haltBody_engine (s : State) : (haltBody s).1.engine = s.engine := (haltBody_frame s).2.2.2.2.2.2.2.2.2.1
@[simp] theorem haltBody_router (s : State) : (haltBody s).1.router = s.router := (haltBody_frame s).2.2.2.2.2.2.2.2.2.2.1
@[simp] theorem haltBody_cellState (s : State) : (haltBody s).1.cellPort.state = s.cellPort.state := (haltBody_frame s).2.2.2.2.2.2.2.2.2.2.2.1
@[simp] theorem haltBody_plantState (s : State) : (haltBody s).1.plantPort.state = s.plantPort.state := (haltBody_frame s).2.2.2.2.2.2.2.2.2.2.2.2.1
@[simp] theorem haltBody_eeprom (s : State) : (haltBody s).1.eeprom = s.eeprom := (haltBody_frame s).2.2.2.2.2.2.2.2.2.2.2.2.2.1
@[simp] theorem haltBody_draws (s : State) : (haltBody s).1.draws = s.draws := (haltBody_frame s).2.2.2.2.2.2.2.2.2.2.2.2.2.2.1
@[simp] theorem haltBody_raised (s : State) : (haltBody s).1.raised = s.raised := (haltBody_frame s).2.2.2.2.2.2.2.2.2.2.2.2.2.2.2.1
@[simp] theorem haltBody_pending (s : State) : (haltBody s).1.pending = s.pending := (haltBody_frame s).2.2.2.2.2.2.2.2.2.2.2.2.2.2.2.2

theorem releaseBody_frame (s : State) :
    (releaseBody s).1.now = s.now ∧
    (releaseBody s).1.mode = s.mode ∧
    (releaseBody s).1.activity = s.activity ∧
    (releaseBody s).1.tables = s.tables ∧
    (releaseBody s).1.tracker.last = s.tracker.last ∧
    (releaseBody s).1.tracker.acc = s.tracker.acc ∧
    (releaseBody s).1.filtration = s.filtration ∧
    (releaseBody s).1.engine = s.engine ∧
    (releaseBody s).1.router = s.router ∧
    (releaseBody s).1.cellPort.state = s.cellPort.state ∧
    (releaseBody s).1.plantPort.state = s.plantPort.state ∧
    (releaseBody s).1.eeprom = s.eeprom ∧
    (releaseBody s).1.draws = s.draws ∧
    (releaseBody s).1.raised = s.raised ∧
    (releaseBody s).1.pending = s.pending := by
  simp [releaseBody]
@[simp] theorem releaseBody_now (s : State) : (releaseBody s).1.now = s.now := (releaseBody_frame s).1
@[simp] theorem releaseBody_mode (s : State) : (releaseBody s).1.mode = s.mode := (releaseBody_frame s).2.1
@[simp] theorem releaseBody_activity (s : State) : (releaseBody s).1.activity = s.activity := (releaseBody_frame s).2.2.1
@[simp] theorem releaseBody_tables (s : State) : (releaseBody s).1.tables = s.tables := (releaseBody_frame s).2.2.2.1
@[simp] theorem releaseBody_last (s : State) : (releaseBody s).1.tracker.last = s.tracker.last := (releaseBody_frame s).2.2.2.2.1
@[simp] theorem releaseBody_acc (s : State) : (releaseBody s).1.tracker.acc = s.tracker.acc := (releaseBody_frame s).2.2.2.2.2.1
@[simp] theorem releaseBody_filtration (s : State) : (releaseBody s).1.filtration = s.filtration := (releaseBody_frame s).2.2.2.2.2.2.1
@[simp] theorem releaseBody_engine (s : State) : (releaseBody s).1.engine = s.engine := (releaseBody_frame s).2.2.2.2.2.2.2.1
@[simp] theorem releaseBody_router (s : State) : (releaseBody s).1.router = s.router := (releaseBody_frame s).2.2.2.2.2.2.2.2.1
@[simp] theorem releaseBody_cellState (s : State) : (releaseBody s).1.cellPort.state = s.cellPort.state := (releaseBody_frame s).2.2.2.2.2.2.2.2.2.1
@[simp] theorem releaseBody_plantState (s : State) : (releaseBody s).1.plantPort.state = s.plantPort.state := (releaseBody_frame s).2.2.2.2.2.2.2.2.2.2.1
@[simp] theorem releaseBody_eeprom (s : State) : (releaseBody s).1.eeprom = s.eeprom := (releaseBody_frame s).2.2.2.2.2.2.2.2.2.2.2.1
@[simp] theorem releaseBody_draws (s : State) : (releaseBody s).1.draws = s.draws := (releaseBody_frame s).2.2.2.2.2.2.2.2.2.2.2.2.1
@[simp] theorem releaseBody_raised (s : State) : (releaseBody s).1.raised = s.raised := (releaseBody_frame s).2.2.2.2.2.2.2.2.2.2.2.2.2.1
@[simp] theorem releaseBody_pending (s : State) : (releaseBody s).1.pending = s.pending := (releaseBody_frame s).2.2.2.2.2.2.2.2.2.2.2.2.2.2

theorem releaseOverrideBody_frame (s : State) :
    (releaseOverrideBody s).1.now = s.now ∧
    (releaseOverrideBody s).1.mode = s.mode ∧
    (releaseOverrideBody s).1.activity = s.activity ∧
    (releaseOverrideBody s).1.tables = s.tables ∧
    (releaseOverrideBody s).1.tracker = s.tracker ∧
    (releaseOverrideBody s).1.lots = s.lots ∧
    (releaseOverrideBody s).1.arbiter = s.arbiter ∧
    (releaseOverrideBody s).1.head = s.head ∧
    (releaseOverrideBody s).1.filtration = s.filtration ∧
    (releaseOverrideBody s).1.engine = s.engine ∧
    (releaseOverrideBody s).1.router = s.router ∧
    (releaseOverrideBody s).1.notices = s.notices ∧
    (releaseOverrideBody s).1.cellPort = s.cellPort ∧
    (releaseOverrideBody s).1.plantPort = s.plantPort ∧
    (releaseOverrideBody s).1.eeprom = s.eeprom ∧
    (releaseOverrideBody s).1.draws = s.draws ∧
    (releaseOverrideBody s).1.raised = s.raised ∧
    (releaseOverrideBody s).1.pending = s.pending := by
  simp [releaseOverrideBody]
@[simp] theorem releaseOverrideBody_now (s : State) : (releaseOverrideBody s).1.now = s.now := (releaseOverrideBody_frame s).1
@[simp] theorem releaseOverrideBody_mode (s : State) : (releaseOverrideBody s).1.mode = s.mode := (releaseOverrideBody_frame s).2.1
@[simp] theorem releaseOverrideBody_activity (s : State) : (releaseOverrideBody s).1.activity = s.activity := (releaseOverrideBody_frame s).2.2.1
@[simp] theorem releaseOverrideBody_tables (s : State) : (releaseOverrideBody s).1.tables = s.tables := (releaseOverrideBody_frame s).2.2.2.1
@[simp] theorem releaseOverrideBody_tracker (s : State) : (releaseOverrideBody s).1.tracker = s.tracker := (releaseOverrideBody_frame s).2.2.2.2.1
@[simp] theorem releaseOverrideBody_lots (s : State) : (releaseOverrideBody s).1.lots = s.lots := (releaseOverrideBody_frame s).2.2.2.2.2.1
@[simp] theorem releaseOverrideBody_arbiter (s : State) : (releaseOverrideBody s).1.arbiter = s.arbiter := (releaseOverrideBody_frame s).2.2.2.2.2.2.1
@[simp] theorem releaseOverrideBody_head (s : State) : (releaseOverrideBody s).1.head = s.head := (releaseOverrideBody_frame s).2.2.2.2.2.2.2.1
@[simp] theorem releaseOverrideBody_filtration (s : State) : (releaseOverrideBody s).1.filtration = s.filtration := (releaseOverrideBody_frame s).2.2.2.2.2.2.2.2.1
@[simp] theorem releaseOverrideBody_engine (s : State) : (releaseOverrideBody s).1.engine = s.engine := (releaseOverrideBody_frame s).2.2.2.2.2.2.2.2.2.1
@[simp] theorem releaseOverrideBody_router (s : State) : (releaseOverrideBody s).1.router = s.router := (releaseOverrideBody_frame s).2.2.2.2.2.2.2.2.2.2.1
@[simp] theorem releaseOverrideBody_notices (s : State) : (releaseOverrideBody s).1.notices = s.notices := (releaseOverrideBody_frame s).2.2.2.2.2.2.2.2.2.2.2.1
@[simp] theorem releaseOverrideBody_cellPort (s : State) : (releaseOverrideBody s).1.cellPort = s.cellPort := (releaseOverrideBody_frame s).2.2.2.2.2.2.2.2.2.2.2.2.1
@[simp] theorem releaseOverrideBody_plantPort (s : State) : (releaseOverrideBody s).1.plantPort = s.plantPort := (releaseOverrideBody_frame s).2.2.2.2.2.2.2.2.2.2.2.2.2.1
@[simp] theorem releaseOverrideBody_eeprom (s : State) : (releaseOverrideBody s).1.eeprom = s.eeprom := (releaseOverrideBody_frame s).2.2.2.2.2.2.2.2.2.2.2.2.2.2.1
@[simp] theorem releaseOverrideBody_draws (s : State) : (releaseOverrideBody s).1.draws = s.draws := (releaseOverrideBody_frame s).2.2.2.2.2.2.2.2.2.2.2.2.2.2.2.1
@[simp] theorem releaseOverrideBody_raised (s : State) : (releaseOverrideBody s).1.raised = s.raised := (releaseOverrideBody_frame s).2.2.2.2.2.2.2.2.2.2.2.2.2.2.2.2.1
@[simp] theorem releaseOverrideBody_pending (s : State) : (releaseOverrideBody s).1.pending = s.pending := (releaseOverrideBody_frame s).2.2.2.2.2.2.2.2.2.2.2.2.2.2.2.2.2

theorem acknowledge_frame (i : SourceNo) (s : State) :
    (acknowledge i s).now = s.now ∧
    (acknowledge i s).mode = s.mode ∧
    (acknowledge i s).activity = s.activity ∧
    (acknowledge i s).tables = s.tables ∧
    (acknowledge i s).tracker = s.tracker ∧
    (acknowledge i s).lots = s.lots ∧
    (acknowledge i s).arbiter = s.arbiter ∧
    (acknowledge i s).belt = s.belt ∧
    (acknowledge i s).head = s.head ∧
    (acknowledge i s).filtration = s.filtration ∧
    (acknowledge i s).engine = s.engine ∧
    (acknowledge i s).notices = s.notices ∧
    (acknowledge i s).coalescer = s.coalescer ∧
    (acknowledge i s).cellPort = s.cellPort ∧
    (acknowledge i s).plantPort = s.plantPort ∧
    (acknowledge i s).counters = s.counters ∧
    (acknowledge i s).eeprom = s.eeprom ∧
    (acknowledge i s).draws = s.draws ∧
    (acknowledge i s).raised = s.raised ∧
    (acknowledge i s).handed = s.handed ∧
    (acknowledge i s).pending = s.pending := by
  simp [acknowledge]
@[simp] theorem acknowledge_now (i : SourceNo) (s : State) : (acknowledge i s).now = s.now := (acknowledge_frame i s).1
@[simp] theorem acknowledge_mode (i : SourceNo) (s : State) : (acknowledge i s).mode = s.mode := (acknowledge_frame i s).2.1
@[simp] theorem acknowledge_activity (i : SourceNo) (s : State) : (acknowledge i s).activity = s.activity := (acknowledge_frame i s).2.2.1
@[simp] theorem acknowledge_tables (i : SourceNo) (s : State) : (acknowledge i s).tables = s.tables := (acknowledge_frame i s).2.2.2.1
@[simp] theorem acknowledge_tracker (i : SourceNo) (s : State) : (acknowledge i s).tracker = s.tracker := (acknowledge_frame i s).2.2.2.2.1
@[simp] theorem acknowledge_lots (i : SourceNo) (s : State) : (acknowledge i s).lots = s.lots := (acknowledge_frame i s).2.2.2.2.2.1
@[simp] theorem acknowledge_arbiter (i : SourceNo) (s : State) : (acknowledge i s).arbiter = s.arbiter := (acknowledge_frame i s).2.2.2.2.2.2.1
@[simp] theorem acknowledge_belt (i : SourceNo) (s : State) : (acknowledge i s).belt = s.belt := (acknowledge_frame i s).2.2.2.2.2.2.2.1
@[simp] theorem acknowledge_head (i : SourceNo) (s : State) : (acknowledge i s).head = s.head := (acknowledge_frame i s).2.2.2.2.2.2.2.2.1
@[simp] theorem acknowledge_filtration (i : SourceNo) (s : State) : (acknowledge i s).filtration = s.filtration := (acknowledge_frame i s).2.2.2.2.2.2.2.2.2.1
@[simp] theorem acknowledge_engine (i : SourceNo) (s : State) : (acknowledge i s).engine = s.engine := (acknowledge_frame i s).2.2.2.2.2.2.2.2.2.2.1
@[simp] theorem acknowledge_notices (i : SourceNo) (s : State) : (acknowledge i s).notices = s.notices := (acknowledge_frame i s).2.2.2.2.2.2.2.2.2.2.2.1
@[simp] theorem acknowledge_coalescer (i : SourceNo) (s : State) : (acknowledge i s).coalescer = s.coalescer := (acknowledge_frame i s).2.2.2.2.2.2.2.2.2.2.2.2.1
@[simp] theorem acknowledge_cellPort (i : SourceNo) (s : State) : (acknowledge i s).cellPort = s.cellPort := (acknowledge_frame i s).2.2.2.2.2.2.2.2.2.2.2.2.2.1
@[simp] theorem acknowledge_plantPort (i : SourceNo) (s : State) : (acknowledge i s).plantPort = s.plantPort := (acknowledge_frame i s).2.2.2.2.2.2.2.2.2.2.2.2.2.2.1
@[simp] theorem acknowledge_counters (i : SourceNo) (s : State) : (acknowledge i s).counters = s.counters := (acknowledge_frame i s).2.2.2.2.2.2.2.2.2.2.2.2.2.2.2.1
@[simp] theorem acknowledge_eeprom (i : SourceNo) (s : State) : (acknowledge i s).eeprom = s.eeprom := (acknowledge_frame i s).2.2.2.2.2.2.2.2.2.2.2.2.2.2.2.2.1
@[simp] theorem acknowledge_draws (i : SourceNo) (s : State) : (acknowledge i s).draws = s.draws := (acknowledge_frame i s).2.2.2.2.2.2.2.2.2.2.2.2.2.2.2.2.2.1
@[simp] theorem acknowledge_raised (i : SourceNo) (s : State) : (acknowledge i s).raised = s.raised := (acknowledge_frame i s).2.2.2.2.2.2.2.2.2.2.2.2.2.2.2.2.2.2.1
@[simp] theorem acknowledge_handed (i : SourceNo) (s : State) : (acknowledge i s).handed = s.handed := (acknowledge_frame i s).2.2.2.2.2.2.2.2.2.2.2.2.2.2.2.2.2.2.2.1
@[simp] theorem acknowledge_pending (i : SourceNo) (s : State) : (acknowledge i s).pending = s.pending := (acknowledge_frame i s).2.2.2.2.2.2.2.2.2.2.2.2.2.2.2.2.2.2.2.2

theorem clearRouter_frame (s : State) :
    (clearRouter s).now = s.now ∧
    (clearRouter s).mode = s.mode ∧
    (clearRouter s).activity = s.activity ∧
    (clearRouter s).tables = s.tables ∧
    (clearRouter s).tracker = s.tracker ∧
    (clearRouter s).lots = s.lots ∧
    (clearRouter s).arbiter = s.arbiter ∧
    (clearRouter s).belt = s.belt ∧
    (clearRouter s).head = s.head ∧
    (clearRouter s).filtration = s.filtration ∧
    (clearRouter s).engine = s.engine ∧
    (clearRouter s).notices = s.notices ∧
    (clearRouter s).coalescer = s.coalescer ∧
    (clearRouter s).cellPort = s.cellPort ∧
    (clearRouter s).plantPort = s.plantPort ∧
    (clearRouter s).counters = s.counters ∧
    (clearRouter s).eeprom = s.eeprom ∧
    (clearRouter s).draws = s.draws ∧
    (clearRouter s).raised = s.raised ∧
    (clearRouter s).handed = s.handed ∧
    (clearRouter s).pending = s.pending := by
  simp [clearRouter]
@[simp] theorem clearRouter_now (s : State) : (clearRouter s).now = s.now := (clearRouter_frame s).1
@[simp] theorem clearRouter_mode (s : State) : (clearRouter s).mode = s.mode := (clearRouter_frame s).2.1
@[simp] theorem clearRouter_activity (s : State) : (clearRouter s).activity = s.activity := (clearRouter_frame s).2.2.1
@[simp] theorem clearRouter_tables (s : State) : (clearRouter s).tables = s.tables := (clearRouter_frame s).2.2.2.1
@[simp] theorem clearRouter_tracker (s : State) : (clearRouter s).tracker = s.tracker := (clearRouter_frame s).2.2.2.2.1
@[simp] theorem clearRouter_lots (s : State) : (clearRouter s).lots = s.lots := (clearRouter_frame s).2.2.2.2.2.1
@[simp] theorem clearRouter_arbiter (s : State) : (clearRouter s).arbiter = s.arbiter := (clearRouter_frame s).2.2.2.2.2.2.1
@[simp] theorem clearRouter_belt (s : State) : (clearRouter s).belt = s.belt := (clearRouter_frame s).2.2.2.2.2.2.2.1
@[simp] theorem clearRouter_head (s : State) : (clearRouter s).head = s.head := (clearRouter_frame s).2.2.2.2.2.2.2.2.1
@[simp] theorem clearRouter_filtration (s : State) : (clearRouter s).filtration = s.filtration := (clearRouter_frame s).2.2.2.2.2.2.2.2.2.1
@[simp] theorem clearRouter_engine (s : State) : (clearRouter s).engine = s.engine := (clearRouter_frame s).2.2.2.2.2.2.2.2.2.2.1
@[simp] theorem clearRouter_notices (s : State) : (clearRouter s).notices = s.notices := (clearRouter_frame s).2.2.2.2.2.2.2.2.2.2.2.1
@[simp] theorem clearRouter_coalescer (s : State) : (clearRouter s).coalescer = s.coalescer := (clearRouter_frame s).2.2.2.2.2.2.2.2.2.2.2.2.1
@[simp] theorem clearRouter_cellPort (s : State) : (clearRouter s).cellPort = s.cellPort := (clearRouter_frame s).2.2.2.2.2.2.2.2.2.2.2.2.2.1
@[simp] theorem clearRouter_plantPort (s : State) : (clearRouter s).plantPort = s.plantPort := (clearRouter_frame s).2.2.2.2.2.2.2.2.2.2.2.2.2.2.1
@[simp] theorem clearRouter_counters (s : State) : (clearRouter s).counters = s.counters := (clearRouter_frame s).2.2.2.2.2.2.2.2.2.2.2.2.2.2.2.1
@[simp] theorem clearRouter_eeprom (s : State) : (clearRouter s).eeprom = s.eeprom := (clearRouter_frame s).2.2.2.2.2.2.2.2.2.2.2.2.2.2.2.2.1
@[simp] theorem clearRouter_draws (s : State) : (clearRouter s).draws = s.draws := (clearRouter_frame s).2.2.2.2.2.2.2.2.2.2.2.2.2.2.2.2.2.1
@[simp] theorem clearRouter_raised (s : State) : (clearRouter s).raised = s.raised := (clearRouter_frame s).2.2.2.2.2.2.2.2.2.2.2.2.2.2.2.2.2.2.1
@[simp] theorem clearRouter_handed (s : State) : (clearRouter s).handed = s.handed := (clearRouter_frame s).2.2.2.2.2.2.2.2.2.2.2.2.2.2.2.2.2.2.2.1
@[simp] theorem clearRouter_pending (s : State) : (clearRouter s).pending = s.pending := (clearRouter_frame s).2.2.2.2.2.2.2.2.2.2.2.2.2.2.2.2.2.2.2.2

theorem ackBody_frame (r : Req) (s : State) :
    (ackBody r s).1.now = s.now ∧
    (ackBody r s).1.mode = s.mode ∧
    (ackBody r s).1.activity = s.activity ∧
    (ackBody r s).1.tables = s.tables ∧
    (ackBody r s).1.tracker = s.tracker ∧
    (ackBody r s).1.lots = s.lots ∧
    (ackBody r s).1.arbiter = s.arbiter ∧
    (ackBody r s).1.belt = s.belt ∧
    (ackBody r s).1.head = s.head ∧
    (ackBody r s).1.filtration = s.filtration ∧
    (ackBody r s).1.engine = s.engine ∧
    (ackBody r s).1.notices = s.notices ∧
    (ackBody r s).1.coalescer = s.coalescer ∧
    (ackBody r s).1.cellPort = s.cellPort ∧
    (ackBody r s).1.plantPort = s.plantPort ∧
    (ackBody r s).1.counters = s.counters ∧
    (ackBody r s).1.eeprom = s.eeprom ∧
    (ackBody r s).1.draws = s.draws ∧
    (ackBody r s).1.raised = s.raised ∧
    (ackBody r s).1.handed = s.handed ∧
    (ackBody r s).1.pending = s.pending := by
  unfold ackBody
  repeat' split
  all_goals simp
@[simp] theorem ackBody_now (r : Req) (s : State) : (ackBody r s).1.now = s.now := (ackBody_frame r s).1
@[simp] theorem ackBody_mode (r : Req) (s : State) : (ackBody r s).1.mode = s.mode := (ackBody_frame r s).2.1
@[simp] theorem ackBody_activity (r : Req) (s : State) : (ackBody r s).1.activity = s.activity := (ackBody_frame r s).2.2.1
@[simp] theorem ackBody_tables (r : Req) (s : State) : (ackBody r s).1.tables = s.tables := (ackBody_frame r s).2.2.2.1
@[simp] theorem ackBody_tracker (r : Req) (s : State) : (ackBody r s).1.tracker = s.tracker := (ackBody_frame r s).2.2.2.2.1
@[simp] theorem ackBody_lots (r : Req) (s : State) : (ackBody r s).1.lots = s.lots := (ackBody_frame r s).2.2.2.2.2.1
@[simp] theorem ackBody_arbiter (r : Req) (s : State) : (ackBody r s).1.arbiter = s.arbiter := (ackBody_frame r s).2.2.2.2.2.2.1
@[simp] theorem ackBody_belt (r : Req) (s : State) : (ackBody r s).1.belt = s.belt := (ackBody_frame r s).2.2.2.2.2.2.2.1
@[simp] theorem ackBody_head (r : Req) (s : State) : (ackBody r s).1.head = s.head := (ackBody_frame r s).2.2.2.2.2.2.2.2.1
@[simp] theorem ackBody_filtration (r : Req) (s : State) : (ackBody r s).1.filtration = s.filtration := (ackBody_frame r s).2.2.2.2.2.2.2.2.2.1
@[simp] theorem ackBody_engine (r : Req) (s : State) : (ackBody r s).1.engine = s.engine := (ackBody_frame r s).2.2.2.2.2.2.2.2.2.2.1
@[simp] theorem ackBody_notices (r : Req) (s : State) : (ackBody r s).1.notices = s.notices := (ackBody_frame r s).2.2.2.2.2.2.2.2.2.2.2.1
@[simp] theorem ackBody_coalescer (r : Req) (s : State) : (ackBody r s).1.coalescer = s.coalescer := (ackBody_frame r s).2.2.2.2.2.2.2.2.2.2.2.2.1
@[simp] theorem ackBody_cellPort (r : Req) (s : State) : (ackBody r s).1.cellPort = s.cellPort := (ackBody_frame r s).2.2.2.2.2.2.2.2.2.2.2.2.2.1
@[simp] theorem ackBody_plantPort (r : Req) (s : State) : (ackBody r s).1.plantPort = s.plantPort := (ackBody_frame r s).2.2.2.2.2.2.2.2.2.2.2.2.2.2.1
@[simp] theorem ackBody_counters (r : Req) (s : State) : (ackBody r s).1.counters = s.counters := (ackBody_frame r s).2.2.2.2.2.2.2.2.2.2.2.2.2.2.2.1
@[simp] theorem ackBody_eeprom (r : Req) (s : State) : (ackBody r s).1.eeprom = s.eeprom := (ackBody_frame r s).2.2.2.2.2.2.2.2.2.2.2.2.2.2.2.2.1
@[simp] theorem ackBody_draws (r : Req) (s : State) : (ackBody r s).1.draws = s.draws := (ackBody_frame r s).2.2.2.2.2.2.2.2.2.2.2.2.2.2.2.2.2.1
@[simp] theorem ackBody_raised (r : Req) (s : State) : (ackBody r s).1.raised = s.raised := (ackBody_frame r s).2.2.2.2.2.2.2.2.2.2.2.2.2.2.2.2.2.2.1
@[simp] theorem ackBody_handed (r : Req) (s : State) : (ackBody r s).1.handed = s.handed := (ackBody_frame r s).2.2.2.2.2.2.2.2.2.2.2.2.2.2.2.2.2.2.2.1
@[simp] theorem ackBody_pending (r : Req) (s : State) : (ackBody r s).1.pending = s.pending := (ackBody_frame r s).2.2.2.2.2.2.2.2.2.2.2.2.2.2.2.2.2.2.2.2

theorem clearFaultBody_frame (s : State) :
    (clearFaultBody s).1.now = s.now ∧
    (clearFaultBody s).1.mode = s.mode ∧
    (clearFaultBody s).1.activity = s.activity ∧
    (clearFaultBody s).1.tables = s.tables ∧
    (clearFaultBody s).1.tracker = s.tracker ∧
    (clearFaultBody s).1.lots = s.lots ∧
    (clearFaultBody s).1.arbiter = s.arbiter ∧
    (clearFaultBody s).1.belt = s.belt ∧
    (clearFaultBody s).1.head = s.head ∧
    (clearFaultBody s).1.filtration = s.filtration ∧
    (clearFaultBody s).1.engine = s.engine ∧
    (clearFaultBody s).1.router = s.router ∧
    (clearFaultBody s).1.coalescer = s.coalescer ∧
    (clearFaultBody s).1.cellPort = s.cellPort ∧
    (clearFaultBody s).1.plantPort = s.plantPort ∧
    (clearFaultBody s).1.counters = s.counters ∧
    (clearFaultBody s).1.eeprom = s.eeprom ∧
    (clearFaultBody s).1.draws = s.draws ∧
    (clearFaultBody s).1.raised = s.raised ∧
    (clearFaultBody s).1.handed = s.handed ∧
    (clearFaultBody s).1.pending = s.pending := by
  simp [clearFaultBody]
@[simp] theorem clearFaultBody_now (s : State) : (clearFaultBody s).1.now = s.now := (clearFaultBody_frame s).1
@[simp] theorem clearFaultBody_mode (s : State) : (clearFaultBody s).1.mode = s.mode := (clearFaultBody_frame s).2.1
@[simp] theorem clearFaultBody_activity (s : State) : (clearFaultBody s).1.activity = s.activity := (clearFaultBody_frame s).2.2.1
@[simp] theorem clearFaultBody_tables (s : State) : (clearFaultBody s).1.tables = s.tables := (clearFaultBody_frame s).2.2.2.1
@[simp] theorem clearFaultBody_tracker (s : State) : (clearFaultBody s).1.tracker = s.tracker := (clearFaultBody_frame s).2.2.2.2.1
@[simp] theorem clearFaultBody_lots (s : State) : (clearFaultBody s).1.lots = s.lots := (clearFaultBody_frame s).2.2.2.2.2.1
@[simp] theorem clearFaultBody_arbiter (s : State) : (clearFaultBody s).1.arbiter = s.arbiter := (clearFaultBody_frame s).2.2.2.2.2.2.1
@[simp] theorem clearFaultBody_belt (s : State) : (clearFaultBody s).1.belt = s.belt := (clearFaultBody_frame s).2.2.2.2.2.2.2.1
@[simp] theorem clearFaultBody_head (s : State) : (clearFaultBody s).1.head = s.head := (clearFaultBody_frame s).2.2.2.2.2.2.2.2.1
@[simp] theorem clearFaultBody_filtration (s : State) : (clearFaultBody s).1.filtration = s.filtration := (clearFaultBody_frame s).2.2.2.2.2.2.2.2.2.1
@[simp] theorem clearFaultBody_engine (s : State) : (clearFaultBody s).1.engine = s.engine := (clearFaultBody_frame s).2.2.2.2.2.2.2.2.2.2.1
@[simp] theorem clearFaultBody_router (s : State) : (clearFaultBody s).1.router = s.router := (clearFaultBody_frame s).2.2.2.2.2.2.2.2.2.2.2.1
@[simp] theorem clearFaultBody_coalescer (s : State) : (clearFaultBody s).1.coalescer = s.coalescer := (clearFaultBody_frame s).2.2.2.2.2.2.2.2.2.2.2.2.1
@[simp] theorem clearFaultBody_cellPort (s : State) : (clearFaultBody s).1.cellPort = s.cellPort := (clearFaultBody_frame s).2.2.2.2.2.2.2.2.2.2.2.2.2.1
@[simp] theorem clearFaultBody_plantPort (s : State) : (clearFaultBody s).1.plantPort = s.plantPort := (clearFaultBody_frame s).2.2.2.2.2.2.2.2.2.2.2.2.2.2.1
@[simp] theorem clearFaultBody_counters (s : State) : (clearFaultBody s).1.counters = s.counters := (clearFaultBody_frame s).2.2.2.2.2.2.2.2.2.2.2.2.2.2.2.1
@[simp] theorem clearFaultBody_eeprom (s : State) : (clearFaultBody s).1.eeprom = s.eeprom := (clearFaultBody_frame s).2.2.2.2.2.2.2.2.2.2.2.2.2.2.2.2.1
@[simp] theorem clearFaultBody_draws (s : State) : (clearFaultBody s).1.draws = s.draws := (clearFaultBody_frame s).2.2.2.2.2.2.2.2.2.2.2.2.2.2.2.2.2.1
@[simp] theorem clearFaultBody_raised (s : State) : (clearFaultBody s).1.raised = s.raised := (clearFaultBody_frame s).2.2.2.2.2.2.2.2.2.2.2.2.2.2.2.2.2.2.1
@[simp] theorem clearFaultBody_handed (s : State) : (clearFaultBody s).1.handed = s.handed := (clearFaultBody_frame s).2.2.2.2.2.2.2.2.2.2.2.2.2.2.2.2.2.2.2.1
@[simp] theorem clearFaultBody_pending (s : State) : (clearFaultBody s).1.pending = s.pending := (clearFaultBody_frame s).2.2.2.2.2.2.2.2.2.2.2.2.2.2.2.2.2.2.2.2

theorem stopCrusher_frame (s : State) :
    (stopCrusher s).now = s.now ∧
    (stopCrusher s).mode = s.mode ∧
    (stopCrusher s).activity = s.activity ∧
    (stopCrusher s).tables = s.tables ∧
    (stopCrusher s).tracker = s.tracker ∧
    (stopCrusher s).lots = s.lots ∧
    (stopCrusher s).arbiter = s.arbiter ∧
    (stopCrusher s).belt = s.belt ∧
    (stopCrusher s).filtration = s.filtration ∧
    (stopCrusher s).engine = s.engine ∧
    (stopCrusher s).router = s.router ∧
    (stopCrusher s).notices = s.notices ∧
    (stopCrusher s).cellPort = s.cellPort ∧
    (stopCrusher s).plantPort = s.plantPort ∧
    (stopCrusher s).eeprom = s.eeprom ∧
    (stopCrusher s).draws = s.draws ∧
    (stopCrusher s).raised = s.raised ∧
    (stopCrusher s).pending = s.pending := by
  simp [stopCrusher]
@[simp] theorem stopCrusher_now (s : State) : (stopCrusher s).now = s.now := (stopCrusher_frame s).1
@[simp] theorem stopCrusher_mode (s : State) : (stopCrusher s).mode = s.mode := (stopCrusher_frame s).2.1
@[simp] theorem stopCrusher_activity (s : State) : (stopCrusher s).activity = s.activity := (stopCrusher_frame s).2.2.1
@[simp] theorem stopCrusher_tables (s : State) : (stopCrusher s).tables = s.tables := (stopCrusher_frame s).2.2.2.1
@[simp] theorem stopCrusher_tracker (s : State) : (stopCrusher s).tracker = s.tracker := (stopCrusher_frame s).2.2.2.2.1
@[simp] theorem stopCrusher_lots (s : State) : (stopCrusher s).lots = s.lots := (stopCrusher_frame s).2.2.2.2.2.1
@[simp] theorem stopCrusher_arbiter (s : State) : (stopCrusher s).arbiter = s.arbiter := (stopCrusher_frame s).2.2.2.2.2.2.1
@[simp] theorem stopCrusher_belt (s : State) : (stopCrusher s).belt = s.belt := (stopCrusher_frame s).2.2.2.2.2.2.2.1
@[simp] theorem stopCrusher_filtration (s : State) : (stopCrusher s).filtration = s.filtration := (stopCrusher_frame s).2.2.2.2.2.2.2.2.1
@[simp] theorem stopCrusher_engine (s : State) : (stopCrusher s).engine = s.engine := (stopCrusher_frame s).2.2.2.2.2.2.2.2.2.1
@[simp] theorem stopCrusher_router (s : State) : (stopCrusher s).router = s.router := (stopCrusher_frame s).2.2.2.2.2.2.2.2.2.2.1
@[simp] theorem stopCrusher_notices (s : State) : (stopCrusher s).notices = s.notices := (stopCrusher_frame s).2.2.2.2.2.2.2.2.2.2.2.1
@[simp] theorem stopCrusher_cellPort (s : State) : (stopCrusher s).cellPort = s.cellPort := (stopCrusher_frame s).2.2.2.2.2.2.2.2.2.2.2.2.1
@[simp] theorem stopCrusher_plantPort (s : State) : (stopCrusher s).plantPort = s.plantPort := (stopCrusher_frame s).2.2.2.2.2.2.2.2.2.2.2.2.2.1
@[simp] theorem stopCrusher_eeprom (s : State) : (stopCrusher s).eeprom = s.eeprom := (stopCrusher_frame s).2.2.2.2.2.2.2.2.2.2.2.2.2.2.1
@[simp] theorem stopCrusher_draws (s : State) : (stopCrusher s).draws = s.draws := (stopCrusher_frame s).2.2.2.2.2.2.2.2.2.2.2.2.2.2.2.1
@[simp] theorem stopCrusher_raised (s : State) : (stopCrusher s).raised = s.raised := (stopCrusher_frame s).2.2.2.2.2.2.2.2.2.2.2.2.2.2.2.2.1
@[simp] theorem stopCrusher_pending (s : State) : (stopCrusher s).pending = s.pending := (stopCrusher_frame s).2.2.2.2.2.2.2.2.2.2.2.2.2.2.2.2.2

theorem clearCrusherBody_frame (s : State) :
    (clearCrusherBody s).1.now = s.now ∧
    (clearCrusherBody s).1.mode = s.mode ∧
    (clearCrusherBody s).1.activity = s.activity ∧
    (clearCrusherBody s).1.tables = s.tables ∧
    (clearCrusherBody s).1.tracker.last = s.tracker.last ∧
    (clearCrusherBody s).1.tracker.acc = s.tracker.acc ∧
    (clearCrusherBody s).1.filtration = s.filtration ∧
    (clearCrusherBody s).1.engine = s.engine ∧
    (clearCrusherBody s).1.router = s.router ∧
    (clearCrusherBody s).1.cellPort.state = s.cellPort.state ∧
    (clearCrusherBody s).1.plantPort.state = s.plantPort.state ∧
    (clearCrusherBody s).1.eeprom = s.eeprom ∧
    (clearCrusherBody s).1.draws = s.draws ∧
    (clearCrusherBody s).1.pending = s.pending := by
  unfold clearCrusherBody
  repeat' split
  all_goals simp
@[simp] theorem clearCrusherBody_now (s : State) : (clearCrusherBody s).1.now = s.now := (clearCrusherBody_frame s).1
@[simp] theorem clearCrusherBody_mode (s : State) : (clearCrusherBody s).1.mode = s.mode := (clearCrusherBody_frame s).2.1
@[simp] theorem clearCrusherBody_activity (s : State) : (clearCrusherBody s).1.activity = s.activity := (clearCrusherBody_frame s).2.2.1
@[simp] theorem clearCrusherBody_tables (s : State) : (clearCrusherBody s).1.tables = s.tables := (clearCrusherBody_frame s).2.2.2.1
@[simp] theorem clearCrusherBody_last (s : State) : (clearCrusherBody s).1.tracker.last = s.tracker.last := (clearCrusherBody_frame s).2.2.2.2.1
@[simp] theorem clearCrusherBody_acc (s : State) : (clearCrusherBody s).1.tracker.acc = s.tracker.acc := (clearCrusherBody_frame s).2.2.2.2.2.1
@[simp] theorem clearCrusherBody_filtration (s : State) : (clearCrusherBody s).1.filtration = s.filtration := (clearCrusherBody_frame s).2.2.2.2.2.2.1
@[simp] theorem clearCrusherBody_engine (s : State) : (clearCrusherBody s).1.engine = s.engine := (clearCrusherBody_frame s).2.2.2.2.2.2.2.1
@[simp] theorem clearCrusherBody_router (s : State) : (clearCrusherBody s).1.router = s.router := (clearCrusherBody_frame s).2.2.2.2.2.2.2.2.1
@[simp] theorem clearCrusherBody_cellState (s : State) : (clearCrusherBody s).1.cellPort.state = s.cellPort.state := (clearCrusherBody_frame s).2.2.2.2.2.2.2.2.2.1
@[simp] theorem clearCrusherBody_plantState (s : State) : (clearCrusherBody s).1.plantPort.state = s.plantPort.state := (clearCrusherBody_frame s).2.2.2.2.2.2.2.2.2.2.1
@[simp] theorem clearCrusherBody_eeprom (s : State) : (clearCrusherBody s).1.eeprom = s.eeprom := (clearCrusherBody_frame s).2.2.2.2.2.2.2.2.2.2.2.1
@[simp] theorem clearCrusherBody_draws (s : State) : (clearCrusherBody s).1.draws = s.draws := (clearCrusherBody_frame s).2.2.2.2.2.2.2.2.2.2.2.2.1
@[simp] theorem clearCrusherBody_pending (s : State) : (clearCrusherBody s).1.pending = s.pending := (clearCrusherBody_frame s).2.2.2.2.2.2.2.2.2.2.2.2.2

theorem clearDrumState_frame (d : DrumNo) (s : State) :
    (clearDrumState d s).1.now = s.now ∧
    (clearDrumState d s).1.mode = s.mode ∧
    (clearDrumState d s).1.activity = s.activity ∧
    (clearDrumState d s).1.tables = s.tables ∧
    (clearDrumState d s).1.tracker = s.tracker ∧
    (clearDrumState d s).1.lots = s.lots ∧
    (clearDrumState d s).1.arbiter = s.arbiter ∧
    (clearDrumState d s).1.belt = s.belt ∧
    (clearDrumState d s).1.head = s.head ∧
    (clearDrumState d s).1.engine = s.engine ∧
    (clearDrumState d s).1.router = s.router ∧
    (clearDrumState d s).1.notices = s.notices ∧
    (clearDrumState d s).1.cellPort = s.cellPort ∧
    (clearDrumState d s).1.plantPort = s.plantPort ∧
    (clearDrumState d s).1.eeprom = s.eeprom ∧
    (clearDrumState d s).1.draws = s.draws ∧
    (clearDrumState d s).1.pending = s.pending := by
  unfold clearDrumState
  dsimp only
  repeat' split
  all_goals simp
@[simp] theorem clearDrumState_now (d : DrumNo) (s : State) : (clearDrumState d s).1.now = s.now := (clearDrumState_frame d s).1
@[simp] theorem clearDrumState_mode (d : DrumNo) (s : State) : (clearDrumState d s).1.mode = s.mode := (clearDrumState_frame d s).2.1
@[simp] theorem clearDrumState_activity (d : DrumNo) (s : State) : (clearDrumState d s).1.activity = s.activity := (clearDrumState_frame d s).2.2.1
@[simp] theorem clearDrumState_tables (d : DrumNo) (s : State) : (clearDrumState d s).1.tables = s.tables := (clearDrumState_frame d s).2.2.2.1
@[simp] theorem clearDrumState_tracker (d : DrumNo) (s : State) : (clearDrumState d s).1.tracker = s.tracker := (clearDrumState_frame d s).2.2.2.2.1
@[simp] theorem clearDrumState_lots (d : DrumNo) (s : State) : (clearDrumState d s).1.lots = s.lots := (clearDrumState_frame d s).2.2.2.2.2.1
@[simp] theorem clearDrumState_arbiter (d : DrumNo) (s : State) : (clearDrumState d s).1.arbiter = s.arbiter := (clearDrumState_frame d s).2.2.2.2.2.2.1
@[simp] theorem clearDrumState_belt (d : DrumNo) (s : State) : (clearDrumState d s).1.belt = s.belt := (clearDrumState_frame d s).2.2.2.2.2.2.2.1
@[simp] theorem clearDrumState_head (d : DrumNo) (s : State) : (clearDrumState d s).1.head = s.head := (clearDrumState_frame d s).2.2.2.2.2.2.2.2.1
@[simp] theorem clearDrumState_engine (d : DrumNo) (s : State) : (clearDrumState d s).1.engine = s.engine := (clearDrumState_frame d s).2.2.2.2.2.2.2.2.2.1
@[simp] theorem clearDrumState_router (d : DrumNo) (s : State) : (clearDrumState d s).1.router = s.router := (clearDrumState_frame d s).2.2.2.2.2.2.2.2.2.2.1
@[simp] theorem clearDrumState_notices (d : DrumNo) (s : State) : (clearDrumState d s).1.notices = s.notices := (clearDrumState_frame d s).2.2.2.2.2.2.2.2.2.2.2.1
@[simp] theorem clearDrumState_cellPort (d : DrumNo) (s : State) : (clearDrumState d s).1.cellPort = s.cellPort := (clearDrumState_frame d s).2.2.2.2.2.2.2.2.2.2.2.2.1
@[simp] theorem clearDrumState_plantPort (d : DrumNo) (s : State) : (clearDrumState d s).1.plantPort = s.plantPort := (clearDrumState_frame d s).2.2.2.2.2.2.2.2.2.2.2.2.2.1
@[simp] theorem clearDrumState_eeprom (d : DrumNo) (s : State) : (clearDrumState d s).1.eeprom = s.eeprom := (clearDrumState_frame d s).2.2.2.2.2.2.2.2.2.2.2.2.2.2.1
@[simp] theorem clearDrumState_draws (d : DrumNo) (s : State) : (clearDrumState d s).1.draws = s.draws := (clearDrumState_frame d s).2.2.2.2.2.2.2.2.2.2.2.2.2.2.2.1
@[simp] theorem clearDrumState_pending (d : DrumNo) (s : State) : (clearDrumState d s).1.pending = s.pending := (clearDrumState_frame d s).2.2.2.2.2.2.2.2.2.2.2.2.2.2.2.2

theorem clearDrumBody_frame (r : Req) (s : State) :
    (clearDrumBody r s).1.now = s.now ∧
    (clearDrumBody r s).1.mode = s.mode ∧
    (clearDrumBody r s).1.activity = s.activity ∧
    (clearDrumBody r s).1.tables = s.tables ∧
    (clearDrumBody r s).1.tracker = s.tracker ∧
    (clearDrumBody r s).1.lots = s.lots ∧
    (clearDrumBody r s).1.arbiter = s.arbiter ∧
    (clearDrumBody r s).1.belt = s.belt ∧
    (clearDrumBody r s).1.head = s.head ∧
    (clearDrumBody r s).1.engine = s.engine ∧
    (clearDrumBody r s).1.router = s.router ∧
    (clearDrumBody r s).1.notices = s.notices ∧
    (clearDrumBody r s).1.cellPort = s.cellPort ∧
    (clearDrumBody r s).1.plantPort = s.plantPort ∧
    (clearDrumBody r s).1.eeprom = s.eeprom ∧
    (clearDrumBody r s).1.draws = s.draws ∧
    (clearDrumBody r s).1.pending = s.pending := by
  unfold clearDrumBody
  repeat' split
  all_goals simp
@[simp] theorem clearDrumBody_now (r : Req) (s : State) : (clearDrumBody r s).1.now = s.now := (clearDrumBody_frame r s).1
@[simp] theorem clearDrumBody_mode (r : Req) (s : State) : (clearDrumBody r s).1.mode = s.mode := (clearDrumBody_frame r s).2.1
@[simp] theorem clearDrumBody_activity (r : Req) (s : State) : (clearDrumBody r s).1.activity = s.activity := (clearDrumBody_frame r s).2.2.1
@[simp] theorem clearDrumBody_tables (r : Req) (s : State) : (clearDrumBody r s).1.tables = s.tables := (clearDrumBody_frame r s).2.2.2.1
@[simp] theorem clearDrumBody_tracker (r : Req) (s : State) : (clearDrumBody r s).1.tracker = s.tracker := (clearDrumBody_frame r s).2.2.2.2.1
@[simp] theorem clearDrumBody_lots (r : Req) (s : State) : (clearDrumBody r s).1.lots = s.lots := (clearDrumBody_frame r s).2.2.2.2.2.1
@[simp] theorem clearDrumBody_arbiter (r : Req) (s : State) : (clearDrumBody r s).1.arbiter = s.arbiter := (clearDrumBody_frame r s).2.2.2.2.2.2.1
@[simp] theorem clearDrumBody_belt (r : Req) (s : State) : (clearDrumBody r s).1.belt = s.belt := (clearDrumBody_frame r s).2.2.2.2.2.2.2.1
@[simp] theorem clearDrumBody_head (r : Req) (s : State) : (clearDrumBody r s).1.head = s.head := (clearDrumBody_frame r s).2.2.2.2.2.2.2.2.1
@[simp] theorem clearDrumBody_engine (r : Req) (s : State) : (clearDrumBody r s).1.engine = s.engine := (clearDrumBody_frame r s).2.2.2.2.2.2.2.2.2.1
@[simp] theorem clearDrumBody_router (r : Req) (s : State) : (clearDrumBody r s).1.router = s.router := (clearDrumBody_frame r s).2.2.2.2.2.2.2.2.2.2.1
@[simp] theorem clearDrumBody_notices (r : Req) (s : State) : (clearDrumBody r s).1.notices = s.notices := (clearDrumBody_frame r s).2.2.2.2.2.2.2.2.2.2.2.1
@[simp] theorem clearDrumBody_cellPort (r : Req) (s : State) : (clearDrumBody r s).1.cellPort = s.cellPort := (clearDrumBody_frame r s).2.2.2.2.2.2.2.2.2.2.2.2.1
@[simp] theorem clearDrumBody_plantPort (r : Req) (s : State) : (clearDrumBody r s).1.plantPort = s.plantPort := (clearDrumBody_frame r s).2.2.2.2.2.2.2.2.2.2.2.2.2.1
@[simp] theorem clearDrumBody_eeprom (r : Req) (s : State) : (clearDrumBody r s).1.eeprom = s.eeprom := (clearDrumBody_frame r s).2.2.2.2.2.2.2.2.2.2.2.2.2.2.1
@[simp] theorem clearDrumBody_draws (r : Req) (s : State) : (clearDrumBody r s).1.draws = s.draws := (clearDrumBody_frame r s).2.2.2.2.2.2.2.2.2.2.2.2.2.2.2.1
@[simp] theorem clearDrumBody_pending (r : Req) (s : State) : (clearDrumBody r s).1.pending = s.pending := (clearDrumBody_frame r s).2.2.2.2.2.2.2.2.2.2.2.2.2.2.2.2

theorem startProgramBody_frame (r : Req) (s : State) :
    (startProgramBody r s).1.now = s.now ∧
    (startProgramBody r s).1.mode = s.mode ∧
    (startProgramBody r s).1.activity = s.activity ∧
    (startProgramBody r s).1.tables = s.tables ∧
    (startProgramBody r s).1.tracker.last = s.tracker.last ∧
    (startProgramBody r s).1.tracker.acc = s.tracker.acc ∧
    (startProgramBody r s).1.filtration = s.filtration ∧
    (startProgramBody r s).1.router = s.router ∧
    (startProgramBody r s).1.cellPort.state = s.cellPort.state ∧
    (startProgramBody r s).1.plantPort.state = s.plantPort.state ∧
    (startProgramBody r s).1.eeprom = s.eeprom ∧
    (startProgramBody r s).1.draws = s.draws ∧
    (startProgramBody r s).1.pending = s.pending := by
  unfold startProgramBody
  repeat' split
  all_goals simp
@[simp] theorem startProgramBody_now (r : Req) (s : State) : (startProgramBody r s).1.now = s.now := (startProgramBody_frame r s).1
@[simp] theorem startProgramBody_mode (r : Req) (s : State) : (startProgramBody r s).1.mode = s.mode := (startProgramBody_frame r s).2.1
@[simp] theorem startProgramBody_activity (r : Req) (s : State) : (startProgramBody r s).1.activity = s.activity := (startProgramBody_frame r s).2.2.1
@[simp] theorem startProgramBody_tables (r : Req) (s : State) : (startProgramBody r s).1.tables = s.tables := (startProgramBody_frame r s).2.2.2.1
@[simp] theorem startProgramBody_last (r : Req) (s : State) : (startProgramBody r s).1.tracker.last = s.tracker.last := (startProgramBody_frame r s).2.2.2.2.1
@[simp] theorem startProgramBody_acc (r : Req) (s : State) : (startProgramBody r s).1.tracker.acc = s.tracker.acc := (startProgramBody_frame r s).2.2.2.2.2.1
@[simp] theorem startProgramBody_filtration (r : Req) (s : State) : (startProgramBody r s).1.filtration = s.filtration := (startProgramBody_frame r s).2.2.2.2.2.2.1
@[simp] theorem startProgramBody_router (r : Req) (s : State) : (startProgramBody r s).1.router = s.router := (startProgramBody_frame r s).2.2.2.2.2.2.2.1
@[simp] theorem startProgramBody_cellState (r : Req) (s : State) : (startProgramBody r s).1.cellPort.state = s.cellPort.state := (startProgramBody_frame r s).2.2.2.2.2.2.2.2.1
@[simp] theorem startProgramBody_plantState (r : Req) (s : State) : (startProgramBody r s).1.plantPort.state = s.plantPort.state := (startProgramBody_frame r s).2.2.2.2.2.2.2.2.2.1
@[simp] theorem startProgramBody_eeprom (r : Req) (s : State) : (startProgramBody r s).1.eeprom = s.eeprom := (startProgramBody_frame r s).2.2.2.2.2.2.2.2.2.2.1
@[simp] theorem startProgramBody_draws (r : Req) (s : State) : (startProgramBody r s).1.draws = s.draws := (startProgramBody_frame r s).2.2.2.2.2.2.2.2.2.2.2.1
@[simp] theorem startProgramBody_pending (r : Req) (s : State) : (startProgramBody r s).1.pending = s.pending := (startProgramBody_frame r s).2.2.2.2.2.2.2.2.2.2.2.2

theorem abortProgramBody_frame (s : State) :
    (abortProgramBody s).1.now = s.now ∧
    (abortProgramBody s).1.mode = s.mode ∧
    (abortProgramBody s).1.activity = s.activity ∧
    (abortProgramBody s).1.tables = s.tables ∧
    (abortProgramBody s).1.tracker.last = s.tracker.last ∧
    (abortProgramBody s).1.tracker.acc = s.tracker.acc ∧
    (abortProgramBody s).1.filtration = s.filtration ∧
    (abortProgramBody s).1.router = s.router ∧
    (abortProgramBody s).1.cellPort.state = s.cellPort.state ∧
    (abortProgramBody s).1.plantPort.state = s.plantPort.state ∧
    (abortProgramBody s).1.eeprom = s.eeprom ∧
    (abortProgramBody s).1.draws = s.draws ∧
    (abortProgramBody s).1.pending = s.pending := by
  unfold abortProgramBody
  repeat' split
  all_goals simp
@[simp] theorem abortProgramBody_now (s : State) : (abortProgramBody s).1.now = s.now := (abortProgramBody_frame s).1
@[simp] theorem abortProgramBody_mode (s : State) : (abortProgramBody s).1.mode = s.mode := (abortProgramBody_frame s).2.1
@[simp] theorem abortProgramBody_activity (s : State) : (abortProgramBody s).1.activity = s.activity := (abortProgramBody_frame s).2.2.1
@[simp] theorem abortProgramBody_tables (s : State) : (abortProgramBody s).1.tables = s.tables := (abortProgramBody_frame s).2.2.2.1
@[simp] theorem abortProgramBody_last (s : State) : (abortProgramBody s).1.tracker.last = s.tracker.last := (abortProgramBody_frame s).2.2.2.2.1
@[simp] theorem abortProgramBody_acc (s : State) : (abortProgramBody s).1.tracker.acc = s.tracker.acc := (abortProgramBody_frame s).2.2.2.2.2.1
@[simp] theorem abortProgramBody_filtration (s : State) : (abortProgramBody s).1.filtration = s.filtration := (abortProgramBody_frame s).2.2.2.2.2.2.1
@[simp] theorem abortProgramBody_router (s : State) : (abortProgramBody s).1.router = s.router := (abortProgramBody_frame s).2.2.2.2.2.2.2.1
@[simp] theorem abortProgramBody_cellState (s : State) : (abortProgramBody s).1.cellPort.state = s.cellPort.state := (abortProgramBody_frame s).2.2.2.2.2.2.2.2.1
@[simp] theorem abortProgramBody_plantState (s : State) : (abortProgramBody s).1.plantPort.state = s.plantPort.state := (abortProgramBody_frame s).2.2.2.2.2.2.2.2.2.1
@[simp] theorem abortProgramBody_eeprom (s : State) : (abortProgramBody s).1.eeprom = s.eeprom := (abortProgramBody_frame s).2.2.2.2.2.2.2.2.2.2.1
@[simp] theorem abortProgramBody_draws (s : State) : (abortProgramBody s).1.draws = s.draws := (abortProgramBody_frame s).2.2.2.2.2.2.2.2.2.2.2.1
@[simp] theorem abortProgramBody_pending (s : State) : (abortProgramBody s).1.pending = s.pending := (abortProgramBody_frame s).2.2.2.2.2.2.2.2.2.2.2.2

theorem clearCountersBody_frame (s : State) :
    (clearCountersBody s).1.now = s.now ∧
    (clearCountersBody s).1.mode = s.mode ∧
    (clearCountersBody s).1.activity = s.activity ∧
    (clearCountersBody s).1.tables = s.tables ∧
    (clearCountersBody s).1.tracker = s.tracker ∧
    (clearCountersBody s).1.lots = s.lots ∧
    (clearCountersBody s).1.arbiter = s.arbiter ∧
    (clearCountersBody s).1.belt = s.belt ∧
    (clearCountersBody s).1.head = s.head ∧
    (clearCountersBody s).1.filtration = s.filtration ∧
    (clearCountersBody s).1.engine = s.engine ∧
    (clearCountersBody s).1.router = s.router ∧
    (clearCountersBody s).1.notices = s.notices ∧
    (clearCountersBody s).1.coalescer = s.coalescer ∧
    (clearCountersBody s).1.cellPort = s.cellPort ∧
    (clearCountersBody s).1.plantPort = s.plantPort ∧
    (clearCountersBody s).1.eeprom = s.eeprom ∧
    (clearCountersBody s).1.draws = s.draws ∧
    (clearCountersBody s).1.raised = s.raised ∧
    (clearCountersBody s).1.handed = s.handed ∧
    (clearCountersBody s).1.pending = s.pending := by
  simp [clearCountersBody]
@[simp] theorem clearCountersBody_now (s : State) : (clearCountersBody s).1.now = s.now := (clearCountersBody_frame s).1
@[simp] theorem clearCountersBody_mode (s : State) : (clearCountersBody s).1.mode = s.mode := (clearCountersBody_frame s).2.1
@[simp] theorem clearCountersBody_activity (s : State) : (clearCountersBody s).1.activity = s.activity := (clearCountersBody_frame s).2.2.1
@[simp] theorem clearCountersBody_tables (s : State) : (clearCountersBody s).1.tables = s.tables := (clearCountersBody_frame s).2.2.2.1
@[simp] theorem clearCountersBody_tracker (s : State) : (clearCountersBody s).1.tracker = s.tracker := (clearCountersBody_frame s).2.2.2.2.1
@[simp] theorem clearCountersBody_lots (s : State) : (clearCountersBody s).1.lots = s.lots := (clearCountersBody_frame s).2.2.2.2.2.1
@[simp] theorem clearCountersBody_arbiter (s : State) : (clearCountersBody s).1.arbiter = s.arbiter := (clearCountersBody_frame s).2.2.2.2.2.2.1
@[simp] theorem clearCountersBody_belt (s : State) : (clearCountersBody s).1.belt = s.belt := (clearCountersBody_frame s).2.2.2.2.2.2.2.1
@[simp] theorem clearCountersBody_head (s : State) : (clearCountersBody s).1.head = s.head := (clearCountersBody_frame s).2.2.2.2.2.2.2.2.1
@[simp] theorem clearCountersBody_filtration (s : State) : (clearCountersBody s).1.filtration = s.filtration := (clearCountersBody_frame s).2.2.2.2.2.2.2.2.2.1
@[simp] theorem clearCountersBody_engine (s : State) : (clearCountersBody s).1.engine = s.engine := (clearCountersBody_frame s).2.2.2.2.2.2.2.2.2.2.1
@[simp] theorem clearCountersBody_router (s : State) : (clearCountersBody s).1.router = s.router := (clearCountersBody_frame s).2.2.2.2.2.2.2.2.2.2.2.1
@[simp] theorem clearCountersBody_notices (s : State) : (clearCountersBody s).1.notices = s.notices := (clearCountersBody_frame s).2.2.2.2.2.2.2.2.2.2.2.2.1
@[simp] theorem clearCountersBody_coalescer (s : State) : (clearCountersBody s).1.coalescer = s.coalescer := (clearCountersBody_frame s).2.2.2.2.2.2.2.2.2.2.2.2.2.1
@[simp] theorem clearCountersBody_cellPort (s : State) : (clearCountersBody s).1.cellPort = s.cellPort := (clearCountersBody_frame s).2.2.2.2.2.2.2.2.2.2.2.2.2.2.1
@[simp] theorem clearCountersBody_plantPort (s : State) : (clearCountersBody s).1.plantPort = s.plantPort := (clearCountersBody_frame s).2.2.2.2.2.2.2.2.2.2.2.2.2.2.2.1
@[simp] theorem clearCountersBody_eeprom (s : State) : (clearCountersBody s).1.eeprom = s.eeprom := (clearCountersBody_frame s).2.2.2.2.2.2.2.2.2.2.2.2.2.2.2.2.1
@[simp] theorem clearCountersBody_draws (s : State) : (clearCountersBody s).1.draws = s.draws := (clearCountersBody_frame s).2.2.2.2.2.2.2.2.2.2.2.2.2.2.2.2.2.1
@[simp] theorem clearCountersBody_raised (s : State) : (clearCountersBody s).1.raised = s.raised := (clearCountersBody_frame s).2.2.2.2.2.2.2.2.2.2.2.2.2.2.2.2.2.2.1
@[simp] theorem clearCountersBody_handed (s : State) : (clearCountersBody s).1.handed = s.handed := (clearCountersBody_frame s).2.2.2.2.2.2.2.2.2.2.2.2.2.2.2.2.2.2.2.1
@[simp] theorem clearCountersBody_pending (s : State) : (clearCountersBody s).1.pending = s.pending := (clearCountersBody_frame s).2.2.2.2.2.2.2.2.2.2.2.2.2.2.2.2.2.2.2.2

theorem clearCausesBody_frame (s : State) :
    (clearCausesBody s).1.now = s.now ∧
    (clearCausesBody s).1.mode = s.mode ∧
    (clearCausesBody s).1.activity = s.activity ∧
    (clearCausesBody s).1.tables = s.tables ∧
    (clearCausesBody s).1.tracker = s.tracker ∧
    (clearCausesBody s).1.lots = s.lots ∧
    (clearCausesBody s).1.arbiter = s.arbiter ∧
    (clearCausesBody s).1.belt = s.belt ∧
    (clearCausesBody s).1.head = s.head ∧
    (clearCausesBody s).1.filtration = s.filtration ∧
    (clearCausesBody s).1.engine = s.engine ∧
    (clearCausesBody s).1.router = s.router ∧
    (clearCausesBody s).1.coalescer = s.coalescer ∧
    (clearCausesBody s).1.cellPort = s.cellPort ∧
    (clearCausesBody s).1.plantPort = s.plantPort ∧
    (clearCausesBody s).1.counters = s.counters ∧
    (clearCausesBody s).1.eeprom = s.eeprom ∧
    (clearCausesBody s).1.draws = s.draws ∧
    (clearCausesBody s).1.raised = s.raised ∧
    (clearCausesBody s).1.handed = s.handed ∧
    (clearCausesBody s).1.pending = s.pending := by
  simp [clearCausesBody]
@[simp] theorem clearCausesBody_now (s : State) : (clearCausesBody s).1.now = s.now := (clearCausesBody_frame s).1
@[simp] theorem clearCausesBody_mode (s : State) : (clearCausesBody s).1.mode = s.mode := (clearCausesBody_frame s).2.1
@[simp] theorem clearCausesBody_activity (s : State) : (clearCausesBody s).1.activity = s.activity := (clearCausesBody_frame s).2.2.1
@[simp] theorem clearCausesBody_tables (s : State) : (clearCausesBody s).1.tables = s.tables := (clearCausesBody_frame s).2.2.2.1
@[simp] theorem clearCausesBody_tracker (s : State) : (clearCausesBody s).1.tracker = s.tracker := (clearCausesBody_frame s).2.2.2.2.1
@[simp] theorem clearCausesBody_lots (s : State) : (clearCausesBody s).1.lots = s.lots := (clearCausesBody_frame s).2.2.2.2.2.1
@[simp] theorem clearCausesBody_arbiter (s : State) : (clearCausesBody s).1.arbiter = s.arbiter := (clearCausesBody_frame s).2.2.2.2.2.2.1
@[simp] theorem clearCausesBody_belt (s : State) : (clearCausesBody s).1.belt = s.belt := (clearCausesBody_frame s).2.2.2.2.2.2.2.1
@[simp] theorem clearCausesBody_head (s : State) : (clearCausesBody s).1.head = s.head := (clearCausesBody_frame s).2.2.2.2.2.2.2.2.1
@[simp] theorem clearCausesBody_filtration (s : State) : (clearCausesBody s).1.filtration = s.filtration := (clearCausesBody_frame s).2.2.2.2.2.2.2.2.2.1
@[simp] theorem clearCausesBody_engine (s : State) : (clearCausesBody s).1.engine = s.engine := (clearCausesBody_frame s).2.2.2.2.2.2.2.2.2.2.1
@[simp] theorem clearCausesBody_router (s : State) : (clearCausesBody s).1.router = s.router := (clearCausesBody_frame s).2.2.2.2.2.2.2.2.2.2.2.1
@[simp] theorem clearCausesBody_coalescer (s : State) : (clearCausesBody s).1.coalescer = s.coalescer := (clearCausesBody_frame s).2.2.2.2.2.2.2.2.2.2.2.2.1
@[simp] theorem clearCausesBody_cellPort (s : State) : (clearCausesBody s).1.cellPort = s.cellPort := (clearCausesBody_frame s).2.2.2.2.2.2.2.2.2.2.2.2.2.1
@[simp] theorem clearCausesBody_plantPort (s : State) : (clearCausesBody s).1.plantPort = s.plantPort := (clearCausesBody_frame s).2.2.2.2.2.2.2.2.2.2.2.2.2.2.1
@[simp] theorem clearCausesBody_counters (s : State) : (clearCausesBody s).1.counters = s.counters := (clearCausesBody_frame s).2.2.2.2.2.2.2.2.2.2.2.2.2.2.2.1
@[simp] theorem clearCausesBody_eeprom (s : State) : (clearCausesBody s).1.eeprom = s.eeprom := (clearCausesBody_frame s).2.2.2.2.2.2.2.2.2.2.2.2.2.2.2.2.1
@[simp] theorem clearCausesBody_draws (s : State) : (clearCausesBody s).1.draws = s.draws := (clearCausesBody_frame s).2.2.2.2.2.2.2.2.2.2.2.2.2.2.2.2.2.1
@[simp] theorem clearCausesBody_raised (s : State) : (clearCausesBody s).1.raised = s.raised := (clearCausesBody_frame s).2.2.2.2.2.2.2.2.2.2.2.2.2.2.2.2.2.2.1
@[simp] theorem clearCausesBody_handed (s : State) : (clearCausesBody s).1.handed = s.handed := (clearCausesBody_frame s).2.2.2.2.2.2.2.2.2.2.2.2.2.2.2.2.2.2.2.1
@[simp] theorem clearCausesBody_pending (s : State) : (clearCausesBody s).1.pending = s.pending := (clearCausesBody_frame s).2.2.2.2.2.2.2.2.2.2.2.2.2.2.2.2.2.2.2.2

theorem stopLoading_frame (l : LotNo) (s : State) :
    (stopLoading l s).now = s.now ∧
    (stopLoading l s).mode = s.mode ∧
    (stopLoading l s).activity = s.activity ∧
    (stopLoading l s).tables = s.tables ∧
    (stopLoading l s).tracker = s.tracker ∧
    (stopLoading l s).lots = s.lots ∧
    (stopLoading l s).arbiter = s.arbiter ∧
    (stopLoading l s).belt = s.belt ∧
    (stopLoading l s).head = s.head ∧
    (stopLoading l s).filtration = s.filtration ∧
    (stopLoading l s).engine = s.engine ∧
    (stopLoading l s).router = s.router ∧
    (stopLoading l s).coalescer = s.coalescer ∧
    (stopLoading l s).cellPort.state = s.cellPort.state ∧
    (stopLoading l s).plantPort.state = s.plantPort.state ∧
    (stopLoading l s).eeprom = s.eeprom ∧
    (stopLoading l s).draws = s.draws ∧
    (stopLoading l s).raised = s.raised ∧
    (stopLoading l s).handed = s.handed ∧
    (stopLoading l s).pending = s.pending := by
  unfold stopLoading
  repeat' split
  all_goals simp
@[simp] theorem stopLoading_now (l : LotNo) (s : State) : (stopLoading l s).now = s.now := (stopLoading_frame l s).1
@[simp] theorem stopLoading_mode (l : LotNo) (s : State) : (stopLoading l s).mode = s.mode := (stopLoading_frame l s).2.1
@[simp] theorem stopLoading_activity (l : LotNo) (s : State) : (stopLoading l s).activity = s.activity := (stopLoading_frame l s).2.2.1
@[simp] theorem stopLoading_tables (l : LotNo) (s : State) : (stopLoading l s).tables = s.tables := (stopLoading_frame l s).2.2.2.1
@[simp] theorem stopLoading_tracker (l : LotNo) (s : State) : (stopLoading l s).tracker = s.tracker := (stopLoading_frame l s).2.2.2.2.1
@[simp] theorem stopLoading_lots (l : LotNo) (s : State) : (stopLoading l s).lots = s.lots := (stopLoading_frame l s).2.2.2.2.2.1
@[simp] theorem stopLoading_arbiter (l : LotNo) (s : State) : (stopLoading l s).arbiter = s.arbiter := (stopLoading_frame l s).2.2.2.2.2.2.1
@[simp] theorem stopLoading_belt (l : LotNo) (s : State) : (stopLoading l s).belt = s.belt := (stopLoading_frame l s).2.2.2.2.2.2.2.1
@[simp] theorem stopLoading_head (l : LotNo) (s : State) : (stopLoading l s).head = s.head := (stopLoading_frame l s).2.2.2.2.2.2.2.2.1
@[simp] theorem stopLoading_filtration (l : LotNo) (s : State) : (stopLoading l s).filtration = s.filtration := (stopLoading_frame l s).2.2.2.2.2.2.2.2.2.1
@[simp] theorem stopLoading_engine (l : LotNo) (s : State) : (stopLoading l s).engine = s.engine := (stopLoading_frame l s).2.2.2.2.2.2.2.2.2.2.1
@[simp] theorem stopLoading_router (l : LotNo) (s : State) : (stopLoading l s).router = s.router := (stopLoading_frame l s).2.2.2.2.2.2.2.2.2.2.2.1
@[simp] theorem stopLoading_coalescer (l : LotNo) (s : State) : (stopLoading l s).coalescer = s.coalescer := (stopLoading_frame l s).2.2.2.2.2.2.2.2.2.2.2.2.1
@[simp] theorem stopLoading_cellState (l : LotNo) (s : State) : (stopLoading l s).cellPort.state = s.cellPort.state := (stopLoading_frame l s).2.2.2.2.2.2.2.2.2.2.2.2.2.1
@[simp] theorem stopLoading_plantState (l : LotNo) (s : State) : (stopLoading l s).plantPort.state = s.plantPort.state := (stopLoading_frame l s).2.2.2.2.2.2.2.2.2.2.2.2.2.2.1
@[simp] theorem stopLoading_eeprom (l : LotNo) (s : State) : (stopLoading l s).eeprom = s.eeprom := (stopLoading_frame l s).2.2.2.2.2.2.2.2.2.2.2.2.2.2.2.1
@[simp] theorem stopLoading_draws (l : LotNo) (s : State) : (stopLoading l s).draws = s.draws := (stopLoading_frame l s).2.2.2.2.2.2.2.2.2.2.2.2.2.2.2.2.1
@[simp] theorem stopLoading_raised (l : LotNo) (s : State) : (stopLoading l s).raised = s.raised := (stopLoading_frame l s).2.2.2.2.2.2.2.2.2.2.2.2.2.2.2.2.2.1
@[simp] theorem stopLoading_handed (l : LotNo) (s : State) : (stopLoading l s).handed = s.handed := (stopLoading_frame l s).2.2.2.2.2.2.2.2.2.2.2.2.2.2.2.2.2.2.1
@[simp] theorem stopLoading_pending (l : LotNo) (s : State) : (stopLoading l s).pending = s.pending := (stopLoading_frame l s).2.2.2.2.2.2.2.2.2.2.2.2.2.2.2.2.2.2.2

theorem restartLots_frame (s : State) :
    (restartLots s).now = s.now ∧
    (restartLots s).mode = s.mode ∧
    (restartLots s).activity = s.activity ∧
    (restartLots s).tables = s.tables ∧
    (restartLots s).tracker = s.tracker ∧
    (restartLots s).arbiter = s.arbiter ∧
    (restartLots s).belt = s.belt ∧
    (restartLots s).head = s.head ∧
    (restartLots s).filtration = s.filtration ∧
    (restartLots s).engine = s.engine ∧
    (restartLots s).router = s.router ∧
    (restartLots s).coalescer = s.coalescer ∧
    (restartLots s).cellPort.state = s.cellPort.state ∧
    (restartLots s).plantPort.state = s.plantPort.state ∧
    (restartLots s).eeprom = s.eeprom ∧
    (restartLots s).draws = s.draws ∧
    (restartLots s).raised = s.raised ∧
    (restartLots s).handed = s.handed ∧
    (restartLots s).pending = s.pending := by
  simp [restartLots]
@[simp] theorem restartLots_now (s : State) : (restartLots s).now = s.now := (restartLots_frame s).1
@[simp] theorem restartLots_mode (s : State) : (restartLots s).mode = s.mode := (restartLots_frame s).2.1
@[simp] theorem restartLots_activity (s : State) : (restartLots s).activity = s.activity := (restartLots_frame s).2.2.1
@[simp] theorem restartLots_tables (s : State) : (restartLots s).tables = s.tables := (restartLots_frame s).2.2.2.1
@[simp] theorem restartLots_tracker (s : State) : (restartLots s).tracker = s.tracker := (restartLots_frame s).2.2.2.2.1
@[simp] theorem restartLots_arbiter (s : State) : (restartLots s).arbiter = s.arbiter := (restartLots_frame s).2.2.2.2.2.1
@[simp] theorem restartLots_belt (s : State) : (restartLots s).belt = s.belt := (restartLots_frame s).2.2.2.2.2.2.1
@[simp] theorem restartLots_head (s : State) : (restartLots s).head = s.head := (restartLots_frame s).2.2.2.2.2.2.2.1
@[simp] theorem restartLots_filtration (s : State) : (restartLots s).filtration = s.filtration := (restartLots_frame s).2.2.2.2.2.2.2.2.1
@[simp] theorem restartLots_engine (s : State) : (restartLots s).engine = s.engine := (restartLots_frame s).2.2.2.2.2.2.2.2.2.1
@[simp] theorem restartLots_router (s : State) : (restartLots s).router = s.router := (restartLots_frame s).2.2.2.2.2.2.2.2.2.2.1
@[simp] theorem restartLots_coalescer (s : State) : (restartLots s).coalescer = s.coalescer := (restartLots_frame s).2.2.2.2.2.2.2.2.2.2.2.1
@[simp] theorem restartLots_cellState (s : State) : (restartLots s).cellPort.state = s.cellPort.state := (restartLots_frame s).2.2.2.2.2.2.2.2.2.2.2.2.1
@[simp] theorem restartLots_plantState (s : State) : (restartLots s).plantPort.state = s.plantPort.state := (restartLots_frame s).2.2.2.2.2.2.2.2.2.2.2.2.2.1
@[simp] theorem restartLots_eeprom (s : State) : (restartLots s).eeprom = s.eeprom := (restartLots_frame s).2.2.2.2.2.2.2.2.2.2.2.2.2.2.1
@[simp] theorem restartLots_draws (s : State) : (restartLots s).draws = s.draws := (restartLots_frame s).2.2.2.2.2.2.2.2.2.2.2.2.2.2.2.1
@[simp] theorem restartLots_raised (s : State) : (restartLots s).raised = s.raised := (restartLots_frame s).2.2.2.2.2.2.2.2.2.2.2.2.2.2.2.2.1
@[simp] theorem restartLots_handed (s : State) : (restartLots s).handed = s.handed := (restartLots_frame s).2.2.2.2.2.2.2.2.2.2.2.2.2.2.2.2.2.1
@[simp] theorem restartLots_pending (s : State) : (restartLots s).pending = s.pending := (restartLots_frame s).2.2.2.2.2.2.2.2.2.2.2.2.2.2.2.2.2.2

theorem restartArbiter_frame (s : State) :
    (restartArbiter s).now = s.now ∧
    (restartArbiter s).mode = s.mode ∧
    (restartArbiter s).activity = s.activity ∧
    (restartArbiter s).tables = s.tables ∧
    (restartArbiter s).tracker = s.tracker ∧
    (restartArbiter s).lots = s.lots ∧
    (restartArbiter s).belt = s.belt ∧
    (restartArbiter s).head = s.head ∧
    (restartArbiter s).filtration = s.filtration ∧
    (restartArbiter s).engine = s.engine ∧
    (restartArbiter s).router = s.router ∧
    (restartArbiter s).coalescer = s.coalescer ∧
    (restartArbiter s).cellPort.state = s.cellPort.state ∧
    (restartArbiter s).plantPort.state = s.plantPort.state ∧
    (restartArbiter s).eeprom = s.eeprom ∧
    (restartArbiter s).draws = s.draws ∧
    (restartArbiter s).raised = s.raised ∧
    (restartArbiter s).handed = s.handed ∧
    (restartArbiter s).pending = s.pending := by
  simp [restartArbiter]
@[simp] theorem restartArbiter_now (s : State) : (restartArbiter s).now = s.now := (restartArbiter_frame s).1
@[simp] theorem restartArbiter_mode (s : State) : (restartArbiter s).mode = s.mode := (restartArbiter_frame s).2.1
@[simp] theorem restartArbiter_activity (s : State) : (restartArbiter s).activity = s.activity := (restartArbiter_frame s).2.2.1
@[simp] theorem restartArbiter_tables (s : State) : (restartArbiter s).tables = s.tables := (restartArbiter_frame s).2.2.2.1
@[simp] theorem restartArbiter_tracker (s : State) : (restartArbiter s).tracker = s.tracker := (restartArbiter_frame s).2.2.2.2.1
@[simp] theorem restartArbiter_lots (s : State) : (restartArbiter s).lots = s.lots := (restartArbiter_frame s).2.2.2.2.2.1
@[simp] theorem restartArbiter_belt (s : State) : (restartArbiter s).belt = s.belt := (restartArbiter_frame s).2.2.2.2.2.2.1
@[simp] theorem restartArbiter_head (s : State) : (restartArbiter s).head = s.head := (restartArbiter_frame s).2.2.2.2.2.2.2.1
@[simp] theorem restartArbiter_filtration (s : State) : (restartArbiter s).filtration = s.filtration := (restartArbiter_frame s).2.2.2.2.2.2.2.2.1
@[simp] theorem restartArbiter_engine (s : State) : (restartArbiter s).engine = s.engine := (restartArbiter_frame s).2.2.2.2.2.2.2.2.2.1
@[simp] theorem restartArbiter_router (s : State) : (restartArbiter s).router = s.router := (restartArbiter_frame s).2.2.2.2.2.2.2.2.2.2.1
@[simp] theorem restartArbiter_coalescer (s : State) : (restartArbiter s).coalescer = s.coalescer := (restartArbiter_frame s).2.2.2.2.2.2.2.2.2.2.2.1
@[simp] theorem restartArbiter_cellState (s : State) : (restartArbiter s).cellPort.state = s.cellPort.state := (restartArbiter_frame s).2.2.2.2.2.2.2.2.2.2.2.2.1
@[simp] theorem restartArbiter_plantState (s : State) : (restartArbiter s).plantPort.state = s.plantPort.state := (restartArbiter_frame s).2.2.2.2.2.2.2.2.2.2.2.2.2.1
@[simp] theorem restartArbiter_eeprom (s : State) : (restartArbiter s).eeprom = s.eeprom := (restartArbiter_frame s).2.2.2.2.2.2.2.2.2.2.2.2.2.2.1
@[simp] theorem restartArbiter_draws (s : State) : (restartArbiter s).draws = s.draws := (restartArbiter_frame s).2.2.2.2.2.2.2.2.2.2.2.2.2.2.2.1
@[simp] theorem restartArbiter_raised (s : State) : (restartArbiter s).raised = s.raised := (restartArbiter_frame s).2.2.2.2.2.2.2.2.2.2.2.2.2.2.2.2.1
@[simp] theorem restartArbiter_handed (s : State) : (restartArbiter s).handed = s.handed := (restartArbiter_frame s).2.2.2.2.2.2.2.2.2.2.2.2.2.2.2.2.2.1
@[simp] theorem restartArbiter_pending (s : State) : (restartArbiter s).pending = s.pending := (restartArbiter_frame s).2.2.2.2.2.2.2.2.2.2.2.2.2.2.2.2.2.2

theorem restartTracker_frame (s : State) :
    (restartTracker s).now = s.now ∧
    (restartTracker s).mode = s.mode ∧
    (restartTracker s).activity = s.activity ∧
    (restartTracker s).tables = s.tables ∧
    (restartTracker s).lots = s.lots ∧
    (restartTracker s).arbiter = s.arbiter ∧
    (restartTracker s).belt = s.belt ∧
    (restartTracker s).head = s.head ∧
    (restartTracker s).filtration = s.filtration ∧
    (restartTracker s).engine = s.engine ∧
    (restartTracker s).router = s.router ∧
    (restartTracker s).notices = s.notices ∧
    (restartTracker s).coalescer = s.coalescer ∧
    (restartTracker s).cellPort = s.cellPort ∧
    (restartTracker s).plantPort = s.plantPort ∧
    (restartTracker s).counters = s.counters ∧
    (restartTracker s).eeprom = s.eeprom ∧
    (restartTracker s).draws = s.draws ∧
    (restartTracker s).raised = s.raised ∧
    (restartTracker s).handed = s.handed ∧
    (restartTracker s).pending = s.pending := by
  simp [restartTracker]
@[simp] theorem restartTracker_now (s : State) : (restartTracker s).now = s.now := (restartTracker_frame s).1
@[simp] theorem restartTracker_mode (s : State) : (restartTracker s).mode = s.mode := (restartTracker_frame s).2.1
@[simp] theorem restartTracker_activity (s : State) : (restartTracker s).activity = s.activity := (restartTracker_frame s).2.2.1
@[simp] theorem restartTracker_tables (s : State) : (restartTracker s).tables = s.tables := (restartTracker_frame s).2.2.2.1
@[simp] theorem restartTracker_lots (s : State) : (restartTracker s).lots = s.lots := (restartTracker_frame s).2.2.2.2.1
@[simp] theorem restartTracker_arbiter (s : State) : (restartTracker s).arbiter = s.arbiter := (restartTracker_frame s).2.2.2.2.2.1
@[simp] theorem restartTracker_belt (s : State) : (restartTracker s).belt = s.belt := (restartTracker_frame s).2.2.2.2.2.2.1
@[simp] theorem restartTracker_head (s : State) : (restartTracker s).head = s.head := (restartTracker_frame s).2.2.2.2.2.2.2.1
@[simp] theorem restartTracker_filtration (s : State) : (restartTracker s).filtration = s.filtration := (restartTracker_frame s).2.2.2.2.2.2.2.2.1
@[simp] theorem restartTracker_engine (s : State) : (restartTracker s).engine = s.engine := (restartTracker_frame s).2.2.2.2.2.2.2.2.2.1
@[simp] theorem restartTracker_router (s : State) : (restartTracker s).router = s.router := (restartTracker_frame s).2.2.2.2.2.2.2.2.2.2.1
@[simp] theorem restartTracker_notices (s : State) : (restartTracker s).notices = s.notices := (restartTracker_frame s).2.2.2.2.2.2.2.2.2.2.2.1
@[simp] theorem restartTracker_coalescer (s : State) : (restartTracker s).coalescer = s.coalescer := (restartTracker_frame s).2.2.2.2.2.2.2.2.2.2.2.2.1
@[simp] theorem restartTracker_cellPort (s : State) : (restartTracker s).cellPort = s.cellPort := (restartTracker_frame s).2.2.2.2.2.2.2.2.2.2.2.2.2.1
@[simp] theorem restartTracker_plantPort (s : State) : (restartTracker s).plantPort = s.plantPort := (restartTracker_frame s).2.2.2.2.2.2.2.2.2.2.2.2.2.2.1
@[simp] theorem restartTracker_counters (s : State) : (restartTracker s).counters = s.counters := (restartTracker_frame s).2.2.2.2.2.2.2.2.2.2.2.2.2.2.2.1
@[simp] theorem restartTracker_eeprom (s : State) : (restartTracker s).eeprom = s.eeprom := (restartTracker_frame s).2.2.2.2.2.2.2.2.2.2.2.2.2.2.2.2.1
@[simp] theorem restartTracker_draws (s : State) : (restartTracker s).draws = s.draws := (restartTracker_frame s).2.2.2.2.2.2.2.2.2.2.2.2.2.2.2.2.2.1
@[simp] theorem restartTracker_raised (s : State) : (restartTracker s).raised = s.raised := (restartTracker_frame s).2.2.2.2.2.2.2.2.2.2.2.2.2.2.2.2.2.2.1
@[simp] theorem restartTracker_handed (s : State) : (restartTracker s).handed = s.handed := (restartTracker_frame s).2.2.2.2.2.2.2.2.2.2.2.2.2.2.2.2.2.2.2.1
@[simp] theorem restartTracker_pending (s : State) : (restartTracker s).pending = s.pending := (restartTracker_frame s).2.2.2.2.2.2.2.2.2.2.2.2.2.2.2.2.2.2.2.2

theorem restartRouter_frame (s : State) :
    (restartRouter s).now = s.now ∧
    (restartRouter s).mode = s.mode ∧
    (restartRouter s).activity = s.activity ∧
    (restartRouter s).tables = s.tables ∧
    (restartRouter s).tracker = s.tracker ∧
    (restartRouter s).lots = s.lots ∧
    (restartRouter s).arbiter = s.arbiter ∧
    (restartRouter s).belt = s.belt ∧
    (restartRouter s).head = s.head ∧
    (restartRouter s).filtration = s.filtration ∧
    (restartRouter s).notices = s.notices ∧
    (restartRouter s).coalescer = s.coalescer ∧
    (restartRouter s).cellPort = s.cellPort ∧
    (restartRouter s).plantPort = s.plantPort ∧
    (restartRouter s).counters = s.counters ∧
    (restartRouter s).eeprom = s.eeprom ∧
    (restartRouter s).draws = s.draws ∧
    (restartRouter s).raised = s.raised ∧
    (restartRouter s).handed = s.handed ∧
    (restartRouter s).pending = s.pending := by
  simp [restartRouter]
@[simp] theorem restartRouter_now (s : State) : (restartRouter s).now = s.now := (restartRouter_frame s).1
@[simp] theorem restartRouter_mode (s : State) : (restartRouter s).mode = s.mode := (restartRouter_frame s).2.1
@[simp] theorem restartRouter_activity (s : State) : (restartRouter s).activity = s.activity := (restartRouter_frame s).2.2.1
@[simp] theorem restartRouter_tables (s : State) : (restartRouter s).tables = s.tables := (restartRouter_frame s).2.2.2.1
@[simp] theorem restartRouter_tracker (s : State) : (restartRouter s).tracker = s.tracker := (restartRouter_frame s).2.2.2.2.1
@[simp] theorem restartRouter_lots (s : State) : (restartRouter s).lots = s.lots := (restartRouter_frame s).2.2.2.2.2.1
@[simp] theorem restartRouter_arbiter (s : State) : (restartRouter s).arbiter = s.arbiter := (restartRouter_frame s).2.2.2.2.2.2.1
@[simp] theorem restartRouter_belt (s : State) : (restartRouter s).belt = s.belt := (restartRouter_frame s).2.2.2.2.2.2.2.1
@[simp] theorem restartRouter_head (s : State) : (restartRouter s).head = s.head := (restartRouter_frame s).2.2.2.2.2.2.2.2.1
@[simp] theorem restartRouter_filtration (s : State) : (restartRouter s).filtration = s.filtration := (restartRouter_frame s).2.2.2.2.2.2.2.2.2.1
@[simp] theorem restartRouter_notices (s : State) : (restartRouter s).notices = s.notices := (restartRouter_frame s).2.2.2.2.2.2.2.2.2.2.1
@[simp] theorem restartRouter_coalescer (s : State) : (restartRouter s).coalescer = s.coalescer := (restartRouter_frame s).2.2.2.2.2.2.2.2.2.2.2.1
@[simp] theorem restartRouter_cellPort (s : State) : (restartRouter s).cellPort = s.cellPort := (restartRouter_frame s).2.2.2.2.2.2.2.2.2.2.2.2.1
@[simp] theorem restartRouter_plantPort (s : State) : (restartRouter s).plantPort = s.plantPort := (restartRouter_frame s).2.2.2.2.2.2.2.2.2.2.2.2.2.1
@[simp] theorem restartRouter_counters (s : State) : (restartRouter s).counters = s.counters := (restartRouter_frame s).2.2.2.2.2.2.2.2.2.2.2.2.2.2.1
@[simp] theorem restartRouter_eeprom (s : State) : (restartRouter s).eeprom = s.eeprom := (restartRouter_frame s).2.2.2.2.2.2.2.2.2.2.2.2.2.2.2.1
@[simp] theorem restartRouter_draws (s : State) : (restartRouter s).draws = s.draws := (restartRouter_frame s).2.2.2.2.2.2.2.2.2.2.2.2.2.2.2.2.1
@[simp] theorem restartRouter_raised (s : State) : (restartRouter s).raised = s.raised := (restartRouter_frame s).2.2.2.2.2.2.2.2.2.2.2.2.2.2.2.2.2.1
@[simp] theorem restartRouter_handed (s : State) : (restartRouter s).handed = s.handed := (restartRouter_frame s).2.2.2.2.2.2.2.2.2.2.2.2.2.2.2.2.2.2.1
@[simp] theorem restartRouter_pending (s : State) : (restartRouter s).pending = s.pending := (restartRouter_frame s).2.2.2.2.2.2.2.2.2.2.2.2.2.2.2.2.2.2.2

theorem restartBelt_frame (s : State) :
    (restartBelt s).now = s.now ∧
    (restartBelt s).mode = s.mode ∧
    (restartBelt s).activity = s.activity ∧
    (restartBelt s).tables = s.tables ∧
    (restartBelt s).tracker = s.tracker ∧
    (restartBelt s).lots = s.lots ∧
    (restartBelt s).arbiter = s.arbiter ∧
    (restartBelt s).head = s.head ∧
    (restartBelt s).filtration = s.filtration ∧
    (restartBelt s).engine = s.engine ∧
    (restartBelt s).router = s.router ∧
    (restartBelt s).cellPort.state = s.cellPort.state ∧
    (restartBelt s).plantPort.state = s.plantPort.state ∧
    (restartBelt s).eeprom = s.eeprom ∧
    (restartBelt s).draws = s.draws ∧
    (restartBelt s).raised = s.raised ∧
    (restartBelt s).pending = s.pending := by
  simp [restartBelt]
@[simp] theorem restartBelt_now (s : State) : (restartBelt s).now = s.now := (restartBelt_frame s).1
@[simp] theorem restartBelt_mode (s : State) : (restartBelt s).mode = s.mode := (restartBelt_frame s).2.1
@[simp] theorem restartBelt_activity (s : State) : (restartBelt s).activity = s.activity := (restartBelt_frame s).2.2.1
@[simp] theorem restartBelt_tables (s : State) : (restartBelt s).tables = s.tables := (restartBelt_frame s).2.2.2.1
@[simp] theorem restartBelt_tracker (s : State) : (restartBelt s).tracker = s.tracker := (restartBelt_frame s).2.2.2.2.1
@[simp] theorem restartBelt_lots (s : State) : (restartBelt s).lots = s.lots := (restartBelt_frame s).2.2.2.2.2.1
@[simp] theorem restartBelt_arbiter (s : State) : (restartBelt s).arbiter = s.arbiter := (restartBelt_frame s).2.2.2.2.2.2.1
@[simp] theorem restartBelt_head (s : State) : (restartBelt s).head = s.head := (restartBelt_frame s).2.2.2.2.2.2.2.1
@[simp] theorem restartBelt_filtration (s : State) : (restartBelt s).filtration = s.filtration := (restartBelt_frame s).2.2.2.2.2.2.2.2.1
@[simp] theorem restartBelt_engine (s : State) : (restartBelt s).engine = s.engine := (restartBelt_frame s).2.2.2.2.2.2.2.2.2.1
@[simp] theorem restartBelt_router (s : State) : (restartBelt s).router = s.router := (restartBelt_frame s).2.2.2.2.2.2.2.2.2.2.1
@[simp] theorem restartBelt_cellState (s : State) : (restartBelt s).cellPort.state = s.cellPort.state := (restartBelt_frame s).2.2.2.2.2.2.2.2.2.2.2.1
@[simp] theorem restartBelt_plantState (s : State) : (restartBelt s).plantPort.state = s.plantPort.state := (restartBelt_frame s).2.2.2.2.2.2.2.2.2.2.2.2.1
@[simp] theorem restartBelt_eeprom (s : State) : (restartBelt s).eeprom = s.eeprom := (restartBelt_frame s).2.2.2.2.2.2.2.2.2.2.2.2.2.1
@[simp] theorem restartBelt_draws (s : State) : (restartBelt s).draws = s.draws := (restartBelt_frame s).2.2.2.2.2.2.2.2.2.2.2.2.2.2.1
@[simp] theorem restartBelt_raised (s : State) : (restartBelt s).raised = s.raised := (restartBelt_frame s).2.2.2.2.2.2.2.2.2.2.2.2.2.2.2.1
@[simp] theorem restartBelt_pending (s : State) : (restartBelt s).pending = s.pending := (restartBelt_frame s).2.2.2.2.2.2.2.2.2.2.2.2.2.2.2.2

theorem restartCoalescer_frame (s : State) :
    (restartCoalescer s).now = s.now ∧
    (restartCoalescer s).mode = s.mode ∧
    (restartCoalescer s).activity = s.activity ∧
    (restartCoalescer s).tables = s.tables ∧
    (restartCoalescer s).tracker = s.tracker ∧
    (restartCoalescer s).lots = s.lots ∧
    (restartCoalescer s).arbiter = s.arbiter ∧
    (restartCoalescer s).belt = s.belt ∧
    (restartCoalescer s).head = s.head ∧
    (restartCoalescer s).filtration = s.filtration ∧
    (restartCoalescer s).engine = s.engine ∧
    (restartCoalescer s).router = s.router ∧
    (restartCoalescer s).notices = s.notices ∧
    (restartCoalescer s).cellPort = s.cellPort ∧
    (restartCoalescer s).plantPort = s.plantPort ∧
    (restartCoalescer s).eeprom = s.eeprom ∧
    (restartCoalescer s).draws = s.draws ∧
    (restartCoalescer s).raised = s.raised ∧
    (restartCoalescer s).handed = s.handed ∧
    (restartCoalescer s).pending = s.pending := by
  simp [restartCoalescer]
@[simp] theorem restartCoalescer_now (s : State) : (restartCoalescer s).now = s.now := (restartCoalescer_frame s).1
@[simp] theorem restartCoalescer_mode (s : State) : (restartCoalescer s).mode = s.mode := (restartCoalescer_frame s).2.1
@[simp] theorem restartCoalescer_activity (s : State) : (restartCoalescer s).activity = s.activity := (restartCoalescer_frame s).2.2.1
@[simp] theorem restartCoalescer_tables (s : State) : (restartCoalescer s).tables = s.tables := (restartCoalescer_frame s).2.2.2.1
@[simp] theorem restartCoalescer_tracker (s : State) : (restartCoalescer s).tracker = s.tracker := (restartCoalescer_frame s).2.2.2.2.1
@[simp] theorem restartCoalescer_lots (s : State) : (restartCoalescer s).lots = s.lots := (restartCoalescer_frame s).2.2.2.2.2.1
@[simp] theorem restartCoalescer_arbiter (s : State) : (restartCoalescer s).arbiter = s.arbiter := (restartCoalescer_frame s).2.2.2.2.2.2.1
@[simp] theorem restartCoalescer_belt (s : State) : (restartCoalescer s).belt = s.belt := (restartCoalescer_frame s).2.2.2.2.2.2.2.1
@[simp] theorem restartCoalescer_head (s : State) : (restartCoalescer s).head = s.head := (restartCoalescer_frame s).2.2.2.2.2.2.2.2.1
@[simp] theorem restartCoalescer_filtration (s : State) : (restartCoalescer s).filtration = s.filtration := (restartCoalescer_frame s).2.2.2.2.2.2.2.2.2.1
@[simp] theorem restartCoalescer_engine (s : State) : (restartCoalescer s).engine = s.engine := (restartCoalescer_frame s).2.2.2.2.2.2.2.2.2.2.1
@[simp] theorem restartCoalescer_router (s : State) : (restartCoalescer s).router = s.router := (restartCoalescer_frame s).2.2.2.2.2.2.2.2.2.2.2.1
@[simp] theorem restartCoalescer_notices (s : State) : (restartCoalescer s).notices = s.notices := (restartCoalescer_frame s).2.2.2.2.2.2.2.2.2.2.2.2.1
@[simp] theorem restartCoalescer_cellPort (s : State) : (restartCoalescer s).cellPort = s.cellPort := (restartCoalescer_frame s).2.2.2.2.2.2.2.2.2.2.2.2.2.1
@[simp] theorem restartCoalescer_plantPort (s : State) : (restartCoalescer s).plantPort = s.plantPort := (restartCoalescer_frame s).2.2.2.2.2.2.2.2.2.2.2.2.2.2.1
@[simp] theorem restartCoalescer_eeprom (s : State) : (restartCoalescer s).eeprom = s.eeprom := (restartCoalescer_frame s).2.2.2.2.2.2.2.2.2.2.2.2.2.2.2.1
@[simp] theorem restartCoalescer_draws (s : State) : (restartCoalescer s).draws = s.draws := (restartCoalescer_frame s).2.2.2.2.2.2.2.2.2.2.2.2.2.2.2.2.1
@[simp] theorem restartCoalescer_raised (s : State) : (restartCoalescer s).raised = s.raised := (restartCoalescer_frame s).2.2.2.2.2.2.2.2.2.2.2.2.2.2.2.2.2.1
@[simp] theorem restartCoalescer_handed (s : State) : (restartCoalescer s).handed = s.handed := (restartCoalescer_frame s).2.2.2.2.2.2.2.2.2.2.2.2.2.2.2.2.2.2.1
@[simp] theorem restartCoalescer_pending (s : State) : (restartCoalescer s).pending = s.pending := (restartCoalescer_frame s).2.2.2.2.2.2.2.2.2.2.2.2.2.2.2.2.2.2.2

theorem restartGate_frame (s : State) :
    (restartGate s).now = s.now ∧
    (restartGate s).mode = s.mode ∧
    (restartGate s).activity = s.activity ∧
    (restartGate s).tables = s.tables ∧
    (restartGate s).tracker = s.tracker ∧
    (restartGate s).lots = s.lots ∧
    (restartGate s).arbiter = s.arbiter ∧
    (restartGate s).belt = s.belt ∧
    (restartGate s).head = s.head ∧
    (restartGate s).filtration = s.filtration ∧
    (restartGate s).engine = s.engine ∧
    (restartGate s).router = s.router ∧
    (restartGate s).notices = s.notices ∧
    (restartGate s).cellPort = s.cellPort ∧
    (restartGate s).plantPort = s.plantPort ∧
    (restartGate s).eeprom = s.eeprom ∧
    (restartGate s).draws = s.draws ∧
    (restartGate s).raised = s.raised ∧
    (restartGate s).pending = s.pending := by
  unfold restartGate
  repeat' split
  all_goals simp
@[simp] theorem restartGate_now (s : State) : (restartGate s).now = s.now := (restartGate_frame s).1
@[simp] theorem restartGate_mode (s : State) : (restartGate s).mode = s.mode := (restartGate_frame s).2.1
@[simp] theorem restartGate_activity (s : State) : (restartGate s).activity = s.activity := (restartGate_frame s).2.2.1
@[simp] theorem restartGate_tables (s : State) : (restartGate s).tables = s.tables := (restartGate_frame s).2.2.2.1
@[simp] theorem restartGate_tracker (s : State) : (restartGate s).tracker = s.tracker := (restartGate_frame s).2.2.2.2.1
@[simp] theorem restartGate_lots (s : State) : (restartGate s).lots = s.lots := (restartGate_frame s).2.2.2.2.2.1
@[simp] theorem restartGate_arbiter (s : State) : (restartGate s).arbiter = s.arbiter := (restartGate_frame s).2.2.2.2.2.2.1
@[simp] theorem restartGate_belt (s : State) : (restartGate s).belt = s.belt := (restartGate_frame s).2.2.2.2.2.2.2.1
@[simp] theorem restartGate_head (s : State) : (restartGate s).head = s.head := (restartGate_frame s).2.2.2.2.2.2.2.2.1
@[simp] theorem restartGate_filtration (s : State) : (restartGate s).filtration = s.filtration := (restartGate_frame s).2.2.2.2.2.2.2.2.2.1
@[simp] theorem restartGate_engine (s : State) : (restartGate s).engine = s.engine := (restartGate_frame s).2.2.2.2.2.2.2.2.2.2.1
@[simp] theorem restartGate_router (s : State) : (restartGate s).router = s.router := (restartGate_frame s).2.2.2.2.2.2.2.2.2.2.2.1
@[simp] theorem restartGate_notices (s : State) : (restartGate s).notices = s.notices := (restartGate_frame s).2.2.2.2.2.2.2.2.2.2.2.2.1
@[simp] theorem restartGate_cellPort (s : State) : (restartGate s).cellPort = s.cellPort := (restartGate_frame s).2.2.2.2.2.2.2.2.2.2.2.2.2.1
@[simp] theorem restartGate_plantPort (s : State) : (restartGate s).plantPort = s.plantPort := (restartGate_frame s).2.2.2.2.2.2.2.2.2.2.2.2.2.2.1
@[simp] theorem restartGate_eeprom (s : State) : (restartGate s).eeprom = s.eeprom := (restartGate_frame s).2.2.2.2.2.2.2.2.2.2.2.2.2.2.2.1
@[simp] theorem restartGate_draws (s : State) : (restartGate s).draws = s.draws := (restartGate_frame s).2.2.2.2.2.2.2.2.2.2.2.2.2.2.2.2.1
@[simp] theorem restartGate_raised (s : State) : (restartGate s).raised = s.raised := (restartGate_frame s).2.2.2.2.2.2.2.2.2.2.2.2.2.2.2.2.2.1
@[simp] theorem restartGate_pending (s : State) : (restartGate s).pending = s.pending := (restartGate_frame s).2.2.2.2.2.2.2.2.2.2.2.2.2.2.2.2.2.2

theorem restartHead_frame (s : State) :
    (restartHead s).now = s.now ∧
    (restartHead s).mode = s.mode ∧
    (restartHead s).activity = s.activity ∧
    (restartHead s).tables = s.tables ∧
    (restartHead s).tracker.last = s.tracker.last ∧
    (restartHead s).tracker.acc = s.tracker.acc ∧
    (restartHead s).filtration = s.filtration ∧
    (restartHead s).engine = s.engine ∧
    (restartHead s).router = s.router ∧
    (restartHead s).cellPort.state = s.cellPort.state ∧
    (restartHead s).plantPort.state = s.plantPort.state ∧
    (restartHead s).eeprom = s.eeprom ∧
    (restartHead s).draws = s.draws ∧
    (restartHead s).raised = s.raised ∧
    (restartHead s).pending = s.pending := by
  simp [restartHead]
@[simp] theorem restartHead_now (s : State) : (restartHead s).now = s.now := (restartHead_frame s).1
@[simp] theorem restartHead_mode (s : State) : (restartHead s).mode = s.mode := (restartHead_frame s).2.1
@[simp] theorem restartHead_activity (s : State) : (restartHead s).activity = s.activity := (restartHead_frame s).2.2.1
@[simp] theorem restartHead_tables (s : State) : (restartHead s).tables = s.tables := (restartHead_frame s).2.2.2.1
@[simp] theorem restartHead_last (s : State) : (restartHead s).tracker.last = s.tracker.last := (restartHead_frame s).2.2.2.2.1
@[simp] theorem restartHead_acc (s : State) : (restartHead s).tracker.acc = s.tracker.acc := (restartHead_frame s).2.2.2.2.2.1
@[simp] theorem restartHead_filtration (s : State) : (restartHead s).filtration = s.filtration := (restartHead_frame s).2.2.2.2.2.2.1
@[simp] theorem restartHead_engine (s : State) : (restartHead s).engine = s.engine := (restartHead_frame s).2.2.2.2.2.2.2.1
@[simp] theorem restartHead_router (s : State) : (restartHead s).router = s.router := (restartHead_frame s).2.2.2.2.2.2.2.2.1
@[simp] theorem restartHead_cellState (s : State) : (restartHead s).cellPort.state = s.cellPort.state := (restartHead_frame s).2.2.2.2.2.2.2.2.2.1
@[simp] theorem restartHead_plantState (s : State) : (restartHead s).plantPort.state = s.plantPort.state := (restartHead_frame s).2.2.2.2.2.2.2.2.2.2.1
@[simp] theorem restartHead_eeprom (s : State) : (restartHead s).eeprom = s.eeprom := (restartHead_frame s).2.2.2.2.2.2.2.2.2.2.2.1
@[simp] theorem restartHead_draws (s : State) : (restartHead s).draws = s.draws := (restartHead_frame s).2.2.2.2.2.2.2.2.2.2.2.2.1
@[simp] theorem restartHead_raised (s : State) : (restartHead s).raised = s.raised := (restartHead_frame s).2.2.2.2.2.2.2.2.2.2.2.2.2.1
@[simp] theorem restartHead_pending (s : State) : (restartHead s).pending = s.pending := (restartHead_frame s).2.2.2.2.2.2.2.2.2.2.2.2.2.2

theorem handDrums_frame (s : State) :
    (handDrums s).now = s.now ∧
    (handDrums s).mode = s.mode ∧
    (handDrums s).activity = s.activity ∧
    (handDrums s).tables = s.tables ∧
    (handDrums s).tracker = s.tracker ∧
    (handDrums s).lots = s.lots ∧
    (handDrums s).arbiter = s.arbiter ∧
    (handDrums s).belt = s.belt ∧
    (handDrums s).head = s.head ∧
    (handDrums s).filtration = s.filtration ∧
    (handDrums s).engine = s.engine ∧
    (handDrums s).router = s.router ∧
    (handDrums s).notices = s.notices ∧
    (handDrums s).cellPort = s.cellPort ∧
    (handDrums s).plantPort = s.plantPort ∧
    (handDrums s).eeprom = s.eeprom ∧
    (handDrums s).draws = s.draws ∧
    (handDrums s).raised = s.raised ∧
    (handDrums s).pending = s.pending := by
  simp [handDrums]
@[simp] theorem handDrums_now (s : State) : (handDrums s).now = s.now := (handDrums_frame s).1
@[simp] theorem handDrums_mode (s : State) : (handDrums s).mode = s.mode := (handDrums_frame s).2.1
@[simp] theorem handDrums_activity (s : State) : (handDrums s).activity = s.activity := (handDrums_frame s).2.2.1
@[simp] theorem handDrums_tables (s : State) : (handDrums s).tables = s.tables := (handDrums_frame s).2.2.2.1
@[simp] theorem handDrums_tracker (s : State) : (handDrums s).tracker = s.tracker := (handDrums_frame s).2.2.2.2.1
@[simp] theorem handDrums_lots (s : State) : (handDrums s).lots = s.lots := (handDrums_frame s).2.2.2.2.2.1
@[simp] theorem handDrums_arbiter (s : State) : (handDrums s).arbiter = s.arbiter := (handDrums_frame s).2.2.2.2.2.2.1
@[simp] theorem handDrums_belt (s : State) : (handDrums s).belt = s.belt := (handDrums_frame s).2.2.2.2.2.2.2.1
@[simp] theorem handDrums_head (s : State) : (handDrums s).head = s.head := (handDrums_frame s).2.2.2.2.2.2.2.2.1
@[simp] theorem handDrums_filtration (s : State) : (handDrums s).filtration = s.filtration := (handDrums_frame s).2.2.2.2.2.2.2.2.2.1
@[simp] theorem handDrums_engine (s : State) : (handDrums s).engine = s.engine := (handDrums_frame s).2.2.2.2.2.2.2.2.2.2.1
@[simp] theorem handDrums_router (s : State) : (handDrums s).router = s.router := (handDrums_frame s).2.2.2.2.2.2.2.2.2.2.2.1
@[simp] theorem handDrums_notices (s : State) : (handDrums s).notices = s.notices := (handDrums_frame s).2.2.2.2.2.2.2.2.2.2.2.2.1
@[simp] theorem handDrums_cellPort (s : State) : (handDrums s).cellPort = s.cellPort := (handDrums_frame s).2.2.2.2.2.2.2.2.2.2.2.2.2.1
@[simp] theorem handDrums_plantPort (s : State) : (handDrums s).plantPort = s.plantPort := (handDrums_frame s).2.2.2.2.2.2.2.2.2.2.2.2.2.2.1
@[simp] theorem handDrums_eeprom (s : State) : (handDrums s).eeprom = s.eeprom := (handDrums_frame s).2.2.2.2.2.2.2.2.2.2.2.2.2.2.2.1
@[simp] theorem handDrums_draws (s : State) : (handDrums s).draws = s.draws := (handDrums_frame s).2.2.2.2.2.2.2.2.2.2.2.2.2.2.2.2.1
@[simp] theorem handDrums_raised (s : State) : (handDrums s).raised = s.raised := (handDrums_frame s).2.2.2.2.2.2.2.2.2.2.2.2.2.2.2.2.2.1
@[simp] theorem handDrums_pending (s : State) : (handDrums s).pending = s.pending := (handDrums_frame s).2.2.2.2.2.2.2.2.2.2.2.2.2.2.2.2.2.2

theorem markRestart_frame (s : State) :
    (markRestart s).now = s.now ∧
    (markRestart s).mode = s.mode ∧
    (markRestart s).activity = s.activity ∧
    (markRestart s).tables = s.tables ∧
    (markRestart s).tracker = s.tracker ∧
    (markRestart s).lots = s.lots ∧
    (markRestart s).arbiter = s.arbiter ∧
    (markRestart s).belt = s.belt ∧
    (markRestart s).head = s.head ∧
    (markRestart s).filtration = s.filtration ∧
    (markRestart s).engine = s.engine ∧
    (markRestart s).router = s.router ∧
    (markRestart s).coalescer = s.coalescer ∧
    (markRestart s).cellPort = s.cellPort ∧
    (markRestart s).plantPort = s.plantPort ∧
    (markRestart s).counters = s.counters ∧
    (markRestart s).eeprom = s.eeprom ∧
    (markRestart s).draws = s.draws ∧
    (markRestart s).raised = s.raised ∧
    (markRestart s).handed = s.handed ∧
    (markRestart s).pending = s.pending := by
  simp [markRestart]
@[simp] theorem markRestart_now (s : State) : (markRestart s).now = s.now := (markRestart_frame s).1
@[simp] theorem markRestart_mode (s : State) : (markRestart s).mode = s.mode := (markRestart_frame s).2.1
@[simp] theorem markRestart_activity (s : State) : (markRestart s).activity = s.activity := (markRestart_frame s).2.2.1
@[simp] theorem markRestart_tables (s : State) : (markRestart s).tables = s.tables := (markRestart_frame s).2.2.2.1
@[simp] theorem markRestart_tracker (s : State) : (markRestart s).tracker = s.tracker := (markRestart_frame s).2.2.2.2.1
@[simp] theorem markRestart_lots (s : State) : (markRestart s).lots = s.lots := (markRestart_frame s).2.2.2.2.2.1
@[simp] theorem markRestart_arbiter (s : State) : (markRestart s).arbiter = s.arbiter := (markRestart_frame s).2.2.2.2.2.2.1
@[simp] theorem markRestart_belt (s : State) : (markRestart s).belt = s.belt := (markRestart_frame s).2.2.2.2.2.2.2.1
@[simp] theorem markRestart_head (s : State) : (markRestart s).head = s.head := (markRestart_frame s).2.2.2.2.2.2.2.2.1
@[simp] theorem markRestart_filtration (s : State) : (markRestart s).filtration = s.filtration := (markRestart_frame s).2.2.2.2.2.2.2.2.2.1
@[simp] theorem markRestart_engine (s : State) : (markRestart s).engine = s.engine := (markRestart_frame s).2.2.2.2.2.2.2.2.2.2.1
@[simp] theorem markRestart_router (s : State) : (markRestart s).router = s.router := (markRestart_frame s).2.2.2.2.2.2.2.2.2.2.2.1
@[simp] theorem markRestart_coalescer (s : State) : (markRestart s).coalescer = s.coalescer := (markRestart_frame s).2.2.2.2.2.2.2.2.2.2.2.2.1
@[simp] theorem markRestart_cellPort (s : State) : (markRestart s).cellPort = s.cellPort := (markRestart_frame s).2.2.2.2.2.2.2.2.2.2.2.2.2.1
@[simp] theorem markRestart_plantPort (s : State) : (markRestart s).plantPort = s.plantPort := (markRestart_frame s).2.2.2.2.2.2.2.2.2.2.2.2.2.2.1
@[simp] theorem markRestart_counters (s : State) : (markRestart s).counters = s.counters := (markRestart_frame s).2.2.2.2.2.2.2.2.2.2.2.2.2.2.2.1
@[simp] theorem markRestart_eeprom (s : State) : (markRestart s).eeprom = s.eeprom := (markRestart_frame s).2.2.2.2.2.2.2.2.2.2.2.2.2.2.2.2.1
@[simp] theorem markRestart_draws (s : State) : (markRestart s).draws = s.draws := (markRestart_frame s).2.2.2.2.2.2.2.2.2.2.2.2.2.2.2.2.2.1
@[simp] theorem markRestart_raised (s : State) : (markRestart s).raised = s.raised := (markRestart_frame s).2.2.2.2.2.2.2.2.2.2.2.2.2.2.2.2.2.2.1
@[simp] theorem markRestart_handed (s : State) : (markRestart s).handed = s.handed := (markRestart_frame s).2.2.2.2.2.2.2.2.2.2.2.2.2.2.2.2.2.2.2.1
@[simp] theorem markRestart_pending (s : State) : (markRestart s).pending = s.pending := (markRestart_frame s).2.2.2.2.2.2.2.2.2.2.2.2.2.2.2.2.2.2.2.2

theorem restartLine_frame (s : State) :
    (restartLine s).now = s.now ∧
    (restartLine s).mode = s.mode ∧
    (restartLine s).activity = s.activity ∧
    (restartLine s).tables = s.tables ∧
    (restartLine s).filtration = s.filtration ∧
    (restartLine s).cellPort.state = s.cellPort.state ∧
    (restartLine s).plantPort.state = s.plantPort.state ∧
    (restartLine s).eeprom = s.eeprom ∧
    (restartLine s).draws = s.draws ∧
    (restartLine s).pending = s.pending := by
  simp [restartLine]
@[simp] theorem restartLine_now (s : State) : (restartLine s).now = s.now := (restartLine_frame s).1
@[simp] theorem restartLine_mode (s : State) : (restartLine s).mode = s.mode := (restartLine_frame s).2.1
@[simp] theorem restartLine_activity (s : State) : (restartLine s).activity = s.activity := (restartLine_frame s).2.2.1
@[simp] theorem restartLine_tables (s : State) : (restartLine s).tables = s.tables := (restartLine_frame s).2.2.2.1
@[simp] theorem restartLine_filtration (s : State) : (restartLine s).filtration = s.filtration := (restartLine_frame s).2.2.2.2.1
@[simp] theorem restartLine_cellState (s : State) : (restartLine s).cellPort.state = s.cellPort.state := (restartLine_frame s).2.2.2.2.2.1
@[simp] theorem restartLine_plantState (s : State) : (restartLine s).plantPort.state = s.plantPort.state := (restartLine_frame s).2.2.2.2.2.2.1
@[simp] theorem restartLine_eeprom (s : State) : (restartLine s).eeprom = s.eeprom := (restartLine_frame s).2.2.2.2.2.2.2.1
@[simp] theorem restartLine_draws (s : State) : (restartLine s).draws = s.draws := (restartLine_frame s).2.2.2.2.2.2.2.2.1
@[simp] theorem restartLine_pending (s : State) : (restartLine s).pending = s.pending := (restartLine_frame s).2.2.2.2.2.2.2.2.2

theorem restartBody_frame (r : Req) (s : State) :
    (restartBody r s).1.now = s.now ∧
    (restartBody r s).1.mode = s.mode ∧
    (restartBody r s).1.tables = s.tables ∧
    (restartBody r s).1.filtration = s.filtration ∧
    (restartBody r s).1.cellPort.state = s.cellPort.state ∧
    (restartBody r s).1.plantPort.state = s.plantPort.state ∧
    (restartBody r s).1.eeprom = s.eeprom ∧
    (restartBody r s).1.draws = s.draws ∧
    (restartBody r s).1.pending = s.pending := by
  unfold restartBody
  repeat' split
  all_goals simp
@[simp] theorem restartBody_now (r : Req) (s : State) : (restartBody r s).1.now = s.now := (restartBody_frame r s).1
@[simp] theorem restartBody_mode (r : Req) (s : State) : (restartBody r s).1.mode = s.mode := (restartBody_frame r s).2.1
@[simp] theorem restartBody_tables (r : Req) (s : State) : (restartBody r s).1.tables = s.tables := (restartBody_frame r s).2.2.1
@[simp] theorem restartBody_filtration (r : Req) (s : State) : (restartBody r s).1.filtration = s.filtration := (restartBody_frame r s).2.2.2.1
@[simp] theorem restartBody_cellState (r : Req) (s : State) : (restartBody r s).1.cellPort.state = s.cellPort.state := (restartBody_frame r s).2.2.2.2.1
@[simp] theorem restartBody_plantState (r : Req) (s : State) : (restartBody r s).1.plantPort.state = s.plantPort.state := (restartBody_frame r s).2.2.2.2.2.1
@[simp] theorem restartBody_eeprom (r : Req) (s : State) : (restartBody r s).1.eeprom = s.eeprom := (restartBody_frame r s).2.2.2.2.2.2.1
@[simp] theorem restartBody_draws (r : Req) (s : State) : (restartBody r s).1.draws = s.draws := (restartBody_frame r s).2.2.2.2.2.2.2.1
@[simp] theorem restartBody_pending (r : Req) (s : State) : (restartBody r s).1.pending = s.pending := (restartBody_frame r s).2.2.2.2.2.2.2.2

theorem reloadDrum_frame (old : Tables) (d : DrumNo) (s : State) :
    (reloadDrum old d s).now = s.now ∧
    (reloadDrum old d s).mode = s.mode ∧
    (reloadDrum old d s).activity = s.activity ∧
    (reloadDrum old d s).tables = s.tables ∧
    (reloadDrum old d s).tracker = s.tracker ∧
    (reloadDrum old d s).lots = s.lots ∧
    (reloadDrum old d s).arbiter = s.arbiter ∧
    (reloadDrum old d s).belt = s.belt ∧
    (reloadDrum old d s).head = s.head ∧
    (reloadDrum old d s).engine = s.engine ∧
    (reloadDrum old d s).router = s.router ∧
    (reloadDrum old d s).notices = s.notices ∧
    (reloadDrum old d s).cellPort = s.cellPort ∧
    (reloadDrum old d s).plantPort = s.plantPort ∧
    (reloadDrum old d s).eeprom = s.eeprom ∧
    (reloadDrum old d s).draws = s.draws ∧
    (reloadDrum old d s).pending = s.pending := by
  unfold reloadDrum
  repeat' split
  all_goals simp
@[simp] theorem reloadDrum_now (old : Tables) (d : DrumNo) (s : State) : (reloadDrum old d s).now = s.now := (reloadDrum_frame old d s).1
@[simp] theorem reloadDrum_mode (old : Tables) (d : DrumNo) (s : State) : (reloadDrum old d s).mode = s.mode := (reloadDrum_frame old d s).2.1
@[simp] theorem reloadDrum_activity (old : Tables) (d : DrumNo) (s : State) : (reloadDrum old d s).activity = s.activity := (reloadDrum_frame old d s).2.2.1
@[simp] theorem reloadDrum_tables (old : Tables) (d : DrumNo) (s : State) : (reloadDrum old d s).tables = s.tables := (reloadDrum_frame old d s).2.2.2.1
@[simp] theorem reloadDrum_tracker (old : Tables) (d : DrumNo) (s : State) : (reloadDrum old d s).tracker = s.tracker := (reloadDrum_frame old d s).2.2.2.2.1
@[simp] theorem reloadDrum_lots (old : Tables) (d : DrumNo) (s : State) : (reloadDrum old d s).lots = s.lots := (reloadDrum_frame old d s).2.2.2.2.2.1
@[simp] theorem reloadDrum_arbiter (old : Tables) (d : DrumNo) (s : State) : (reloadDrum old d s).arbiter = s.arbiter := (reloadDrum_frame old d s).2.2.2.2.2.2.1
@[simp] theorem reloadDrum_belt (old : Tables) (d : DrumNo) (s : State) : (reloadDrum old d s).belt = s.belt := (reloadDrum_frame old d s).2.2.2.2.2.2.2.1
@[simp] theorem reloadDrum_head (old : Tables) (d : DrumNo) (s : State) : (reloadDrum old d s).head = s.head := (reloadDrum_frame old d s).2.2.2.2.2.2.2.2.1
@[simp] theorem reloadDrum_engine (old : Tables) (d : DrumNo) (s : State) : (reloadDrum old d s).engine = s.engine := (reloadDrum_frame old d s).2.2.2.2.2.2.2.2.2.1
@[simp] theorem reloadDrum_router (old : Tables) (d : DrumNo) (s : State) : (reloadDrum old d s).router = s.router := (reloadDrum_frame old d s).2.2.2.2.2.2.2.2.2.2.1
@[simp] theorem reloadDrum_notices (old : Tables) (d : DrumNo) (s : State) : (reloadDrum old d s).notices = s.notices := (reloadDrum_frame old d s).2.2.2.2.2.2.2.2.2.2.2.1
@[simp] theorem reloadDrum_cellPort (old : Tables) (d : DrumNo) (s : State) : (reloadDrum old d s).cellPort = s.cellPort := (reloadDrum_frame old d s).2.2.2.2.2.2.2.2.2.2.2.2.1
@[simp] theorem reloadDrum_plantPort (old : Tables) (d : DrumNo) (s : State) : (reloadDrum old d s).plantPort = s.plantPort := (reloadDrum_frame old d s).2.2.2.2.2.2.2.2.2.2.2.2.2.1
@[simp] theorem reloadDrum_eeprom (old : Tables) (d : DrumNo) (s : State) : (reloadDrum old d s).eeprom = s.eeprom := (reloadDrum_frame old d s).2.2.2.2.2.2.2.2.2.2.2.2.2.2.1
@[simp] theorem reloadDrum_draws (old : Tables) (d : DrumNo) (s : State) : (reloadDrum old d s).draws = s.draws := (reloadDrum_frame old d s).2.2.2.2.2.2.2.2.2.2.2.2.2.2.2.1
@[simp] theorem reloadDrum_pending (old : Tables) (d : DrumNo) (s : State) : (reloadDrum old d s).pending = s.pending := (reloadDrum_frame old d s).2.2.2.2.2.2.2.2.2.2.2.2.2.2.2.2

theorem reloadFiltration_frame (old : Tables) (s : State) :
    (reloadFiltration old s).now = s.now ∧
    (reloadFiltration old s).mode = s.mode ∧
    (reloadFiltration old s).activity = s.activity ∧
    (reloadFiltration old s).tables = s.tables ∧
    (reloadFiltration old s).tracker = s.tracker ∧
    (reloadFiltration old s).lots = s.lots ∧
    (reloadFiltration old s).arbiter = s.arbiter ∧
    (reloadFiltration old s).belt = s.belt ∧
    (reloadFiltration old s).head = s.head ∧
    (reloadFiltration old s).engine = s.engine ∧
    (reloadFiltration old s).router = s.router ∧
    (reloadFiltration old s).notices = s.notices ∧
    (reloadFiltration old s).cellPort = s.cellPort ∧
    (reloadFiltration old s).plantPort = s.plantPort ∧
    (reloadFiltration old s).eeprom = s.eeprom ∧
    (reloadFiltration old s).draws = s.draws ∧
    (reloadFiltration old s).pending = s.pending := by
  simp [reloadFiltration]
@[simp] theorem reloadFiltration_now (old : Tables) (s : State) : (reloadFiltration old s).now = s.now := (reloadFiltration_frame old s).1
@[simp] theorem reloadFiltration_mode (old : Tables) (s : State) : (reloadFiltration old s).mode = s.mode := (reloadFiltration_frame old s).2.1
@[simp] theorem reloadFiltration_activity (old : Tables) (s : State) : (reloadFiltration old s).activity = s.activity := (reloadFiltration_frame old s).2.2.1
@[simp] theorem reloadFiltration_tables (old : Tables) (s : State) : (reloadFiltration old s).tables = s.tables := (reloadFiltration_frame old s).2.2.2.1
@[simp] theorem reloadFiltration_tracker (old : Tables) (s : State) : (reloadFiltration old s).tracker = s.tracker := (reloadFiltration_frame old s).2.2.2.2.1
@[simp] theorem reloadFiltration_lots (old : Tables) (s : State) : (reloadFiltration old s).lots = s.lots := (reloadFiltration_frame old s).2.2.2.2.2.1
@[simp] theorem reloadFiltration_arbiter (old : Tables) (s : State) : (reloadFiltration old s).arbiter = s.arbiter := (reloadFiltration_frame old s).2.2.2.2.2.2.1
@[simp] theorem reloadFiltration_belt (old : Tables) (s : State) : (reloadFiltration old s).belt = s.belt := (reloadFiltration_frame old s).2.2.2.2.2.2.2.1
@[simp] theorem reloadFiltration_head (old : Tables) (s : State) : (reloadFiltration old s).head = s.head := (reloadFiltration_frame old s).2.2.2.2.2.2.2.2.1
@[simp] theorem reloadFiltration_engine (old : Tables) (s : State) : (reloadFiltration old s).engine = s.engine := (reloadFiltration_frame old s).2.2.2.2.2.2.2.2.2.1
@[simp] theorem reloadFiltration_router (old : Tables) (s : State) : (reloadFiltration old s).router = s.router := (reloadFiltration_frame old s).2.2.2.2.2.2.2.2.2.2.1
@[simp] theorem reloadFiltration_notices (old : Tables) (s : State) : (reloadFiltration old s).notices = s.notices := (reloadFiltration_frame old s).2.2.2.2.2.2.2.2.2.2.2.1
@[simp] theorem reloadFiltration_cellPort (old : Tables) (s : State) : (reloadFiltration old s).cellPort = s.cellPort := (reloadFiltration_frame old s).2.2.2.2.2.2.2.2.2.2.2.2.1
@[simp] theorem reloadFiltration_plantPort (old : Tables) (s : State) : (reloadFiltration old s).plantPort = s.plantPort := (reloadFiltration_frame old s).2.2.2.2.2.2.2.2.2.2.2.2.2.1
@[simp] theorem reloadFiltration_eeprom (old : Tables) (s : State) : (reloadFiltration old s).eeprom = s.eeprom := (reloadFiltration_frame old s).2.2.2.2.2.2.2.2.2.2.2.2.2.2.1
@[simp] theorem reloadFiltration_draws (old : Tables) (s : State) : (reloadFiltration old s).draws = s.draws := (reloadFiltration_frame old s).2.2.2.2.2.2.2.2.2.2.2.2.2.2.2.1
@[simp] theorem reloadFiltration_pending (old : Tables) (s : State) : (reloadFiltration old s).pending = s.pending := (reloadFiltration_frame old s).2.2.2.2.2.2.2.2.2.2.2.2.2.2.2.2

theorem takeTables_frame (t : Tables) (s : State) :
    (takeTables t s).now = s.now ∧
    (takeTables t s).mode = s.mode ∧
    (takeTables t s).activity = s.activity ∧
    (takeTables t s).tracker.last = s.tracker.last ∧
    (takeTables t s).lots = s.lots ∧
    (takeTables t s).arbiter = s.arbiter ∧
    (takeTables t s).belt = s.belt ∧
    (takeTables t s).head = s.head ∧
    (takeTables t s).filtration = s.filtration ∧
    (takeTables t s).engine = s.engine ∧
    (takeTables t s).router = s.router ∧
    (takeTables t s).notices = s.notices ∧
    (takeTables t s).coalescer = s.coalescer ∧
    (takeTables t s).cellPort = s.cellPort ∧
    (takeTables t s).plantPort = s.plantPort ∧
    (takeTables t s).counters = s.counters ∧
    (takeTables t s).eeprom = s.eeprom ∧
    (takeTables t s).draws = s.draws ∧
    (takeTables t s).raised = s.raised ∧
    (takeTables t s).handed = s.handed ∧
    (takeTables t s).pending = s.pending := by
  simp [takeTables, retrack]
@[simp] theorem takeTables_now (t : Tables) (s : State) : (takeTables t s).now = s.now := (takeTables_frame t s).1
@[simp] theorem takeTables_mode (t : Tables) (s : State) : (takeTables t s).mode = s.mode := (takeTables_frame t s).2.1
@[simp] theorem takeTables_activity (t : Tables) (s : State) : (takeTables t s).activity = s.activity := (takeTables_frame t s).2.2.1
@[simp] theorem takeTables_last (t : Tables) (s : State) : (takeTables t s).tracker.last = s.tracker.last := (takeTables_frame t s).2.2.2.1
@[simp] theorem takeTables_lots (t : Tables) (s : State) : (takeTables t s).lots = s.lots := (takeTables_frame t s).2.2.2.2.1
@[simp] theorem takeTables_arbiter (t : Tables) (s : State) : (takeTables t s).arbiter = s.arbiter := (takeTables_frame t s).2.2.2.2.2.1
@[simp] theorem takeTables_belt (t : Tables) (s : State) : (takeTables t s).belt = s.belt := (takeTables_frame t s).2.2.2.2.2.2.1
@[simp] theorem takeTables_head (t : Tables) (s : State) : (takeTables t s).head = s.head := (takeTables_frame t s).2.2.2.2.2.2.2.1
@[simp] theorem takeTables_filtration (t : Tables) (s : State) : (takeTables t s).filtration = s.filtration := (takeTables_frame t s).2.2.2.2.2.2.2.2.1
@[simp] theorem takeTables_engine (t : Tables) (s : State) : (takeTables t s).engine = s.engine := (takeTables_frame t s).2.2.2.2.2.2.2.2.2.1
@[simp] theorem takeTables_router (t : Tables) (s : State) : (takeTables t s).router = s.router := (takeTables_frame t s).2.2.2.2.2.2.2.2.2.2.1
@[simp] theorem takeTables_notices (t : Tables) (s : State) : (takeTables t s).notices = s.notices := (takeTables_frame t s).2.2.2.2.2.2.2.2.2.2.2.1
@[simp] theorem takeTables_coalescer (t : Tables) (s : State) : (takeTables t s).coalescer = s.coalescer := (takeTables_frame t s).2.2.2.2.2.2.2.2.2.2.2.2.1
@[simp] theorem takeTables_cellPort (t : Tables) (s : State) : (takeTables t s).cellPort = s.cellPort := (takeTables_frame t s).2.2.2.2.2.2.2.2.2.2.2.2.2.1
@[simp] theorem takeTables_plantPort (t : Tables) (s : State) : (takeTables t s).plantPort = s.plantPort := (takeTables_frame t s).2.2.2.2.2.2.2.2.2.2.2.2.2.2.1
@[simp] theorem takeTables_counters (t : Tables) (s : State) : (takeTables t s).counters = s.counters := (takeTables_frame t s).2.2.2.2.2.2.2.2.2.2.2.2.2.2.2.1
@[simp] theorem takeTables_eeprom (t : Tables) (s : State) : (takeTables t s).eeprom = s.eeprom := (takeTables_frame t s).2.2.2.2.2.2.2.2.2.2.2.2.2.2.2.2.1
@[simp] theorem takeTables_draws (t : Tables) (s : State) : (takeTables t s).draws = s.draws := (takeTables_frame t s).2.2.2.2.2.2.2.2.2.2.2.2.2.2.2.2.2.1
@[simp] theorem takeTables_raised (t : Tables) (s : State) : (takeTables t s).raised = s.raised := (takeTables_frame t s).2.2.2.2.2.2.2.2.2.2.2.2.2.2.2.2.2.2.1
@[simp] theorem takeTables_handed (t : Tables) (s : State) : (takeTables t s).handed = s.handed := (takeTables_frame t s).2.2.2.2.2.2.2.2.2.2.2.2.2.2.2.2.2.2.2.1
@[simp] theorem takeTables_pending (t : Tables) (s : State) : (takeTables t s).pending = s.pending := (takeTables_frame t s).2.2.2.2.2.2.2.2.2.2.2.2.2.2.2.2.2.2.2.2

theorem reloadValid_frame (t : Tables) (s : State) :
    (reloadValid t s).now = s.now ∧
    (reloadValid t s).mode = s.mode ∧
    (reloadValid t s).activity = s.activity ∧
    (reloadValid t s).tracker.last = s.tracker.last ∧
    (reloadValid t s).engine = s.engine ∧
    (reloadValid t s).router = s.router ∧
    (reloadValid t s).eeprom = s.eeprom ∧
    (reloadValid t s).draws = s.draws ∧
    (reloadValid t s).pending = s.pending := by
  simp [reloadValid]
@[simp] theorem reloadValid_now (t : Tables) (s : State) : (reloadValid t s).now = s.now := (reloadValid_frame t s).1
@[simp] theorem reloadValid_mode (t : Tables) (s : State) : (reloadValid t s).mode = s.mode := (reloadValid_frame t s).2.1
@[simp] theorem reloadValid_activity (t : Tables) (s : State) : (reloadValid t s).activity = s.activity := (reloadValid_frame t s).2.2.1
@[simp] theorem reloadValid_last (t : Tables) (s : State) : (reloadValid t s).tracker.last = s.tracker.last := (reloadValid_frame t s).2.2.2.1
@[simp] theorem reloadValid_engine (t : Tables) (s : State) : (reloadValid t s).engine = s.engine := (reloadValid_frame t s).2.2.2.2.1
@[simp] theorem reloadValid_router (t : Tables) (s : State) : (reloadValid t s).router = s.router := (reloadValid_frame t s).2.2.2.2.2.1
@[simp] theorem reloadValid_eeprom (t : Tables) (s : State) : (reloadValid t s).eeprom = s.eeprom := (reloadValid_frame t s).2.2.2.2.2.2.1
@[simp] theorem reloadValid_draws (t : Tables) (s : State) : (reloadValid t s).draws = s.draws := (reloadValid_frame t s).2.2.2.2.2.2.2.1
@[simp] theorem reloadValid_pending (t : Tables) (s : State) : (reloadValid t s).pending = s.pending := (reloadValid_frame t s).2.2.2.2.2.2.2.2

theorem reloadBad_frame (s : State) :
    (reloadBad s).now = s.now ∧
    (reloadBad s).mode = s.mode ∧
    (reloadBad s).activity = s.activity ∧
    (reloadBad s).tables = s.tables ∧
    (reloadBad s).tracker = s.tracker ∧
    (reloadBad s).lots = s.lots ∧
    (reloadBad s).arbiter = s.arbiter ∧
    (reloadBad s).belt = s.belt ∧
    (reloadBad s).head = s.head ∧
    (reloadBad s).filtration = s.filtration ∧
    (reloadBad s).engine = s.engine ∧
    (reloadBad s).router = s.router ∧
    (reloadBad s).coalescer = s.coalescer ∧
    (reloadBad s).cellPort = s.cellPort ∧
    (reloadBad s).plantPort = s.plantPort ∧
    (reloadBad s).eeprom = s.eeprom ∧
    (reloadBad s).draws = s.draws ∧
    (reloadBad s).raised = s.raised ∧
    (reloadBad s).handed = s.handed ∧
    (reloadBad s).pending = s.pending := by
  simp [reloadBad]
@[simp] theorem reloadBad_now (s : State) : (reloadBad s).now = s.now := (reloadBad_frame s).1
@[simp] theorem reloadBad_mode (s : State) : (reloadBad s).mode = s.mode := (reloadBad_frame s).2.1
@[simp] theorem reloadBad_activity (s : State) : (reloadBad s).activity = s.activity := (reloadBad_frame s).2.2.1
@[simp] theorem reloadBad_tables (s : State) : (reloadBad s).tables = s.tables := (reloadBad_frame s).2.2.2.1
@[simp] theorem reloadBad_tracker (s : State) : (reloadBad s).tracker = s.tracker := (reloadBad_frame s).2.2.2.2.1
@[simp] theorem reloadBad_lots (s : State) : (reloadBad s).lots = s.lots := (reloadBad_frame s).2.2.2.2.2.1
@[simp] theorem reloadBad_arbiter (s : State) : (reloadBad s).arbiter = s.arbiter := (reloadBad_frame s).2.2.2.2.2.2.1
@[simp] theorem reloadBad_belt (s : State) : (reloadBad s).belt = s.belt := (reloadBad_frame s).2.2.2.2.2.2.2.1
@[simp] theorem reloadBad_head (s : State) : (reloadBad s).head = s.head := (reloadBad_frame s).2.2.2.2.2.2.2.2.1
@[simp] theorem reloadBad_filtration (s : State) : (reloadBad s).filtration = s.filtration := (reloadBad_frame s).2.2.2.2.2.2.2.2.2.1
@[simp] theorem reloadBad_engine (s : State) : (reloadBad s).engine = s.engine := (reloadBad_frame s).2.2.2.2.2.2.2.2.2.2.1
@[simp] theorem reloadBad_router (s : State) : (reloadBad s).router = s.router := (reloadBad_frame s).2.2.2.2.2.2.2.2.2.2.2.1
@[simp] theorem reloadBad_coalescer (s : State) : (reloadBad s).coalescer = s.coalescer := (reloadBad_frame s).2.2.2.2.2.2.2.2.2.2.2.2.1
@[simp] theorem reloadBad_cellPort (s : State) : (reloadBad s).cellPort = s.cellPort := (reloadBad_frame s).2.2.2.2.2.2.2.2.2.2.2.2.2.1
@[simp] theorem reloadBad_plantPort (s : State) : (reloadBad s).plantPort = s.plantPort := (reloadBad_frame s).2.2.2.2.2.2.2.2.2.2.2.2.2.2.1
@[simp] theorem reloadBad_eeprom (s : State) : (reloadBad s).eeprom = s.eeprom := (reloadBad_frame s).2.2.2.2.2.2.2.2.2.2.2.2.2.2.2.1
@[simp] theorem reloadBad_draws (s : State) : (reloadBad s).draws = s.draws := (reloadBad_frame s).2.2.2.2.2.2.2.2.2.2.2.2.2.2.2.2.1
@[simp] theorem reloadBad_raised (s : State) : (reloadBad s).raised = s.raised := (reloadBad_frame s).2.2.2.2.2.2.2.2.2.2.2.2.2.2.2.2.2.1
@[simp] theorem reloadBad_handed (s : State) : (reloadBad s).handed = s.handed := (reloadBad_frame s).2.2.2.2.2.2.2.2.2.2.2.2.2.2.2.2.2.2.1
@[simp] theorem reloadBad_pending (s : State) : (reloadBad s).pending = s.pending := (reloadBad_frame s).2.2.2.2.2.2.2.2.2.2.2.2.2.2.2.2.2.2.2

theorem saveBody_frame (r : Req) (s : State) :
    (saveBody r s).1.now = s.now ∧
    (saveBody r s).1.mode = s.mode ∧
    (saveBody r s).1.tables = s.tables ∧
    (saveBody r s).1.tracker = s.tracker ∧
    (saveBody r s).1.lots = s.lots ∧
    (saveBody r s).1.arbiter = s.arbiter ∧
    (saveBody r s).1.belt = s.belt ∧
    (saveBody r s).1.head = s.head ∧
    (saveBody r s).1.filtration = s.filtration ∧
    (saveBody r s).1.engine = s.engine ∧
    (saveBody r s).1.router = s.router ∧
    (saveBody r s).1.notices = s.notices ∧
    (saveBody r s).1.coalescer = s.coalescer ∧
    (saveBody r s).1.cellPort = s.cellPort ∧
    (saveBody r s).1.plantPort = s.plantPort ∧
    (saveBody r s).1.counters = s.counters ∧
    (saveBody r s).1.eeprom = s.eeprom ∧
    (saveBody r s).1.draws = s.draws ∧
    (saveBody r s).1.raised = s.raised ∧
    (saveBody r s).1.handed = s.handed ∧
    (saveBody r s).1.pending = s.pending := by
  unfold saveBody
  repeat' split
  all_goals simp
@[simp] theorem saveBody_now (r : Req) (s : State) : (saveBody r s).1.now = s.now := (saveBody_frame r s).1
@[simp] theorem saveBody_mode (r : Req) (s : State) : (saveBody r s).1.mode = s.mode := (saveBody_frame r s).2.1
@[simp] theorem saveBody_tables (r : Req) (s : State) : (saveBody r s).1.tables = s.tables := (saveBody_frame r s).2.2.1
@[simp] theorem saveBody_tracker (r : Req) (s : State) : (saveBody r s).1.tracker = s.tracker := (saveBody_frame r s).2.2.2.1
@[simp] theorem saveBody_lots (r : Req) (s : State) : (saveBody r s).1.lots = s.lots := (saveBody_frame r s).2.2.2.2.1
@[simp] theorem saveBody_arbiter (r : Req) (s : State) : (saveBody r s).1.arbiter = s.arbiter := (saveBody_frame r s).2.2.2.2.2.1
@[simp] theorem saveBody_belt (r : Req) (s : State) : (saveBody r s).1.belt = s.belt := (saveBody_frame r s).2.2.2.2.2.2.1
@[simp] theorem saveBody_head (r : Req) (s : State) : (saveBody r s).1.head = s.head := (saveBody_frame r s).2.2.2.2.2.2.2.1
@[simp] theorem saveBody_filtration (r : Req) (s : State) : (saveBody r s).1.filtration = s.filtration := (saveBody_frame r s).2.2.2.2.2.2.2.2.1
@[simp] theorem saveBody_engine (r : Req) (s : State) : (saveBody r s).1.engine = s.engine := (saveBody_frame r s).2.2.2.2.2.2.2.2.2.1
@[simp] theorem saveBody_router (r : Req) (s : State) : (saveBody r s).1.router = s.router := (saveBody_frame r s).2.2.2.2.2.2.2.2.2.2.1
@[simp] theorem saveBody_notices (r : Req) (s : State) : (saveBody r s).1.notices = s.notices := (saveBody_frame r s).2.2.2.2.2.2.2.2.2.2.2.1
@[simp] theorem saveBody_coalescer (r : Req) (s : State) : (saveBody r s).1.coalescer = s.coalescer := (saveBody_frame r s).2.2.2.2.2.2.2.2.2.2.2.2.1
@[simp] theorem saveBody_cellPort (r : Req) (s : State) : (saveBody r s).1.cellPort = s.cellPort := (saveBody_frame r s).2.2.2.2.2.2.2.2.2.2.2.2.2.1
@[simp] theorem saveBody_plantPort (r : Req) (s : State) : (saveBody r s).1.plantPort = s.plantPort := (saveBody_frame r s).2.2.2.2.2.2.2.2.2.2.2.2.2.2.1
@[simp] theorem saveBody_counters (r : Req) (s : State) : (saveBody r s).1.counters = s.counters := (saveBody_frame r s).2.2.2.2.2.2.2.2.2.2.2.2.2.2.2.1
@[simp] theorem saveBody_eeprom (r : Req) (s : State) : (saveBody r s).1.eeprom = s.eeprom := (saveBody_frame r s).2.2.2.2.2.2.2.2.2.2.2.2.2.2.2.2.1
@[simp] theorem saveBody_draws (r : Req) (s : State) : (saveBody r s).1.draws = s.draws := (saveBody_frame r s).2.2.2.2.2.2.2.2.2.2.2.2.2.2.2.2.2.1
@[simp] theorem saveBody_raised (r : Req) (s : State) : (saveBody r s).1.raised = s.raised := (saveBody_frame r s).2.2.2.2.2.2.2.2.2.2.2.2.2.2.2.2.2.2.1
@[simp] theorem saveBody_handed (r : Req) (s : State) : (saveBody r s).1.handed = s.handed := (saveBody_frame r s).2.2.2.2.2.2.2.2.2.2.2.2.2.2.2.2.2.2.2.1
@[simp] theorem saveBody_pending (r : Req) (s : State) : (saveBody r s).1.pending = s.pending := (saveBody_frame r s).2.2.2.2.2.2.2.2.2.2.2.2.2.2.2.2.2.2.2.2

theorem endSave_frame (r : Req) (st : Status) (s : State) :
    (endSave r st s).now = s.now ∧
    (endSave r st s).mode = s.mode ∧
    (endSave r st s).tables = s.tables ∧
    (endSave r st s).tracker = s.tracker ∧
    (endSave r st s).lots = s.lots ∧
    (endSave r st s).arbiter = s.arbiter ∧
    (endSave r st s).belt = s.belt ∧
    (endSave r st s).head = s.head ∧
    (endSave r st s).filtration = s.filtration ∧
    (endSave r st s).engine = s.engine ∧
    (endSave r st s).router = s.router ∧
    (endSave r st s).coalescer = s.coalescer ∧
    (endSave r st s).cellPort.state = s.cellPort.state ∧
    (endSave r st s).plantPort.state = s.plantPort.state ∧
    (endSave r st s).eeprom = s.eeprom ∧
    (endSave r st s).draws = s.draws ∧
    (endSave r st s).raised = s.raised ∧
    (endSave r st s).handed = s.handed ∧
    (endSave r st s).pending = s.pending := by
  unfold endSave
  dsimp only
  repeat' split
  all_goals simp
@[simp] theorem endSave_now (r : Req) (st : Status) (s : State) : (endSave r st s).now = s.now := (endSave_frame r st s).1
@[simp] theorem endSave_mode (r : Req) (st : Status) (s : State) : (endSave r st s).mode = s.mode := (endSave_frame r st s).2.1
@[simp] theorem endSave_tables (r : Req) (st : Status) (s : State) : (endSave r st s).tables = s.tables := (endSave_frame r st s).2.2.1
@[simp] theorem endSave_tracker (r : Req) (st : Status) (s : State) : (endSave r st s).tracker = s.tracker := (endSave_frame r st s).2.2.2.1
@[simp] theorem endSave_lots (r : Req) (st : Status) (s : State) : (endSave r st s).lots = s.lots := (endSave_frame r st s).2.2.2.2.1
@[simp] theorem endSave_arbiter (r : Req) (st : Status) (s : State) : (endSave r st s).arbiter = s.arbiter := (endSave_frame r st s).2.2.2.2.2.1
@[simp] theorem endSave_belt (r : Req) (st : Status) (s : State) : (endSave r st s).belt = s.belt := (endSave_frame r st s).2.2.2.2.2.2.1
@[simp] theorem endSave_head (r : Req) (st : Status) (s : State) : (endSave r st s).head = s.head := (endSave_frame r st s).2.2.2.2.2.2.2.1
@[simp] theorem endSave_filtration (r : Req) (st : Status) (s : State) : (endSave r st s).filtration = s.filtration := (endSave_frame r st s).2.2.2.2.2.2.2.2.1
@[simp] theorem endSave_engine (r : Req) (st : Status) (s : State) : (endSave r st s).engine = s.engine := (endSave_frame r st s).2.2.2.2.2.2.2.2.2.1
@[simp] theorem endSave_router (r : Req) (st : Status) (s : State) : (endSave r st s).router = s.router := (endSave_frame r st s).2.2.2.2.2.2.2.2.2.2.1
@[simp] theorem endSave_coalescer (r : Req) (st : Status) (s : State) : (endSave r st s).coalescer = s.coalescer := (endSave_frame r st s).2.2.2.2.2.2.2.2.2.2.2.1
@[simp] theorem endSave_cellState (r : Req) (st : Status) (s : State) : (endSave r st s).cellPort.state = s.cellPort.state := (endSave_frame r st s).2.2.2.2.2.2.2.2.2.2.2.2.1
@[simp] theorem endSave_plantState (r : Req) (st : Status) (s : State) : (endSave r st s).plantPort.state = s.plantPort.state := (endSave_frame r st s).2.2.2.2.2.2.2.2.2.2.2.2.2.1
@[simp] theorem endSave_eeprom (r : Req) (st : Status) (s : State) : (endSave r st s).eeprom = s.eeprom := (endSave_frame r st s).2.2.2.2.2.2.2.2.2.2.2.2.2.2.1
@[simp] theorem endSave_draws (r : Req) (st : Status) (s : State) : (endSave r st s).draws = s.draws := (endSave_frame r st s).2.2.2.2.2.2.2.2.2.2.2.2.2.2.2.1
@[simp] theorem endSave_raised (r : Req) (st : Status) (s : State) : (endSave r st s).raised = s.raised := (endSave_frame r st s).2.2.2.2.2.2.2.2.2.2.2.2.2.2.2.2.1
@[simp] theorem endSave_handed (r : Req) (st : Status) (s : State) : (endSave r st s).handed = s.handed := (endSave_frame r st s).2.2.2.2.2.2.2.2.2.2.2.2.2.2.2.2.2.1
@[simp] theorem endSave_pending (r : Req) (st : Status) (s : State) : (endSave r st s).pending = s.pending := (endSave_frame r st s).2.2.2.2.2.2.2.2.2.2.2.2.2.2.2.2.2.2

theorem tearFlight_frame (page : Nat) (s : State) :
    (tearFlight page s).now = s.now ∧
    (tearFlight page s).mode = s.mode ∧
    (tearFlight page s).activity = s.activity ∧
    (tearFlight page s).tables = s.tables ∧
    (tearFlight page s).tracker = s.tracker ∧
    (tearFlight page s).lots = s.lots ∧
    (tearFlight page s).arbiter = s.arbiter ∧
    (tearFlight page s).belt = s.belt ∧
    (tearFlight page s).head = s.head ∧
    (tearFlight page s).filtration = s.filtration ∧
    (tearFlight page s).engine = s.engine ∧
    (tearFlight page s).router = s.router ∧
    (tearFlight page s).notices = s.notices ∧
    (tearFlight page s).coalescer = s.coalescer ∧
    (tearFlight page s).cellPort = s.cellPort ∧
    (tearFlight page s).plantPort = s.plantPort ∧
    (tearFlight page s).counters = s.counters ∧
    (tearFlight page s).raised = s.raised ∧
    (tearFlight page s).handed = s.handed ∧
    (tearFlight page s).pending = s.pending := by
  simp [tearFlight]
@[simp] theorem tearFlight_now (page : Nat) (s : State) : (tearFlight page s).now = s.now := (tearFlight_frame page s).1
@[simp] theorem tearFlight_mode (page : Nat) (s : State) : (tearFlight page s).mode = s.mode := (tearFlight_frame page s).2.1
@[simp] theorem tearFlight_activity (page : Nat) (s : State) : (tearFlight page s).activity = s.activity := (tearFlight_frame page s).2.2.1
@[simp] theorem tearFlight_tables (page : Nat) (s : State) : (tearFlight page s).tables = s.tables := (tearFlight_frame page s).2.2.2.1
@[simp] theorem tearFlight_tracker (page : Nat) (s : State) : (tearFlight page s).tracker = s.tracker := (tearFlight_frame page s).2.2.2.2.1
@[simp] theorem tearFlight_lots (page : Nat) (s : State) : (tearFlight page s).lots = s.lots := (tearFlight_frame page s).2.2.2.2.2.1
@[simp] theorem tearFlight_arbiter (page : Nat) (s : State) : (tearFlight page s).arbiter = s.arbiter := (tearFlight_frame page s).2.2.2.2.2.2.1
@[simp] theorem tearFlight_belt (page : Nat) (s : State) : (tearFlight page s).belt = s.belt := (tearFlight_frame page s).2.2.2.2.2.2.2.1
@[simp] theorem tearFlight_head (page : Nat) (s : State) : (tearFlight page s).head = s.head := (tearFlight_frame page s).2.2.2.2.2.2.2.2.1
@[simp] theorem tearFlight_filtration (page : Nat) (s : State) : (tearFlight page s).filtration = s.filtration := (tearFlight_frame page s).2.2.2.2.2.2.2.2.2.1
@[simp] theorem tearFlight_engine (page : Nat) (s : State) : (tearFlight page s).engine = s.engine := (tearFlight_frame page s).2.2.2.2.2.2.2.2.2.2.1
@[simp] theorem tearFlight_router (page : Nat) (s : State) : (tearFlight page s).router = s.router := (tearFlight_frame page s).2.2.2.2.2.2.2.2.2.2.2.1
@[simp] theorem tearFlight_notices (page : Nat) (s : State) : (tearFlight page s).notices = s.notices := (tearFlight_frame page s).2.2.2.2.2.2.2.2.2.2.2.2.1
@[simp] theorem tearFlight_coalescer (page : Nat) (s : State) : (tearFlight page s).coalescer = s.coalescer := (tearFlight_frame page s).2.2.2.2.2.2.2.2.2.2.2.2.2.1
@[simp] theorem tearFlight_cellPort (page : Nat) (s : State) : (tearFlight page s).cellPort = s.cellPort := (tearFlight_frame page s).2.2.2.2.2.2.2.2.2.2.2.2.2.2.1
@[simp] theorem tearFlight_plantPort (page : Nat) (s : State) : (tearFlight page s).plantPort = s.plantPort := (tearFlight_frame page s).2.2.2.2.2.2.2.2.2.2.2.2.2.2.2.1
@[simp] theorem tearFlight_counters (page : Nat) (s : State) : (tearFlight page s).counters = s.counters := (tearFlight_frame page s).2.2.2.2.2.2.2.2.2.2.2.2.2.2.2.2.1
@[simp] theorem tearFlight_raised (page : Nat) (s : State) : (tearFlight page s).raised = s.raised := (tearFlight_frame page s).2.2.2.2.2.2.2.2.2.2.2.2.2.2.2.2.2.1
@[simp] theorem tearFlight_handed (page : Nat) (s : State) : (tearFlight page s).handed = s.handed := (tearFlight_frame page s).2.2.2.2.2.2.2.2.2.2.2.2.2.2.2.2.2.2.1
@[simp] theorem tearFlight_pending (page : Nat) (s : State) : (tearFlight page s).pending = s.pending := (tearFlight_frame page s).2.2.2.2.2.2.2.2.2.2.2.2.2.2.2.2.2.2.2

theorem opSavePageWritten_frame (ack : Bool) (s : State) :
    (opSavePageWritten ack s).now = s.now ∧
    (opSavePageWritten ack s).mode = s.mode ∧
    (opSavePageWritten ack s).tables = s.tables ∧
    (opSavePageWritten ack s).tracker = s.tracker ∧
    (opSavePageWritten ack s).lots = s.lots ∧
    (opSavePageWritten ack s).arbiter = s.arbiter ∧
    (opSavePageWritten ack s).belt = s.belt ∧
    (opSavePageWritten ack s).head = s.head ∧
    (opSavePageWritten ack s).filtration = s.filtration ∧
    (opSavePageWritten ack s).engine = s.engine ∧
    (opSavePageWritten ack s).router = s.router ∧
    (opSavePageWritten ack s).coalescer = s.coalescer ∧
    (opSavePageWritten ack s).cellPort.state = s.cellPort.state ∧
    (opSavePageWritten ack s).plantPort.state = s.plantPort.state ∧
    (opSavePageWritten ack s).raised = s.raised ∧
    (opSavePageWritten ack s).handed = s.handed ∧
    (opSavePageWritten ack s).pending = s.pending := by
  unfold opSavePageWritten
  dsimp only
  repeat' split
  all_goals simp
@[simp] theorem opSavePageWritten_now (ack : Bool) (s : State) : (opSavePageWritten ack s).now = s.now := (opSavePageWritten_frame ack s).1
@[simp] theorem opSavePageWritten_mode (ack : Bool) (s : State) : (opSavePageWritten ack s).mode = s.mode := (opSavePageWritten_frame ack s).2.1
@[simp] theorem opSavePageWritten_tables (ack : Bool) (s : State) : (opSavePageWritten ack s).tables = s.tables := (opSavePageWritten_frame ack s).2.2.1
@[simp] theorem opSavePageWritten_tracker (ack : Bool) (s : State) : (opSavePageWritten ack s).tracker = s.tracker := (opSavePageWritten_frame ack s).2.2.2.1
@[simp] theorem opSavePageWritten_lots (ack : Bool) (s : State) : (opSavePageWritten ack s).lots = s.lots := (opSavePageWritten_frame ack s).2.2.2.2.1
@[simp] theorem opSavePageWritten_arbiter (ack : Bool) (s : State) : (opSavePageWritten ack s).arbiter = s.arbiter := (opSavePageWritten_frame ack s).2.2.2.2.2.1
@[simp] theorem opSavePageWritten_belt (ack : Bool) (s : State) : (opSavePageWritten ack s).belt = s.belt := (opSavePageWritten_frame ack s).2.2.2.2.2.2.1
@[simp] theorem opSavePageWritten_head (ack : Bool) (s : State) : (opSavePageWritten ack s).head = s.head := (opSavePageWritten_frame ack s).2.2.2.2.2.2.2.1
@[simp] theorem opSavePageWritten_filtration (ack : Bool) (s : State) : (opSavePageWritten ack s).filtration = s.filtration := (opSavePageWritten_frame ack s).2.2.2.2.2.2.2.2.1
@[simp] theorem opSavePageWritten_engine (ack : Bool) (s : State) : (opSavePageWritten ack s).engine = s.engine := (opSavePageWritten_frame ack s).2.2.2.2.2.2.2.2.2.1
@[simp] theorem opSavePageWritten_router (ack : Bool) (s : State) : (opSavePageWritten ack s).router = s.router := (opSavePageWritten_frame ack s).2.2.2.2.2.2.2.2.2.2.1
@[simp] theorem opSavePageWritten_coalescer (ack : Bool) (s : State) : (opSavePageWritten ack s).coalescer = s.coalescer := (opSavePageWritten_frame ack s).2.2.2.2.2.2.2.2.2.2.2.1
@[simp] theorem opSavePageWritten_cellState (ack : Bool) (s : State) : (opSavePageWritten ack s).cellPort.state = s.cellPort.state := (opSavePageWritten_frame ack s).2.2.2.2.2.2.2.2.2.2.2.2.1
@[simp] theorem opSavePageWritten_plantState (ack : Bool) (s : State) : (opSavePageWritten ack s).plantPort.state = s.plantPort.state := (opSavePageWritten_frame ack s).2.2.2.2.2.2.2.2.2.2.2.2.2.1
@[simp] theorem opSavePageWritten_raised (ack : Bool) (s : State) : (opSavePageWritten ack s).raised = s.raised := (opSavePageWritten_frame ack s).2.2.2.2.2.2.2.2.2.2.2.2.2.2.1
@[simp] theorem opSavePageWritten_handed (ack : Bool) (s : State) : (opSavePageWritten ack s).handed = s.handed := (opSavePageWritten_frame ack s).2.2.2.2.2.2.2.2.2.2.2.2.2.2.2.1
@[simp] theorem opSavePageWritten_pending (ack : Bool) (s : State) : (opSavePageWritten ack s).pending = s.pending := (opSavePageWritten_frame ack s).2.2.2.2.2.2.2.2.2.2.2.2.2.2.2.2

theorem endSaveByReset_frame (s : State) :
    (endSaveByReset s).now = s.now ∧
    (endSaveByReset s).mode = s.mode ∧
    (endSaveByReset s).activity = s.activity ∧
    (endSaveByReset s).tables = s.tables ∧
    (endSaveByReset s).tracker = s.tracker ∧
    (endSaveByReset s).lots = s.lots ∧
    (endSaveByReset s).arbiter = s.arbiter ∧
    (endSaveByReset s).belt = s.belt ∧
    (endSaveByReset s).head = s.head ∧
    (endSaveByReset s).filtration = s.filtration ∧
    (endSaveByReset s).engine = s.engine ∧
    (endSaveByReset s).router = s.router ∧
    (endSaveByReset s).notices = s.notices ∧
    (endSaveByReset s).coalescer = s.coalescer ∧
    (endSaveByReset s).cellPort = s.cellPort ∧
    (endSaveByReset s).plantPort = s.plantPort ∧
    (endSaveByReset s).counters = s.counters ∧
    (endSaveByReset s).raised = s.raised ∧
    (endSaveByReset s).handed = s.handed ∧
    (endSaveByReset s).pending = s.pending := by
  unfold endSaveByReset
  repeat' split
  all_goals simp
@[simp] theorem endSaveByReset_now (s : State) : (endSaveByReset s).now = s.now := (endSaveByReset_frame s).1
@[simp] theorem endSaveByReset_mode (s : State) : (endSaveByReset s).mode = s.mode := (endSaveByReset_frame s).2.1
@[simp] theorem endSaveByReset_activity (s : State) : (endSaveByReset s).activity = s.activity := (endSaveByReset_frame s).2.2.1
@[simp] theorem endSaveByReset_tables (s : State) : (endSaveByReset s).tables = s.tables := (endSaveByReset_frame s).2.2.2.1
@[simp] theorem endSaveByReset_tracker (s : State) : (endSaveByReset s).tracker = s.tracker := (endSaveByReset_frame s).2.2.2.2.1
@[simp] theorem endSaveByReset_lots (s : State) : (endSaveByReset s).lots = s.lots := (endSaveByReset_frame s).2.2.2.2.2.1
@[simp] theorem endSaveByReset_arbiter (s : State) : (endSaveByReset s).arbiter = s.arbiter := (endSaveByReset_frame s).2.2.2.2.2.2.1
@[simp] theorem endSaveByReset_belt (s : State) : (endSaveByReset s).belt = s.belt := (endSaveByReset_frame s).2.2.2.2.2.2.2.1
@[simp] theorem endSaveByReset_head (s : State) : (endSaveByReset s).head = s.head := (endSaveByReset_frame s).2.2.2.2.2.2.2.2.1
@[simp] theorem endSaveByReset_filtration (s : State) : (endSaveByReset s).filtration = s.filtration := (endSaveByReset_frame s).2.2.2.2.2.2.2.2.2.1
@[simp] theorem endSaveByReset_engine (s : State) : (endSaveByReset s).engine = s.engine := (endSaveByReset_frame s).2.2.2.2.2.2.2.2.2.2.1
@[simp] theorem endSaveByReset_router (s : State) : (endSaveByReset s).router = s.router := (endSaveByReset_frame s).2.2.2.2.2.2.2.2.2.2.2.1
@[simp] theorem endSaveByReset_notices (s : State) : (endSaveByReset s).notices = s.notices := (endSaveByReset_frame s).2.2.2.2.2.2.2.2.2.2.2.2.1
@[simp] theorem endSaveByReset_coalescer (s : State) : (endSaveByReset s).coalescer = s.coalescer := (endSaveByReset_frame s).2.2.2.2.2.2.2.2.2.2.2.2.2.1
@[simp] theorem endSaveByReset_cellPort (s : State) : (endSaveByReset s).cellPort = s.cellPort := (endSaveByReset_frame s).2.2.2.2.2.2.2.2.2.2.2.2.2.2.1
@[simp] theorem endSaveByReset_plantPort (s : State) : (endSaveByReset s).plantPort = s.plantPort := (endSaveByReset_frame s).2.2.2.2.2.2.2.2.2.2.2.2.2.2.2.1
@[simp] theorem endSaveByReset_counters (s : State) : (endSaveByReset s).counters = s.counters := (endSaveByReset_frame s).2.2.2.2.2.2.2.2.2.2.2.2.2.2.2.2.1
@[simp] theorem endSaveByReset_raised (s : State) : (endSaveByReset s).raised = s.raised := (endSaveByReset_frame s).2.2.2.2.2.2.2.2.2.2.2.2.2.2.2.2.2.1
@[simp] theorem endSaveByReset_handed (s : State) : (endSaveByReset s).handed = s.handed := (endSaveByReset_frame s).2.2.2.2.2.2.2.2.2.2.2.2.2.2.2.2.2.2.1
@[simp] theorem endSaveByReset_pending (s : State) : (endSaveByReset s).pending = s.pending := (endSaveByReset_frame s).2.2.2.2.2.2.2.2.2.2.2.2.2.2.2.2.2.2.2

theorem deriveState_frame (t : Tables) (s : State) :
    (deriveState t s).now = s.now ∧
    (deriveState t s).mode = s.mode ∧
    (deriveState t s).activity = s.activity ∧
    (deriveState t s).lots = s.lots ∧
    (deriveState t s).arbiter = s.arbiter ∧
    (deriveState t s).belt = s.belt ∧
    (deriveState t s).head = s.head ∧
    (deriveState t s).engine = s.engine ∧
    (deriveState t s).router = s.router ∧
    (deriveState t s).notices = s.notices ∧
    (deriveState t s).coalescer = s.coalescer ∧
    (deriveState t s).cellPort = s.cellPort ∧
    (deriveState t s).plantPort = s.plantPort ∧
    (deriveState t s).counters = s.counters ∧
    (deriveState t s).eeprom = s.eeprom ∧
    (deriveState t s).draws = s.draws ∧
    (deriveState t s).raised = s.raised ∧
    (deriveState t s).handed = s.handed ∧
    (deriveState t s).pending = s.pending := by
  simp [deriveState]
@[simp] theorem deriveState_now (t : Tables) (s : State) : (deriveState t s).now = s.now := (deriveState_frame t s).1
@[simp] theorem deriveState_mode (t : Tables) (s : State) : (deriveState t s).mode = s.mode := (deriveState_frame t s).2.1
@[simp] theorem deriveState_activity (t : Tables) (s : State) : (deriveState t s).activity = s.activity := (deriveState_frame t s).2.2.1
@[simp] theorem deriveState_lots (t : Tables) (s : State) : (deriveState t s).lots = s.lots := (deriveState_frame t s).2.2.2.1
@[simp] theorem deriveState_arbiter (t : Tables) (s : State) : (deriveState t s).arbiter = s.arbiter := (deriveState_frame t s).2.2.2.2.1
@[simp] theorem deriveState_belt (t : Tables) (s : State) : (deriveState t s).belt = s.belt := (deriveState_frame t s).2.2.2.2.2.1
@[simp] theorem deriveState_head (t : Tables) (s : State) : (deriveState t s).head = s.head := (deriveState_frame t s).2.2.2.2.2.2.1
@[simp] theorem deriveState_engine (t : Tables) (s : State) : (deriveState t s).engine = s.engine := (deriveState_frame t s).2.2.2.2.2.2.2.1
@[simp] theorem deriveState_router (t : Tables) (s : State) : (deriveState t s).router = s.router := (deriveState_frame t s).2.2.2.2.2.2.2.2.1
@[simp] theorem deriveState_notices (t : Tables) (s : State) : (deriveState t s).notices = s.notices := (deriveState_frame t s).2.2.2.2.2.2.2.2.2.1
@[simp] theorem deriveState_coalescer (t : Tables) (s : State) : (deriveState t s).coalescer = s.coalescer := (deriveState_frame t s).2.2.2.2.2.2.2.2.2.2.1
@[simp] theorem deriveState_cellPort (t : Tables) (s : State) : (deriveState t s).cellPort = s.cellPort := (deriveState_frame t s).2.2.2.2.2.2.2.2.2.2.2.1
@[simp] theorem deriveState_plantPort (t : Tables) (s : State) : (deriveState t s).plantPort = s.plantPort := (deriveState_frame t s).2.2.2.2.2.2.2.2.2.2.2.2.1
@[simp] theorem deriveState_counters (t : Tables) (s : State) : (deriveState t s).counters = s.counters := (deriveState_frame t s).2.2.2.2.2.2.2.2.2.2.2.2.2.1
@[simp] theorem deriveState_eeprom (t : Tables) (s : State) : (deriveState t s).eeprom = s.eeprom := (deriveState_frame t s).2.2.2.2.2.2.2.2.2.2.2.2.2.2.1
@[simp] theorem deriveState_draws (t : Tables) (s : State) : (deriveState t s).draws = s.draws := (deriveState_frame t s).2.2.2.2.2.2.2.2.2.2.2.2.2.2.2.1
@[simp] theorem deriveState_raised (t : Tables) (s : State) : (deriveState t s).raised = s.raised := (deriveState_frame t s).2.2.2.2.2.2.2.2.2.2.2.2.2.2.2.2.1
@[simp] theorem deriveState_handed (t : Tables) (s : State) : (deriveState t s).handed = s.handed := (deriveState_frame t s).2.2.2.2.2.2.2.2.2.2.2.2.2.2.2.2.2.1
@[simp] theorem deriveState_pending (t : Tables) (s : State) : (deriveState t s).pending = s.pending := (deriveState_frame t s).2.2.2.2.2.2.2.2.2.2.2.2.2.2.2.2.2.2

theorem startLine_frame (s : State) :
    (startLine s).now = s.now ∧
    (startLine s).activity = s.activity ∧
    (startLine s).tables = s.tables ∧
    (startLine s).tracker = s.tracker ∧
    (startLine s).lots = s.lots ∧
    (startLine s).arbiter = s.arbiter ∧
    (startLine s).head = s.head ∧
    (startLine s).filtration = s.filtration ∧
    (startLine s).engine = s.engine ∧
    (startLine s).router = s.router ∧
    (startLine s).notices = s.notices ∧
    (startLine s).cellPort = s.cellPort ∧
    (startLine s).plantPort = s.plantPort ∧
    (startLine s).eeprom = s.eeprom ∧
    (startLine s).draws = s.draws ∧
    (startLine s).raised = s.raised ∧
    (startLine s).pending = s.pending := by
  simp [startLine]
@[simp] theorem startLine_now (s : State) : (startLine s).now = s.now := (startLine_frame s).1
@[simp] theorem startLine_activity (s : State) : (startLine s).activity = s.activity := (startLine_frame s).2.1
@[simp] theorem startLine_tables (s : State) : (startLine s).tables = s.tables := (startLine_frame s).2.2.1
@[simp] theorem startLine_tracker (s : State) : (startLine s).tracker = s.tracker := (startLine_frame s).2.2.2.1
@[simp] theorem startLine_lots (s : State) : (startLine s).lots = s.lots := (startLine_frame s).2.2.2.2.1
@[simp] theorem startLine_arbiter (s : State) : (startLine s).arbiter = s.arbiter := (startLine_frame s).2.2.2.2.2.1
@[simp] theorem startLine_head (s : State) : (startLine s).head = s.head := (startLine_frame s).2.2.2.2.2.2.1
@[simp] theorem startLine_filtration (s : State) : (startLine s).filtration = s.filtration := (startLine_frame s).2.2.2.2.2.2.2.1
@[simp] theorem startLine_engine (s : State) : (startLine s).engine = s.engine := (startLine_frame s).2.2.2.2.2.2.2.2.1
@[simp] theorem startLine_router (s : State) : (startLine s).router = s.router := (startLine_frame s).2.2.2.2.2.2.2.2.2.1
@[simp] theorem startLine_notices (s : State) : (startLine s).notices = s.notices := (startLine_frame s).2.2.2.2.2.2.2.2.2.2.1
@[simp] theorem startLine_cellPort (s : State) : (startLine s).cellPort = s.cellPort := (startLine_frame s).2.2.2.2.2.2.2.2.2.2.2.1
@[simp] theorem startLine_plantPort (s : State) : (startLine s).plantPort = s.plantPort := (startLine_frame s).2.2.2.2.2.2.2.2.2.2.2.2.1
@[simp] theorem startLine_eeprom (s : State) : (startLine s).eeprom = s.eeprom := (startLine_frame s).2.2.2.2.2.2.2.2.2.2.2.2.2.1
@[simp] theorem startLine_draws (s : State) : (startLine s).draws = s.draws := (startLine_frame s).2.2.2.2.2.2.2.2.2.2.2.2.2.2.1
@[simp] theorem startLine_raised (s : State) : (startLine s).raised = s.raised := (startLine_frame s).2.2.2.2.2.2.2.2.2.2.2.2.2.2.2.1
@[simp] theorem startLine_pending (s : State) : (startLine s).pending = s.pending := (startLine_frame s).2.2.2.2.2.2.2.2.2.2.2.2.2.2.2.2

theorem takeImage_frame (a1 : Option Tables) (s : State) :
    (takeImage a1 s).now = s.now ∧
    (takeImage a1 s).mode = s.mode ∧
    (takeImage a1 s).activity = s.activity ∧
    (takeImage a1 s).lots = s.lots ∧
    (takeImage a1 s).arbiter = s.arbiter ∧
    (takeImage a1 s).belt = s.belt ∧
    (takeImage a1 s).head = s.head ∧
    (takeImage a1 s).engine = s.engine ∧
    (takeImage a1 s).router = s.router ∧
    (takeImage a1 s).coalescer = s.coalescer ∧
    (takeImage a1 s).cellPort = s.cellPort ∧
    (takeImage a1 s).plantPort = s.plantPort ∧
    (takeImage a1 s).eeprom = s.eeprom ∧
    (takeImage a1 s).draws = s.draws ∧
    (takeImage a1 s).raised = s.raised ∧
    (takeImage a1 s).handed = s.handed ∧
    (takeImage a1 s).pending = s.pending := by
  cases a1 <;> simp [takeImage]
@[simp] theorem takeImage_now (a1 : Option Tables) (s : State) : (takeImage a1 s).now = s.now := (takeImage_frame a1 s).1
@[simp] theorem takeImage_mode (a1 : Option Tables) (s : State) : (takeImage a1 s).mode = s.mode := (takeImage_frame a1 s).2.1
@[simp] theorem takeImage_activity (a1 : Option Tables) (s : State) : (takeImage a1 s).activity = s.activity := (takeImage_frame a1 s).2.2.1
@[simp] theorem takeImage_lots (a1 : Option Tables) (s : State) : (takeImage a1 s).lots = s.lots := (takeImage_frame a1 s).2.2.2.1
@[simp] theorem takeImage_arbiter (a1 : Option Tables) (s : State) : (takeImage a1 s).arbiter = s.arbiter := (takeImage_frame a1 s).2.2.2.2.1
@[simp] theorem takeImage_belt (a1 : Option Tables) (s : State) : (takeImage a1 s).belt = s.belt := (takeImage_frame a1 s).2.2.2.2.2.1
@[simp] theorem takeImage_head (a1 : Option Tables) (s : State) : (takeImage a1 s).head = s.head := (takeImage_frame a1 s).2.2.2.2.2.2.1
@[simp] theorem takeImage_engine (a1 : Option Tables) (s : State) : (takeImage a1 s).engine = s.engine := (takeImage_frame a1 s).2.2.2.2.2.2.2.1
@[simp] theorem takeImage_router (a1 : Option Tables) (s : State) : (takeImage a1 s).router = s.router := (takeImage_frame a1 s).2.2.2.2.2.2.2.2.1
@[simp] theorem takeImage_coalescer (a1 : Option Tables) (s : State) : (takeImage a1 s).coalescer = s.coalescer := (takeImage_frame a1 s).2.2.2.2.2.2.2.2.2.1
@[simp] theorem takeImage_cellPort (a1 : Option Tables) (s : State) : (takeImage a1 s).cellPort = s.cellPort := (takeImage_frame a1 s).2.2.2.2.2.2.2.2.2.2.1
@[simp] theorem takeImage_plantPort (a1 : Option Tables) (s : State) : (takeImage a1 s).plantPort = s.plantPort := (takeImage_frame a1 s).2.2.2.2.2.2.2.2.2.2.2.1
@[simp] theorem takeImage_eeprom (a1 : Option Tables) (s : State) : (takeImage a1 s).eeprom = s.eeprom := (takeImage_frame a1 s).2.2.2.2.2.2.2.2.2.2.2.2.1
@[simp] theorem takeImage_draws (a1 : Option Tables) (s : State) : (takeImage a1 s).draws = s.draws := (takeImage_frame a1 s).2.2.2.2.2.2.2.2.2.2.2.2.2.1
@[simp] theorem takeImage_raised (a1 : Option Tables) (s : State) : (takeImage a1 s).raised = s.raised := (takeImage_frame a1 s).2.2.2.2.2.2.2.2.2.2.2.2.2.2.1
@[simp] theorem takeImage_handed (a1 : Option Tables) (s : State) : (takeImage a1 s).handed = s.handed := (takeImage_frame a1 s).2.2.2.2.2.2.2.2.2.2.2.2.2.2.2.1
@[simp] theorem takeImage_pending (a1 : Option Tables) (s : State) : (takeImage a1 s).pending = s.pending := (takeImage_frame a1 s).2.2.2.2.2.2.2.2.2.2.2.2.2.2.2.2

end Sys2Proof.Machine
end

