-- ==== Sys2Proof/Laws/Quiet.lean ====
section
/-! SUPPORT. What the completion of an operation does when little or nothing is left over, what placing a frame does where there is room
and where there is none, and what serving a request comes to in OPERATING. -/

namespace Sys2Proof.Machine

/-! ### Ports -/

@[simp] theorem State.port_cell (s : State) : s.port .cell = s.cellPort := rfl
@[simp] theorem State.port_plant (s : State) : s.port .plant = s.plantPort := rfl
@[simp] theorem State.setPort_cell (s : State) (r : PortRec) : s.setPort .cell r = { s with cellPort := r } := rfl
@[simp] theorem State.setPort_plant (s : State) (r : PortRec) : s.setPort .plant r = { s with plantPort := r } := rfl

theorem State.port_setPort_other (s : State) (p q : Port) (r : PortRec) (h : q ≠ p) : (s.setPort p r).port q = s.port q := by
  cases p <;> cases q <;> first | rfl | exact absurd rfl h

theorem Port.other_ne (p : Port) : p.other ≠ p := by cases p <;> decide

/-- Where there is room a frame is put at the end of its queue, and nothing else happens. -/
theorem forwardTo_room {p : Port} {s : State} (h : s.hasRoom p = true) (f : Frame) : forwardTo p f s = enqueue p f s := by
  simp [forwardTo, h]

/-- A forwarded frame that meets a full queue is dropped and counted (R180). -/
theorem forwardTo_full {p : Port} {s : State} (h : s.hasRoom p = false) (f : Frame) :
    forwardTo p f s = bump (.forwardDropped p) s := by
  simp [forwardTo, h]

theorem placeFrom_room {p : Port} {s : State} (h : s.hasRoom p = true) (src dest kind : Byte) (body : List Byte) :
    placeFrom src p dest kind body s = enqueue p (ownFrame src dest kind body) s := by
  simp [placeFrom, h]

/-- An own telegram that meets a full queue is dropped, counted and reported (R180). -/
theorem placeFrom_full {p : Port} {s : State} (h : s.hasRoom p = false) (src dest kind : Byte) (body : List Byte) :
    placeFrom src p dest kind body s = raiseFault .ownTelegramLost none none (some (.port p)) (bump (.ownLost p) s) := by
  simp [placeFrom, h]

@[simp] theorem hasRoom_bumpBy (c : Counter) (n : Nat) (s : State) (p : Port) : (bumpBy c n s).hasRoom p = s.hasRoom p := by
  cases p <;> rfl

@[simp] theorem hasRoom_bump (c : Counter) (s : State) (p : Port) : (bump c s).hasRoom p = s.hasRoom p := by
  cases p <;> rfl

theorem enqueue_queue (p : Port) (f : Frame) (s : State) : ((enqueue p f s).port p).queue = (s.port p).queue ++ [f] := by
  cases p <;> rfl

theorem enqueue_counter (p : Port) (f : Frame) (s : State) (c : Counter) : (enqueue p f s).counter c = s.counter c := by
  cases p <;> rfl

/-! ### Completion -/

/-- With no occurrence raised the router has nothing to take. -/
theorem routeAll_of_nil {s : State} (h : s.raised = []) : routeAll s = s := by
  simp [routeAll, takeOccurrences, h]

/-- With no command handed over the coalescer makes no test. -/
theorem unloadIfHanded_of_not {s : State} (h : s.handed = false) : unloadIfHanded s = s := by
  simp [unloadIfHanded, h]

/-- With no occurrence raised, completion is the coalescer's test. -/
theorem complete_of_nil {s : State} (h : s.raised = []) : complete s = unloadIfHanded s := by
  rw [complete, routeAll_of_nil h]

/-- An operation that has left nothing over is complete. -/
theorem complete_of_settled {s : State} (h : s.settledLaw) : complete s = s := by
  rw [complete_of_nil h.1, unloadIfHanded_of_not h.2]

/-! ### The coalescer's test leaves everything but the entries, the plant queue and the counters -/

theorem unloadOnce_rest (s : State) :
    (unloadOnce s).1.cellPort = s.cellPort ∧ (unloadOnce s).1.notices = s.notices ∧ (unloadOnce s).1.handed = s.handed := by
  unfold unloadOnce
  split
  · simp
  · split
    · simp [removeEntry]
    · split
      · rename_i h _ hr
        have hr' : ∀ x, (removeEntry x s).hasRoom .plant = true := fun _ => hr
        simp only [placeOwn, placeFrom_room (hr' _), enqueue, State.setPort_plant]
        exact ⟨rfl, rfl, rfl⟩
      · split
        · simp
        · simp

theorem unloadLoop_rest (n : Nat) (s : State) :
    (unloadLoop n s).cellPort = s.cellPort ∧ (unloadLoop n s).notices = s.notices ∧ (unloadLoop n s).handed = s.handed := by
  induction n generalizing s with
  | zero => simp [unloadLoop]
  | succ n ih =>
    have h := unloadOnce_rest s
    unfold unloadLoop
    split
    · have h2 := ih (unloadOnce s).1
      exact ⟨h2.1.trans h.1, h2.2.1.trans h.2.1, h2.2.2.trans h.2.2⟩
    · exact h

/-- The test touches the entries, the plant queue and the counters, and nothing else. -/
theorem unloadTest_rest (s : State) :
    (unloadTest s).cellPort = s.cellPort ∧ (unloadTest s).notices = s.notices ∧ (unloadTest s).handed = s.handed :=
  unloadLoop_rest _ s

@[simp] theorem unloadTest_cellPort (s : State) : (unloadTest s).cellPort = s.cellPort := (unloadTest_rest s).1
@[simp] theorem unloadTest_notices (s : State) : (unloadTest s).notices = s.notices := (unloadTest_rest s).2.1

@[simp] theorem unloadIfHanded_cellPort (s : State) : (unloadIfHanded s).cellPort = s.cellPort := by
  unfold unloadIfHanded; split <;> simp

@[simp] theorem unloadIfHanded_notices (s : State) : (unloadIfHanded s).notices = s.notices := by
  unfold unloadIfHanded; split <;> simp

/-- After the test no command is left handed over. -/
@[simp] theorem unloadIfHanded_handed (s : State) : (unloadIfHanded s).handed = false := by
  unfold unloadIfHanded
  split
  · simp
  · rename_i h; simpa using h

/-! ### Faults -/

/-- A fault touches the fault record and the counters, and never the cause flags (R157). -/
theorem raiseFault_causes (k : FaultKind) (l : Option LotNo) (c : Option CellNo) (d : Option Detail) (s : State) :
    (raiseFault k l c d s).notices.causePowerOn = s.notices.causePowerOn ∧
    (raiseFault k l c d s).notices.causePin = s.notices.causePin ∧
    (raiseFault k l c d s).notices.causeRestart = s.notices.causeRestart := by
  unfold raiseFault captureFault
  repeat' split
  all_goals exact ⟨rfl, rfl, rfl⟩

/-! ### Serving -/

/-- A request in OPERATING that R176 passes to the responder is served. -/
theorem serveAlways_served {s : State} {r : Req} (hm : s.mode = .operating) (hp : s.permits r = true) (command : Nat)
    (body : State → State × Answer) :
    serveAlways command r body s = finishRequest s.tables.node.node command r (body s).2 (body s).1 := by
  simp [serveAlways, hm, hp]

/-- The same, for a command that is answered BUSY while RELOADING. -/
theorem serve_served {s : State} {r : Req} (hm : s.mode = .operating) (hp : s.permits r = true) (ha : s.activity.isReloading = false)
    (command : Nat) (body : State → State × Answer) :
    serve command r body s = finishRequest s.tables.node.node command r (body s).2 (body s).1 := by
  simp [serve, serveAlways, hm, hp, ha]

/-- An operation of a telegram in OPERATING is carried out and completed. -/
theorem operate_operating {s : State} (hm : s.mode = .operating) (op : State → State) : operate op s = complete (op s) := by
  simp [operate, hm]

/-- A served request whose effects left no occurrence: the reply is placed, the request counted, and the coalescer makes its test. -/
theorem finishRequest_of_nil {s : State} (h : s.raised = []) (node : Byte) (command : Nat) (r : Req) (st : Status) (data : List Byte) :
    finishRequest node command r (.now st data) s = unloadIfHanded (countServed st (reply node command r st data s)) := by
  simp [finishRequest, routeAll_of_nil h]

end Sys2Proof.Machine
end

