-- ==== Sys2Proof/Laws/Exec.lean ====
section
/-! SUPPORT. What exec answers for each command: the next state is the command's operation (one lemma per constructor). -/

namespace Sys2Proof.Machine

@[simp] theorem exec_powerOn (s : State) :
    exec (.powerOn) s = .next (opPowerOn s) := rfl
@[simp] theorem exec_pinReset (s : State) :
    exec (.pinReset) s = .next (opPinReset s) := rfl
@[simp] theorem exec_imageLoadComplete (ack : Bool) (s : State) :
    exec (.imageLoadComplete ack) s = .next (opImageLoadComplete ack s) := rfl
@[simp] theorem exec_frameReceived (port : Port) (fcsOk : Bool) (frame : Frame) (s : State) :
    exec (.frameReceived port fcsOk frame) s = .next (opFrameReceived port fcsOk frame s) := rfl
@[simp] theorem exec_dischargeRequest (node cls length : Byte) (mass : Half) (s : State) :
    exec (.dischargeRequest node cls length mass) s = .next (operate (opDischargeRequest node cls length mass) s) := rfl
@[simp] theorem exec_dischargeWithdraw (node : Byte) (s : State) :
    exec (.dischargeWithdraw node) s = .next (operate (opDischargeWithdraw node) s) := rfl
@[simp] theorem exec_dischargeEnd (node lot : Byte) (mass : Half) (s : State) :
    exec (.dischargeEnd node lot mass) s = .next (operate (opDischargeEnd node lot mass) s) := rfl
@[simp] theorem exec_beltSample (count : Word) (s : State) :
    exec (.beltSample count) s = .next (operate (opBeltSample count) s) := rfl
@[simp] theorem exec_crusherStatus (current : Half) (confirm : Byte) (s : State) :
    exec (.crusherStatus current confirm) s = .next (operate (opCrusherStatus current confirm) s) := rfl
@[simp] theorem exec_gateStatus (position : Byte) (s : State) :
    exec (.gateStatus position) s = .next (operate (opGateStatus position) s) := rfl
@[simp] theorem exec_filterSample (drum : Byte) (dp : Half) (s : State) :
    exec (.filterSample drum dp) s = .next (operate (opFilterSample drum dp) s) := rfl
@[simp] theorem exec_coolantAllotment (port : Port) (frame : Frame) (s : State) :
    exec (.coolantAllotment port frame) s = .next (operate (opCoolantAllotment port frame) s) := rfl
@[simp] theorem exec_frameTransmitted (port : Port) (s : State) :
    exec (.frameTransmitted port) s = .next (opFrameTransmitted port s) := rfl
@[simp] theorem exec_silenceTimeout (port : Port) (s : State) :
    exec (.silenceTimeout port) s = .next (complete (opSilenceTimeout port s)) := rfl
@[simp] theorem exec_requestUrgent (cell : CellNo) (s : State) :
    exec (.requestUrgent cell) s = .next (complete (opRequestUrgent cell s)) := rfl
@[simp] theorem exec_requestExpiry (cell : CellNo) (s : State) :
    exec (.requestExpiry cell) s = .next (complete (opRequestExpiry cell s)) := rfl
@[simp] theorem exec_overrideSecond (s : State) :
    exec (.overrideSecond) s = .next (opOverrideSecond s) := rfl
@[simp] theorem exec_gateTimeout (s : State) :
    exec (.gateTimeout) s = .next (complete (opGateTimeout s)) := rfl
@[simp] theorem exec_startTimerExpiry (s : State) :
    exec (.startTimerExpiry) s = .next (complete (opStartTimerExpiry s)) := rfl
@[simp] theorem exec_idleTimerExpiry (s : State) :
    exec (.idleTimerExpiry) s = .next (complete (opIdleTimerExpiry s)) := rfl
@[simp] theorem exec_flushWaitLimit (drum : DrumNo) (s : State) :
    exec (.flushWaitLimit drum) s = .next (complete (opFlushWaitLimit drum s)) := rfl
@[simp] theorem exec_flushTimeEnd (drum : DrumNo) (s : State) :
    exec (.flushTimeEnd drum) s = .next (complete (opFlushTimeEnd drum s)) := rfl
@[simp] theorem exec_settleTimeEnd (drum : DrumNo) (s : State) :
    exec (.settleTimeEnd drum) s = .next (complete (opSettleTimeEnd drum s)) := rfl
@[simp] theorem exec_stepHoldExpiry (s : State) :
    exec (.stepHoldExpiry) s = .next (complete (opStepHoldExpiry s)) := rfl
@[simp] theorem exec_coalesceAgeLimit (s : State) :
    exec (.coalesceAgeLimit) s = .next (opCoalesceAgeLimit s) := rfl
@[simp] theorem exec_readIdent (req : Req) (s : State) :
    exec (.readIdent req) s = .next (opReadIdent req s) := rfl
@[simp] theorem exec_readEntry (req : Req) (s : State) :
    exec (.readEntry req) s = .next (opReadEntry req s) := rfl
@[simp] theorem exec_writeEntry (req : Req) (data : List Byte) (s : State) :
    exec (.writeEntry req data) s = .next (opWriteEntry req data s) := rfl
@[simp] theorem exec_writeClassify (req : Req) (entry : RawClassify) (s : State) :
    exec (.writeClassify req entry) s = .next (opWriteClassify req entry s) := rfl
@[simp] theorem exec_writeCell (req : Req) (entry : RawCell) (s : State) :
    exec (.writeCell req entry) s = .next (opWriteCell req entry s) := rfl
@[simp] theorem exec_writeClass (req : Req) (entry : RawClass) (s : State) :
    exec (.writeClass req entry) s = .next (opWriteClass req entry s) := rfl
@[simp] theorem exec_writePlant (req : Req) (entry : RawPlant) (s : State) :
    exec (.writePlant req entry) s = .next (opWritePlant req entry s) := rfl
@[simp] theorem exec_writeBelt (req : Req) (entry : RawBelt) (s : State) :
    exec (.writeBelt req entry) s = .next (opWriteBelt req entry s) := rfl
@[simp] theorem exec_writeProfile (req : Req) (entry : RawProfile) (s : State) :
    exec (.writeProfile req entry) s = .next (opWriteProfile req entry s) := rfl
@[simp] theorem exec_writeCrusher (req : Req) (entry : RawCrusher) (s : State) :
    exec (.writeCrusher req entry) s = .next (opWriteCrusher req entry s) := rfl
@[simp] theorem exec_writeDrum (req : Req) (entry : RawDrum) (s : State) :
    exec (.writeDrum req entry) s = .next (opWriteDrum req entry s) := rfl
@[simp] theorem exec_writeFilter (req : Req) (entry : RawFilter) (s : State) :
    exec (.writeFilter req entry) s = .next (opWriteFilter req entry s) := rfl
@[simp] theorem exec_writeAction (req : Req) (entry : RawAction) (s : State) :
    exec (.writeAction req entry) s = .next (opWriteAction req entry s) := rfl
@[simp] theorem exec_writeEventroute (req : Req) (entry : RawRoute) (s : State) :
    exec (.writeEventroute req entry) s = .next (opWriteEventroute req entry s) := rfl
@[simp] theorem exec_writePort (req : Req) (entry : RawPort) (s : State) :
    exec (.writePort req entry) s = .next (opWritePort req entry s) := rfl
@[simp] theorem exec_writeCoalesce (req : Req) (entry : RawCoalesce) (s : State) :
    exec (.writeCoalesce req entry) s = .next (opWriteCoalesce req entry s) := rfl
@[simp] theorem exec_writeNode (req : Req) (entry : RawNode) (s : State) :
    exec (.writeNode req entry) s = .next (opWriteNode req entry s) := rfl
@[simp] theorem exec_readStatePitches (req : Req) (s : State) :
    exec (.readStatePitches req) s = .next (opReadPitches req s) := rfl
@[simp] theorem exec_readStateLot (req : Req) (s : State) :
    exec (.readStateLot req) s = .next (opReadLot req s) := rfl
@[simp] theorem exec_readStateRequest (req : Req) (s : State) :
    exec (.readStateRequest req) s = .next (opReadRequest req s) := rfl
@[simp] theorem exec_readStateCrusher (req : Req) (s : State) :
    exec (.readStateCrusher req) s = .next (opReadCrusher req s) := rfl
@[simp] theorem exec_readStateGate (req : Req) (s : State) :
    exec (.readStateGate req) s = .next (opReadGate req s) := rfl
@[simp] theorem exec_readStateDrum (req : Req) (s : State) :
    exec (.readStateDrum req) s = .next (opReadDrum req s) := rfl
@[simp] theorem exec_readStateBelt (req : Req) (s : State) :
    exec (.readStateBelt req) s = .next (opReadBelt req s) := rfl
@[simp] theorem exec_readStateProgram (req : Req) (s : State) :
    exec (.readStateProgram req) s = .next (opReadProgram req s) := rfl
@[simp] theorem exec_readStateEvent (req : Req) (s : State) :
    exec (.readStateEvent req) s = .next (opReadEvent req s) := rfl
@[simp] theorem exec_readStateFault (req : Req) (s : State) :
    exec (.readStateFault req) s = .next (opReadFault req s) := rfl
@[simp] theorem exec_readStateCounters (req : Req) (s : State) :
    exec (.readStateCounters req) s = .next (opReadCounters req s) := rfl
@[simp] theorem exec_readStateRoutes (req : Req) (s : State) :
    exec (.readStateRoutes req) s = .next (opReadRoutes req s) := rfl
@[simp] theorem exec_readStateCauses (req : Req) (s : State) :
    exec (.readStateCauses req) s = .next (opReadCauses req s) := rfl
@[simp] theorem exec_haltLine (req : Req) (s : State) :
    exec (.haltLine req) s = .next (opHaltLine req s) := rfl
@[simp] theorem exec_releaseLine (req : Req) (s : State) :
    exec (.releaseLine req) s = .next (opReleaseLine req s) := rfl
@[simp] theorem exec_releaseOverride (req : Req) (s : State) :
    exec (.releaseOverride req) s = .next (opReleaseOverride req s) := rfl
@[simp] theorem exec_ackEvent (req : Req) (s : State) :
    exec (.ackEvent req) s = .next (opAckEvent req s) := rfl
@[simp] theorem exec_clearFault (req : Req) (s : State) :
    exec (.clearFault req) s = .next (opClearFault req s) := rfl
@[simp] theorem exec_clearCrusher (req : Req) (s : State) :
    exec (.clearCrusher req) s = .next (opClearCrusher req s) := rfl
@[simp] theorem exec_clearDrum (req : Req) (s : State) :
    exec (.clearDrum req) s = .next (opClearDrum req s) := rfl
@[simp] theorem exec_startProgram (req : Req) (s : State) :
    exec (.startProgram req) s = .next (opStartProgram req s) := rfl
@[simp] theorem exec_abortProgram (req : Req) (s : State) :
    exec (.abortProgram req) s = .next (opAbortProgram req s) := rfl
@[simp] theorem exec_clearCounters (req : Req) (s : State) :
    exec (.clearCounters req) s = .next (opClearCounters req s) := rfl
@[simp] theorem exec_clearCauses (req : Req) (s : State) :
    exec (.clearCauses req) s = .next (opClearCauses req s) := rfl
@[simp] theorem exec_restartLine (req : Req) (s : State) :
    exec (.restartLine req) s = .next (opRestartLine req s) := rfl
@[simp] theorem exec_reloadComplete (ack : Bool) (s : State) :
    exec (.reloadComplete ack) s = .next (opReloadComplete ack s) := rfl
@[simp] theorem exec_saveImage (req : Req) (s : State) :
    exec (.saveImage req) s = .next (opSaveImage req s) := rfl
@[simp] theorem exec_savePageWritten (ack : Bool) (s : State) :
    exec (.savePageWritten ack) s = .next (opSavePageWritten ack s) := rfl

end Sys2Proof.Machine
end

