-- ==== Sys2Proof/Laws/Writes.lean ====
section
/-! SUPPORT. The table writes: what each body can answer, and what every write leaves alone. -/

namespace Sys2Proof.Machine

@[simp] theorem readOnly_fst (f : State → Answer) (s : State) : (readOnly f s).1 = s := rfl
@[simp] theorem readOnly_snd (f : State → Answer) (s : State) : (readOnly f s).2 = f s := rfl

/-- Everything a table write can answer: a refusal that leaves the state alone, or what its body answers (R189). -/
theorem writeTable_cases (n : Nat) (r : Req) (body : Fin n → State → Option (State × Status)) (s : State) :
    (writeTable n r body s).1 = s ∨ ∃ i t st, body i s = some (t, st) ∧ writeTable n r body s = (t, .now st []) := by
  unfold writeTable
  split
  · exact .inl rfl
  · rename_i i _
    split
    · exact .inl rfl
    · split
      · exact .inl rfl
      · rename_i t st h
        exact .inr ⟨i, t, st, h, rfl⟩

theorem writeTable_now {n : Nat} {r : Req} {body : Fin n → State → Option (State × Status)} {s : State}
    (h : ∀ i t st, body i s = some (t, st) → t.now = s.now) : (writeTable n r body s).1.now = s.now := by
  obtain e | ⟨i, t, st, hb, e⟩ := writeTable_cases n r body s
  · rw [e]
  · rw [e]; exact h i t st hb

theorem writeTable_mode {n : Nat} {r : Req} {body : Fin n → State → Option (State × Status)} {s : State}
    (h : ∀ i t st, body i s = some (t, st) → t.mode = s.mode) : (writeTable n r body s).1.mode = s.mode := by
  obtain e | ⟨i, t, st, hb, e⟩ := writeTable_cases n r body s
  · rw [e]
  · rw [e]; exact h i t st hb

theorem writeTable_activity {n : Nat} {r : Req} {body : Fin n → State → Option (State × Status)} {s : State}
    (h : ∀ i t st, body i s = some (t, st) → t.activity = s.activity) : (writeTable n r body s).1.activity = s.activity := by
  obtain e | ⟨i, t, st, hb, e⟩ := writeTable_cases n r body s
  · rw [e]
  · rw [e]; exact h i t st hb

theorem writeTable_eeprom {n : Nat} {r : Req} {body : Fin n → State → Option (State × Status)} {s : State}
    (h : ∀ i t st, body i s = some (t, st) → t.eeprom = s.eeprom) : (writeTable n r body s).1.eeprom = s.eeprom := by
  obtain e | ⟨i, t, st, hb, e⟩ := writeTable_cases n r body s
  · rw [e]
  · rw [e]; exact h i t st hb

theorem writeTable_draws {n : Nat} {r : Req} {body : Fin n → State → Option (State × Status)} {s : State}
    (h : ∀ i t st, body i s = some (t, st) → t.draws = s.draws) : (writeTable n r body s).1.draws = s.draws := by
  obtain e | ⟨i, t, st, hb, e⟩ := writeTable_cases n r body s
  · rw [e]
  · rw [e]; exact h i t st hb

theorem writeTable_pending {n : Nat} {r : Req} {body : Fin n → State → Option (State × Status)} {s : State}
    (h : ∀ i t st, body i s = some (t, st) → t.pending = s.pending) : (writeTable n r body s).1.pending = s.pending := by
  obtain e | ⟨i, t, st, hb, e⟩ := writeTable_cases n r body s
  · rw [e]
  · rw [e]; exact h i t st hb

theorem bodyClassify_frame {e : RawClassify} {i : Fin 32} {s t : State} {st : Status} (h : bodyClassify e i s = some (t, st)) :
    t.now = s.now ∧ t.mode = s.mode ∧ t.activity = s.activity ∧ t.eeprom = s.eeprom ∧ t.draws = s.draws ∧ t.pending = s.pending := by
  simp only [bodyClassify, taken, Option.bind_eq_some_iff, Option.some.injEq, Prod.mk.injEq] at h
  obtain ⟨v, -, h⟩ := h
  obtain ⟨rfl, -⟩ := h
  simp

@[simp] theorem opWriteClassify_now (r : Req) (e : RawClassify) (s : State) : (opWriteClassify r e s).now = s.now :=
  serveAlways_now _ r _ s (writeTable_now (fun _ _ _ h => (bodyClassify_frame h).1))
@[simp] theorem opWriteClassify_mode (r : Req) (e : RawClassify) (s : State) : (opWriteClassify r e s).mode = s.mode :=
  serveAlways_mode _ r _ s (writeTable_mode (fun _ _ _ h => (bodyClassify_frame h).2.1))
@[simp] theorem opWriteClassify_activity (r : Req) (e : RawClassify) (s : State) : (opWriteClassify r e s).activity = s.activity :=
  serveAlways_activity _ r _ s (writeTable_activity (fun _ _ _ h => (bodyClassify_frame h).2.2.1))
@[simp] theorem opWriteClassify_eeprom (r : Req) (e : RawClassify) (s : State) : (opWriteClassify r e s).eeprom = s.eeprom :=
  serveAlways_eeprom _ r _ s (writeTable_eeprom (fun _ _ _ h => (bodyClassify_frame h).2.2.2.1))
@[simp] theorem opWriteClassify_draws (r : Req) (e : RawClassify) (s : State) : (opWriteClassify r e s).draws = s.draws :=
  serveAlways_draws _ r _ s (writeTable_draws (fun _ _ _ h => (bodyClassify_frame h).2.2.2.2.1))
@[simp] theorem opWriteClassify_pending (r : Req) (e : RawClassify) (s : State) : (opWriteClassify r e s).pending = s.pending :=
  serveAlways_pending _ r _ s (writeTable_pending (fun _ _ _ h => (bodyClassify_frame h).2.2.2.2.2))

theorem bodyCell_frame {e : RawCell} {i : CellNo} {s t : State} {st : Status} (h : bodyCell e i s = some (t, st)) :
    t.now = s.now ∧ t.mode = s.mode ∧ t.activity = s.activity ∧ t.eeprom = s.eeprom ∧ t.draws = s.draws ∧ t.pending = s.pending := by
  simp only [bodyCell, taken, Option.bind_eq_some_iff] at h
  obtain ⟨v, -, h⟩ := h
  repeat' split at h
  all_goals first | contradiction | (obtain ⟨rfl, -⟩ := Prod.mk.inj (Option.some.inj h); simp)

@[simp] theorem opWriteCell_now (r : Req) (e : RawCell) (s : State) : (opWriteCell r e s).now = s.now :=
  serveAlways_now _ r _ s (writeTable_now (fun _ _ _ h => (bodyCell_frame h).1))
@[simp] theorem opWriteCell_mode (r : Req) (e : RawCell) (s : State) : (opWriteCell r e s).mode = s.mode :=
  serveAlways_mode _ r _ s (writeTable_mode (fun _ _ _ h => (bodyCell_frame h).2.1))
@[simp] theorem opWriteCell_activity (r : Req) (e : RawCell) (s : State) : (opWriteCell r e s).activity = s.activity :=
  serveAlways_activity _ r _ s (writeTable_activity (fun _ _ _ h => (bodyCell_frame h).2.2.1))
@[simp] theorem opWriteCell_eeprom (r : Req) (e : RawCell) (s : State) : (opWriteCell r e s).eeprom = s.eeprom :=
  serveAlways_eeprom _ r _ s (writeTable_eeprom (fun _ _ _ h => (bodyCell_frame h).2.2.2.1))
@[simp] theorem opWriteCell_draws (r : Req) (e : RawCell) (s : State) : (opWriteCell r e s).draws = s.draws :=
  serveAlways_draws _ r _ s (writeTable_draws (fun _ _ _ h => (bodyCell_frame h).2.2.2.2.1))
@[simp] theorem opWriteCell_pending (r : Req) (e : RawCell) (s : State) : (opWriteCell r e s).pending = s.pending :=
  serveAlways_pending _ r _ s (writeTable_pending (fun _ _ _ h => (bodyCell_frame h).2.2.2.2.2))

theorem bodyClass_frame {e : RawClass} {i : ClassNo} {s t : State} {st : Status} (h : bodyClass e i s = some (t, st)) :
    t.now = s.now ∧ t.mode = s.mode ∧ t.activity = s.activity ∧ t.eeprom = s.eeprom ∧ t.draws = s.draws ∧ t.pending = s.pending := by
  simp only [bodyClass, taken, Option.bind_eq_some_iff, Option.some.injEq, Prod.mk.injEq] at h
  obtain ⟨v, -, h⟩ := h
  obtain ⟨rfl, -⟩ := h
  split <;> simp

@[simp] theorem opWriteClass_now (r : Req) (e : RawClass) (s : State) : (opWriteClass r e s).now = s.now :=
  serveAlways_now _ r _ s (writeTable_now (fun _ _ _ h => (bodyClass_frame h).1))
@[simp] theorem opWriteClass_mode (r : Req) (e : RawClass) (s : State) : (opWriteClass r e s).mode = s.mode :=
  serveAlways_mode _ r _ s (writeTable_mode (fun _ _ _ h => (bodyClass_frame h).2.1))
@[simp] theorem opWriteClass_activity (r : Req) (e : RawClass) (s : State) : (opWriteClass r e s).activity = s.activity :=
  serveAlways_activity _ r _ s (writeTable_activity (fun _ _ _ h => (bodyClass_frame h).2.2.1))
@[simp] theorem opWriteClass_eeprom (r : Req) (e : RawClass) (s : State) : (opWriteClass r e s).eeprom = s.eeprom :=
  serveAlways_eeprom _ r _ s (writeTable_eeprom (fun _ _ _ h => (bodyClass_frame h).2.2.2.1))
@[simp] theorem opWriteClass_draws (r : Req) (e : RawClass) (s : State) : (opWriteClass r e s).draws = s.draws :=
  serveAlways_draws _ r _ s (writeTable_draws (fun _ _ _ h => (bodyClass_frame h).2.2.2.2.1))
@[simp] theorem opWriteClass_pending (r : Req) (e : RawClass) (s : State) : (opWriteClass r e s).pending = s.pending :=
  serveAlways_pending _ r _ s (writeTable_pending (fun _ _ _ h => (bodyClass_frame h).2.2.2.2.2))

theorem bodyPlant_frame {e : RawPlant} {s t : State} {st : Status} (h : bodyPlant e s = some (t, st)) :
    t.now = s.now ∧ t.mode = s.mode ∧ t.activity = s.activity ∧ t.eeprom = s.eeprom ∧ t.draws = s.draws ∧ t.pending = s.pending := by
  simp only [bodyPlant, taken, Option.bind_eq_some_iff, Option.some.injEq, Prod.mk.injEq] at h
  obtain ⟨v, -, h⟩ := h
  obtain ⟨rfl, -⟩ := h
  simp

@[simp] theorem opWritePlant_now (r : Req) (e : RawPlant) (s : State) : (opWritePlant r e s).now = s.now :=
  serveAlways_now _ r _ s (writeTable_now (fun _ _ _ h => (bodyPlant_frame h).1))
@[simp] theorem opWritePlant_mode (r : Req) (e : RawPlant) (s : State) : (opWritePlant r e s).mode = s.mode :=
  serveAlways_mode _ r _ s (writeTable_mode (fun _ _ _ h => (bodyPlant_frame h).2.1))
@[simp] theorem opWritePlant_activity (r : Req) (e : RawPlant) (s : State) : (opWritePlant r e s).activity = s.activity :=
  serveAlways_activity _ r _ s (writeTable_activity (fun _ _ _ h => (bodyPlant_frame h).2.2.1))
@[simp] theorem opWritePlant_eeprom (r : Req) (e : RawPlant) (s : State) : (opWritePlant r e s).eeprom = s.eeprom :=
  serveAlways_eeprom _ r _ s (writeTable_eeprom (fun _ _ _ h => (bodyPlant_frame h).2.2.2.1))
@[simp] theorem opWritePlant_draws (r : Req) (e : RawPlant) (s : State) : (opWritePlant r e s).draws = s.draws :=
  serveAlways_draws _ r _ s (writeTable_draws (fun _ _ _ h => (bodyPlant_frame h).2.2.2.2.1))
@[simp] theorem opWritePlant_pending (r : Req) (e : RawPlant) (s : State) : (opWritePlant r e s).pending = s.pending :=
  serveAlways_pending _ r _ s (writeTable_pending (fun _ _ _ h => (bodyPlant_frame h).2.2.2.2.2))

theorem bodyBelt_frame {e : RawBelt} {s t : State} {st : Status} (h : bodyBelt e s = some (t, st)) :
    t.now = s.now ∧ t.mode = s.mode ∧ t.activity = s.activity ∧ t.eeprom = s.eeprom ∧ t.draws = s.draws ∧ t.pending = s.pending := by
  simp only [bodyBelt, taken, Option.bind_eq_some_iff] at h
  obtain ⟨v, -, h⟩ := h
  repeat' split at h
  all_goals first | contradiction | (obtain ⟨rfl, -⟩ := Prod.mk.inj (Option.some.inj h); simp)

@[simp] theorem opWriteBelt_now (r : Req) (e : RawBelt) (s : State) : (opWriteBelt r e s).now = s.now :=
  serveAlways_now _ r _ s (writeTable_now (fun _ _ _ h => (bodyBelt_frame h).1))
@[simp] theorem opWriteBelt_mode (r : Req) (e : RawBelt) (s : State) : (opWriteBelt r e s).mode = s.mode :=
  serveAlways_mode _ r _ s (writeTable_mode (fun _ _ _ h => (bodyBelt_frame h).2.1))
@[simp] theorem opWriteBelt_activity (r : Req) (e : RawBelt) (s : State) : (opWriteBelt r e s).activity = s.activity :=
  serveAlways_activity _ r _ s (writeTable_activity (fun _ _ _ h => (bodyBelt_frame h).2.2.1))
@[simp] theorem opWriteBelt_eeprom (r : Req) (e : RawBelt) (s : State) : (opWriteBelt r e s).eeprom = s.eeprom :=
  serveAlways_eeprom _ r _ s (writeTable_eeprom (fun _ _ _ h => (bodyBelt_frame h).2.2.2.1))
@[simp] theorem opWriteBelt_draws (r : Req) (e : RawBelt) (s : State) : (opWriteBelt r e s).draws = s.draws :=
  serveAlways_draws _ r _ s (writeTable_draws (fun _ _ _ h => (bodyBelt_frame h).2.2.2.2.1))
@[simp] theorem opWriteBelt_pending (r : Req) (e : RawBelt) (s : State) : (opWriteBelt r e s).pending = s.pending :=
  serveAlways_pending _ r _ s (writeTable_pending (fun _ _ _ h => (bodyBelt_frame h).2.2.2.2.2))

theorem bodyProfile_frame {e : RawProfile} {s t : State} {st : Status} (h : bodyProfile e s = some (t, st)) :
    t.now = s.now ∧ t.mode = s.mode ∧ t.activity = s.activity ∧ t.eeprom = s.eeprom ∧ t.draws = s.draws ∧ t.pending = s.pending := by
  simp only [bodyProfile, taken, Option.some.injEq, Prod.mk.injEq] at h
  obtain ⟨rfl, -⟩ := h
  split <;> simp

@[simp] theorem opWriteProfile_now (r : Req) (e : RawProfile) (s : State) : (opWriteProfile r e s).now = s.now :=
  serveAlways_now _ r _ s (writeTable_now (fun _ _ _ h => (bodyProfile_frame h).1))
@[simp] theorem opWriteProfile_mode (r : Req) (e : RawProfile) (s : State) : (opWriteProfile r e s).mode = s.mode :=
  serveAlways_mode _ r _ s (writeTable_mode (fun _ _ _ h => (bodyProfile_frame h).2.1))
@[simp] theorem opWriteProfile_activity (r : Req) (e : RawProfile) (s : State) : (opWriteProfile r e s).activity = s.activity :=
  serveAlways_activity _ r _ s (writeTable_activity (fun _ _ _ h => (bodyProfile_frame h).2.2.1))
@[simp] theorem opWriteProfile_eeprom (r : Req) (e : RawProfile) (s : State) : (opWriteProfile r e s).eeprom = s.eeprom :=
  serveAlways_eeprom _ r _ s (writeTable_eeprom (fun _ _ _ h => (bodyProfile_frame h).2.2.2.1))
@[simp] theorem opWriteProfile_draws (r : Req) (e : RawProfile) (s : State) : (opWriteProfile r e s).draws = s.draws :=
  serveAlways_draws _ r _ s (writeTable_draws (fun _ _ _ h => (bodyProfile_frame h).2.2.2.2.1))
@[simp] theorem opWriteProfile_pending (r : Req) (e : RawProfile) (s : State) : (opWriteProfile r e s).pending = s.pending :=
  serveAlways_pending _ r _ s (writeTable_pending (fun _ _ _ h => (bodyProfile_frame h).2.2.2.2.2))

theorem bodyCrusher_frame {e : RawCrusher} {s t : State} {st : Status} (h : bodyCrusher e s = some (t, st)) :
    t.now = s.now ∧ t.mode = s.mode ∧ t.activity = s.activity ∧ t.eeprom = s.eeprom ∧ t.draws = s.draws ∧ t.pending = s.pending := by
  simp only [bodyCrusher, taken, Option.bind_eq_some_iff, Option.some.injEq, Prod.mk.injEq] at h
  obtain ⟨v, -, h⟩ := h
  obtain ⟨rfl, -⟩ := h
  simp

@[simp] theorem opWriteCrusher_now (r : Req) (e : RawCrusher) (s : State) : (opWriteCrusher r e s).now = s.now :=
  serveAlways_now _ r _ s (writeTable_now (fun _ _ _ h => (bodyCrusher_frame h).1))
@[simp] theorem opWriteCrusher_mode (r : Req) (e : RawCrusher) (s : State) : (opWriteCrusher r e s).mode = s.mode :=
  serveAlways_mode _ r _ s (writeTable_mode (fun _ _ _ h => (bodyCrusher_frame h).2.1))
@[simp] theorem opWriteCrusher_activity (r : Req) (e : RawCrusher) (s : State) : (opWriteCrusher r e s).activity = s.activity :=
  serveAlways_activity _ r _ s (writeTable_activity (fun _ _ _ h => (bodyCrusher_frame h).2.2.1))
@[simp] theorem opWriteCrusher_eeprom (r : Req) (e : RawCrusher) (s : State) : (opWriteCrusher r e s).eeprom = s.eeprom :=
  serveAlways_eeprom _ r _ s (writeTable_eeprom (fun _ _ _ h => (bodyCrusher_frame h).2.2.2.1))
@[simp] theorem opWriteCrusher_draws (r : Req) (e : RawCrusher) (s : State) : (opWriteCrusher r e s).draws = s.draws :=
  serveAlways_draws _ r _ s (writeTable_draws (fun _ _ _ h => (bodyCrusher_frame h).2.2.2.2.1))
@[simp] theorem opWriteCrusher_pending (r : Req) (e : RawCrusher) (s : State) : (opWriteCrusher r e s).pending = s.pending :=
  serveAlways_pending _ r _ s (writeTable_pending (fun _ _ _ h => (bodyCrusher_frame h).2.2.2.2.2))

theorem bodyDrum_frame {e : RawDrum} {i : DrumNo} {s t : State} {st : Status} (h : bodyDrum e i s = some (t, st)) :
    t.now = s.now ∧ t.mode = s.mode ∧ t.activity = s.activity ∧ t.eeprom = s.eeprom ∧ t.draws = s.draws ∧ t.pending = s.pending := by
  simp only [bodyDrum, taken, Option.bind_eq_some_iff] at h
  obtain ⟨v, -, h⟩ := h
  repeat' split at h
  all_goals first | contradiction | (obtain ⟨rfl, -⟩ := Prod.mk.inj (Option.some.inj h); simp)

@[simp] theorem opWriteDrum_now (r : Req) (e : RawDrum) (s : State) : (opWriteDrum r e s).now = s.now :=
  serveAlways_now _ r _ s (writeTable_now (fun _ _ _ h => (bodyDrum_frame h).1))
@[simp] theorem opWriteDrum_mode (r : Req) (e : RawDrum) (s : State) : (opWriteDrum r e s).mode = s.mode :=
  serveAlways_mode _ r _ s (writeTable_mode (fun _ _ _ h => (bodyDrum_frame h).2.1))
@[simp] theorem opWriteDrum_activity (r : Req) (e : RawDrum) (s : State) : (opWriteDrum r e s).activity = s.activity :=
  serveAlways_activity _ r _ s (writeTable_activity (fun _ _ _ h => (bodyDrum_frame h).2.2.1))
@[simp] theorem opWriteDrum_eeprom (r : Req) (e : RawDrum) (s : State) : (opWriteDrum r e s).eeprom = s.eeprom :=
  serveAlways_eeprom _ r _ s (writeTable_eeprom (fun _ _ _ h => (bodyDrum_frame h).2.2.2.1))
@[simp] theorem opWriteDrum_draws (r : Req) (e : RawDrum) (s : State) : (opWriteDrum r e s).draws = s.draws :=
  serveAlways_draws _ r _ s (writeTable_draws (fun _ _ _ h => (bodyDrum_frame h).2.2.2.2.1))
@[simp] theorem opWriteDrum_pending (r : Req) (e : RawDrum) (s : State) : (opWriteDrum r e s).pending = s.pending :=
  serveAlways_pending _ r _ s (writeTable_pending (fun _ _ _ h => (bodyDrum_frame h).2.2.2.2.2))

theorem bodyFilter_frame {e : RawFilter} {s t : State} {st : Status} (h : bodyFilter e s = some (t, st)) :
    t.now = s.now ∧ t.mode = s.mode ∧ t.activity = s.activity ∧ t.eeprom = s.eeprom ∧ t.draws = s.draws ∧ t.pending = s.pending := by
  simp only [bodyFilter, taken, Option.bind_eq_some_iff, Option.some.injEq, Prod.mk.injEq] at h
  obtain ⟨v, -, h⟩ := h
  obtain ⟨rfl, -⟩ := h
  simp

@[simp] theorem opWriteFilter_now (r : Req) (e : RawFilter) (s : State) : (opWriteFilter r e s).now = s.now :=
  serveAlways_now _ r _ s (writeTable_now (fun _ _ _ h => (bodyFilter_frame h).1))
@[simp] theorem opWriteFilter_mode (r : Req) (e : RawFilter) (s : State) : (opWriteFilter r e s).mode = s.mode :=
  serveAlways_mode _ r _ s (writeTable_mode (fun _ _ _ h => (bodyFilter_frame h).2.1))
@[simp] theorem opWriteFilter_activity (r : Req) (e : RawFilter) (s : State) : (opWriteFilter r e s).activity = s.activity :=
  serveAlways_activity _ r _ s (writeTable_activity (fun _ _ _ h => (bodyFilter_frame h).2.2.1))
@[simp] theorem opWriteFilter_eeprom (r : Req) (e : RawFilter) (s : State) : (opWriteFilter r e s).eeprom = s.eeprom :=
  serveAlways_eeprom _ r _ s (writeTable_eeprom (fun _ _ _ h => (bodyFilter_frame h).2.2.2.1))
@[simp] theorem opWriteFilter_draws (r : Req) (e : RawFilter) (s : State) : (opWriteFilter r e s).draws = s.draws :=
  serveAlways_draws _ r _ s (writeTable_draws (fun _ _ _ h => (bodyFilter_frame h).2.2.2.2.1))
@[simp] theorem opWriteFilter_pending (r : Req) (e : RawFilter) (s : State) : (opWriteFilter r e s).pending = s.pending :=
  serveAlways_pending _ r _ s (writeTable_pending (fun _ _ _ h => (bodyFilter_frame h).2.2.2.2.2))

theorem bodyAction_frame {e : RawAction} {i : ActionNo} {s t : State} {st : Status} (h : bodyAction e i s = some (t, st)) :
    t.now = s.now ∧ t.mode = s.mode ∧ t.activity = s.activity ∧ t.eeprom = s.eeprom ∧ t.draws = s.draws ∧ t.pending = s.pending := by
  simp only [bodyAction, taken, Option.bind_eq_some_iff, Option.some.injEq, Prod.mk.injEq] at h
  obtain ⟨v, -, h⟩ := h
  obtain ⟨rfl, -⟩ := h
  simp

@[simp] theorem opWriteAction_now (r : Req) (e : RawAction) (s : State) : (opWriteAction r e s).now = s.now :=
  serveAlways_now _ r _ s (writeTable_now (fun _ _ _ h => (bodyAction_frame h).1))
@[simp] theorem opWriteAction_mode (r : Req) (e : RawAction) (s : State) : (opWriteAction r e s).mode = s.mode :=
  serveAlways_mode _ r _ s (writeTable_mode (fun _ _ _ h => (bodyAction_frame h).2.1))
@[simp] theorem opWriteAction_activity (r : Req) (e : RawAction) (s : State) : (opWriteAction r e s).activity = s.activity :=
  serveAlways_activity _ r _ s (writeTable_activity (fun _ _ _ h => (bodyAction_frame h).2.2.1))
@[simp] theorem opWriteAction_eeprom (r : Req) (e : RawAction) (s : State) : (opWriteAction r e s).eeprom = s.eeprom :=
  serveAlways_eeprom _ r _ s (writeTable_eeprom (fun _ _ _ h => (bodyAction_frame h).2.2.2.1))
@[simp] theorem opWriteAction_draws (r : Req) (e : RawAction) (s : State) : (opWriteAction r e s).draws = s.draws :=
  serveAlways_draws _ r _ s (writeTable_draws (fun _ _ _ h => (bodyAction_frame h).2.2.2.2.1))
@[simp] theorem opWriteAction_pending (r : Req) (e : RawAction) (s : State) : (opWriteAction r e s).pending = s.pending :=
  serveAlways_pending _ r _ s (writeTable_pending (fun _ _ _ h => (bodyAction_frame h).2.2.2.2.2))

theorem bodyEventroute_frame {e : RawRoute} {i : SourceNo} {s t : State} {st : Status} (h : bodyEventroute e i s = some (t, st)) :
    t.now = s.now ∧ t.mode = s.mode ∧ t.activity = s.activity ∧ t.eeprom = s.eeprom ∧ t.draws = s.draws ∧ t.pending = s.pending := by
  simp only [bodyEventroute, taken, Option.bind_eq_some_iff, Option.some.injEq, Prod.mk.injEq] at h
  obtain ⟨v, -, h⟩ := h
  obtain ⟨rfl, -⟩ := h
  simp

@[simp] theorem opWriteEventroute_now (r : Req) (e : RawRoute) (s : State) : (opWriteEventroute r e s).now = s.now :=
  serveAlways_now _ r _ s (writeTable_now (fun _ _ _ h => (bodyEventroute_frame h).1))
@[simp] theorem opWriteEventroute_mode (r : Req) (e : RawRoute) (s : State) : (opWriteEventroute r e s).mode = s.mode :=
  serveAlways_mode _ r _ s (writeTable_mode (fun _ _ _ h => (bodyEventroute_frame h).2.1))
@[simp] theorem opWriteEventroute_activity (r : Req) (e : RawRoute) (s : State) : (opWriteEventroute r e s).activity = s.activity :=
  serveAlways_activity _ r _ s (writeTable_activity (fun _ _ _ h => (bodyEventroute_frame h).2.2.1))
@[simp] theorem opWriteEventroute_eeprom (r : Req) (e : RawRoute) (s : State) : (opWriteEventroute r e s).eeprom = s.eeprom :=
  serveAlways_eeprom _ r _ s (writeTable_eeprom (fun _ _ _ h => (bodyEventroute_frame h).2.2.2.1))
@[simp] theorem opWriteEventroute_draws (r : Req) (e : RawRoute) (s : State) : (opWriteEventroute r e s).draws = s.draws :=
  serveAlways_draws _ r _ s (writeTable_draws (fun _ _ _ h => (bodyEventroute_frame h).2.2.2.2.1))
@[simp] theorem opWriteEventroute_pending (r : Req) (e : RawRoute) (s : State) : (opWriteEventroute r e s).pending = s.pending :=
  serveAlways_pending _ r _ s (writeTable_pending (fun _ _ _ h => (bodyEventroute_frame h).2.2.2.2.2))

theorem bodyPort_frame {e : RawPort} {i : Fin 2} {s t : State} {st : Status} (h : bodyPort e i s = some (t, st)) :
    t.now = s.now ∧ t.mode = s.mode ∧ t.activity = s.activity ∧ t.eeprom = s.eeprom ∧ t.draws = s.draws ∧ t.pending = s.pending := by
  simp only [bodyPort, taken, Option.bind_eq_some_iff, Option.some.injEq, Prod.mk.injEq] at h
  obtain ⟨v, -, h⟩ := h
  obtain ⟨rfl, -⟩ := h
  simp

@[simp] theorem opWritePort_now (r : Req) (e : RawPort) (s : State) : (opWritePort r e s).now = s.now :=
  serveAlways_now _ r _ s (writeTable_now (fun _ _ _ h => (bodyPort_frame h).1))
@[simp] theorem opWritePort_mode (r : Req) (e : RawPort) (s : State) : (opWritePort r e s).mode = s.mode :=
  serveAlways_mode _ r _ s (writeTable_mode (fun _ _ _ h => (bodyPort_frame h).2.1))
@[simp] theorem opWritePort_activity (r : Req) (e : RawPort) (s : State) : (opWritePort r e s).activity = s.activity :=
  serveAlways_activity _ r _ s (writeTable_activity (fun _ _ _ h => (bodyPort_frame h).2.2.1))
@[simp] theorem opWritePort_eeprom (r : Req) (e : RawPort) (s : State) : (opWritePort r e s).eeprom = s.eeprom :=
  serveAlways_eeprom _ r _ s (writeTable_eeprom (fun _ _ _ h => (bodyPort_frame h).2.2.2.1))
@[simp] theorem opWritePort_draws (r : Req) (e : RawPort) (s : State) : (opWritePort r e s).draws = s.draws :=
  serveAlways_draws _ r _ s (writeTable_draws (fun _ _ _ h => (bodyPort_frame h).2.2.2.2.1))
@[simp] theorem opWritePort_pending (r : Req) (e : RawPort) (s : State) : (opWritePort r e s).pending = s.pending :=
  serveAlways_pending _ r _ s (writeTable_pending (fun _ _ _ h => (bodyPort_frame h).2.2.2.2.2))

theorem bodyCoalesce_frame {e : RawCoalesce} {s t : State} {st : Status} (h : bodyCoalesce e s = some (t, st)) :
    t.now = s.now ∧ t.mode = s.mode ∧ t.activity = s.activity ∧ t.eeprom = s.eeprom ∧ t.draws = s.draws ∧ t.pending = s.pending := by
  simp only [bodyCoalesce, taken, Option.bind_eq_some_iff, Option.some.injEq, Prod.mk.injEq] at h
  obtain ⟨v, -, h⟩ := h
  obtain ⟨rfl, -⟩ := h
  simp

@[simp] theorem opWriteCoalesce_now (r : Req) (e : RawCoalesce) (s : State) : (opWriteCoalesce r e s).now = s.now :=
  serveAlways_now _ r _ s (writeTable_now (fun _ _ _ h => (bodyCoalesce_frame h).1))
@[simp] theorem opWriteCoalesce_mode (r : Req) (e : RawCoalesce) (s : State) : (opWriteCoalesce r e s).mode = s.mode :=
  serveAlways_mode _ r _ s (writeTable_mode (fun _ _ _ h => (bodyCoalesce_frame h).2.1))
@[simp] theorem opWriteCoalesce_activity (r : Req) (e : RawCoalesce) (s : State) : (opWriteCoalesce r e s).activity = s.activity :=
  serveAlways_activity _ r _ s (writeTable_activity (fun _ _ _ h => (bodyCoalesce_frame h).2.2.1))
@[simp] theorem opWriteCoalesce_eeprom (r : Req) (e : RawCoalesce) (s : State) : (opWriteCoalesce r e s).eeprom = s.eeprom :=
  serveAlways_eeprom _ r _ s (writeTable_eeprom (fun _ _ _ h => (bodyCoalesce_frame h).2.2.2.1))
@[simp] theorem opWriteCoalesce_draws (r : Req) (e : RawCoalesce) (s : State) : (opWriteCoalesce r e s).draws = s.draws :=
  serveAlways_draws _ r _ s (writeTable_draws (fun _ _ _ h => (bodyCoalesce_frame h).2.2.2.2.1))
@[simp] theorem opWriteCoalesce_pending (r : Req) (e : RawCoalesce) (s : State) : (opWriteCoalesce r e s).pending = s.pending :=
  serveAlways_pending _ r _ s (writeTable_pending (fun _ _ _ h => (bodyCoalesce_frame h).2.2.2.2.2))

theorem bodyNode_frame {e : RawNode} {s t : State} {st : Status} (h : bodyNode e s = some (t, st)) :
    t.now = s.now ∧ t.mode = s.mode ∧ t.activity = s.activity ∧ t.eeprom = s.eeprom ∧ t.draws = s.draws ∧ t.pending = s.pending := by
  simp only [bodyNode, taken, Option.bind_eq_some_iff, Option.some.injEq, Prod.mk.injEq] at h
  obtain ⟨v, -, h⟩ := h
  obtain ⟨rfl, -⟩ := h
  simp

@[simp] theorem opWriteNode_now (r : Req) (e : RawNode) (s : State) : (opWriteNode r e s).now = s.now :=
  serveAlways_now _ r _ s (writeTable_now (fun _ _ _ h => (bodyNode_frame h).1))
@[simp] theorem opWriteNode_mode (r : Req) (e : RawNode) (s : State) : (opWriteNode r e s).mode = s.mode :=
  serveAlways_mode _ r _ s (writeTable_mode (fun _ _ _ h => (bodyNode_frame h).2.1))
@[simp] theorem opWriteNode_activity (r : Req) (e : RawNode) (s : State) : (opWriteNode r e s).activity = s.activity :=
  serveAlways_activity _ r _ s (writeTable_activity (fun _ _ _ h => (bodyNode_frame h).2.2.1))
@[simp] theorem opWriteNode_eeprom (r : Req) (e : RawNode) (s : State) : (opWriteNode r e s).eeprom = s.eeprom :=
  serveAlways_eeprom _ r _ s (writeTable_eeprom (fun _ _ _ h => (bodyNode_frame h).2.2.2.1))
@[simp] theorem opWriteNode_draws (r : Req) (e : RawNode) (s : State) : (opWriteNode r e s).draws = s.draws :=
  serveAlways_draws _ r _ s (writeTable_draws (fun _ _ _ h => (bodyNode_frame h).2.2.2.2.1))
@[simp] theorem opWriteNode_pending (r : Req) (e : RawNode) (s : State) : (opWriteNode r e s).pending = s.pending :=
  serveAlways_pending _ r _ s (writeTable_pending (fun _ _ _ h => (bodyNode_frame h).2.2.2.2.2))

@[simp] theorem opWriteEntry_now (r : Req) (data : List Byte) (s : State) : (opWriteEntry r data s).now = s.now := by
  unfold opWriteEntry
  split <;> first | simp | exact serveAlways_now _ _ _ _ rfl

@[simp] theorem opWriteEntry_mode (r : Req) (data : List Byte) (s : State) : (opWriteEntry r data s).mode = s.mode := by
  unfold opWriteEntry
  split <;> first | simp | exact serveAlways_mode _ _ _ _ rfl

@[simp] theorem opWriteEntry_activity (r : Req) (data : List Byte) (s : State) : (opWriteEntry r data s).activity = s.activity := by
  unfold opWriteEntry
  split <;> first | simp | exact serveAlways_activity _ _ _ _ rfl

@[simp] theorem opWriteEntry_eeprom (r : Req) (data : List Byte) (s : State) : (opWriteEntry r data s).eeprom = s.eeprom := by
  unfold opWriteEntry
  split <;> first | simp | exact serveAlways_eeprom _ _ _ _ rfl

@[simp] theorem opWriteEntry_draws (r : Req) (data : List Byte) (s : State) : (opWriteEntry r data s).draws = s.draws := by
  unfold opWriteEntry
  split <;> first | simp | exact serveAlways_draws _ _ _ _ rfl

@[simp] theorem opWriteEntry_pending (r : Req) (data : List Byte) (s : State) : (opWriteEntry r data s).pending = s.pending := by
  unfold opWriteEntry
  split <;> first | simp | exact serveAlways_pending _ _ _ _ rfl

end Sys2Proof.Machine
end

