-- ==== Sys2Proof/Laws/Frames.lean ====
section
/-! SUPPORT. What the handling of a frame leaves alone, whatever telegram it carries (Machine/Frames.lean). -/

namespace Sys2Proof.Machine

/-! ### `now` -/

theorem busyOr_now {body : State → State × Answer} (h : ∀ t, (body t).1.now = t.now) (t : State) :
    (if t.activity.isReloading then (t, Answer.now .busy []) else body t).1.now = t.now := by
  split
  · rfl
  · exact h t

theorem serve_keeps_now {command : Nat} {r : Req} {body : State → State × Answer} (h : ∀ t, (body t).1.now = t.now) (s : State) :
    (serve command r body s).now = s.now := by
  simp [serve, busyOr_now h]

@[simp] theorem opReadPitches_now (r : Req) (s : State) : (opReadPitches r s).now = s.now :=
  serveAlways_now _ _ _ _ rfl
@[simp] theorem opReadLot_now (r : Req) (s : State) : (opReadLot r s).now = s.now :=
  serveAlways_now _ _ _ _ rfl
@[simp] theorem opReadRequest_now (r : Req) (s : State) : (opReadRequest r s).now = s.now :=
  serveAlways_now _ _ _ _ rfl
@[simp] theorem opReadCrusher_now (r : Req) (s : State) : (opReadCrusher r s).now = s.now :=
  serveAlways_now _ _ _ _ rfl
@[simp] theorem opReadGate_now (r : Req) (s : State) : (opReadGate r s).now = s.now :=
  serveAlways_now _ _ _ _ rfl
@[simp] theorem opReadDrum_now (r : Req) (s : State) : (opReadDrum r s).now = s.now :=
  serveAlways_now _ _ _ _ rfl
@[simp] theorem opReadBelt_now (r : Req) (s : State) : (opReadBelt r s).now = s.now :=
  serveAlways_now _ _ _ _ rfl
@[simp] theorem opReadProgram_now (r : Req) (s : State) : (opReadProgram r s).now = s.now :=
  serveAlways_now _ _ _ _ rfl
@[simp] theorem opReadEvent_now (r : Req) (s : State) : (opReadEvent r s).now = s.now :=
  serveAlways_now _ _ _ _ rfl
@[simp] theorem opReadFault_now (r : Req) (s : State) : (opReadFault r s).now = s.now :=
  serveAlways_now _ _ _ _ rfl
@[simp] theorem opReadCounters_now (r : Req) (s : State) : (opReadCounters r s).now = s.now :=
  serveAlways_now _ _ _ _ rfl
@[simp] theorem opReadRoutes_now (r : Req) (s : State) : (opReadRoutes r s).now = s.now :=
  serveAlways_now _ _ _ _ rfl
@[simp] theorem opReadCauses_now (r : Req) (s : State) : (opReadCauses r s).now = s.now :=
  serveAlways_now _ _ _ _ rfl
@[simp] theorem opReadIdent_now (r : Req) (s : State) : (opReadIdent r s).now = s.now :=
  serveAlways_now _ _ _ _ rfl
@[simp] theorem opReadEntry_now (r : Req) (s : State) : (opReadEntry r s).now = s.now :=
  serveAlways_now _ _ _ _ rfl
@[simp] theorem opHaltLine_now (r : Req) (s : State) : (opHaltLine r s).now = s.now :=
  serve_keeps_now (fun t => by simp) s
@[simp] theorem opReleaseLine_now (r : Req) (s : State) : (opReleaseLine r s).now = s.now :=
  serve_keeps_now (fun t => by simp) s
@[simp] theorem opReleaseOverride_now (r : Req) (s : State) : (opReleaseOverride r s).now = s.now :=
  serve_keeps_now (fun t => by simp) s
@[simp] theorem opAckEvent_now (r : Req) (s : State) : (opAckEvent r s).now = s.now :=
  serve_keeps_now (fun t => by simp) s
@[simp] theorem opClearFault_now (r : Req) (s : State) : (opClearFault r s).now = s.now :=
  serve_keeps_now (fun t => by simp) s
@[simp] theorem opClearCrusher_now (r : Req) (s : State) : (opClearCrusher r s).now = s.now :=
  serve_keeps_now (fun t => by simp) s
@[simp] theorem opClearDrum_now (r : Req) (s : State) : (opClearDrum r s).now = s.now :=
  serve_keeps_now (fun t => by simp) s
@[simp] theorem opStartProgram_now (r : Req) (s : State) : (opStartProgram r s).now = s.now :=
  serve_keeps_now (fun t => by simp) s
@[simp] theorem opAbortProgram_now (r : Req) (s : State) : (opAbortProgram r s).now = s.now :=
  serve_keeps_now (fun t => by simp) s
@[simp] theorem opClearCounters_now (r : Req) (s : State) : (opClearCounters r s).now = s.now :=
  serve_keeps_now (fun t => by simp) s
@[simp] theorem opClearCauses_now (r : Req) (s : State) : (opClearCauses r s).now = s.now :=
  serve_keeps_now (fun t => by simp) s
@[simp] theorem opRestartLine_now (r : Req) (s : State) : (opRestartLine r s).now = s.now :=
  serve_keeps_now (fun t => by simp) s
@[simp] theorem opSaveImage_now (r : Req) (s : State) : (opSaveImage r s).now = s.now :=
  serve_keeps_now (fun t => by simp) s
@[simp] theorem opReadState_now (r : Req) (s : State) : (opReadState r s).now = s.now := by
  unfold opReadState; split <;> first | simp | exact serveAlways_now _ _ _ _ rfl
@[simp] theorem opManagement_now (command : Byte) (r : Req) (data : List Byte) (s : State) :
    (opManagement command r data s).now = s.now := by
  unfold opManagement; split <;> first | simp | exact serveAlways_now _ _ _ _ rfl
@[simp] theorem takeDischarge_now {p : Port} {by_ : Consumption} {op : State → State} (h : ∀ t, (op t).now = t.now) (s : State) :
    (takeDischarge p by_ op s).now = s.now := by
  unfold takeDischarge discardDischarge; split <;> simp [h]
@[simp] theorem acceptFrom_now {p : Port} {src node : Byte} {op : State → State} (h : ∀ t, (op t).now = t.now) (s : State) :
    (acceptFrom p src node op s).now = s.now := by
  unfold acceptFrom foreignSample; split <;> simp [h]
@[simp] theorem opCoolantAllotment_now (p : Port) (g : Frame) (s : State) : (opCoolantAllotment p g s).now = s.now := by
  unfold opCoolantAllotment takeAllotment clampAllotment
  dsimp only
  repeat' split
  all_goals simp
@[simp] theorem dispatch_now (p : Port) (by_ : Consumption) (t : Telegram) (s : State) : (dispatch p by_ t s).now = s.now := by
  unfold dispatch unusableTelegram
  repeat' split
  all_goals simp
@[simp] theorem consume_now (p : Port) (by_ : Consumption) (t : Telegram) (s : State) : (consume p by_ t s).now = s.now := by
  unfold consume; split <;> simp
@[simp] theorem applyAction_now (a : Action) (p : Port) (g : Frame) (t : Telegram) (s : State) : (applyAction a p g t s).now = s.now := by
  unfold applyAction; split <;> simp
@[simp] theorem classify_now (p : Port) (g : Frame) (t : Telegram) (s : State) : (classify p g t s).now = s.now := by
  unfold classify; split <;> simp
@[simp] theorem handleFrame_now (p : Port) (g : Frame) (s : State) : (handleFrame p g s).now = s.now := by
  unfold handleFrame loadingFrame lineFrame
  repeat' split
  all_goals simp
@[simp] theorem opFrameReceived_now (p : Port) (ok : Bool) (g : Frame) (s : State) : (opFrameReceived p ok g s).now = s.now := by
  unfold opFrameReceived; split <;> simp

/-! ### `mode` -/

theorem busyOr_mode {body : State → State × Answer} (h : ∀ t, (body t).1.mode = t.mode) (t : State) :
    (if t.activity.isReloading then (t, Answer.now .busy []) else body t).1.mode = t.mode := by
  split
  · rfl
  · exact h t

theorem serve_keeps_mode {command : Nat} {r : Req} {body : State → State × Answer} (h : ∀ t, (body t).1.mode = t.mode) (s : State) :
    (serve command r body s).mode = s.mode := by
  simp [serve, busyOr_mode h]

@[simp] theorem opReadPitches_mode (r : Req) (s : State) : (opReadPitches r s).mode = s.mode :=
  serveAlways_mode _ _ _ _ rfl
@[simp] theorem opReadLot_mode (r : Req) (s : State) : (opReadLot r s).mode = s.mode :=
  serveAlways_mode _ _ _ _ rfl
@[simp] theorem opReadRequest_mode (r : Req) (s : State) : (opReadRequest r s).mode = s.mode :=
  serveAlways_mode _ _ _ _ rfl
@[simp] theorem opReadCrusher_mode (r : Req) (s : State) : (opReadCrusher r s).mode = s.mode :=
  serveAlways_mode _ _ _ _ rfl
@[simp] theorem opReadGate_mode (r : Req) (s : State) : (opReadGate r s).mode = s.mode :=
  serveAlways_mode _ _ _ _ rfl
@[simp] theorem opReadDrum_mode (r : Req) (s : State) : (opReadDrum r s).mode = s.mode :=
  serveAlways_mode _ _ _ _ rfl
@[simp] theorem opReadBelt_mode (r : Req) (s : State) : (opReadBelt r s).mode = s.mode :=
  serveAlways_mode _ _ _ _ rfl
@[simp] theorem opReadProgram_mode (r : Req) (s : State) : (opReadProgram r s).mode = s.mode :=
  serveAlways_mode _ _ _ _ rfl
@[simp] theorem opReadEvent_mode (r : Req) (s : State) : (opReadEvent r s).mode = s.mode :=
  serveAlways_mode _ _ _ _ rfl
@[simp] theorem opReadFault_mode (r : Req) (s : State) : (opReadFault r s).mode = s.mode :=
  serveAlways_mode _ _ _ _ rfl
@[simp] theorem opReadCounters_mode (r : Req) (s : State) : (opReadCounters r s).mode = s.mode :=
  serveAlways_mode _ _ _ _ rfl
@[simp] theorem opReadRoutes_mode (r : Req) (s : State) : (opReadRoutes r s).mode = s.mode :=
  serveAlways_mode _ _ _ _ rfl
@[simp] theorem opReadCauses_mode (r : Req) (s : State) : (opReadCauses r s).mode = s.mode :=
  serveAlways_mode _ _ _ _ rfl
@[simp] theorem opReadIdent_mode (r : Req) (s : State) : (opReadIdent r s).mode = s.mode :=
  serveAlways_mode _ _ _ _ rfl
@[simp] theorem opReadEntry_mode (r : Req) (s : State) : (opReadEntry r s).mode = s.mode :=
  serveAlways_mode _ _ _ _ rfl
@[simp] theorem opHaltLine_mode (r : Req) (s : State) : (opHaltLine r s).mode = s.mode :=
  serve_keeps_mode (fun t => by simp) s
@[simp] theorem opReleaseLine_mode (r : Req) (s : State) : (opReleaseLine r s).mode = s.mode :=
  serve_keeps_mode (fun t => by simp) s
@[simp] theorem opReleaseOverride_mode (r : Req) (s : State) : (opReleaseOverride r s).mode = s.mode :=
  serve_keeps_mode (fun t => by simp) s
@[simp] theorem opAckEvent_mode (r : Req) (s : State) : (opAckEvent r s).mode = s.mode :=
  serve_keeps_mode (fun t => by simp) s
@[simp] theorem opClearFault_mode (r : Req) (s : State) : (opClearFault r s).mode = s.mode :=
  serve_keeps_mode (fun t => by simp) s
@[simp] theorem opClearCrusher_mode (r : Req) (s : State) : (opClearCrusher r s).mode = s.mode :=
  serve_keeps_mode (fun t => by simp) s
@[simp] theorem opClearDrum_mode (r : Req) (s : State) : (opClearDrum r s).mode = s.mode :=
  serve_keeps_mode (fun t => by simp) s
@[simp] theorem opStartProgram_mode (r : Req) (s : State) : (opStartProgram r s).mode = s.mode :=
  serve_keeps_mode (fun t => by simp) s
@[simp] theorem opAbortProgram_mode (r : Req) (s : State) : (opAbortProgram r s).mode = s.mode :=
  serve_keeps_mode (fun t => by simp) s
@[simp] theorem opClearCounters_mode (r : Req) (s : State) : (opClearCounters r s).mode = s.mode :=
  serve_keeps_mode (fun t => by simp) s
@[simp] theorem opClearCauses_mode (r : Req) (s : State) : (opClearCauses r s).mode = s.mode :=
  serve_keeps_mode (fun t => by simp) s
@[simp] theorem opRestartLine_mode (r : Req) (s : State) : (opRestartLine r s).mode = s.mode :=
  serve_keeps_mode (fun t => by simp) s
@[simp] theorem opSaveImage_mode (r : Req) (s : State) : (opSaveImage r s).mode = s.mode :=
  serve_keeps_mode (fun t => by simp) s
@[simp] theorem opReadState_mode (r : Req) (s : State) : (opReadState r s).mode = s.mode := by
  unfold opReadState; split <;> first | simp | exact serveAlways_mode _ _ _ _ rfl
@[simp] theorem opManagement_mode (command : Byte) (r : Req) (data : List Byte) (s : State) :
    (opManagement command r data s).mode = s.mode := by
  unfold opManagement; split <;> first | simp | exact serveAlways_mode _ _ _ _ rfl
@[simp] theorem takeDischarge_mode {p : Port} {by_ : Consumption} {op : State → State} (h : ∀ t, (op t).mode = t.mode) (s : State) :
    (takeDischarge p by_ op s).mode = s.mode := by
  unfold takeDischarge discardDischarge; split <;> simp [h]
@[simp] theorem acceptFrom_mode {p : Port} {src node : Byte} {op : State → State} (h : ∀ t, (op t).mode = t.mode) (s : State) :
    (acceptFrom p src node op s).mode = s.mode := by
  unfold acceptFrom foreignSample; split <;> simp [h]
@[simp] theorem opCoolantAllotment_mode (p : Port) (g : Frame) (s : State) : (opCoolantAllotment p g s).mode = s.mode := by
  unfold opCoolantAllotment takeAllotment clampAllotment
  dsimp only
  repeat' split
  all_goals simp
@[simp] theorem dispatch_mode (p : Port) (by_ : Consumption) (t : Telegram) (s : State) : (dispatch p by_ t s).mode = s.mode := by
  unfold dispatch unusableTelegram
  repeat' split
  all_goals simp
@[simp] theorem consume_mode (p : Port) (by_ : Consumption) (t : Telegram) (s : State) : (consume p by_ t s).mode = s.mode := by
  unfold consume; split <;> simp
@[simp] theorem applyAction_mode (a : Action) (p : Port) (g : Frame) (t : Telegram) (s : State) : (applyAction a p g t s).mode = s.mode := by
  unfold applyAction; split <;> simp
@[simp] theorem classify_mode (p : Port) (g : Frame) (t : Telegram) (s : State) : (classify p g t s).mode = s.mode := by
  unfold classify; split <;> simp
@[simp] theorem handleFrame_mode (p : Port) (g : Frame) (s : State) : (handleFrame p g s).mode = s.mode := by
  unfold handleFrame loadingFrame lineFrame
  repeat' split
  all_goals simp
@[simp] theorem opFrameReceived_mode (p : Port) (ok : Bool) (g : Frame) (s : State) : (opFrameReceived p ok g s).mode = s.mode := by
  unfold opFrameReceived; split <;> simp

/-! ### `eeprom` -/

theorem busyOr_eeprom {body : State → State × Answer} (h : ∀ t, (body t).1.eeprom = t.eeprom) (t : State) :
    (if t.activity.isReloading then (t, Answer.now .busy []) else body t).1.eeprom = t.eeprom := by
  split
  · rfl
  · exact h t

theorem serve_keeps_eeprom {command : Nat} {r : Req} {body : State → State × Answer} (h : ∀ t, (body t).1.eeprom = t.eeprom) (s : State) :
    (serve command r body s).eeprom = s.eeprom := by
  simp [serve, busyOr_eeprom h]

@[simp] theorem opReadPitches_eeprom (r : Req) (s : State) : (opReadPitches r s).eeprom = s.eeprom :=
  serveAlways_eeprom _ _ _ _ rfl
@[simp] theorem opReadLot_eeprom (r : Req) (s : State) : (opReadLot r s).eeprom = s.eeprom :=
  serveAlways_eeprom _ _ _ _ rfl
@[simp] theorem opReadRequest_eeprom (r : Req) (s : State) : (opReadRequest r s).eeprom = s.eeprom :=
  serveAlways_eeprom _ _ _ _ rfl
@[simp] theorem opReadCrusher_eeprom (r : Req) (s : State) : (opReadCrusher r s).eeprom = s.eeprom :=
  serveAlways_eeprom _ _ _ _ rfl
@[simp] theorem opReadGate_eeprom (r : Req) (s : State) : (opReadGate r s).eeprom = s.eeprom :=
  serveAlways_eeprom _ _ _ _ rfl
@[simp] theorem opReadDrum_eeprom (r : Req) (s : State) : (opReadDrum r s).eeprom = s.eeprom :=
  serveAlways_eeprom _ _ _ _ rfl
@[simp] theorem opReadBelt_eeprom (r : Req) (s : State) : (opReadBelt r s).eeprom = s.eeprom :=
  serveAlways_eeprom _ _ _ _ rfl
@[simp] theorem opReadProgram_eeprom (r : Req) (s : State) : (opReadProgram r s).eeprom = s.eeprom :=
  serveAlways_eeprom _ _ _ _ rfl
@[simp] theorem opReadEvent_eeprom (r : Req) (s : State) : (opReadEvent r s).eeprom = s.eeprom :=
  serveAlways_eeprom _ _ _ _ rfl
@[simp] theorem opReadFault_eeprom (r : Req) (s : State) : (opReadFault r s).eeprom = s.eeprom :=
  serveAlways_eeprom _ _ _ _ rfl
@[simp] theorem opReadCounters_eeprom (r : Req) (s : State) : (opReadCounters r s).eeprom = s.eeprom :=
  serveAlways_eeprom _ _ _ _ rfl
@[simp] theorem opReadRoutes_eeprom (r : Req) (s : State) : (opReadRoutes r s).eeprom = s.eeprom :=
  serveAlways_eeprom _ _ _ _ rfl
@[simp] theorem opReadCauses_eeprom (r : Req) (s : State) : (opReadCauses r s).eeprom = s.eeprom :=
  serveAlways_eeprom _ _ _ _ rfl
@[simp] theorem opReadIdent_eeprom (r : Req) (s : State) : (opReadIdent r s).eeprom = s.eeprom :=
  serveAlways_eeprom _ _ _ _ rfl
@[simp] theorem opReadEntry_eeprom (r : Req) (s : State) : (opReadEntry r s).eeprom = s.eeprom :=
  serveAlways_eeprom _ _ _ _ rfl
@[simp] theorem opHaltLine_eeprom (r : Req) (s : State) : (opHaltLine r s).eeprom = s.eeprom :=
  serve_keeps_eeprom (fun t => by simp) s
@[simp] theorem opReleaseLine_eeprom (r : Req) (s : State) : (opReleaseLine r s).eeprom = s.eeprom :=
  serve_keeps_eeprom (fun t => by simp) s
@[simp] theorem opReleaseOverride_eeprom (r : Req) (s : State) : (opReleaseOverride r s).eeprom = s.eeprom :=
  serve_keeps_eeprom (fun t => by simp) s
@[simp] theorem opAckEvent_eeprom (r : Req) (s : State) : (opAckEvent r s).eeprom = s.eeprom :=
  serve_keeps_eeprom (fun t => by simp) s
@[simp] theorem opClearFault_eeprom (r : Req) (s : State) : (opClearFault r s).eeprom = s.eeprom :=
  serve_keeps_eeprom (fun t => by simp) s
@[simp] theorem opClearCrusher_eeprom (r : Req) (s : State) : (opClearCrusher r s).eeprom = s.eeprom :=
  serve_keeps_eeprom (fun t => by simp) s
@[simp] theorem opClearDrum_eeprom (r : Req) (s : State) : (opClearDrum r s).eeprom = s.eeprom :=
  serve_keeps_eeprom (fun t => by simp) s
@[simp] theorem opStartProgram_eeprom (r : Req) (s : State) : (opStartProgram r s).eeprom = s.eeprom :=
  serve_keeps_eeprom (fun t => by simp) s
@[simp] theorem opAbortProgram_eeprom (r : Req) (s : State) : (opAbortProgram r s).eeprom = s.eeprom :=
  serve_keeps_eeprom (fun t => by simp) s
@[simp] theorem opClearCounters_eeprom (r : Req) (s : State) : (opClearCounters r s).eeprom = s.eeprom :=
  serve_keeps_eeprom (fun t => by simp) s
@[simp] theorem opClearCauses_eeprom (r : Req) (s : State) : (opClearCauses r s).eeprom = s.eeprom :=
  serve_keeps_eeprom (fun t => by simp) s
@[simp] theorem opRestartLine_eeprom (r : Req) (s : State) : (opRestartLine r s).eeprom = s.eeprom :=
  serve_keeps_eeprom (fun t => by simp) s
@[simp] theorem opSaveImage_eeprom (r : Req) (s : State) : (opSaveImage r s).eeprom = s.eeprom :=
  serve_keeps_eeprom (fun t => by simp) s
@[simp] theorem opReadState_eeprom (r : Req) (s : State) : (opReadState r s).eeprom = s.eeprom := by
  unfold opReadState; split <;> first | simp | exact serveAlways_eeprom _ _ _ _ rfl
@[simp] theorem opManagement_eeprom (command : Byte) (r : Req) (data : List Byte) (s : State) :
    (opManagement command r data s).eeprom = s.eeprom := by
  unfold opManagement; split <;> first | simp | exact serveAlways_eeprom _ _ _ _ rfl
@[simp] theorem takeDischarge_eeprom {p : Port} {by_ : Consumption} {op : State → State} (h : ∀ t, (op t).eeprom = t.eeprom) (s : State) :
    (takeDischarge p by_ op s).eeprom = s.eeprom := by
  unfold takeDischarge discardDischarge; split <;> simp [h]
@[simp] theorem acceptFrom_eeprom {p : Port} {src node : Byte} {op : State → State} (h : ∀ t, (op t).eeprom = t.eeprom) (s : State) :
    (acceptFrom p src node op s).eeprom = s.eeprom := by
  unfold acceptFrom foreignSample; split <;> simp [h]
@[simp] theorem opCoolantAllotment_eeprom (p : Port) (g : Frame) (s : State) : (opCoolantAllotment p g s).eeprom = s.eeprom := by
  unfold opCoolantAllotment takeAllotment clampAllotment
  dsimp only
  repeat' split
  all_goals simp
@[simp] theorem dispatch_eeprom (p : Port) (by_ : Consumption) (t : Telegram) (s : State) : (dispatch p by_ t s).eeprom = s.eeprom := by
  unfold dispatch unusableTelegram
  repeat' split
  all_goals simp
@[simp] theorem consume_eeprom (p : Port) (by_ : Consumption) (t : Telegram) (s : State) : (consume p by_ t s).eeprom = s.eeprom := by
  unfold consume; split <;> simp
@[simp] theorem applyAction_eeprom (a : Action) (p : Port) (g : Frame) (t : Telegram) (s : State) : (applyAction a p g t s).eeprom = s.eeprom := by
  unfold applyAction; split <;> simp
@[simp] theorem classify_eeprom (p : Port) (g : Frame) (t : Telegram) (s : State) : (classify p g t s).eeprom = s.eeprom := by
  unfold classify; split <;> simp
@[simp] theorem handleFrame_eeprom (p : Port) (g : Frame) (s : State) : (handleFrame p g s).eeprom = s.eeprom := by
  unfold handleFrame loadingFrame lineFrame
  repeat' split
  all_goals simp
@[simp] theorem opFrameReceived_eeprom (p : Port) (ok : Bool) (g : Frame) (s : State) : (opFrameReceived p ok g s).eeprom = s.eeprom := by
  unfold opFrameReceived; split <;> simp

/-! ### `draws` -/

theorem busyOr_draws {body : State → State × Answer} (h : ∀ t, (body t).1.draws = t.draws) (t : State) :
    (if t.activity.isReloading then (t, Answer.now .busy []) else body t).1.draws = t.draws := by
  split
  · rfl
  · exact h t

theorem serve_keeps_draws {command : Nat} {r : Req} {body : State → State × Answer} (h : ∀ t, (body t).1.draws = t.draws) (s : State) :
    (serve command r body s).draws = s.draws := by
  simp [serve, busyOr_draws h]

@[simp] theorem opReadPitches_draws (r : Req) (s : State) : (opReadPitches r s).draws = s.draws :=
  serveAlways_draws _ _ _ _ rfl
@[simp] theorem opReadLot_draws (r : Req) (s : State) : (opReadLot r s).draws = s.draws :=
  serveAlways_draws _ _ _ _ rfl
@[simp] theorem opReadRequest_draws (r : Req) (s : State) : (opReadRequest r s).draws = s.draws :=
  serveAlways_draws _ _ _ _ rfl
@[simp] theorem opReadCrusher_draws (r : Req) (s : State) : (opReadCrusher r s).draws = s.draws :=
  serveAlways_draws _ _ _ _ rfl
@[simp] theorem opReadGate_draws (r : Req) (s : State) : (opReadGate r s).draws = s.draws :=
  serveAlways_draws _ _ _ _ rfl
@[simp] theorem opReadDrum_draws (r : Req) (s : State) : (opReadDrum r s).draws = s.draws :=
  serveAlways_draws _ _ _ _ rfl
@[simp] theorem opReadBelt_draws (r : Req) (s : State) : (opReadBelt r s).draws = s.draws :=
  serveAlways_draws _ _ _ _ rfl
@[simp] theorem opReadProgram_draws (r : Req) (s : State) : (opReadProgram r s).draws = s.draws :=
  serveAlways_draws _ _ _ _ rfl
@[simp] theorem opReadEvent_draws (r : Req) (s : State) : (opReadEvent r s).draws = s.draws :=
  serveAlways_draws _ _ _ _ rfl
@[simp] theorem opReadFault_draws (r : Req) (s : State) : (opReadFault r s).draws = s.draws :=
  serveAlways_draws _ _ _ _ rfl
@[simp] theorem opReadCounters_draws (r : Req) (s : State) : (opReadCounters r s).draws = s.draws :=
  serveAlways_draws _ _ _ _ rfl
@[simp] theorem opReadRoutes_draws (r : Req) (s : State) : (opReadRoutes r s).draws = s.draws :=
  serveAlways_draws _ _ _ _ rfl
@[simp] theorem opReadCauses_draws (r : Req) (s : State) : (opReadCauses r s).draws = s.draws :=
  serveAlways_draws _ _ _ _ rfl
@[simp] theorem opReadIdent_draws (r : Req) (s : State) : (opReadIdent r s).draws = s.draws :=
  serveAlways_draws _ _ _ _ rfl
@[simp] theorem opReadEntry_draws (r : Req) (s : State) : (opReadEntry r s).draws = s.draws :=
  serveAlways_draws _ _ _ _ rfl
@[simp] theorem opHaltLine_draws (r : Req) (s : State) : (opHaltLine r s).draws = s.draws :=
  serve_keeps_draws (fun t => by simp) s
@[simp] theorem opReleaseLine_draws (r : Req) (s : State) : (opReleaseLine r s).draws = s.draws :=
  serve_keeps_draws (fun t => by simp) s
@[simp] theorem opReleaseOverride_draws (r : Req) (s : State) : (opReleaseOverride r s).draws = s.draws :=
  serve_keeps_draws (fun t => by simp) s
@[simp] theorem opAckEvent_draws (r : Req) (s : State) : (opAckEvent r s).draws = s.draws :=
  serve_keeps_draws (fun t => by simp) s
@[simp] theorem opClearFault_draws (r : Req) (s : State) : (opClearFault r s).draws = s.draws :=
  serve_keeps_draws (fun t => by simp) s
@[simp] theorem opClearCrusher_draws (r : Req) (s : State) : (opClearCrusher r s).draws = s.draws :=
  serve_keeps_draws (fun t => by simp) s
@[simp] theorem opClearDrum_draws (r : Req) (s : State) : (opClearDrum r s).draws = s.draws :=
  serve_keeps_draws (fun t => by simp) s
@[simp] theorem opStartProgram_draws (r : Req) (s : State) : (opStartProgram r s).draws = s.draws :=
  serve_keeps_draws (fun t => by simp) s
@[simp] theorem opAbortProgram_draws (r : Req) (s : State) : (opAbortProgram r s).draws = s.draws :=
  serve_keeps_draws (fun t => by simp) s
@[simp] theorem opClearCounters_draws (r : Req) (s : State) : (opClearCounters r s).draws = s.draws :=
  serve_keeps_draws (fun t => by simp) s
@[simp] theorem opClearCauses_draws (r : Req) (s : State) : (opClearCauses r s).draws = s.draws :=
  serve_keeps_draws (fun t => by simp) s
@[simp] theorem opRestartLine_draws (r : Req) (s : State) : (opRestartLine r s).draws = s.draws :=
  serve_keeps_draws (fun t => by simp) s
@[simp] theorem opSaveImage_draws (r : Req) (s : State) : (opSaveImage r s).draws = s.draws :=
  serve_keeps_draws (fun t => by simp) s
@[simp] theorem opReadState_draws (r : Req) (s : State) : (opReadState r s).draws = s.draws := by
  unfold opReadState; split <;> first | simp | exact serveAlways_draws _ _ _ _ rfl
@[simp] theorem opManagement_draws (command : Byte) (r : Req) (data : List Byte) (s : State) :
    (opManagement command r data s).draws = s.draws := by
  unfold opManagement; split <;> first | simp | exact serveAlways_draws _ _ _ _ rfl
@[simp] theorem takeDischarge_draws {p : Port} {by_ : Consumption} {op : State → State} (h : ∀ t, (op t).draws = t.draws) (s : State) :
    (takeDischarge p by_ op s).draws = s.draws := by
  unfold takeDischarge discardDischarge; split <;> simp [h]
@[simp] theorem acceptFrom_draws {p : Port} {src node : Byte} {op : State → State} (h : ∀ t, (op t).draws = t.draws) (s : State) :
    (acceptFrom p src node op s).draws = s.draws := by
  unfold acceptFrom foreignSample; split <;> simp [h]
@[simp] theorem opCoolantAllotment_draws (p : Port) (g : Frame) (s : State) : (opCoolantAllotment p g s).draws = s.draws := by
  unfold opCoolantAllotment takeAllotment clampAllotment
  dsimp only
  repeat' split
  all_goals simp
@[simp] theorem dispatch_draws (p : Port) (by_ : Consumption) (t : Telegram) (s : State) : (dispatch p by_ t s).draws = s.draws := by
  unfold dispatch unusableTelegram
  repeat' split
  all_goals simp
@[simp] theorem consume_draws (p : Port) (by_ : Consumption) (t : Telegram) (s : State) : (consume p by_ t s).draws = s.draws := by
  unfold consume; split <;> simp
@[simp] theorem applyAction_draws (a : Action) (p : Port) (g : Frame) (t : Telegram) (s : State) : (applyAction a p g t s).draws = s.draws := by
  unfold applyAction; split <;> simp
@[simp] theorem classify_draws (p : Port) (g : Frame) (t : Telegram) (s : State) : (classify p g t s).draws = s.draws := by
  unfold classify; split <;> simp
@[simp] theorem handleFrame_draws (p : Port) (g : Frame) (s : State) : (handleFrame p g s).draws = s.draws := by
  unfold handleFrame loadingFrame lineFrame
  repeat' split
  all_goals simp
@[simp] theorem opFrameReceived_draws (p : Port) (ok : Bool) (g : Frame) (s : State) : (opFrameReceived p ok g s).draws = s.draws := by
  unfold opFrameReceived; split <;> simp

/-! ### `pending` -/

theorem busyOr_pending {body : State → State × Answer} (h : ∀ t, (body t).1.pending = t.pending) (t : State) :
    (if t.activity.isReloading then (t, Answer.now .busy []) else body t).1.pending = t.pending := by
  split
  · rfl
  · exact h t

theorem serve_keeps_pending {command : Nat} {r : Req} {body : State → State × Answer} (h : ∀ t, (body t).1.pending = t.pending) (s : State) :
    (serve command r body s).pending = s.pending := by
  simp [serve, busyOr_pending h]

@[simp] theorem opReadPitches_pending (r : Req) (s : State) : (opReadPitches r s).pending = s.pending :=
  serveAlways_pending _ _ _ _ rfl
@[simp] theorem opReadLot_pending (r : Req) (s : State) : (opReadLot r s).pending = s.pending :=
  serveAlways_pending _ _ _ _ rfl
@[simp] theorem opReadRequest_pending (r : Req) (s : State) : (opReadRequest r s).pending = s.pending :=
  serveAlways_pending _ _ _ _ rfl
@[simp] theorem opReadCrusher_pending (r : Req) (s : State) : (opReadCrusher r s).pending = s.pending :=
  serveAlways_pending _ _ _ _ rfl
@[simp] theorem opReadGate_pending (r : Req) (s : State) : (opReadGate r s).pending = s.pending :=
  serveAlways_pending _ _ _ _ rfl
@[simp] theorem opReadDrum_pending (r : Req) (s : State) : (opReadDrum r s).pending = s.pending :=
  serveAlways_pending _ _ _ _ rfl
@[simp] theorem opReadBelt_pending (r : Req) (s : State) : (opReadBelt r s).pending = s.pending :=
  serveAlways_pending _ _ _ _ rfl
@[simp] theorem opReadProgram_pending (r : Req) (s : State) : (opReadProgram r s).pending = s.pending :=
  serveAlways_pending _ _ _ _ rfl
@[simp] theorem opReadEvent_pending (r : Req) (s : State) : (opReadEvent r s).pending = s.pending :=
  serveAlways_pending _ _ _ _ rfl
@[simp] theorem opReadFault_pending (r : Req) (s : State) : (opReadFault r s).pending = s.pending :=
  serveAlways_pending _ _ _ _ rfl
@[simp] theorem opReadCounters_pending (r : Req) (s : State) : (opReadCounters r s).pending = s.pending :=
  serveAlways_pending _ _ _ _ rfl
@[simp] theorem opReadRoutes_pending (r : Req) (s : State) : (opReadRoutes r s).pending = s.pending :=
  serveAlways_pending _ _ _ _ rfl
@[simp] theorem opReadCauses_pending (r : Req) (s : State) : (opReadCauses r s).pending = s.pending :=
  serveAlways_pending _ _ _ _ rfl
@[simp] theorem opReadIdent_pending (r : Req) (s : State) : (opReadIdent r s).pending = s.pending :=
  serveAlways_pending _ _ _ _ rfl
@[simp] theorem opReadEntry_pending (r : Req) (s : State) : (opReadEntry r s).pending = s.pending :=
  serveAlways_pending _ _ _ _ rfl
@[simp] theorem opHaltLine_pending (r : Req) (s : State) : (opHaltLine r s).pending = s.pending :=
  serve_keeps_pending (fun t => by simp) s
@[simp] theorem opReleaseLine_pending (r : Req) (s : State) : (opReleaseLine r s).pending = s.pending :=
  serve_keeps_pending (fun t => by simp) s
@[simp] theorem opReleaseOverride_pending (r : Req) (s : State) : (opReleaseOverride r s).pending = s.pending :=
  serve_keeps_pending (fun t => by simp) s
@[simp] theorem opAckEvent_pending (r : Req) (s : State) : (opAckEvent r s).pending = s.pending :=
  serve_keeps_pending (fun t => by simp) s
@[simp] theorem opClearFault_pending (r : Req) (s : State) : (opClearFault r s).pending = s.pending :=
  serve_keeps_pending (fun t => by simp) s
@[simp] theorem opClearCrusher_pending (r : Req) (s : State) : (opClearCrusher r s).pending = s.pending :=
  serve_keeps_pending (fun t => by simp) s
@[simp] theorem opClearDrum_pending (r : Req) (s : State) : (opClearDrum r s).pending = s.pending :=
  serve_keeps_pending (fun t => by simp) s
@[simp] theorem opStartProgram_pending (r : Req) (s : State) : (opStartProgram r s).pending = s.pending :=
  serve_keeps_pending (fun t => by simp) s
@[simp] theorem opAbortProgram_pending (r : Req) (s : State) : (opAbortProgram r s).pending = s.pending :=
  serve_keeps_pending (fun t => by simp) s
@[simp] theorem opClearCounters_pending (r : Req) (s : State) : (opClearCounters r s).pending = s.pending :=
  serve_keeps_pending (fun t => by simp) s
@[simp] theorem opClearCauses_pending (r : Req) (s : State) : (opClearCauses r s).pending = s.pending :=
  serve_keeps_pending (fun t => by simp) s
@[simp] theorem opRestartLine_pending (r : Req) (s : State) : (opRestartLine r s).pending = s.pending :=
  serve_keeps_pending (fun t => by simp) s
@[simp] theorem opSaveImage_pending (r : Req) (s : State) : (opSaveImage r s).pending = s.pending :=
  serve_keeps_pending (fun t => by simp) s
@[simp] theorem opReadState_pending (r : Req) (s : State) : (opReadState r s).pending = s.pending := by
  unfold opReadState; split <;> first | simp | exact serveAlways_pending _ _ _ _ rfl
@[simp] theorem opManagement_pending (command : Byte) (r : Req) (data : List Byte) (s : State) :
    (opManagement command r data s).pending = s.pending := by
  unfold opManagement; split <;> first | simp | exact serveAlways_pending _ _ _ _ rfl
@[simp] theorem takeDischarge_pending {p : Port} {by_ : Consumption} {op : State → State} (h : ∀ t, (op t).pending = t.pending) (s : State) :
    (takeDischarge p by_ op s).pending = s.pending := by
  unfold takeDischarge discardDischarge; split <;> simp [h]
@[simp] theorem acceptFrom_pending {p : Port} {src node : Byte} {op : State → State} (h : ∀ t, (op t).pending = t.pending) (s : State) :
    (acceptFrom p src node op s).pending = s.pending := by
  unfold acceptFrom foreignSample; split <;> simp [h]
@[simp] theorem opCoolantAllotment_pending (p : Port) (g : Frame) (s : State) : (opCoolantAllotment p g s).pending = s.pending := by
  unfold opCoolantAllotment takeAllotment clampAllotment
  dsimp only
  repeat' split
  all_goals simp
@[simp] theorem dispatch_pending (p : Port) (by_ : Consumption) (t : Telegram) (s : State) : (dispatch p by_ t s).pending = s.pending := by
  unfold dispatch unusableTelegram
  repeat' split
  all_goals simp
@[simp] theorem consume_pending (p : Port) (by_ : Consumption) (t : Telegram) (s : State) : (consume p by_ t s).pending = s.pending := by
  unfold consume; split <;> simp
@[simp] theorem applyAction_pending (a : Action) (p : Port) (g : Frame) (t : Telegram) (s : State) : (applyAction a p g t s).pending = s.pending := by
  unfold applyAction; split <;> simp
@[simp] theorem classify_pending (p : Port) (g : Frame) (t : Telegram) (s : State) : (classify p g t s).pending = s.pending := by
  unfold classify; split <;> simp
@[simp] theorem handleFrame_pending (p : Port) (g : Frame) (s : State) : (handleFrame p g s).pending = s.pending := by
  unfold handleFrame loadingFrame lineFrame
  repeat' split
  all_goals simp
@[simp] theorem opFrameReceived_pending (p : Port) (ok : Bool) (g : Frame) (s : State) : (opFrameReceived p ok g s).pending = s.pending := by
  unfold opFrameReceived; split <;> simp

@[simp] theorem opImageLoadComplete_now (ack : Bool) (s : State) : (opImageLoadComplete ack s).now = s.now := by
  unfold opImageLoadComplete; split <;> simp
@[simp] theorem opReloadComplete_now (ack : Bool) (s : State) : (opReloadComplete ack s).now = s.now := by
  unfold opReloadComplete
  repeat' split
  all_goals simp

@[simp] theorem opImageLoadComplete_eeprom (ack : Bool) (s : State) : (opImageLoadComplete ack s).eeprom = s.eeprom := by
  unfold opImageLoadComplete; split <;> simp
@[simp] theorem opReloadComplete_eeprom (ack : Bool) (s : State) : (opReloadComplete ack s).eeprom = s.eeprom := by
  unfold opReloadComplete
  repeat' split
  all_goals simp

@[simp] theorem opImageLoadComplete_draws (ack : Bool) (s : State) : (opImageLoadComplete ack s).draws = s.draws := by
  unfold opImageLoadComplete; split <;> simp
@[simp] theorem opReloadComplete_draws (ack : Bool) (s : State) : (opReloadComplete ack s).draws = s.draws := by
  unfold opReloadComplete
  repeat' split
  all_goals simp

@[simp] theorem opImageLoadComplete_pending (ack : Bool) (s : State) : (opImageLoadComplete ack s).pending = s.pending := by
  unfold opImageLoadComplete; split <;> simp
@[simp] theorem opReloadComplete_pending (ack : Bool) (s : State) : (opReloadComplete ack s).pending = s.pending := by
  unfold opReloadComplete
  repeat' split
  all_goals simp

end Sys2Proof.Machine
end

