-- ==== Sys2Proof/Laws/Memory.lean ====
section
/-! SUPPORT. The EEPROM: a read after a write, and the canonical form that every write keeps. -/

namespace Sys2Proof.Machine

/-- Every address below the first cell reads as the blank byte. -/
theorem Memory.read_below {low : Nat} {m : Memory} (h : Memory.wfFrom low m = true) {a : Nat} (ha : a < low) :
    Memory.read m a = Config.blankByte := by
  cases m with
  | nil => rfl
  | cons c rest =>
    obtain ⟨k, b⟩ := c
    simp only [Memory.wfFrom, Bool.and_eq_true, decide_eq_true_eq] at h
    have h1 : a ≠ k := by omega
    have h2 : a < k := by omega
    simp [Memory.read, h1, h2]

/-- The canonical form above a bound holds above every lower bound. -/
theorem Memory.wfFrom_mono {low low' : Nat} {m : Memory} (hle : low' ≤ low) (h : Memory.wfFrom low m = true) :
    Memory.wfFrom low' m = true := by
  cases m with
  | nil => rfl
  | cons c rest =>
    obtain ⟨k, b⟩ := c
    simp only [Memory.wfFrom, Bool.and_eq_true, decide_eq_true_eq] at h ⊢
    exact ⟨⟨by omega, h.1.2⟩, h.2⟩

/-- A write keeps the canonical form. -/
theorem Memory.write_wfFrom {low : Nat} {m : Memory} (h : Memory.wfFrom low m = true) (a : Nat) (ha : low ≤ a) (v : Byte) :
    Memory.wfFrom low (m.write a v) = true := by
  induction m generalizing low with
  | nil => by_cases hv : v = Config.blankByte <;> simp [Memory.write, Memory.wfFrom, hv, ha]
  | cons c rest ih =>
    obtain ⟨k, b⟩ := c
    have h0 := h
    simp only [Memory.wfFrom, Bool.and_eq_true, decide_eq_true_eq] at h
    by_cases h1 : a < k
    · by_cases hv : v = Config.blankByte
      · simpa [Memory.write, h1, hv] using h0
      · have hk : a + 1 ≤ k := h1
        simp only [Memory.write, h1, hv, if_true, if_false]
        simp only [Memory.wfFrom, Bool.and_eq_true, decide_eq_true_eq]
        exact ⟨⟨ha, by simp [hv]⟩, ⟨hk, h.1.2⟩, h.2⟩
    · by_cases h2 : a = k
      · subst h2
        by_cases hv : v = Config.blankByte
        · simpa [Memory.write, hv] using Memory.wfFrom_mono (by omega) h.2
        · simp [Memory.write, Memory.wfFrom, hv, ha, h.2]
      · simp only [Memory.write, h1, h2, if_false, Memory.wfFrom, Bool.and_eq_true, decide_eq_true_eq]
        exact ⟨h.1, ih h.2 (by omega)⟩

theorem Memory.write_wf {m : Memory} (h : m.wf = true) (a : Nat) (v : Byte) : (m.write a v).wf = true :=
  Memory.write_wfFrom h a (Nat.zero_le a) v

/-- A run of writes keeps the canonical form. -/
theorem Memory.writeList_wf {m : Memory} (h : m.wf = true) (a : Nat) (vs : List Byte) : (m.writeList a vs).wf = true := by
  induction vs generalizing m a with
  | nil => exact h
  | cons v vs ih => exact ih (Memory.write_wf h a v) (a + 1)

theorem Memory.read_write_from {low : Nat} {m : Memory} (h : Memory.wfFrom low m = true) (a : Nat) (ha : low ≤ a) (v : Byte) (x : Nat) :
    (m.write a v).read x = if x = a then v else m.read x := by
  induction m generalizing low with
  | nil =>
    by_cases hv : v = Config.blankByte
    · by_cases hx : x = a <;> simp [Memory.write, Memory.read, hv, hx]
    · by_cases hx : x = a <;> simp [Memory.write, Memory.read, hv, hx]
  | cons c rest ih =>
    obtain ⟨k, b⟩ := c
    have h0 := h
    simp only [Memory.wfFrom, Bool.and_eq_true, decide_eq_true_eq] at h
    by_cases h1 : a < k
    · by_cases hv : v = Config.blankByte
      · simp only [Memory.write, h1, hv, if_true]
        by_cases hx : x = a
        · subst hx; rw [if_pos rfl]; exact Memory.read_below (low := k) (Memory.wfFrom_mono (Nat.le_refl k) (by simp [Memory.wfFrom, h.1.2, h.2])) h1
        · rw [if_neg hx]
      · simp only [Memory.write, h1, hv, if_true, if_false]
        by_cases hx : x = a
        · subst hx; simp [Memory.read]
        · by_cases hlt : x < a
          · have hk : ¬ x = k := by omega
            have hk2 : x < k := by omega
            simp [Memory.read, hx, hlt, hk, hk2]
          · simp [Memory.read, hx, hlt]
    · by_cases h2 : a = k
      · subst h2
        by_cases hv : v = Config.blankByte
        · simp only [Memory.write, Nat.lt_irrefl, if_false, if_true, hv]
          by_cases hx : x = a
          · subst hx; rw [if_pos rfl]; exact Memory.read_below h.2 (Nat.lt_succ_self x)
          · rw [if_neg hx]
            by_cases hlt : x < a
            · rw [Memory.read_below h.2 (by omega)]; simp [Memory.read, hx, hlt]
            · simp [Memory.read, hx, hlt]
        · simp only [Memory.write, Nat.lt_irrefl, if_false, if_true, hv]
          by_cases hx : x = a <;> simp [Memory.read, hx]
      · simp only [Memory.write, h1, h2, if_false]
        by_cases hx : x = k
        · subst hx
          have : ¬ x = a := fun e => h2 e.symm
          simp [Memory.read, this]
        · by_cases hlt : x < k
          · have : ¬ x = a := by omega
            simp [Memory.read, hx, hlt, this]
          · have e := ih h.2 (by omega)
            simp [Memory.read, hx, hlt, e]

/-- A byte read after a write to the EEPROM: the byte written at its address, every other as before. -/
theorem Memory.read_write {m : Memory} (h : m.wf = true) (a : Nat) (v : Byte) (x : Nat) :
    (m.write a v).read x = if x = a then v else m.read x :=
  Memory.read_write_from h a (Nat.zero_le a) v x

/-- A byte read after a run of writes: the byte of the run at its place, every other as before. -/
theorem Memory.read_writeList {m : Memory} (h : m.wf = true) (a : Nat) (vs : List Byte) (x : Nat) :
    (m.writeList a vs).read x = if a ≤ x ∧ x < a + vs.length then vs.getD (x - a) 0 else m.read x := by
  induction vs generalizing m a with
  | nil =>
    have : ¬ (a ≤ x ∧ x < a + 0) := by omega
    simp only [Memory.writeList, List.length_nil, this, if_false]
  | cons v vs ih =>
    rw [Memory.writeList, ih (Memory.write_wf h a v), Memory.read_write h]
    by_cases hx : x = a
    · subst hx
      have h1 : ¬ (x + 1 ≤ x ∧ x < x + 1 + vs.length) := by omega
      have h2 : x ≤ x ∧ x < x + (v :: vs).length := by simp
      rw [if_neg h1, if_pos rfl, if_pos h2]; simp
    · rw [if_neg hx]
      by_cases hin : a + 1 ≤ x ∧ x < a + 1 + vs.length
      · have h2 : a ≤ x ∧ x < a + (v :: vs).length := by simp only [List.length_cons]; omega
        rw [if_pos hin, if_pos h2]
        obtain ⟨k, rfl⟩ : ∃ k, x = a + 1 + k := ⟨x - (a + 1), by omega⟩
        have e1 : a + 1 + k - (a + 1) = k := by omega
        have e2 : a + 1 + k - a = k + 1 := by omega
        rw [e1, e2]; simp
      · have h2 : ¬ (a ≤ x ∧ x < a + (v :: vs).length) := by simp only [List.length_cons]; omega
        rw [if_neg hin, if_neg h2]

theorem Memory.readList_length (m : Memory) (a n : Nat) : (m.readList a n).length = n := by
  induction n generalizing a with
  | zero => rfl
  | succ n ih => simp [Memory.readList, ih]

theorem Memory.readList_getElem? (m : Memory) (a n i : Nat) : (m.readList a n)[i]? = if i < n then some (m.read (a + i)) else none := by
  induction n generalizing a i with
  | zero => simp [Memory.readList]
  | succ n ih =>
    cases i with
    | zero => simp [Memory.readList]
    | succ i =>
      have e : a + 1 + i = a + (i + 1) := by omega
      simp [Memory.readList, ih, e]

end Sys2Proof.Machine
end

