-- ==== Sys2Proof/Tests/Slice0.lean ====
section
/-! SUPPORT. The model's own tests: the well-formedness smoke tests, the worked cases of the spec, one step each, and for every statement a
witness that its hypotheses can be met together, clause by clause. The expected values are the worked tables' and the rules' own. -/

namespace Sys2Proof.Tests

open Sys2Proof.Machine

set_option Elab.async false

/-! ### States and frames the tests share -/

/-- The state a command leaves. -/
def after (c : Instr) (s : State) : State :=
  match exec c s with
  | .next t => t
  | _ => s

/-- An enrolled cell. -/
def cellAt (node : Byte) (dropPoint share : Nat) : CellEntry :=
  { node := node, enrolled := true, dropPoint := dropPoint, share := share }

/-- A descriptor without step B. -/
def singleStep (t : Target) (m : Mode) (setpoint hold : Nat) (test : EndTest) (link : Option ActionNo) : Descriptor :=
  { target := t, stepA := { mode := m, setpoint := setpoint, hold := hold }, stepB := .absent 0 0 0, repeats := 1, endTest := test,
    link := link, notifyAtEnd := false }

/-- Tables of the worked sequences: their cells, classes and descriptors, every drive node configured, the supervisor at node 200, the part at
node 17, entry 2 of the classification table a SNOOP and entry 5 a CLAMP (Section 10.7). Cell 6 is not enrolled and class 7 is disabled. -/
def tables : Tables :=
  { Tables.default with
    classify := (Tables.default.classify.set 2 { ClassifyEntry.default with
      valid := true, arrival := .plant, kindAny := false, kind := 0x20, destAny := false, dest := 200, action := .snoop }).set 5
        { ClassifyEntry.default with
          valid := true, arrival := .plant, kindAny := false, kind := 0x28, sourceAny := false, source := 200, action := .clamp }
    plant := { encoder := 31, beltDrive := 32, crusher := 33, gate := 34, skid := 35 }
    cell := (((((((Tables.default.cell.set 2 (cellAt 52 30 0)).set 4 (cellAt 54 20 40)).set 5 (cellAt 55 50 0)).set 9
      (cellAt 59 62 100)).set 11 (cellAt 61 40 60)).set 14 (cellAt 64 70 0)).set 20 (cellAt 70 90 0)).set 6
        { node := 56, enrolled := false, dropPoint := 17, share := 0 }
    cls := (((Tables.default.cls.set 2 { enabled := true, route := 2, mode := .crush, fines := 300 }).set 3
      { enabled := true, route := 3, mode := .crush, fines := 0 }).set 4
        { enabled := true, route := 4, mode := .bypass, fines := 40 }).set 7
          { enabled := false, route := 7, mode := .bypass, fines := 0 }
    belt := { BeltEntry.default with priority := some 14 }
    action := ((Tables.default.action.set 4 { singleStep .crusher .reverse 40 1000 .currentLow (some 5) with
      stepB := .present { mode := .stop, setpoint := 0, hold := 500 }, repeats := 2 }).set 9
        (singleStep (.drum 1) .flush 0 10000 .dpLow none)).set 20 { singleStep .belt .run 200 1000 .none (some 20) with stepB := .absent 1 0 0 }
    route := (Tables.default.route.set 8 { RouteEntry.default with notify := true }).set 6 { RouteEntry.default with overriding := true }
    node := { node := 17, supervisor := 200, suppressMinor := false, cellSide := false, reload := false } }

/-- A line that runs: OPERATING, no hold cause, both ports UP, the gate SETTLED at route 2. -/
def line : State :=
  { State.reset with
    now := 5000
    mode := .operating
    tables := tables
    belt := { State.reset.belt with supervisor := false, link := false, selected := 600, issued := some 600 }
    head := { State.reset.head with gate := .settled 2, lastPosition := some 2 }
    cellPort := { state := .up 4900, queue := [] }
    plantPort := { state := .up 4900, queue := [] } }

/-- An active lot. -/
def lot (state : LotState) (cell : CellNo) (cls : ClassNo) (length loaded delivered mass credited : Nat) : ActiveLot :=
  { state := state, cell := cell, cls := cls, requested := length, length := length, loaded := loaded, delivered := delivered, mass := mass,
    credited := credited, contaminated := false, massFinal := decide (delivered ≠ 0) }

/-- The start of the worked shift sequence (Section 1.9). -/
def shiftStart : State :=
  { line with
    tracker := { map := List.replicate 2 (.loaded 2 6) ++ List.replicate 18 .empty ++ List.replicate 6 (.reserved 5 2) ++
                   List.replicate 102 .empty,
                 last := some 4294966900, acc := 250 }
    lots := (line.lots.set 2 (.active (lot .riding 0 6 2 2 0 300 0))).set 5 (.active (lot .loading 4 2 6 0 0 700 0)) }

/-- A request that waits. -/
def request (cls : ClassNo) (length mass : Nat) (arrival : Word) (urgent : Bool) : Request :=
  { cls := cls, length := length, mass := mass, arrival := arrival, urgent := urgent }

/-- A frame of the least length, 64 bytes, that carries a telegram whose body is at most 42 bytes long. -/
def frame (dst src kind : Byte) (body : List Byte) : Frame :=
  { dst := 0xFFFFFFFFFFFF, src := 0x020000000011, etherType := 0x9A4C,
    payload := dst :: src :: kind :: BitVec.ofNat 8 body.length :: (body ++ List.replicate (42 - body.length) 0) }

/-- A frame of another protocol with a payload of `n` bytes. -/
def alien (n : Nat) : Frame := { dst := 0, src := 0, etherType := 0x0800, payload := List.replicate n 0 }

/-- A transmit queue of `n` frames. -/
def queueOf (n : Nat) : List Frame := List.replicate n (alien 46)

/-- A management request from the line supervisor at the plant port. -/
def req (index : Byte) : Req := { port := .plant, node := 200, tag := 7, selector := 0, index := index, count := 0 }

/-- A management request for a table or an area. -/
def reqOf (selector index count : Byte) : Req := { req index with selector := selector, count := count }

/-! ### What the witnesses share -/

/-- The hypotheses of the statements about telegrams. -/
def hears (p : Port) (f : Frame) (t : Telegram) (s : State) : Prop :=
  goodLineFrame f ∧ s.mode = .operating ∧ s.isUp p ∧ s.settledLaw ∧ Telegram.parse f.payload = some t

theorem frame_parses (dst src kind : Byte) (body : List Byte) (h : body.length ≤ 42) :
    Telegram.parse (frame dst src kind body).payload = some { dst := dst, src := src, kind := kind, body := body } := by
  have hl : (BitVec.ofNat 8 body.length).toNat = body.length := by simp; omega
  simp only [frame, Telegram.parse, hl]
  rw [if_pos ⟨by omega, by simp⟩, List.take_left]

theorem hears_of (p : Port) (dst src kind : Byte) (body : List Byte) (s : State) (h : body.length ≤ 42) (hm : s.mode = .operating)
    (hu : s.isUp p) (hr : s.raised = []) (hh : s.handed = false) :
    hears p (frame dst src kind body) { dst := dst, src := src, kind := kind, body := body } s := by
  have hl : (frame dst src kind body).length = 64 := by simp [Frame.length, frame]; omega
  exact ⟨⟨by omega, by omega, rfl⟩, hm, hu, ⟨hr, hh⟩, frame_parses dst src kind body h⟩

theorem line_hears (p : Port) (dst src kind : Byte) (body : List Byte) (h : body.length ≤ 42) :
    hears p (frame dst src kind body) { dst := dst, src := src, kind := kind, body := body } line :=
  hears_of p dst src kind body line h rfl (by cases p <;> exact ⟨4900, rfl⟩) rfl rfl

theorem ready_of (s : State) (r : Req) (hp : r.port = .plant) (hm : s.mode = .operating) (hr : s.raised = []) (hh : s.handed = false)
    (hq : s.plantPort.queue.length < 32) : s.readyFor r := by
  refine ⟨hm, ?_, ⟨hr, hh⟩, ?_⟩
  · simp [State.permits, hp]
  · rw [hp]; exact decide_eq_true hq

theorem line_ready (r : Req) (hp : r.port = .plant) : line.readyFor r := ready_of line r hp rfl rfl rfl (by decide)

/-- Every pitch of the running line's map is EMPTY. -/
theorem line_tracker : line.tracker.map = List.replicate 128 .empty := rfl

theorem line_map (i : Nat) (p : Pitch) (h : line.tracker.map[i]? = some p) : p = .empty := by
  rw [line_tracker] at h
  exact List.eq_of_mem_replicate (List.mem_of_getElem? h)

theorem line_window (i : Nat) (h : i < 128) : line.tracker.map[i]? = some .empty := by
  rw [line_tracker, List.getElem?_replicate, if_pos h]

/-! ### Well-formedness: an ill-formed command for each check -/

theorem test_wellformed_refuses_selectors :
    (∀ row ∈ [Instr.writeClassify (reqOf 1 0 0) ⟨0, 0, 0, 0, 0, 0, 0, 0, 0⟩, .writeCell (reqOf 0 0 0) ⟨0, 0, 0, 0⟩,
        .writeClass (reqOf 3 0 0) ⟨0, 0, 0, 0⟩, .writePlant (reqOf 4 0 0) ⟨0, 0, 0, 0, 0⟩, .writeBelt (reqOf 3 0 0) ⟨0, 0, 0, 0, 0, 0, 0⟩,
        .writeProfile (reqOf 6 0 0) ⟨0, 0⟩, .writeCrusher (reqOf 5 0 0) ⟨0, 0, 0, 0, 0, 0, 0, 0, 0, 0⟩,
        .writeDrum (reqOf 8 0 0) ⟨0, 0, 0, 0, 0, 0⟩, .writeFilter (reqOf 7 0 0) ⟨0, 0⟩,
        .writeAction (reqOf 10 0 0) ⟨0, 0, 0, 0, 0, 0, 0, 0, 0, 0, 0, 0⟩, .writeEventroute (reqOf 9 0 0) ⟨0, 0, 0, 0, 0⟩,
        .writePort (reqOf 12 0 0) ⟨0⟩, .writeCoalesce (reqOf 11 0 0) ⟨0⟩, .writeNode (reqOf 14 0 0) ⟨0, 0, 0, 0, 0⟩], row.wellFormed = false) ∧
    (∀ row ∈ [Instr.readStatePitches (reqOf 1 0 0), .readStateLot (reqOf 0 0 0), .readStateRequest (reqOf 3 0 0),
        .readStateCrusher (reqOf 4 0 0), .readStateGate (reqOf 3 0 0), .readStateDrum (reqOf 6 0 0), .readStateBelt (reqOf 5 0 0),
        .readStateProgram (reqOf 8 0 0), .readStateEvent (reqOf 7 0 0), .readStateFault (reqOf 10 0 0), .readStateCounters (reqOf 9 0 0),
        .readStateRoutes (reqOf 12 0 0), .readStateCauses (reqOf 13 0 0)], row.wellFormed = false) := by decide +kernel

theorem test_wellformed_refuses_lengths_and_frames :
    (Instr.writeEntry (reqOf 0 0 0) (List.replicate 34 0)).wellFormed = false ∧
    (Instr.coolantAllotment .plant (alien 46)).wellFormed = false ∧
    (Instr.coolantAllotment .plant (frame 52 200 0x20 [52, 2, 188])).wellFormed = false ∧
    (Instr.coolantAllotment .plant (frame 52 200 0x28 [52, 2])).wellFormed = false := by decide +kernel

theorem test_wellformed_accepts :
    (Instr.writeEntry (reqOf 0 0 0) (List.replicate 35 0)).wellFormed = true ∧
    (Instr.coolantAllotment .plant (frame 52 200 0x28 [52, 2, 188])).wellFormed = true ∧
    (Instr.writeCell (reqOf 1 0 0) ⟨0, 0, 17, 0⟩).wellFormed = true ∧ (Instr.readStateDrum (reqOf 5 0 0)).wellFormed = true := by
  decide +kernel

/-- No row of the table gives bits, so no word spells a command. -/
theorem test_no_word_spells_a_command : decodeTableWord 16 0x1234 = none ∧ (line.withFetchWord 16 0x1234) = line := by decide +kernel

/-! ### Witnesses: the step, resets and start-up -/

theorem witness_StepTakesFront : (line.withPending [.overrideSecond, .powerOn]).pending = .overrideSecond :: [.powerOn] := rfl

theorem witness_TickQueuesExpiries : State.reset.pending = [] ∧ line.pending = [] := ⟨rfl, rfl⟩

theorem witness_EveryCommandCompletes : Instr.overrideSecond ≠ .powerOn ∧ Instr.overrideSecond ≠ .pinReset := by decide +kernel

theorem witness_ResetValues :
    (Instr.pinReset = .powerOn ∨ Instr.pinReset = .pinReset) ∧ line.activity = .idle ∧
    ({ line with activity := .reloading (req 0) 17 } : State).activity.isReloading = true := by decide +kernel

theorem witness_CauseFlags :
    line.readyFor (req 0) ∧ line.activity = .idle ∧ line.activity.isReloading = false ∧
    ({ line with activity := .saving (req 0) 69 } : State).activity.isReloading = false :=
  ⟨line_ready _ rfl, rfl, rfl, rfl⟩

/-- An EEPROM that holds the bytes of a list from an address on. -/
def cellsFrom (k : Nat) : List Byte → Memory
  | [] => []
  | b :: l => (k, b) :: cellsFrom (k + 1) l

theorem readList_skip (k a n : Nat) (b : Byte) (m : Memory) (h : k < a) :
    Memory.readList ((k, b) :: m) a n = Memory.readList m a n := by
  induction n generalizing a with
  | zero => rfl
  | succ n ih =>
    have h1 : a ≠ k := by omega
    have h2 : ¬ a < k := by omega
    simp only [Memory.readList, Memory.read, h1, h2, if_false, ih (a + 1) (by omega)]

theorem readList_cellsFrom (l : List Byte) (k : Nat) : Memory.readList (cellsFrom k l) k l.length = l := by
  induction l generalizing k with
  | nil => rfl
  | cons b l ih =>
    simp only [cellsFrom, List.length_cons, Memory.readList, Memory.read, if_true, readList_skip k (k + 1) l.length b _ (by omega), ih]

/-- An EEPROM that holds the image of the tests' tables. -/
theorem image_reads : readImage true (cellsFrom 0 (imageBytes tables)) = some tables := by
  have hl : imageLength = (imageBytes tables).length := by decide +kernel
  have h : decodeImage (imageBytes tables) = some tables := by decide +kernel
  rw [readImage, if_pos rfl, hl, readList_cellsFrom, h]

theorem blank_reads (ack : Bool) : readImage ack State.reset.eeprom = none := by
  cases ack <;> decide +kernel

theorem witness_ImageStarts :
    (State.reset.mode = .loading ∧ readImage true State.reset.eeprom = none ∧ State.reset.notices.captured = none ∧
      State.reset.belt.supervisor = true ∧ State.reset.settledLaw ∧ State.reset.engine.chain = none ∧
      State.reset.coalescer = { entries := [], waiting := false }) ∧
    (readImage true (cellsFrom 0 (imageBytes tables)) = some tables ∧ tables.plant.beltDrive ≠ 0 ∧ tables.plant.crusher ≠ 0 ∧
      tables.plant.skid ≠ 0 ∧ ({ State.reset.plantPort with queue := queueOf 26 }).queue.length ≤ 26) :=
  ⟨⟨rfl, blank_reads true, rfl, rfl, ⟨rfl, rfl⟩, rfl, rfl⟩, image_reads, by decide, by decide, by decide, by decide⟩

/-! ### Witnesses: frames and telegrams -/

theorem witness_BadAndOtherFrames :
    (alien 45).length < 64 ∧ 1518 < (alien 1501).length ∧ 64 ≤ (alien 46).length ∧ (alien 1500).length ≤ 1518 ∧ line.isUp .cell ∧
    line.isUp .plant ∧ line.settledLaw ∧
    (line.mode = .operating ∧ (alien 46).etherType ≠ 0x9A4C ∧ line.hasRoom .plant = true) ∧
    ({ line with plantPort := { line.plantPort with queue := queueOf 31 } } : State).hasRoom .plant = true ∧
    ({ line with plantPort := { line.plantPort with queue := queueOf 32 } } : State).hasRoom .plant = false ∧
    (({ line with mode := .loading } : State).mode = .loading ∧ (frame 17 200 0x40 []).etherType = 0x9A4C ∧
      (frame 17 200 0x40 []).payload.head? = some line.tables.node.node ∧ (frame 18 200 0x40 []).payload.head? ≠ some line.tables.node.node) :=
  ⟨by decide, by decide +kernel, by decide, by decide +kernel, ⟨4900, rfl⟩, ⟨4900, rfl⟩, ⟨rfl, rfl⟩, by decide, by decide, by decide, by decide⟩

theorem witness_GoodFramesAndPorts :
    64 ≤ (alien 46).length ∧ (alien 1500).length ≤ 1518 ∧ line.settledLaw ∧ line.isUp .cell ∧ State.reset.settledLaw ∧
    State.reset.cellPort.state = .down ∧ State.reset.plantPort.state = .down ∧ State.reset.belt.supervisor = true ∧
    (alien 46).etherType ≠ 0x9A4C :=
  ⟨by decide, by decide +kernel, ⟨rfl, rfl⟩, ⟨4900, rfl⟩, ⟨rfl, rfl⟩, rfl, rfl, rfl, by decide⟩

theorem witness_TelegramsReachTheirBlocks :
    (hears .cell (frame 17 52 0x10 [3, 5, 2, 88]) ⟨17, 52, 0x10, [3, 5, 2, 88]⟩ line ∧ hears .cell (frame 17 52 0x11 []) ⟨17, 52, 0x11, []⟩ line ∧
      hears .cell (frame 17 52 0x12 [63, 2, 88]) ⟨17, 52, 0x12, [63, 2, 88]⟩ line) ∧
    (hears .plant (frame 17 31 0x20 [255, 255, 255, 255]) ⟨17, 31, 0x20, [255, 255, 255, 255]⟩ line ∧
      hears .plant (frame 17 33 0x21 [1, 194, 1]) ⟨17, 33, 0x21, [1, 194, 1]⟩ line ∧
      hears .cell (frame 17 34 0x22 [7]) ⟨17, 34, 0x22, [7]⟩ line ∧ hears .plant (frame 17 35 0x23 [3, 1, 144]) ⟨17, 35, 0x23, [3, 1, 144]⟩ line) ∧
    line.tables.node.node = 17 ∧ line.tables.plant = { encoder := 31, beltDrive := 32, crusher := 33, gate := 34, skid := 35 } :=
  ⟨⟨line_hears _ _ _ _ _ (by decide), line_hears _ _ _ _ _ (by decide), line_hears _ _ _ _ _ (by decide)⟩,
   ⟨line_hears _ _ _ _ _ (by decide), line_hears _ _ _ _ _ (by decide), line_hears _ _ _ _ _ (by decide), line_hears _ _ _ _ _ (by decide)⟩,
   rfl, rfl⟩

/-- The body of a management request with a command, a selector, an index and entry data. -/
def asks (command selector index : Byte) (data : List Byte) : List Byte := 7 :: command :: selector :: index :: 0 :: data

theorem asked (p : Port) (s : State) (command selector index : Byte) (data : List Byte) (h : data.length = 35) (hm : s.mode = .operating)
    (hu : s.isUp p) (hr : s.raised = []) (hh : s.handed = false) :
    hears p (frame 17 200 0x40 (asks command selector index data)) ⟨17, 200, 0x40, asks command selector index data⟩ s ∧
      (asks command selector index data).length = 40 :=
  ⟨hears_of _ _ _ _ _ _ (by simp [asks, h]) hm hu hr hh, by simp [asks, h]⟩

theorem witness_RequestsReachTheirRows :
    (∀ k : Fin 18, ∃ b, hears .plant (frame 17 200 0x40 b) ⟨17, 200, 0x40, b⟩ line ∧ b.length = 40 ∧ byteAt b 1 = BitVec.ofNat 8 k.val) ∧
    (∀ k : Fin 13, ∃ b, hears .plant (frame 17 200 0x40 b) ⟨17, 200, 0x40, b⟩ line ∧ b.length = 40 ∧ byteAt b 1 = 4 ∧
      byteAt b 2 = BitVec.ofNat 8 k.val) := by
  constructor
  · intro k
    have h := asked .plant line (BitVec.ofNat 8 k.val) 0 0 (List.replicate 35 0) rfl rfl ⟨4900, rfl⟩ rfl rfl
    exact ⟨_, h.1, h.2, rfl⟩
  · intro k
    have h := asked .plant line 4 (BitVec.ofNat 8 k.val) 0 (List.replicate 35 0) rfl rfl ⟨4900, rfl⟩ rfl rfl
    exact ⟨_, h.1, h.2, rfl, rfl⟩

theorem witness_TelegramsDiscarded :
    (goodLineFrame { dst := 0, src := 0, etherType := 0x9A4C, payload := 17 :: 200 :: 0x10 :: 201 :: List.replicate 42 0 } ∧
      Telegram.parse (17 :: 200 :: 0x10 :: 201 :: List.replicate 42 0) = none ∧
      Telegram.parse (17 :: 200 :: 0x10 :: 43 :: List.replicate 42 0) = none) ∧
    (hears .plant (frame 17 52 0x19 []) ⟨17, 52, 0x19, []⟩ line ∧ hears .cell (frame 17 52 0x10 [3, 5, 2]) ⟨17, 52, 0x10, [3, 5, 2]⟩ line ∧
      hears .plant (frame 17 52 0x48 [0, 0, 0, 0, 0, 0]) ⟨17, 52, 0x48, [0, 0, 0, 0, 0, 0]⟩ line ∧
      hears .plant (frame 17 52 0x41 []) ⟨17, 52, 0x41, []⟩ line ∧
      hears .plant (frame 17 52 0x10 [3, 5, 2, 88]) ⟨17, 52, 0x10, [3, 5, 2, 88]⟩ line) ∧
    (hears .plant (frame 17 44 0x20 [0, 0, 0, 0]) ⟨17, 44, 0x20, [0, 0, 0, 0]⟩ line ∧ (44 : Byte) ≠ line.tables.plant.encoder ∧
      hears .cell (frame 17 0 0x22 [7]) ⟨17, 0, 0x22, [7]⟩ line) := by
  refine ⟨⟨⟨by decide +kernel, by decide +kernel, rfl⟩, by decide +kernel, by decide +kernel⟩, ?_, ?_, by decide, ?_⟩
  · exact ⟨line_hears _ _ _ _ _ (by decide), line_hears _ _ _ _ _ (by decide), line_hears _ _ _ _ _ (by decide),
      line_hears _ _ _ _ _ (by decide), line_hears _ _ _ _ _ (by decide)⟩
  · exact line_hears _ _ _ _ _ (by decide)
  · exact line_hears _ _ _ _ _ (by decide)

/-- The tests' tables with one entry of the classification table, the last, for every telegram. -/
def oneEntry (a : Action) : State :=
  { line with tables := { tables with
      classify := Tables.default.classify.set 31 { ClassifyEntry.default with valid := true, arrival := .cell, action := a } } }

theorem witness_ClassifiedTelegrams :
    (hears .cell (frame 200 52 0x20 [0, 0, 0, 0]) ⟨200, 52, 0x20, [0, 0, 0, 0]⟩ line ∧ (200 : Byte) ≠ line.tables.node.node ∧
      ∀ i : Fin 32, line.tables.classify[i].matches .cell ⟨200, 52, 0x20, [0, 0, 0, 0]⟩ = false) ∧
    (∀ a : Action, a ∈ [Action.forward, .drop, .consume, .snoop, .clamp] →
      hears .cell (frame 200 31 0x20 [0, 0, 0, 0]) ⟨200, 31, 0x20, [0, 0, 0, 0]⟩ (oneEntry a) ∧
      (oneEntry a).tables.classify[31].valid = true ∧ (oneEntry a).tables.classify[31].arrival.covers .cell = true ∧
      (oneEntry a).tables.classify[31].kindAny = true ∧ (oneEntry a).tables.classify[31].sourceAny = true ∧
      (oneEntry a).tables.classify[31].destAny = true ∧ (oneEntry a).tables.classify[31].action = a ∧
      (∀ j : Fin 32, j < 31 → (oneEntry a).tables.classify[j].matches .cell ⟨200, 31, 0x20, [0, 0, 0, 0]⟩ = false) ∧
      (oneEntry a).tables.plant.encoder = 31) ∧
    hears .cell (frame 200 52 0x10 [3, 5, 2, 88]) ⟨200, 52, 0x10, [3, 5, 2, 88]⟩ (oneEntry .consume) := by
  refine ⟨⟨line_hears _ _ _ _ _ (by decide), by decide, by decide +kernel⟩, ?_, ?_⟩
  · intro a _
    refine ⟨hears_of _ _ _ _ _ _ (by decide) rfl ⟨4900, rfl⟩ rfl rfl, ?_⟩
    cases a <;> decide +kernel
  · exact hears_of _ _ _ _ _ _ (by decide) rfl ⟨4900, rfl⟩ rfl rfl

theorem witness_RequestsTurnedAway :
    (hears .cell (frame 17 200 0x40 (asks 1 0 0 (List.replicate 35 0))) ⟨17, 200, 0x40, asks 1 0 0 (List.replicate 35 0)⟩ line ∧
      line.hasRoom .cell = true ∧ line.tables.node.cellSide = false) ∧
    (∀ k : Byte, k ∈ [0#8, 18#8, 255#8] →
      hears .plant (frame 17 200 0x40 (asks k 0 0 (List.replicate 35 0))) ⟨17, 200, 0x40, asks k 0 0 (List.replicate 35 0)⟩ line ∧
      (byteAt (asks k 0 0 (List.replicate 35 0)) 1 = 0 ∨ 17 < (byteAt (asks k 0 0 (List.replicate 35 0)) 1).toNat)) ∧
    (∀ k : Byte, k ∈ [13#8, 255#8] →
      hears .plant (frame 17 200 0x40 (asks 4 k 0 (List.replicate 35 0))) ⟨17, 200, 0x40, asks 4 k 0 (List.replicate 35 0)⟩ line ∧
      byteAt (asks 4 k 0 (List.replicate 35 0)) 1 = 4 ∧ 12 < (byteAt (asks 4 k 0 (List.replicate 35 0)) 2).toNat) ∧
    line.hasRoom .plant = true := by
  refine ⟨⟨(asked _ _ _ _ _ _ rfl rfl ⟨4900, rfl⟩ rfl rfl).1, by decide, rfl⟩, ?_, ?_, by decide⟩ <;> intro k hk <;>
    refine ⟨(asked _ _ _ _ _ _ rfl rfl ⟨4900, rfl⟩ rfl rfl).1, ?_⟩ <;> fin_cases hk <;> decide

theorem witness_RequestsRefusedInPlace :
    line.readyFor (req 0) ∧ line.activity = .idle ∧
    (({ line with activity := .reloading (req 0) 17 } : State).readyFor (req 0) ∧
      ({ line with activity := .reloading (req 0) 17 } : State).activity.isReloading = true) ∧
    (({ line with activity := .saving (req 0) 0 } : State).readyFor (req 0) ∧ ({ line with activity := .saving (req 0) 0 } : State).activity ≠ .idle) ∧
    (∀ k ∈ [(32#8, 31), (24#8, 23), (8#8, 7), (4#8, 3), (16#8, 15), (2#8, 1)], line.readyFor (req k.1) ∧ k.2 < (req k.1).index.toNat) ∧
    (req 1).index ≠ 0 ∧ ((req 0).index = 0 ∧ 1023 < (1024#16).toNat ∧ 4000 < (4001#16).toNat ∧ 16777215 < (16777216#32).toNat) ∧
    ((16#8).toNat < 17 ∧ line.tables.belt.length ≤ (128#8).toNat) ∧ line.tables.cell[2].node = 52 := by
  refine ⟨line_ready _ rfl, rfl, ⟨ready_of _ _ rfl rfl rfl rfl (by decide), rfl⟩, ⟨ready_of _ _ rfl rfl rfl rfl (by decide), by decide +kernel⟩,
    ?_, by decide, by decide, by decide, by decide⟩
  intro k hk
  refine ⟨line_ready _ rfl, ?_⟩
  fin_cases hk <;> decide

theorem witness_PortsAndQueues :
    (line.port .cell).queue = [] ∧
    ({ line with cellPort := { line.cellPort with queue := queueOf 32 } } : State).cellPort.queue = alien 46 :: queueOf 31 ∧
    ({ line with plantPort := { line.plantPort with queue := queueOf 1 } } : State).plantPort.queue = alien 46 :: [] ∧
    line.coalescer.entries = [] ∧ (line.port .plant).state = .up 4900 ∧
    ({ line with now := 5150 } : State).tables.silence .plant ≤ ({ line with now := 5150 } : State).since 4900 ∧
    ({ line with now := 5149 } : State).since 4900 < ({ line with now := 5149 } : State).tables.silence .plant ∧ line.settledLaw ∧
    (State.reset.port .cell).state = .down ∧ (State.reset.port .plant).state = .down ∧ State.reset.settledLaw :=
  ⟨rfl, rfl, rfl, rfl, rfl, by decide, by decide, ⟨rfl, rfl⟩, rfl, rfl, ⟨rfl, rfl⟩⟩

/-! ### Witnesses: requests, grants and lots -/

/-- The running line with requests of cells 2, 9 and 14 (Section 3.8). -/
def waiting : State :=
  { line with arbiter := { requests := ((line.arbiter.requests.set 2 (some (request 3 5 600 4000 false))).set 9
      (some (request 1 6 900 1000 true))).set 14 (some (request 3 8 1400 3000 false)), pointer := 5 } }

/-- The running line with lot 5 of cell 4 in LOADING, 4 of 6 pitches loaded (Section 1.9), and lot 8 riding at the head. -/
def loading : State :=
  { line with
    tracker := { map := .empty :: List.replicate 3 (.loaded 8 3) ++ List.replicate 12 .empty ++ List.replicate 4 (.loaded 5 2) ++
                   List.replicate 2 (.reserved 5 2) ++ List.replicate 106 .empty,
                 last := some 1004, acc := 50 }
    lots := (line.lots.set 5 (.active (lot .loading 4 2 6 4 0 734 0))).set 8 (.active (lot .riding 5 3 3 3 0 451 0)) }

theorem witness_RequestsRefused :
    line.mode = .operating ∧ line.settledLaw ∧ line.hasRoom .cell = true ∧
    (∀ c : CellNo, line.tables.cell[c].node = 99 → line.tables.cell[c].enrolled = false) ∧
    (∀ c : CellNo, line.tables.cell[c].node = 56 → line.tables.cell[c].enrolled = false) ∧
    (line.cellOf 52 = some 2 ∧ line.tables.cell[2].enrolled = true ∧ 7 < (8#8).toNat ∧ (7 : ClassNo).val = (7#8).toNat ∧
      line.tables.cls[7].enabled = false) ∧
    ((3 : ClassNo).val = (3#8).toNat ∧ line.tables.cls[3].enabled = true ∧ 16 < (17#8).toNat) ∧
    (({ line with tables := { tables with cell := tables.cell.set 2 (cellAt 52 113 0) } } : State).cellOf 52 = some 2 ∧
      line.tables.belt.length < 113 + (16#8).toNat ∧ (113 + (15#8).toNat ≤ line.tables.belt.length)) ∧
    (loading.mode = .operating ∧ loading.cellOf 54 = some 4 ∧ loading.tables.cell[4].enrolled = true ∧ 1 ≤ (16#8).toNat ∧ (16#8).toNat ≤ 16 ∧
      loading.tables.cell[4].dropPoint + (16#8).toNat ≤ loading.tables.belt.length ∧
      loading.lots[5] = .active (lot .loading 4 2 6 4 0 734 0)) :=
  ⟨rfl, ⟨rfl, rfl⟩, by decide, by decide +kernel, by decide +kernel, by decide +kernel, by decide +kernel, by decide +kernel, by decide +kernel⟩

theorem witness_RequestsTaken :
    (line.mode = .operating ∧ line.cellOf 52 = some 2 ∧ line.tables.cell[2].enrolled = true ∧ (3 : ClassNo).val = (3#8).toNat ∧
      line.tables.cls[3].enabled = true ∧ 1 ≤ (16#8).toNat ∧ (16#8).toNat ≤ 16 ∧ line.tables.cell[2].dropPoint + (16#8).toNat ≤ line.tables.belt.length ∧
      line.loadingLot 2 = none ∧ line.request 2 = none) ∧
    (waiting.cellOf 52 = some 2 ∧ waiting.loadingLot 2 = none ∧ waiting.request 2 = some (request 3 5 600 4000 false)) := by decide +kernel

/-- A request of cell 2 and the time. -/
def aged (now : Word) (urgent : Bool) : State :=
  { line with now := now, arbiter := { requests := line.arbiter.requests.set 2 (some (request 3 5 600 4000 urgent)), pointer := 5 } }

theorem witness_RequestAges :
    ((aged 14000 false).request 2 = some (request 3 5 600 4000 false) ∧ (aged 14000 false).settledLaw ∧
      (aged 14000 false).tables.belt.threshold ≠ 0 ∧ (aged 14000 false).tables.belt.threshold < (aged 14000 false).tables.belt.ageLimit ∧
      (aged 14000 false).tables.belt.threshold * 1000 ≤ ((aged 14000 false).now - 4000).toNat) ∧
    (((aged 13999 false).now - 4000).toNat < (aged 13999 false).tables.belt.threshold * 1000 ∧
      (aged 14000 true).request 2 = some (request 3 5 600 4000 true) ∧ (request 3 5 600 4000 true).urgent = true) ∧
    ((aged 34000 true).tables.belt.ageLimit * 1000 ≤ ((aged 34000 true).now - 4000).toNat ∧ (aged 34000 true).hasRoom .cell = true) ∧
    ((aged 33999 true).now - 4000).toNat < (aged 33999 true).tables.belt.ageLimit * 1000 :=
  ⟨⟨by decide +kernel, ⟨rfl, rfl⟩, by decide, by decide, by decide⟩, by decide +kernel, by decide +kernel, by decide⟩

theorem witness_PassesAndWindows :
    (({ line with belt := { line.belt with supervisor := true } } : State).belt.supervisor = true ∧
      ({ line with belt := { line.belt with crusher := true } } : State).belt.crusher = true ∧
      ({ line with belt := { line.belt with link := true } } : State).belt.link = true) ∧
    (({ line with belt := { line.belt with link := true } } : State).cellOf 52 = some 2 ∧ line.loadingLot 2 = none ∧ line.request 2 = none ∧
      line.settledLaw) ∧
    (waiting.request 14 = some (request 3 8 1400 3000 false) ∧ waiting.tables.cls[3].enabled = true ∧
      waiting.request 9 = some (request 1 6 900 1000 true) ∧ waiting.tables.cell[9].dropPoint < waiting.tables.cell[14].dropPoint) ∧
    ((∀ (d : CellNo) (o : Request), waiting.request d = some o → o.urgent = true →
        waiting.tables.cell[9].dropPoint ≤ waiting.tables.cell[d].dropPoint) ∧
      waiting.tables.cls[1].enabled = true ∧ waiting.feasible 9 (request 1 6 900 1000 true) = true ∧
      ({ waiting with tracker := { waiting.tracker with map := waiting.tracker.map.set 59 (.loaded 3 3) } } : State).feasible 9
        (request 1 6 900 1000 true) = false) ∧
    (({ line with arbiter := { requests := line.arbiter.requests.set 2 (some (request 7 5 600 4000 false)), pointer := 5 } } : State).request 2 =
        some (request 7 5 600 4000 false) ∧ line.tables.cls[7].enabled = false ∧ line.hasRoom .cell = true) ∧
    (waiting.belt.supervisor = false ∧ waiting.belt.crusher = false ∧ waiting.belt.link = false ∧ waiting.tables.belt.priority = some 14 ∧
      waiting.request 14 ≠ none ∧ line.tables.belt.priority = some 14 ∧ line.request 14 = none ∧ Tables.default.belt.priority = none ∧
      ({ waiting with tables := Tables.default } : State).request 14 ≠ none) ∧
    (waiting.hasRoom .cell = true ∧ waiting.lots[0] = .free none) ∧ ∀ m : LotNo, m < 0 → ∃ a, waiting.lots[m] = .active a := by
  refine ⟨by decide +kernel, ⟨by decide +kernel, by decide +kernel, by decide +kernel, ⟨rfl, rfl⟩⟩, by decide +kernel, ⟨?_, ?_⟩, by decide +kernel,
    by decide +kernel, by decide +kernel, fun m h => absurd h (by simp)⟩
  · have key : ∀ d : CellNo, ∀ o ∈ waiting.request d, o.urgent = true → waiting.tables.cell[9].dropPoint ≤ waiting.tables.cell[d].dropPoint := by
      decide +kernel
    exact fun d o h => key d o h
  · decide +kernel

theorem witness_SoleRequestGranted :
    (line.mode = .operating ∧ line.hasRoom .cell = true ∧ line.belt.supervisor = false ∧ line.belt.crusher = false ∧ line.belt.link = false ∧
      line.cellOf 52 = some 2 ∧ line.tables.cell[2].enrolled = true ∧ (3 : ClassNo).val = (3#8).toNat ∧ line.tables.cls[3].enabled = true ∧
      line.tables.cell[2].dropPoint + (16#8).toNat ≤ line.tables.belt.length ∧ line.loadingLot 2 = none ∧ (∀ d, line.request d = none) ∧ line.lots[0] = .free none) ∧
    line.settledLaw ∧ (∀ m : LotNo, m < 0 → ∃ a, line.lots[m] = .active a) ∧
    (∀ i, line.tables.cell[2].dropPoint ≤ i → i < line.tables.cell[2].dropPoint + (16#8).toNat → line.tracker.map[i]? = some .empty) ∧
    (∀ i p, line.tables.cell[2].dropPoint ≤ i + line.tables.belt.gap →
      i < line.tables.cell[2].dropPoint + (16#8).toNat + line.tables.belt.gap → line.tracker.map[i]? = some p → p.cls = none ∨ p.cls = some 3) := by
  refine ⟨by decide +kernel, ⟨rfl, rfl⟩, fun m h => absurd h (by simp), fun i _ h => line_window i ?_, fun i p _ _ h => .inl ?_⟩
  · have : i < 30 + 16 := h
    omega
  · rw [line_map i p h]; rfl

theorem witness_Withdraws :
    (waiting.mode = .operating ∧ waiting.hasRoom .cell = true ∧ waiting.cellOf 59 = some 9 ∧
      waiting.request 9 = some (request 1 6 900 1000 true)) ∧
    (loading.hasRoom .cell = true ∧ loading.cellOf 54 = some 4 ∧ loading.request 4 = none ∧ loading.loadingLot 4 = some 5 ∧
      loading.lots[5] = .active (lot .loading 4 2 6 4 0 734 0)) ∧
    (({ loading with lots := loading.lots.set 5 (.active (lot .loading 4 2 6 0 0 700 0)) } : State).loadingLot 4 = some 5 ∧
      (lot .loading 4 2 6 0 0 700 0).loaded = 0) ∧
    (line.cellOf 99 = none ∧ line.cellOf 0 = none ∧ line.cellOf 56 = some 6 ∧ line.request 6 = none ∧ line.loadingLot 6 = none) ∧ line.settledLaw :=
  ⟨by decide +kernel, by decide +kernel, by decide +kernel, by decide +kernel, ⟨rfl, rfl⟩⟩

theorem witness_MassReports :
    loading.mode = .operating ∧ loading.settledLaw ∧
    (loading.cellOf 54 = some 4 ∧ (5 : LotNo).val = (5#8).toNat ∧ loading.lots[5] = .active (lot .loading 4 2 6 4 0 734 0) ∧
      loading.cellOf 55 = some 5 ∧ loading.lots[8] = .active (lot .riding 5 3 3 3 0 451 0)) ∧
    (({ loading with lots := loading.lots.set 63 (.free (some 4)) } : State).lots[63] = .free (some 4) ∧ (63 : LotNo).val = (63#8).toNat ∧
      ({ loading with lots := loading.lots.set 5 (.active (lot .delivering 4 2 6 6 3 734 366)) } : State).lots[5] =
        .active (lot .delivering 4 2 6 6 3 734 366)) ∧
    (loading.cellOf 99 = none ∧ 63 < (64#8).toNat ∧ loading.lots[0] = .free none ∧ loading.cellOf 52 = some 2 ∧
      (lot .loading 4 2 6 4 0 734 0).cell ≠ 2) :=
  ⟨rfl, ⟨rfl, rfl⟩, by decide +kernel, by decide +kernel, by decide +kernel⟩

theorem witness_CrossingAndShift :
    (let s : State := { loading with tracker := { loading.tracker with map := loading.tracker.map.tail ++ [Pitch.empty] } };
      s.loadingLot 4 = some 5 ∧ s.lots[5] = .active (lot .loading 4 2 6 4 0 734 0) ∧
      s.tracker.map[s.tables.cell[4].dropPoint - 1]? = some (.reserved 5 2) ∧ 4 + 1 < 6) ∧
    ((lot .loading 4 2 6 5 0 734 0).length ≤ (lot .loading 4 2 6 5 0 734 0).loaded + 1 ∧ loading.hasRoom .cell = true) ∧
    (line.tracker.map = .empty :: List.replicate 127 .empty ∧ ∀ c, line.loadingLot c = none) := by decide +kernel

theorem witness_LotCreditsSumToMass :
    let a := lot .riding 4 2 6 6 0 734 0
    a.delivered = 0 ∧ a.credited = 0 ∧ 0 < a.length := by decide

/-! ### Witnesses: the belt -/

theorem witness_BeltSamples :
    line.mode = .operating ∧ line.tracker.last = none ∧ shiftStart.tracker.last = some 4294966900 ∧
    (1004 - 4294966900 : Word).toNat = 1400 ∧ shiftStart.tables.belt.mpa < (1605 - 4294966900 : Word).toNat ∧
    (1604 - 4294966900 : Word).toNat ≤ shiftStart.tables.belt.mpa ∧
    shiftStart.tracker.acc + (4294967049 - 4294966900 : Word).toNat < shiftStart.tables.belt.cpp ∧
    (shiftStart.tracker.acc + (4294967050 - 4294966900 : Word).toNat) / shiftStart.tables.belt.cpp = 1 := by decide +kernel

theorem witness_DeliveredPitches :
    (line.lots.set 6 (.active (lot .riding 5 1 2 2 0 300 0)))[6] = .active (lot .riding 5 1 2 2 0 300 0) ∧ line.tables.cls[1].mode = .bypass ∧
    line.tables.cls[1].route = 1 ∧ (lot .riding 5 1 2 2 0 300 0).delivered + 1 < (lot .riding 5 1 2 2 0 300 0).length ∧
    (lot .delivering 5 1 2 2 1 300 150).length ≤ (lot .delivering 5 1 2 2 1 300 150).delivered + 1 ∧
    (lot .delivering 5 1 2 2 1 300 150).contaminated = false ∧ (lot .delivering 5 1 2 2 1 300 150).cls = 1 ∧
    ({ line with head := { line.head with gate := .settled 1 } } : State).head.gate = .settled 1 ∧ line.head.gate = .settled 2 ∧
    State.reset.head.gate = .moving none 0 false ∧
    line.tables.cls[2].mode = .crush ∧ line.tables.cls[2].route = 2 ∧
    ({ line with head := { line.head with crusher := .running 0 } } : State).head.crusher = .running 0 ∧
    line.head.crusher = .off := by decide +kernel

theorem witness_HaltAndRelease :
    (line.readyFor (req 0) ∧ line.activity.isReloading = false ∧ line.holdInForce = false ∧
      line.cellPort.queue.length + (line.loadingOrders .hold).length ≤ 32 ∧
      ({ loading with cellPort := { loading.cellPort with queue := queueOf 31 } } : State).cellPort.queue.length +
        (loading.loadingOrders .hold).length ≤ 32) ∧
    (let s : State := { line with belt := { line.belt with supervisor := true, link := true } };
      s.readyFor (req 0) ∧ s.holdInForce = true ∧ s.belt.supervisor = true ∧ s.belt.link = true) ∧
    (let s : State := { line with belt := { line.belt with supervisor := true } };
      s.readyFor (req 0) ∧ s.belt.supervisor = true ∧ s.belt.crusher = false ∧ s.belt.link = false ∧
        s.cellPort.queue.length + (s.loadingOrders .resume).length ≤ 32) ∧
    line.belt.supervisor = false :=
  ⟨⟨line_ready _ rfl, rfl, rfl, by decide +kernel, by decide +kernel⟩, ⟨ready_of _ _ rfl rfl rfl rfl (by decide), rfl, rfl, rfl⟩,
    ⟨ready_of _ _ rfl rfl rfl rfl (by decide), rfl, rfl, rfl, by decide +kernel⟩, rfl⟩

theorem witness_Setpoints :
    (line.belt.supervisor = false ∧ line.belt.crusher = false ∧ line.belt.link = false ∧ line.belt.programSetpoint = none ∧
      line.belt.latched = false) ∧
    (({ line with belt := { line.belt with programSetpoint := some 1000, latched := true } } : State).belt.programSetpoint = some 1000 ∧
      State.reset.belt.supervisor = true) ∧
    (line.selection.2 = line.belt.selected ∧
      ({ line with belt := { line.belt with latched := true } } : State).selection.2 ≠ line.belt.selected) ∧
    (line.readyFor (req 0) ∧ line.activity.isReloading = false) ∧
    (let s : State := { line with belt := { line.belt with latched := true, secondStart := 4000 } };
      s.belt.latched = true ∧ 1000 ≤ (s.now - s.belt.secondStart).toNat) ∧
    (let s : State := { line with belt := { line.belt with latched := true, secondStart := 4001 } };
      (s.now - s.belt.secondStart).toNat < 1000) :=
  ⟨by decide, by decide, by decide, ⟨line_ready _ rfl, rfl⟩, by decide, by decide⟩

/-! ### Witnesses: the gate and the crusher -/

/-- The running line with the gate in a state. -/
def gateIs (g : GateState) (now : Word) : State := { line with now := now, head := { line.head with gate := g } }

/-- The running line with the crusher in a state and lot 8 of class 3, CRUSH, LOADED at indices 1 to 3 (Section 5.10). -/
def crusherIs (c : CrusherState) (jam : Nat) (now : Word) : State :=
  { loading with now := now, head := { line.head with crusher := c, jam := jam, confirm := true } }

/-- The running line with the crusher in a state and start mode DELAY. -/
def delayed (c : CrusherState) (now : Word) : State :=
  { loading with now := now, head := { line.head with crusher := c, startMode := .delay } }

/-- A chain that holds GATE. -/
def gateChain : Chain :=
  { source := some 15, trigger := { lot := none, cell := none, drum := none }, desc := singleStep .gate .move 3 4000 .none none, index := 12,
    started := 1, repetition := 1, inB := false, holdEnd := 9000, held := [.gate] }

theorem witness_GateStatuses :
    line.mode = .operating ∧ line.settledLaw ∧ (7 < (8#8).toNat ∧ (14#8 ≠ 15) ∧ (16#8 ≠ 15)) ∧
    ((gateIs (.moving (some 7) 4000 false) 5000).head.gate = .moving (some 7) 4000 false ∧ (7#8).toNat = (7 : RouteNo).val ∧
      (0#8).toNat ≠ (7 : RouteNo).val ∧ (15#8).toNat ≠ (7 : RouteNo).val) ∧
    (gateIs (.moving none 0 false) 5000).head.gate = .moving none 0 false ∧
    (line.head.gate = .settled 2 ∧ (2#8).toNat = (2 : RouteNo).val ∧ (3#8).toNat ≤ 7 ∧ (3#8).toNat ≠ (2 : RouteNo).val ∧ line.holds .gate = false ∧
      ({ line with engine := { line.engine with chain := some gateChain } } : State).holds .gate = true) :=
  ⟨rfl, ⟨rfl, rfl⟩, by decide, by decide +kernel, rfl, by decide +kernel⟩

theorem witness_GateTargets :
    (∀ p ∈ line.tracker.map, p = .empty) ∧
    (loading.tracker.map[1]? = some (.loaded 8 3) ∧ (Pitch.loaded 8 3).cls = some 3 ∧ (∀ j < 1, loading.tracker.map[j]? = some .empty) ∧
      loading.tables.cls[3].route = 3 ∧ loading.head.gate ≠ .settled 3) ∧
    (let s := gateIs (.moving (some 3) 2000 false) 5000;
      s.head.gate = .moving (some 3) 2000 false ∧ s.holds .gate = false ∧ 3000 ≤ (s.now - 2000).toNat ∧
        ((gateIs (.moving (some 3) 2000 false) 4999).now - 2000).toNat < 3000) ∧
    line.settledLaw :=
  ⟨by decide +kernel, by decide +kernel, by decide +kernel, rfl, rfl⟩

theorem witness_CrusherStatuses :
    line.mode = .operating ∧ (crusherIs (.running 0) 0 5000).settledLaw ∧
    (((crusherIs (.starting 4000 2000) 0 5000).head.crusher = .starting 4000 2000 ∧ (crusherIs (.starting 4000 2000) 0 5000).head.startMode = .confirm ∧
      (255#8) ≠ 0) ∧ (delayed (.starting 4000 256) 4100).head.startMode = .delay) ∧
    ((crusherIs .stalled 3 5000).head.crusher = .stalled ∧ (crusherIs .fault 0 5000).head.crusher = .fault) ∧
    ((crusherIs (.running 0) 0 5000).head.crusher = .running 0 ∧ (crusherIs (.running 0) 0 5000).head.startMode = .confirm ∧
      (449#16).toNat < (crusherIs (.running 0) 0 5000).tables.crusher.jamThreshold ∧
      (crusherIs (.running 0) 1 5000).tables.crusher.jamThreshold ≤ (450#16).toNat ∧
      min ((crusherIs (.running 0) 1 5000).head.jam + 1) 15 < (crusherIs (.running 0) 1 5000).tables.crusher.jamCount ∧
      (crusherIs (.running 0) 2 5000).tables.crusher.jamCount ≤ min ((crusherIs (.running 0) 2 5000).head.jam + 1) 15) :=
  ⟨rfl, ⟨rfl, rfl⟩, by decide +kernel, by decide +kernel, by decide +kernel⟩

theorem witness_CrusherTimersAndClear :
    ((crusherIs (.starting 4000 2000) 0 6000).settledLaw ∧ (crusherIs (.starting 4000 2000) 0 6000).head.startMode = .confirm ∧
      2000 ≤ ((crusherIs (.starting 4000 2000) 0 6000).now - 4000).toNat ∧ ((crusherIs (.starting 4000 2000) 0 5999).now - 4000).toNat < 2000) ∧
    ((delayed (.starting 4000 256) 4256).head.startMode = .delay ∧ 256 ≤ ((delayed (.starting 4000 256) 4256).now - 4000).toNat) ∧
    ((crusherIs (.running 4000) 0 64000).tables.crusher.idle ≠ 0 ∧
      (crusherIs (.running 4000) 0 64000).tables.crusher.idle * 1000 ≤ ((crusherIs (.running 4000) 0 64000).now - 4000).toNat ∧
      ((crusherIs (.running 4000) 0 63999).now - 4000).toNat < (crusherIs (.running 4000) 0 63999).tables.crusher.idle * 1000) ∧
    (1 < (crusherIs (.running 4000) 0 64000).tables.crusher.window ∧
      (crusherIs (.running 4000) 0 64000).tracker.map[1]? = some (.loaded 8 3) ∧ (crusherIs (.running 4000) 0 64000).tables.cls[3].mode = .crush) ∧
    (∀ (i : Nat) (p : Pitch) (k : ClassNo), i < line.tables.crusher.window → line.tracker.map[i]? = some p → p.cls = some k →
      line.tables.cls[k].mode = .bypass) ∧
    ((crusherIs .stalled 3 5000).readyFor (req 0) ∧ (crusherIs .reversing 3 5000).readyFor (req 0) ∧ line.activity.isReloading = false) := by
  refine ⟨⟨⟨rfl, rfl⟩, by decide +kernel⟩, by decide +kernel, by decide +kernel, by decide +kernel, ?_, ?_⟩
  · intro i p k _ h hc
    rw [line_map i p h] at hc
    exact absurd hc (by simp [Pitch.cls])
  · exact ⟨ready_of _ _ rfl rfl rfl rfl (by decide), ready_of _ _ rfl rfl rfl rfl (by decide), rfl⟩

theorem witness_HeadReactions :
    ((crusherIs .off 0 5000).head.crusher = .off ∧ 1 < (crusherIs .off 0 5000).tables.crusher.margin ∧
      (crusherIs .off 0 5000).tracker.map[1]? = some (.loaded 8 3) ∧ (crusherIs .off 0 5000).tables.cls[3].mode = .crush ∧
      (crusherIs .off 0 5000).belt.crusher = false) ∧
    (∀ (j : Nat) (p : Pitch) (k : ClassNo), j < 1 → (crusherIs .off 0 5000).tracker.map[j]? = some p → p.cls = some k →
      (crusherIs .off 0 5000).tables.cls[k].mode = .bypass) ∧
    (({ crusherIs .off 0 5000 with belt := { line.belt with crusher := true } } : State).belt.crusher = true ∧
      ({ crusherIs (.running 0) 0 5000 with belt := { line.belt with crusher := true, link := true } } : State).belt.link = true) ∧
    ((crusherIs (.starting 4000 2000) 0 5000).head.crusher = .starting 4000 2000 ∧ (crusherIs .reversing 0 5000).head.crusher = .reversing) ∧
    ((crusherIs (.running 0) 0 5000).approachNow ≤ (crusherIs (.running 0) 0 5000).tables.crusher.limit ∧
      (let s : State := { loading with tables := { tables with crusher := { tables.crusher with limit := 450 } } };
       s.tables.crusher.limit < s.approachNow ∧ s.head.surge = false)) ∧
    ((crusherIs (.running 4000) 0 5000).head.crusher = .running 4000 ∧ 1 < (crusherIs (.running 4000) 0 5000).tables.crusher.window ∧
      (crusherIs (.running 4000) 0 5000).tracker.map[1]? = some (.loaded 8 3) ∧ (crusherIs (.running 4000) 0 5000).tables.cls[3].mode = .crush) ∧
    (({ line with head := { line.head with crusher := .running 4000 } } : State).head.crusher = .running 4000 ∧ line.head.crusher = .off ∧
      ∀ (i : Nat) (p : Pitch) (k : ClassNo), i < line.tables.crusher.window → line.tracker.map[i]? = some p → p.cls = some k →
        line.tables.cls[k].mode = .bypass) := by
  refine ⟨by decide +kernel, ?_, by decide +kernel, by decide +kernel, by decide +kernel, by decide +kernel, rfl, rfl, ?_⟩
  · intro j p k hj h hc
    have h0 : j = 0 := by omega
    subst h0
    have : p = .empty := by simpa [crusherIs, loading] using h.symm
    subst this
    exact absurd hc (by simp [Pitch.cls])
  · intro i p k _ h hc
    rw [line_map i p h] at hc
    exact absurd hc (by simp [Pitch.cls])

/-! ### Witnesses: coolant filtration -/

/-- The running line with a drum in a state. -/
def drumIs (d : DrumNo) (st : DrumState) (fines dp failed : Nat) (now : Word) : State :=
  { line with now := now, filtration := { line.filtration with
      drums := line.filtration.drums.set d { state := st, fines := fines, dp := dp, failed := failed } } }

theorem witness_FilterSamples :
    line.mode = .operating ∧ line.settledLaw ∧ 3 < (4#8).toNat ∧
    ((3 : DrumNo).val = (3#8).toNat ∧ (line.drum 3).state = .online ∧ (399#16).toNat < line.tables.drum[3].dpLimit ∧
      line.tables.drum[3].dpLimit ≤ (400#16).toNat) ∧
    (drumIs 0 .fault 0 0 3 5000).drum 0 = { state := .fault, fines := 0, dp := 0, failed := 3 } :=
  ⟨rfl, ⟨rfl, rfl⟩, by decide, by decide +kernel, by decide +kernel⟩

/-- Drum 0 waits from a time, drum 2 is in FAULT and drum 3 OFFLINE, with min online 2 (Section 6.9). -/
def flushWaits (since now : Word) : State :=
  { line with
    now := now
    tables := { tables with filter := { minOnline := 2, waitLimit := 120 } }
    filtration := { line.filtration with
      lastFlushed := 2
      drums := ((line.filtration.drums.set 0 { state := .flushWait since, fines := 0, dp := 430, failed := 0 }).set 2
        { state := .fault, fines := 0, dp := 0, failed := 3 }).set 3 { state := .offline, fines := 0, dp := 0, failed := 0 } } }

theorem witness_FlushArbitration :
    ((drumIs 1 (.flushing 6000) 0 0 0 5000).drum 1).state = .flushing 6000 ∧
    ((∀ d, ((flushWaits 0 119999).drum d).state.busy = false) ∧ ∀ d, (flushWaits 0 119999).flushVerdict d = .passedOver) ∧
    (let s := flushWaits 0 120000;
      (∀ d, (s.drum d).state.busy = false) ∧
      [s.filtration.lastFlushed + 1, s.filtration.lastFlushed + 2, s.filtration.lastFlushed + 3, s.filtration.lastFlushed] = [3] ++ 0 :: [1, 2] ∧
      (∀ e ∈ [(3 : DrumNo)], s.flushVerdict e = .passedOver) ∧ (s.drum 0).state = .flushWait 0 ∧
      ((List.finRange 4).filter fun e => decide (e ≠ 0) && (s.drum e).state.filtering).length = 1 ∧
      s.tables.filter.waitLimit * 1000 ≤ (s.now - 0).toNat) ∧
    ((drumIs 3 (.flushWait 5000) 0 0 0 5000).tables.filter.minOnline ≤ 1) ∧
    (line.filtration.demand ≤ line.filtration.capacity ∧
      (let f : Filtration := { line.filtration with demand := 4001 }; f.capacity < f.demand ∧ f.low = false)) := by decide +kernel

theorem witness_FinesCredit :
    734 * line.tables.cls[2].fines * 100 / 1024 = 21503 ∧ ((List.finRange 4).filter fun d => (line.drum d).state.filtering).length = 4 ∧
    (let s : State := { line with filtration := { line.filtration with
        drums := Vector.replicate 4 { state := .offline, fines := 0, dp := 0, failed := 0 } } };
      ((List.finRange 4).filter fun d => (s.drum d).state.filtering).length = 0) ∧
    ((flushWaits 0 0).drum 2).state.filtering = false := by decide +kernel

theorem witness_DrumPhases :
    ((5000 - 5000 : Word).toNat < 2147483648 ∧ ((drumIs 0 (.flushing 5000) 9 430 0 5000).drum 0).state = .flushing 5000 ∧
      (drumIs 0 (.flushing 5000) 9 430 0 5000).holds (.drum 0) = false) ∧
    (((drumIs 0 (.settling 5000) 9 399 2 5000).drum 0).state = .settling 5000 ∧ line.tables.drum[0].enabled = true ∧
      ((drumIs 0 (.settling 5000) 9 399 2 5000).drum 0).dp < line.tables.drum[0].dpLimit) ∧
    (line.tables.drum[0].dpLimit ≤ ((drumIs 0 (.settling 5000) 9 400 1 5000).drum 0).dp ∧ ((drumIs 0 (.settling 5000) 9 400 1 5000).drum 0).failed + 1 < 3 ∧
      3 ≤ ((drumIs 0 (.settling 5000) 9 400 2 5000).drum 0).failed + 1 ∧ line.notices.captured = none) ∧
    (({ line with tables := { tables with drum := tables.drum.set 0 { DrumEntry.default with enabled := false } } } : State).tables.drum[0].enabled =
      false) ∧
    (((flushWaits 0 120000).drum 0).state = .flushWait 0 ∧
      (flushWaits 0 120000).tables.filter.waitLimit * 1000 ≤ ((flushWaits 0 120000).now - 0).toNat ∧
      ((flushWaits 0 119999).now - 0).toNat < (flushWaits 0 119999).tables.filter.waitLimit * 1000) := by decide +kernel

theorem witness_ClearDrum :
    (line.readyFor (req 4) ∧ line.activity.isReloading = false ∧ 3 < (req 4).index.toNat) ∧ (3 : DrumNo).val = (req 3).index.toNat ∧
    (line.drum 3).state = .online ∧ ((flushWaits 0 5000).drum 3).state = .offline ∧
    ((flushWaits 0 5000).readyFor (req 0) ∧ ((flushWaits 0 5000).drum 0).state = .flushWait 0 ∧ ((flushWaits 0 5000).drum 2).state = .fault) ∧
    ((drumIs 3 (.settling 6000) 0 0 0 5000).readyFor (req 3) ∧ ((drumIs 3 (.settling 6000) 0 0 0 5000).drum 3).state = .settling 6000) :=
  ⟨⟨line_ready _ rfl, rfl, by decide⟩, by decide, by decide +kernel, by decide +kernel,
    ⟨ready_of _ _ rfl rfl rfl rfl (by decide), by decide +kernel⟩, ready_of _ _ rfl rfl rfl rfl (by decide), by decide +kernel⟩

/-- The filtration of the worked case (Section 6.8): three drums of 1,200 l/min, capacity 3,600. -/
def clampLine : State :=
  { line with
    tables := { tables with
      drum := (Vector.replicate 4 { DrumEntry.default with flow := 1200, threshold := 490000 }).set 3
                { DrumEntry.default with enabled := false } }
    filtration := {
      drums := (((line.filtration.drums.set 0 { state := .online, fines := 480000, dp := 0, failed := 0 }).set 1
                 { state := .online, fines := 482900, dp := 0, failed := 0 }).set 2
                 { state := .online, fines := 333330, dp := 0, failed := 0 }).set 3 { state := .offline, fines := 0, dp := 0, failed := 0 }
      residue := 2, lastFlushed := 0
      allotments := ((line.filtration.allotments.set 4 500).set 9 800).set 11 600
      capacity := 3600, demand := 1900, low := false } }

theorem witness_CoolantClamp :
    clampLine.mode = .operating ∧ clampLine.settledLaw ∧
    (Telegram.parse (frame 54 200 0x28 [54, 2, 188]).payload = some ⟨54, 200, 0x28, [54, 2, 188]⟩) ∧
    ((∀ c : CellNo, clampLine.tables.cell[c].node ≠ 99) ∧ clampLine.hasRoom .cell = true) ∧
    (clampLine.cellOf 54 = some 4 ∧ (halfAt [54, 2, 188] 1).toNat = 700 ∧ clampLine.filtration.capacity * clampLine.tables.cell[4].share / 256 = 562 ∧
      (halfAt [54, 2, 50] 1).toNat = 562) ∧
    ({ clampLine with cellPort := { clampLine.cellPort with queue := queueOf 32 } } : State).hasRoom .cell = false :=
  ⟨rfl, ⟨rfl, rfl⟩, by decide +kernel, by decide +kernel, by decide +kernel, by decide⟩

/-! ### Witnesses: programs, events, faults and drive commands -/

/-- A chain of a descriptor of the tests' tables. -/
def chainOf (i : ActionNo) (started repetition : Nat) (inB : Bool) : Chain :=
  { source := none, trigger := { lot := none, cell := none, drum := none }, desc := tables.action[i], index := i, started := started,
    repetition := repetition, inB := inB, holdEnd := 5000, held := [tables.action[i].target] }

/-- The running line with a chain. -/
def running (c : Chain) (now : Word) : State := { line with now := now, engine := { line.engine with chain := some c } }

/-- The running line with the gate in a state and a descriptor, 12, for GATE. -/
def gateProgram (g : GateState) : State :=
  { line with tables := { tables with action := tables.action.set 12 gateChain.desc }, head := { line.head with gate := g } }

theorem witness_ProgramStarts :
    (line.readyFor (req 32) ∧ line.activity.isReloading = false ∧ 31 < (req 32).index.toNat) ∧
    ((running (chainOf 20 1 1 false) 5000).readyFor (req 31) ∧ (req 31).index.toNat ≤ 31 ∧ (running (chainOf 20 1 1 false) 5000).engine.chain ≠ none) ∧
    (line.readyFor (req 31) ∧ (31 : ActionNo).val = (req 31).index.toNat ∧ line.engine.chain = none ∧ line.tables.action[20].target = .belt ∧
      line.tables.action[4].target = .crusher ∧ line.tables.action[9].target = .drum 1) ∧
    ((gateProgram (.moving (some 3) 4000 false)).readyFor (req 12) ∧ (gateProgram (.moving (some 3) 4000 false)).tables.action[12].target = .gate ∧
      (gateProgram (.settled 2)).readyFor (req 12) ∧ (gateProgram (.settled 2)).engine.chain = none) :=
  ⟨⟨line_ready _ rfl, rfl, by decide⟩, ⟨ready_of _ _ rfl rfl rfl rfl (by decide), by decide, by decide +kernel⟩,
    ⟨line_ready _ rfl, by decide +kernel⟩, ready_of _ _ rfl rfl rfl rfl (by decide), by decide +kernel, ready_of _ _ rfl rfl rfl rfl (by decide), rfl⟩

theorem witness_ProgramSteps :
    (running (chainOf 4 1 1 false) 4999).engine.chain = some (chainOf 4 1 1 false) ∧
    (2147483648 ≤ ((4999 : Word) - (chainOf 4 1 1 false).holdEnd).toNat ∧ (running (chainOf 4 1 1 false) 4999).settledLaw) ∧
    (((5000 : Word) - (chainOf 4 1 1 false).holdEnd).toNat < 2147483648 ∧ (chainOf 4 1 1 false).inB = false ∧
      (chainOf 4 1 1 false).desc.stepB = .present { mode := .stop, setpoint := 0, hold := 500 } ∧ (chainOf 4 1 1 false).desc.target ≠ .belt) ∧
    ((chainOf 4 1 1 true).inB = true ∧ ({ running (chainOf 4 1 1 true) 5000 with head := { line.head with current := 150 } } : State).endTestPasses
        (chainOf 4 1 1 true).desc = false ∧
      (chainOf 4 1 1 true).repetition < (if (chainOf 4 1 1 true).desc.repeats = 0 then 256 else (chainOf 4 1 1 true).desc.repeats.toNat)) ∧
    ((chainOf 20 1 1 false).desc.target = .belt ∧ (chainOf 20 1 1 false).desc.stepB = .absent 1 0 0) :=
  ⟨rfl, ⟨by decide, rfl, rfl⟩, by decide +kernel, by decide +kernel, by decide +kernel⟩

theorem witness_ChainEnds :
    ((running (chainOf 4 1 2 true) 5000).engine.chain = some (chainOf 4 1 2 true) ∧ ((5000 : Word) - (chainOf 4 1 2 true).holdEnd).toNat < 2147483648 ∧
      (∀ i : SourceNo, (running (chainOf 4 1 2 true) 5000).engine.waiting[i] = none) ∧ (chainOf 4 1 2 true).desc.endTest = .currentLow ∧
      ({ running (chainOf 4 1 2 true) 5000 with head := { line.head with current := 149 } } : State).head.current < line.tables.crusher.clearLevel) ∧
    ((chainOf 9 1 1 false).desc.target = .drum 1 ∧ (chainOf 9 1 1 false).desc.endTest = .dpLow ∧
      ((drumIs 1 .online 0 399 0 5000).drum 1).dp < line.tables.drum[1].dpLimit ∧ (chainOf 9 1 1 false).desc.stepB = .absent 0 0 0) ∧
    ((chainOf 20 64 1 false).desc.endTest = .none ∧ (chainOf 20 64 1 false).desc.link = some 20 ∧ 64 ≤ (chainOf 20 64 1 false).started ∧
      (chainOf 20 63 1 false).started < 64 ∧
      (if (chainOf 20 64 1 false).desc.repeats = 0 then 256 else (chainOf 20 64 1 false).desc.repeats.toNat) ≤ (chainOf 20 64 1 false).repetition) ∧
    (gateChain.desc.endTest = .none ∧ gateChain.desc.link = none) ∧
    (line.readyFor (req 0) ∧ line.activity.isReloading = false ∧ line.engine.chain = none ∧ (running (chainOf 20 1 1 false) 5000).readyFor (req 0)) :=
  ⟨by decide +kernel, by decide +kernel, by decide +kernel, by decide +kernel, line_ready _ rfl, rfl, rfl, ready_of _ _ rfl rfl rfl rfl (by decide)⟩

/-- A chain that holds three targets, and the gate's own route. -/
def holdsThree : Chain := { gateChain with held := [.belt, .gate, .drum 1] }

/-- The releases of a chain's end: the three targets without the crusher, each case of the gate, and the crusher. -/
theorem witness_ChainEnds_releases :
    ((running holdsThree 5000).engine.chain = some holdsThree ∧ (∀ i : SourceNo, (running holdsThree 5000).engine.waiting[i] = none) ∧
      holdsThree.desc.notifyAtEnd = false ∧ holdsThree.source = some 15 ∧ (running holdsThree 5000).tables.route[15].notify = false ∧
      .crusher ∉ holdsThree.held ∧ .belt ∈ holdsThree.held ∧ .gate ∈ holdsThree.held ∧ .drum 1 ∈ holdsThree.held ∧ .belt ∉ gateChain.held ∧
      .gate ∉ (chainOf 20 1 1 false).held) ∧
    ((running holdsThree 5000).gateTarget = none ∧ (running holdsThree 5000).head.gate = .settled 2 ∧
      ({ loading with engine := (running holdsThree 5000).engine } : State).gateTarget = some 3 ∧
      ({ running holdsThree 5000 with head := { line.head with gate := .moving (some 5) 4000 true } } : State).head.gate = .moving (some 5) 4000 true ∧
      ({ running holdsThree 5000 with head := { line.head with gate := .moving none 0 false } } : State).gateTarget = none) ∧
    ((running (chainOf 4 1 2 true) 5000).engine.chain = some (chainOf 4 1 2 true) ∧ .crusher ∈ (chainOf 4 1 2 true).held ∧
      (chainOf 4 1 2 true).source = none ∧ (chainOf 4 1 2 true).desc.notifyAtEnd = false ∧ ChainOutcome.aborted ≠ .cleared) := by decide +kernel

/-- The running line with a chain and two pending triggers: source 3, whose route is the default one, and source 15, whose route is given. -/
def pends (e : RouteEntry) (both : Bool) : State :=
  { line with
    tables := { tables with route := tables.route.set 15 e }
    engine := { line.engine with
      chain := some gateChain
      waiting := (line.engine.waiting.set 15 (some gateChain.trigger)).set 3 (if both then some gateChain.trigger else none) } }

/-- The notice of a chain's end, and the trigger that the freed engine serves. -/
theorem witness_ChainEnds_noticesAndTriggers :
    ({ gateChain with desc := { gateChain.desc with notifyAtEnd := true } } : Chain).desc.notifyAtEnd = true ∧
    (let s : State := { running gateChain 5000 with tables := { tables with
        route := tables.route.set 15 { RouteEntry.default with program := some 12, notify := true, notifyAfter := true } } };
      gateChain.source = some 15 ∧ s.tables.route[15].notify = true ∧ s.tables.route[15].notifyAfter = true ∧ s.tables.node.supervisor ≠ 0 ∧
        s.hasRoom .plant = true ∧ ∀ i : SourceNo, s.engine.waiting[i] = none) ∧
    ((pends { RouteEntry.default with program := some 20 } false).nextTrigger = some 15 ∧
      (pends { RouteEntry.default with program := some 20 } false).engine.waiting[15] = some gateChain.trigger ∧
      (pends { RouteEntry.default with program := some 20 } false).tables.route[15].program = some 20) ∧
    ((pends RouteEntry.default false).nextTrigger = some 15 ∧ (pends RouteEntry.default false).tables.route[15].program = none ∧
      ∀ j : SourceNo, j ≠ 15 → (pends RouteEntry.default false).engine.waiting[j] = none) ∧
    (let s := pends { RouteEntry.default with program := some 20 } true;
      s.nextTrigger = some 3 ∧ s.engine.waiting[3] = some gateChain.trigger ∧ s.tables.route[3].program = none ∧
        (dropTrigger 3 s).nextTrigger = some 15 ∧ s.engine.waiting[15] = some gateChain.trigger ∧ s.tables.route[15].program = some 20) := by
  decide +kernel

/-- An occurrence of a source. -/
def occurrence (i : SourceNo) : Occurrence := { source := i, lot := none, cell := none, drum := none }

/-- The running line with an occurrence to take. -/
def raisedIn (i : SourceNo) : State := { line with raised := [occurrence i] }

theorem witness_OccurrencesAndNotices :
    ({ State.reset with raised := [occurrence 15] } : State).mode = .loading ∧
    ((raisedIn 6).raised = [occurrence 6] ∧ (raisedIn 6).mode = .operating ∧ (raisedIn 6).tables.route[6].program = none ∧
      (raisedIn 6).tables.route[6].overriding = true ∧ (raisedIn 6).tables.route[6].notify = false) ∧
    ((raisedIn 8).tables.route[8].program = none ∧ (raisedIn 8).tables.route[8].notify = true ∧ (raisedIn 8).tables.route[8].notifyAfter = false ∧
      (raisedIn 8).router.flags[8] = false) ∧
    ((raisedIn 0).tables.route[0].overriding = false ∧ (raisedIn 0).tables.route[0].notify = false) ∧
    (let s : State := { line with
        engine := { line.engine with waiting := line.engine.waiting.set 15 (some gateChain.trigger) }
        tables := { tables with route := tables.route.set 15 { RouteEntry.default with urgent := true } } };
      s.engine.waiting[15] ≠ none ∧ s.tables.route[15].urgent = true ∧
        ∀ j : SourceNo, j < 15 → s.engine.waiting[j] ≠ none → s.tables.route[j].urgent = false) ∧
    ((running gateChain 5000).engine.chain ≠ none ∧ (running gateChain 5000).engine.waiting[0] = none) ∧
    (State.reset.tables.node.supervisor = 0 ∧ line.tables.node.supervisor ≠ 0 ∧ line.hasRoom .plant = true ∧
      ({ line with plantPort := { line.plantPort with queue := queueOf 32 } } : State).hasRoom .plant = false) := by decide +kernel

/-- The running line with an occurrence of source 15, whose route is given, and a chain or none. -/
def routed (e : RouteEntry) (c : Option Chain) : State :=
  { raisedIn 15 with tables := { tables with route := tables.route.set 15 e }, engine := { line.engine with chain := c } }

/-- A route that starts a program on a free engine and on a busy one, with an override and a notice, and a route that overrides and notifies. -/
theorem witness_OccurrencesAndNotices_routes :
    (∀ c ∈ [none, some gateChain],
      let s := routed { program := some 9, notify := true, notifyAfter := false, urgent := false, overriding := true } c;
      s.raised = [occurrence 15] ∧ s.mode = .operating ∧ s.tables.route[15].program = some 9 ∧ s.tables.action[9].target = .drum 1 ∧
        s.tables.route[15].overriding = true ∧ s.tables.route[15].notify = true ∧ s.tables.route[15].notifyAfter = false ∧
        s.router.flags[15] = false ∧ s.engine.chain = c) ∧
    (let s := routed { RouteEntry.default with notify := true, overriding := true } none;
      s.raised = [occurrence 15] ∧ s.tables.route[15].program = none ∧ s.tables.route[15].overriding = true ∧ s.tables.route[15].notify = true ∧
        s.tables.route[15].notifyAfter = false ∧ s.router.flags[15] = false) := by decide +kernel

theorem witness_ClearingCommands :
    line.readyFor (req 15) ∧ line.activity.isReloading = false ∧ (15 : SourceNo).val = (req 15).index.toNat ∧ (req 255).index = 255 ∧
    (15 < (req 16).index.toNat ∧ (req 16).index ≠ 255 ∧ (req 254).index ≠ 255) ∧ Counter.passes ≠ Counter.surges :=
  ⟨line_ready _ rfl, rfl, by decide, rfl, by decide, by decide⟩

/-- A coalescer entry of the belt. -/
def beltEntry (setpoint : Nat) (created : Word) (urgent : Bool) : Entry :=
  { target := .belt, mode := .run, setpoint := setpoint, created := created, urgent := urgent }

/-- A coalescer entry of the gate. -/
def gateEntry : Entry := { target := .gate, mode := .move, setpoint := 5, created := 2, urgent := false }

/-- The running line with entries in the coalescer at a time. -/
def coalescing (entries : List Entry) (now : Word) : State :=
  { line with now := now, coalescer := { entries := entries, waiting := false } }

theorem witness_DriveCommands :
    (∀ e ∈ (coalescing [beltEntry 600 0 false] 3).coalescer.entries, e.target ≠ .gate) ∧
    ((coalescing [beltEntry 600 0 false, gateEntry] 3).coalescer.entries = [beltEntry 600 0 false] ++ gateEntry :: [] ∧
      ∀ x ∈ [beltEntry 600 0 false] ++ [], x.target ≠ gateEntry.target) ∧
    ((coalescing [gateEntry, beltEntry 0 0 true] 3).coalescer.entries = [gateEntry] ++ beltEntry 0 0 true :: [] ∧
      (∀ x ∈ [gateEntry], x.urgent = false) ∧ (beltEntry 0 0 true).urgent = true) ∧
    ((coalescing [beltEntry 600 0 false] 4).tables.coalesceAge ≤ ((coalescing [beltEntry 600 0 false] 4).now - 0).toNat ∧
      ((coalescing [beltEntry 600 0 false] 3).now - 0).toNat < (coalescing [beltEntry 600 0 false] 3).tables.coalesceAge) ∧
    ((coalescing [beltEntry 600 0 false] 4).coalescer = { entries := [beltEntry 600 0 false], waiting := false } ∧
      (coalescing [beltEntry 600 0 false] 4).driveNode .belt ≠ 0 ∧ (coalescing [beltEntry 600 0 false] 4).hasRoom .plant = true ∧
      State.reset.driveNode .belt = 0 ∧
      ({ coalescing [beltEntry 600 0 false] 4 with plantPort := { line.plantPort with queue := queueOf 32 } } : State).hasRoom .plant = false) := by
  decide +kernel

/-! ### Witnesses: reads and writes -/

theorem witness_ReadsAnswered :
    (∀ r : Req, r.port = .plant → line.readyFor r) ∧ 13 < (reqOf 14 0 0).selector.toNat ∧
    (∀ k : Fin 14, ∃ n, tableSize (reqOf (BitVec.ofNat 8 k.val) 0 0).selector.toNat = some n ∧ 0 < n) ∧
    (tableSize 0 = some 32 ∧ 32 ≤ (reqOf 0 32 0).index.toNat ∧ (reqOf 0 31 0).index.toNat < 32) ∧
    ((reqOf 0 0 0).count = 0 ∧ 16 < (reqOf 0 0 17).count.toNat ∧ 1 ≤ (reqOf 0 112 16).count.toNat ∧ (reqOf 0 112 16).count.toNat ≤ 16 ∧
      (reqOf 0 112 16).index.toNat + (reqOf 0 112 16).count.toNat ≤ line.tables.belt.length ∧
      line.tables.belt.length < (reqOf 0 113 16).index.toNat + (reqOf 0 113 16).count.toNat ∧ line.tables.belt.length ≤ (reqOf 0 128 1).index.toNat) ∧
    (63 < (reqOf 1 64 0).index.toNat ∧ (63 : LotNo).val = (reqOf 1 63 0).index.toNat ∧ 23 < (reqOf 2 24 0).index.toNat ∧
      waiting.request 14 = some (request 3 8 1400 3000 false) ∧ (14 : CellNo).val = (reqOf 2 14 0).index.toNat ∧ waiting.request 23 = none ∧
      (23 : CellNo).val = (reqOf 2 23 0).index.toNat ∧ (reqOf 10 2 0).index = 2 ∧ (reqOf 5 255 0).index = 255) ∧
    (3 < (reqOf 5 4 0).index.toNat ∧ (reqOf 5 254 0).index ≠ 255 ∧ (3 : DrumNo).val = (reqOf 5 3 0).index.toNat ∧ 15 < (reqOf 8 16 0).index.toNat ∧
      (15 : SourceNo).val = (reqOf 8 15 0).index.toNat ∧ 10 < (reqOf 10 11 0).index.toNat ∧ groupRange (reqOf 10 10 0).index.toNat ≠ none) :=
  ⟨fun r h => line_ready r h, by decide, by decide, by decide, by decide, by decide +kernel, by decide +kernel⟩

/-- Entry data: the 35 bytes that begin with a list. -/
def dataOf (l : List Byte) : List Byte := l ++ List.replicate (35 - l.length) 0

theorem witness_WriteEntryIsItsTable :
    (∀ k : Fin 14, (reqOf (BitVec.ofNat 8 k.val) 0 0).selector = BitVec.ofNat 8 k.val) ∧
    (13 < (reqOf 14 0 0).selector.toNat ∧ line.readyFor (reqOf 14 0 0)) ∧
    ((reqOf 0 31 0).selector = 0 ∧ (reqOf 0 31 0).index = BitVec.ofNat 8 (31 : Fin 32).val ∧ line.readyFor (reqOf 0 31 0) ∧ line.activity = .idle ∧
      (checkClassify (RawClassify.ofBytes (dataOf [1, 1, 0, 0x28, 0, 200, 1, 0, 4]))).isSome = true) :=
  ⟨fun _ => rfl, ⟨by decide, line_ready _ rfl⟩, rfl, rfl, line_ready _ rfl, rfl, by decide +kernel⟩

theorem witness_PlainWrites :
    (∀ k, line.readyFor (req k)) ∧ line.activity = .idle ∧
    ((31 : Fin 32).val = (req 31).index.toNat ∧ (checkClassify ⟨1, 2, 1, 0, 1, 0, 1, 0, 3⟩).isSome = true) ∧
    ((checkCell line.tables.belt.length ⟨254, 1, 127, 255⟩).isSome = true ∧ (∀ j : CellNo, j ≠ 23 → line.tables.cell[j].node ≠ 254) ∧
      line.request 23 = none ∧ line.loadingLot 23 = none) ∧
    (waiting.request 2 ≠ none ∧ (checkCell waiting.tables.belt.length ⟨52, 1, 30, 7⟩) = some { node := 52, enrolled := true, dropPoint := 30, share := 7 } ∧
      waiting.tables.cell[2] = cellAt 52 30 0 ∧
      (checkCell waiting.tables.belt.length ⟨52, 1, 31, 0⟩) = some { node := 52, enrolled := true, dropPoint := 31, share := 0 }) ∧
    (checkAction ⟨6, 4, 0, 60000, 1, 0, 0, 1, 0, 2, 31, 1⟩).isSome = true ∧ (checkRoute ⟨1, 31, 1, 1, 1⟩).isSome = true ∧
    (checkNode ⟨254, 254, 1, 1, 1⟩).isSome = true ∧ (254 : Byte) ≠ 255 :=
  ⟨fun _ => line_ready _ rfl, rfl, by decide +kernel, by decide +kernel, by decide +kernel, by decide +kernel, by decide +kernel, by decide +kernel, by decide⟩

/-- The running line held by the supervisor. -/
def held : State := { line with belt := { line.belt with supervisor := true } }

theorem witness_WritesWithEffects :
    line.readyFor (req 0) ∧ line.activity = .idle ∧
    (checkClass ⟨1, 2, 1, 1023⟩ = some { enabled := true, route := 2, mode := .crush, fines := 1023 } ∧
      checkClass ⟨1, 7, 1, 0⟩ = some { enabled := true, route := 7, mode := .crush, fines := 0 } ∧ line.tables.cls[2].route = 2 ∧
      line.tables.cls[2].mode = .crush) ∧
    ((checkBelt ⟨90, 400, 2000, 3, 30, 10, 255⟩).isSome = true ∧ 90 ≤ line.tables.cell[20].dropPoint ∧
      (checkBelt ⟨91, 400, 2000, 3, 30, 10, 255⟩).isSome = true ∧ (∀ c : CellNo, line.tables.cell[c].dropPoint < 91) ∧
      line.belt.supervisor = false ∧ (checkBelt ⟨128, 400, 2000, 3, 120, 120, 23⟩).isSome = true) ∧
    (held.readyFor (req 0) ∧ held.belt.supervisor = true ∧ (∀ p ∈ held.tracker.map, p = .empty) ∧ ∀ c, held.request c = none) ∧
    ({ line with belt := { line.belt with latched := true } } : State).belt.latched = true ∧ (checkCrusher ⟨1, 512, 100, 1, 15, 0, 600, 15, 15, 1⟩).isSome = true ∧
    (let u : State := { line with now := 64000, head := { line.head with crusher := .running 4000 } }; u.idleDue = true ∧ line.idleDue = false) ∧
    (checkFilter ⟨3, 600⟩).isSome = true ∧
    ((req 1).index = 1 ∧ checkPort ⟨20⟩ = some 20 ∧ checkPort ⟨2000⟩ = some 2000 ∧
      (let u : State := { line with tables := { line.tables with silencePlant := 100 } }; u.silenceDue .plant = true) ∧
      (let u : State := { line with tables := { line.tables with silencePlant := 101 } }; u.silenceDue .plant = false)) ∧
    checkCoalesce ⟨15⟩ = some 15 :=
  ⟨line_ready _ rfl, rfl, by decide +kernel, by decide +kernel, ⟨ready_of _ _ rfl rfl rfl rfl (by decide), by decide +kernel⟩, rfl, by decide +kernel,
    by decide +kernel, by decide +kernel, by decide +kernel, by decide +kernel⟩

theorem witness_DrumWrites :
    (∀ k, line.readyFor (req k)) ∧ line.activity = .idle ∧ (3 : DrumNo).val = (req 3).index.toNat ∧
    checkDrum ⟨0, 4000, 400, 16777215, 120, 120⟩ = some { enabled := false, flow := 4000, dpLimit := 400, threshold := 16777215, flush := 120, settle := 120 } ∧
    checkDrum ⟨1, 1000, 400, 1, 1, 1⟩ = some { enabled := true, flow := 1000, dpLimit := 400, threshold := 1, flush := 1, settle := 1 } ∧
    line.tables.drum[3] = DrumEntry.default ∧ ((drumIs 3 (.flushing 6000) 0 0 0 5000).drum 3).state.busy = true ∧
    (drumIs 3 (.flushing 6000) 0 0 0 5000).readyFor (req 3) ∧ (line.drum 3).state = .online ∧
    (clampLine.tables.drum[3].enabled = false ∧ (clampLine.drum 3).state = .offline ∧ (clampLine.drum 3).dp < 400 ∧ clampLine.readyFor (req 3)) ∧
    (1 ≤ ((drumIs 3 .online 1 399 0 5000).drum 3).fines ∧ ((drumIs 3 .online 0 399 0 5000).drum 3).fines < 1 ∧
      ((drumIs 3 .online 0 399 0 5000).drum 3).dp < 400) ∧
    ((drumIs 3 .fault 0 430 3 5000).readyFor (req 3) ∧ ((drumIs 3 .fault 0 430 3 5000).drum 3).state = .fault) ∧
    (400 ≤ ((drumIs 3 .online 0 400 0 5000).drum 3).dp ∧ ((drumIs 3 .online 0 400 0 5000).drum 3).fines < 1) ∧
    (checkDrum ⟨1, 1001, 400, 1, 1, 1⟩ = some { enabled := true, flow := 1001, dpLimit := 400, threshold := 1, flush := 1, settle := 1 } ∧
      line.tables.drum[3].flow ≠ 1001 ∧ (line.drum 3).fines < 1 ∧ (line.drum 3).dp < 400 ∧
      ((drumIs 3 (.flushWait 4000) 9 430 0 5000).drum 3).state.filtering = true ∧
      ((drumIs 3 (.flushing 6000) 0 0 0 5000).drum 3).state.filtering = false) ∧
    (let s : State := { clampLine with filtration := { clampLine.filtration with
        drums := clampLine.filtration.drums.set 3 { state := .offline, fines := 0, dp := 400, failed := 0 } } };
      s.readyFor (req 3) ∧ s.tables.drum[3].enabled = false ∧ (s.drum 3).state = .offline ∧ 400 ≤ (s.drum 3).dp) ∧
    (let s : State := { clampLine with filtration := { clampLine.filtration with
        drums := clampLine.filtration.drums.set 3 { state := .settling 6000, fines := 0, dp := 0, failed := 0 } } };
      s.readyFor (req 3) ∧ s.tables.drum[3].enabled = false ∧ (s.drum 3).state.busy = true) :=
  ⟨fun _ => line_ready _ rfl, rfl, by decide, by decide +kernel, by decide +kernel, by decide +kernel, by decide +kernel,
    ready_of _ _ rfl rfl rfl rfl (by decide), by decide +kernel, ⟨by decide +kernel, by decide +kernel, by decide +kernel,
      ready_of _ _ rfl rfl rfl rfl (by decide)⟩, by decide +kernel, ⟨ready_of _ _ rfl rfl rfl rfl (by decide), by decide +kernel⟩, by decide +kernel,
    by decide +kernel, ⟨ready_of _ _ rfl rfl rfl rfl (by decide), by decide +kernel⟩,
    ready_of _ _ rfl rfl rfl rfl (by decide), by decide +kernel⟩

/-! ### Witnesses: restart, reload, save and the laws -/

/-- The line whose restart reloads the image. -/
def reloads : State := { line with tables := { tables with node := { tables.node with reload := true } } }

theorem witness_RestartLine :
    (line.readyFor (req 0) ∧ line.activity = .idle ∧ line.tables.node.reload = false) ∧
    ((loading.cellPort.queue.length + (loading.loadingOrders .stop).length + 0 ≤ 31) ∧ loading.readyFor (req 0)) ∧
    (reloads.readyFor (req 0) ∧ reloads.tables.node.reload = true) ∧
    (let s : State := { held with activity := .reloading (req 0) 17 };
      s.activity = .reloading (req 0) 17 ∧ readImage true s.eeprom = none ∧ s.settledLaw ∧ s.hasRoom .plant = true ∧ s.belt.supervisor = true ∧
        ∀ p ∈ s.tracker.map, p = .empty) ∧
    (let s : State := { held with activity := .reloading (req 0) 17, eeprom := cellsFrom 0 (imageBytes tables), arbiter := waiting.arbiter };
      s.activity = .reloading (req 0) 17 ∧ readImage true s.eeprom = some tables ∧ s.belt.supervisor = true ∧
        (∀ p ∈ s.tracker.map, p = .empty) ∧ s.cellPort.queue.length + 3 ≤ 31 ∧ s.plantPort.queue.length + 0 < 32) ∧
    (let s : State := { loading with tables := reloads.tables };
      s.readyFor (req 0) ∧ s.activity = .idle ∧ s.tables.node.reload = true ∧
        s.cellPort.queue.length + (s.loadingOrders .stop).length + 0 ≤ 32) ∧ line.activity.isReloading = false :=
  ⟨⟨line_ready _ rfl, rfl, rfl⟩, ⟨by decide +kernel, ready_of _ _ rfl rfl rfl rfl (by decide)⟩, ⟨ready_of _ _ rfl rfl rfl rfl (by decide), rfl⟩,
    ⟨rfl, blank_reads true, ⟨rfl, rfl⟩, by decide, rfl, by decide +kernel⟩,
    ⟨rfl, image_reads, rfl, by decide +kernel, by decide, by decide⟩,
    ⟨ready_of _ _ rfl rfl rfl rfl (by decide), rfl, rfl, by decide +kernel⟩, rfl⟩

theorem witness_SaveImage :
    (line.readyFor (req 0) ∧ line.activity = .idle) ∧
    (let s : State := { line with activity := .saving (req 0) 69 };
      s.activity = .saving (req 0) 69 ∧ 69 < 70 ∧ s.eepromLaw ∧ s.hasRoom (req 0).port = true) ∧
    ({ line with activity := .saving (req 0) 0 } : State).activity = .saving (req 0) 0 ∧ (∀ r page, line.activity ≠ .saving r page) :=
  ⟨⟨line_ready _ rfl, rfl⟩, ⟨rfl, by decide, by unfold State.eepromLaw; decide, by decide⟩, rfl, fun _ _ h => by cases h⟩

theorem witness_TablesAndImageKept :
    exec .overrideSecond line = .next line ∧ Instr.overrideSecond ≠ .powerOn ∧ Instr.overrideSecond ≠ .pinReset ∧
    (State.reset.mode = .loading ∧ Instr.tableCode (.haltLine (req 0)) = none) := ⟨rfl, by decide +kernel, by decide +kernel, rfl, rfl⟩

/-- The law of the lots in a state with a lot in LOADING and one that rides, checked pitch by pitch. -/
theorem loading_lots : loading.lotLaw := by
  have hfree : ∀ l : LotNo, l ≠ 5 → l ≠ 8 → loading.lots[l] = .free none := by decide +kernel
  have h5 : loading.lots[(5 : LotNo)] = .active (lot .loading 4 2 6 4 0 734 0) := by decide +kernel
  have h8 : loading.lots[(8 : LotNo)] = .active (lot .riding 5 3 3 3 0 451 0) := by decide +kernel
  have hlen : ∀ {i : Nat} {p : Pitch}, loading.tracker.map[i]? = some p → i < 128 := by
    intro i p h
    have := (List.getElem?_eq_some_iff.mp h).1
    exact this
  have hR : ∀ (i : Fin 128) (k : ClassNo), loading.tracker.map[i.val]? = some (.reserved 5 k) ↔ k = 2 ∧ 20 ≤ i.val ∧ i.val + 4 < 20 + 6 := by
    decide +kernel
  have hL : ∀ (i : Fin 128) (k : ClassNo), loading.tracker.map[i.val]? = some (.loaded 5 k) ↔ k = 2 ∧ 20 ≤ i.val + 4 ∧ i.val < 20 := by
    decide +kernel
  refine ⟨fun l => ?_, ?_, ?_, (fun h => by cases h), (fun h => by cases h)⟩
  · by_cases e5 : l = 5
    · subst e5
      rw [h5]
      refine ⟨by decide, by decide, by decide +kernel, fun _ => ⟨rfl, by decide, fun i k => ?_, fun i k => ?_⟩, fun h => absurd rfl h⟩
      · constructor
        · exact fun h => (hR ⟨i, hlen h⟩ k).mp h
        · rintro ⟨h1, h2, h3⟩
          have h2' : 20 ≤ i := h2
          have h3' : i + 4 < 20 + 6 := h3
          exact (hR ⟨i, by omega⟩ k).mpr ⟨h1, h2', h3'⟩
      · constructor
        · exact fun h => (hL ⟨i, hlen h⟩ k).mp h
        · rintro ⟨h1, h2, h3⟩
          have h2' : 20 ≤ i + 4 := h2
          have h3' : i < 20 := h3
          exact (hL ⟨i, by omega⟩ k).mpr ⟨h1, h2', h3'⟩
    · by_cases e8 : l = 8
      · subst e8
        rw [h8]
        refine ⟨by decide, by decide, by decide +kernel, fun h => ?_, fun _ => by decide +kernel⟩
        exact absurd h (by decide)
      · rw [hfree l e5 e8]
        have : ∀ p ∈ loading.tracker.map, ∀ m, p.lot = some m → m = 5 ∨ m = 8 := by decide +kernel
        intro p hp h
        rcases this p hp l h with h | h
        · exact e5 h
        · exact e8 h
  · intro l m a b hl hm ha hb _
    have key : ∀ (n : LotNo) (c : ActiveLot), loading.lots[n] = .active c → c.state = .loading → n = 5 := by
      intro n c hc hs
      by_contra hn
      by_cases e8 : n = 8
      · subst e8
        rw [h8] at hc
        cases hc
        exact absurd hs (by decide)
      · rw [hfree n hn e8] at hc
        cases hc
    rw [key l a hl ha, key m b hm hb]
  · intro c q h
    have : ∀ c, loading.request c = none := by decide +kernel
    rw [this c] at h
    cases h

/-- Every entry of the tests' tables lies in its range. -/
theorem tables_inRange : tables.inRange := by
  refine ⟨?_, ?_, by decide +kernel, ?_, ?_, ?_, ?_, ?_, ?_, ?_, ?_, ?_, by decide, by decide, by decide, ?_⟩
  · unfold ClassifyEntry.inRange; decide +kernel
  · unfold CellEntry.inRange; decide +kernel
  · unfold ClassEntry.inRange; decide +kernel
  · unfold PlantEntry.inRange; decide +kernel
  · unfold BeltEntry.inRange; decide +kernel
  · unfold ProfileEntry.inRange; decide +kernel
  · unfold CrusherEntry.inRange; decide +kernel
  · unfold DrumEntry.inRange; decide +kernel
  · unfold FilterEntry.inRange; decide +kernel
  · have h : ∀ i : ActionNo, tables.action[i] = Descriptor.default ∨ tables.action[i] = tables.action[4] ∨ tables.action[i] = tables.action[9] ∨
        tables.action[i] = tables.action[20] := by decide +kernel
    intro i
    rcases h i with h | h | h | h <;> rw [h]
    · refine ⟨⟨by decide, by decide, rfl, by decide⟩, ⟨rfl, by decide⟩, fun h => by cases h⟩
    · refine ⟨⟨by decide +kernel, by decide +kernel, .inr (.inr rfl), by decide +kernel⟩, ⟨by decide +kernel, by decide +kernel, .inl rfl, by decide +kernel⟩,
        fun h => by cases h⟩
    · refine ⟨⟨by decide +kernel, by decide +kernel, .inr (.inr rfl), rfl⟩, rfl, fun _ => ⟨1, rfl⟩⟩
    · refine ⟨⟨by decide +kernel, by decide +kernel, rfl, by decide +kernel⟩, ⟨rfl, by decide⟩, fun h => by cases h⟩
  · unfold RouteEntry.inRange; decide +kernel
  · unfold NodeEntry.inRange; decide +kernel

/-- A state with a lot in LOADING meets every law, and a step from it gives a next state: the hypotheses of the statements about every step, and
of the image's round trip. -/
theorem witness_laws :
    loading.mapLaw ∧ loading.queueLaw ∧ loading.entryLaw ∧ loading.flushLaw ∧ loading.eepromLaw ∧ loading.settledLaw ∧ loading.setpointLaw ∧
    loading.tables.inRange ∧ loading.lotLaw ∧ loading.gapLaw ∧ step loading = .next (tick loading) := by
  refine ⟨by unfold State.mapLaw; decide +kernel, by unfold State.queueLaw; decide +kernel, by unfold State.entryLaw; decide +kernel,
    by unfold State.flushLaw; decide +kernel, by unfold State.eepromLaw; decide +kernel, ⟨rfl, rfl⟩, ⟨by decide +kernel, fun e he => ?_⟩,
    tables_inRange, loading_lots, ?_, rfl⟩
  · exact absurd he List.not_mem_nil
  · intro i j p q k m _ hi hj hp hq hkm
    have bound : ∀ {n : Nat} {r : Pitch}, loading.tracker.map[n]? = some r → n < 128 := fun h => (List.getElem?_eq_some_iff.mp h).1
    have low : ∀ n : Fin 128, ∀ r ∈ loading.tracker.map[n.val]?, ∀ c ∈ r.cls, (c = 3 ∧ n.val ≤ 3) ∨ (c = 2 ∧ 16 ≤ n.val) := by decide +kernel
    have h1 := low ⟨i, bound hi⟩ p hi k hp
    have h2 := low ⟨j, bound hj⟩ q hj m hq
    have hg : loading.tables.belt.gap = 3 := rfl
    rw [hg]
    rcases h1 with ⟨rfl, h1⟩ | ⟨rfl, h1⟩ <;> rcases h2 with ⟨rfl, h2⟩ | ⟨rfl, h2⟩
    · exact absurd rfl hkm
    · simp only at h1 h2; omega
    · simp only at h1 h2; omega
    · exact absurd rfl hkm

/-! ### One step each: resets, frames, telegrams -/

/-- The payloads that wait in a port's transmit queue. -/
def sent (p : Port) (s : State) : List (List Byte) := (s.port p).queue.map Frame.payload

/-- The reply in a queue that holds nothing else, from its status on. -/
def answer (s : State) : List Byte := ((sent .plant s).headD []).drop 8

theorem test_power_on :
    let t := after .powerOn { line with notices := { line.notices with causePin := true, furtherMinor := true } };
    t.mode = .loading ∧ t.now = 0 ∧ t.causes = (true, false, false) ∧ t.belt.supervisor = true ∧ t.belt.link = true ∧
      t.plantPort = { state := .down, queue := [] } ∧ t.notices.furtherMinor = false := by decide +kernel

theorem test_pin_reset_keeps_causes :
    (after .pinReset { line with notices := { line.notices with causePowerOn := false, causeRestart := true } }).causes = (false, true, true) := by
  decide +kernel

/-- Start-up with a missing image (R193, R194): six commands, every one unaddressed. -/
theorem test_image_load_missing :
    let t := after (.imageLoadComplete false) { State.reset with now := 100 };
    t.mode = .operating ∧ t.notices.captured = some { kind := .imageBad, time := 100, lot := none, cell := none, detail := none } ∧
      t.counter .commandsUnaddressed = 6 ∧ t.counter .loadsBad = 1 ∧ t.belt.issued = some 0 := by decide +kernel

/-- The start-up commands in their order (R194). -/
theorem test_start_up_commands :
    sent .plant (complete (startLine (takeImage (some tables) State.reset))) =
      [[32, 17, 0x30, 4, 0, 1, 0, 0], [33, 17, 0x30, 4, 1, 0, 0, 0], [35, 17, 0x30, 4, 3, 1, 0, 0], [35, 17, 0x30, 4, 4, 1, 0, 0],
       [35, 17, 0x30, 4, 5, 1, 0, 0], [35, 17, 0x30, 4, 6, 1, 0, 0]] := by decide +kernel

/-- Section 10.7, step 1: the sample is forwarded into the last free place, and its copy reaches the belt tracker. -/
theorem test_snooped_sample :
    let t := after (.frameReceived .plant true (frame 200 31 0x20 [0, 0, 3, 236])) { line with cellPort := { line.cellPort with queue := queueOf 31 } };
    t.cellPort.queue.length = 32 ∧ t.tracker.last = some 1004 ∧ t.counter (.hits 2) = 1 ∧ t.counter (.consumed .plant) = 1 := by decide +kernel

/-- Section 10.7, step 2: the forwarded frame is dropped, and its copy is foreign. -/
theorem test_foreign_sample :
    let t := after (.frameReceived .plant true (frame 200 44 0x20 [0, 0, 3, 236])) { line with cellPort := { line.cellPort with queue := queueOf 32 } };
    t.cellPort.queue.length = 32 ∧ t.counter (.forwardDropped .cell) = 1 ∧ t.counter (.foreign .plant) = 1 ∧ t.tracker.last = none ∧
      t.notices.captured = some { kind := .foreignSample, time := 5000, lot := none, cell := none, detail := some (.port .plant) } := by decide +kernel

/-- The belt of the worked arbitration before its first event (Section 3.8). -/
def arbitration : State :=
  { waiting with
    tracker := { waiting.tracker with map := List.replicate 44 .empty ++ List.replicate 4 (.loaded 7 1) ++ List.replicate 10 .empty ++
                                        List.replicate 2 (.loaded 3 3) ++ List.replicate 68 .empty }
    lots := (waiting.lots.set 3 (.active (lot .riding 14 3 2 2 0 200 0))).set 7 (.active (lot .riding 5 1 4 4 0 400 0)) }

/-- Section 3.8.1: the first pass skips cells 14 and 20, finds cell 9 not feasible and grants cell 2 lot 0. -/
theorem test_first_pass :
    let t := after (.dischargeRequest 70 1 4 500) arbitration;
    t.arbiter.pointer = 2 ∧ t.request 2 = none ∧ t.request 20 = some (request 1 4 500 5000 false) ∧
      t.lots[0] = .active (lot .loading 2 3 5 0 0 600 0) ∧ sent .cell t = [[52, 17, 0x18, 4, 0, 0, 5, 0]] ∧
      t.counter .upstreamSkips = 2 ∧ t.counter .notFeasible = 1 := by decide +kernel

/-- Section 3.8.4: a request while the cell's lot is LOADING is answered REFUSE BUSY. -/
theorem test_request_busy :
    let t := after (.dischargeRequest 54 2 5 600) loading;
    sent .cell t = [[54, 17, 0x18, 4, 4, 255, 0, 4]] ∧ t.counter .passes = 0 := by decide +kernel

/-- Lot 9 of cell 11, class 4, with two of five pitches loaded (Section 2.10). -/
def withdrawal : State :=
  { line with
    tracker := { line.tracker with map := List.replicate 38 .empty ++ List.replicate 2 (.loaded 9 4) ++ List.replicate 3 (.reserved 9 4) ++
                                     List.replicate 85 .empty }
    lots := line.lots.set 9 (.active (lot .loading 11 4 5 2 0 1000 0)) }

theorem test_withdraw_seals_short :
    let t := after (.dischargeWithdraw 61) withdrawal;
    t.lots[9] = .active { lot .riding 11 4 5 2 0 400 0 with length := 2 } ∧ sent .cell t = [[61, 17, 0x18, 4, 3, 9, 0, 0]] ∧
      t.tracker.map = List.replicate 38 .empty ++ List.replicate 2 (.loaded 9 4) ++ List.replicate 88 .empty ∧
      t.counter .finesComputed = 1562 ∧ (t.drum 0).fines = 390 ∧ t.filtration.residue = 2 := by decide +kernel

theorem test_withdraw_without_request : sent .cell (after (.dischargeWithdraw 61) line) = [[61, 17, 0x18, 4, 4, 255, 0, 7]] := by decide +kernel

/-- Section 2.9: a report while LOADING is accepted. -/
theorem test_report_accepted :
    (after (.dischargeEnd 54 5 734) { loading with lots := loading.lots.set 5 (.active (lot .loading 4 2 6 4 0 700 0)) }).lots[5] =
      .active (lot .loading 4 2 6 4 0 734 0) := by decide +kernel

/-- Section 2.9: a report while DELIVERING is late. -/
theorem test_report_late :
    let t := after (.dischargeEnd 54 5 750) { loading with lots := loading.lots.set 5 (.active (lot .delivering 4 2 6 6 3 734 366)) };
    t.lots[5] = .active (lot .delivering 4 2 6 6 3 734 366) ∧ t.counter .lateReports = 1 ∧
      t.notices.captured = some { kind := .lateMass, time := 5000, lot := some 5, cell := some 4, detail := none } := by decide +kernel

/-- Section 1.9, the first shift of sample A: lot 2's first pitch leaves, and lot 5's first pitch loads. -/
theorem test_sample_one_shift :
    let t := after (.beltSample 4294967050) { shiftStart with head := { shiftStart.head with gate := .settled 6 } };
    t.tracker = { map := .loaded 2 6 :: List.replicate 18 .empty ++ .loaded 5 2 :: List.replicate 5 (.reserved 5 2) ++ List.replicate 103 .empty,
                  last := some 4294967050, acc := 0 } ∧
      t.lots[2] = .active (lot .delivering 0 6 2 2 1 300 150) ∧ t.lots[5] = .active (lot .loading 4 2 6 1 0 700 0) ∧
      t.counter (.routeMass 6) = 150 := by decide +kernel

/-- Section 1.9, sample C: more than MPA counts ahead, rejected. -/
theorem test_sample_rejected :
    let t := after (.beltSample 1700) { line with tracker := { line.tracker with last := some 1754 } };
    t.tracker.last = some 1754 ∧ t.counter .samplesImplausible = 1 ∧ t.counter .samplesAccepted = 0 ∧ t.router.flags[4] = true := by decide +kernel

/-- Section 5.10, at 500: the third high current stalls the crusher; STOP, the belt's 0 and HOLD follow. -/
theorem test_crusher_jam :
    let t := after (.crusherStatus 510 1) (crusherIs (.running 0) 2 5000);
    t.head.crusher = .stalled ∧ t.head.jam = 3 ∧ t.belt.crusher = true ∧ sent .cell t = [[54, 17, 0x18, 4, 1, 5, 0, 0]] ∧
      sent .plant t = [[33, 17, 0x30, 4, 1, 0, 0, 0], [32, 17, 0x30, 4, 0, 1, 0, 0]] ∧ t.router.flags[0] = true ∧ t.router.flags[5] = true := by
  decide +kernel

/-- Section 5.10, at 200: a lower current sets the jam count back to 0. -/
theorem test_crusher_low_current : (after (.crusherStatus 420 1) (crusherIs (.running 0) 1 5000)).head.jam = 0 := by decide +kernel

theorem test_gate_arrives :
    (after (.gateStatus 7) (gateIs (.moving (some 7) 4000 false) 5000)).head.gate = .settled 7 := by decide +kernel

/-- A settled gate that reports it is moving is lost, and is commanded again (R89). -/
theorem test_gate_lost :
    let t := after (.gateStatus 15) line;
    t.head.gate = .moving (some 2) 5000 false ∧ t.counter .gateLost = 1 ∧ t.coalescer.entries.map (fun e => (e.target, e.setpoint)) = [(.gate, 2)] := by
  decide +kernel

/-- Section 6.9, at 0: the drum waits, because min online would not hold. -/
theorem test_filter_sample_waits :
    let s : State := { flushWaits 0 5000 with filtration := { (flushWaits 0 5000).filtration with
                         drums := (flushWaits 0 5000).filtration.drums.set 0 { state := .online, fines := 0, dp := 0, failed := 0 } } };
    let t := after (.filterSample 0 430) s;
    t.drum 0 = { state := .flushWait 5000, fines := 0, dp := 430, failed := 0 } ∧ t.counter .dpHigh = 1 ∧ t.counter .flushArbitrations = 1 ∧
      t.counter .flushesStarted = 0 := by decide +kernel

/-- Section 6.8, event 1: 700 is rewritten to the ceiling, 562. -/
theorem test_allotment_clamped :
    let t := after (.coolantAllotment .plant (frame 54 200 0x28 [54, 2, 188])) clampLine;
    (sent .cell t).map (List.take 7) = [[54, 200, 0x28, 3, 54, 2, 50]] ∧ t.filtration.allotments[4] = 562 ∧ t.filtration.demand = 1962 ∧
      t.counter .allotmentsClamped = 1 := by decide +kernel

/-- Section 6.8, event 3: the fines of a sealed lot, its flush and the capacity after it. -/
theorem test_fines_of_a_sealed_lot :
    let t := creditFines 734 2 clampLine;
    t.counter .finesComputed = 21503 ∧ (t.drum 0).fines = 487168 ∧ (t.drum 1).fines = 490068 ∧ (t.drum 1).state.busy = true ∧
      t.filtration.residue = 1 ∧ t.filtration.capacity = 2400 ∧ t.filtration.lastFlushed = 1 := by decide +kernel

/-- The DRUM1 FLUSH entry of Section 9.6. -/
def flushEntry : Entry := { target := .drum 1, mode := .flush, setpoint := 0, created := 3, urgent := true }

/-- Section 9.6, at 6: the urgent entry leaves first, and the test that follows waits again. -/
theorem test_urgent_leaves_first :
    let t := after (.frameTransmitted .plant)
               { line with now := 6, coalescer := { entries := [beltEntry 600 0 false, gateEntry, flushEntry], waiting := true },
                           plantPort := { line.plantPort with queue := queueOf 32 } };
    (sent .plant t).drop 31 = [[35, 17, 0x30, 4, 4, 4, 0, 0]] ∧ t.coalescer = { entries := [beltEntry 600 0 false, gateEntry], waiting := true } ∧
      t.counter .unloadWaits = 1 ∧ t.counter .unloadsUrgent = 1 := by decide +kernel

/-- Section 9.6, at 8: the last entry leaves by its age. -/
theorem test_last_entry_leaves_by_age :
    let t := after (.frameTransmitted .plant)
               { coalescing [gateEntry] 8 with plantPort := { line.plantPort with queue := queueOf 1 } };
    sent .plant t = [[34, 17, 0x30, 4, 2, 5, 0, 5]] ∧ t.coalescer = { entries := [], waiting := false } ∧ t.counter .unloadsByAge = 1 := by
  decide +kernel

/-! ### One step each: timers -/

/-- Section 4.9: the plant port's silence sets LINK, which holds the loading cell. -/
theorem test_plant_silence :
    let t := after (.silenceTimeout .plant) { loading with now := 5150 };
    t.plantPort.state = .down ∧ t.belt.link = true ∧ sent .cell t = [[54, 17, 0x18, 4, 1, 5, 0, 0]] ∧ t.belt.selected = 0 := by decide +kernel

theorem test_request_urgent : (after (.requestUrgent 2) (aged 14000 false)).request 2 = some (request 3 5 600 4000 true) := by decide +kernel

/-- Section 3.9, the expiry: REFUSE EXPIRED and event 11. -/
theorem test_request_expiry :
    let t := after (.requestExpiry 2) (aged 34000 true);
    t.request 2 = none ∧ sent .cell t = [[52, 17, 0x18, 4, 4, 255, 0, 5]] ∧ t.router.flags[11] = true := by decide +kernel

theorem test_override_second :
    (after .overrideSecond { line with belt := { line.belt with latched := true, seconds := 3, secondStart := 4000 } }).belt.seconds = 4 ∧
    (after .overrideSecond { line with belt := { line.belt with latched := true, seconds := 65535, secondStart := 4000 } }).belt.seconds = 65535 := by
  decide +kernel

theorem test_gate_timeout :
    let t := after .gateTimeout (gateIs (.moving (some 3) 2000 false) 5000);
    t.head.gate = .moving (some 3) 2000 true ∧ t.coalescer.entries.map (fun e => (e.target, e.setpoint)) = [(.gate, 3)] ∧ t.router.flags[15] = true := by
  decide +kernel

theorem test_start_timer :
    (after .startTimerExpiry (crusherIs (.starting 4000 2000) 0 6000)).head.crusher = .fault ∧
    (after .startTimerExpiry (delayed (.starting 4000 256) 4256)).head.crusher = .running 4256 := by decide +kernel

theorem test_idle_stop :
    let t := after .idleTimerExpiry { line with now := 64000, head := { line.head with crusher := .running 4000 } };
    t.head.crusher = .off ∧ t.counter .idleStops = 1 ∧ sent .plant t = [[33, 17, 0x30, 4, 1, 0, 0, 0]] := by decide +kernel

/-- Section 6.9, at 120: a forced flush. -/
theorem test_forced_flush :
    let t := after (.flushWaitLimit 0) (flushWaits 0 120000);
    (t.drum 0).state = .flushing 150000 ∧ t.filtration.lastFlushed = 0 ∧ t.counter .forcedFlushes = 1 ∧ t.filtration.capacity = 1000 ∧
      sent .plant t = [[35, 17, 0x30, 4, 3, 4, 0, 0]] ∧ t.router.flags[10] = true := by decide +kernel

/-- Section 6.9, at 150: the flush ends, and RUN is handed over. -/
theorem test_flush_end :
    let t := after (.flushTimeEnd 0) (drumIs 0 (.flushing 150000) 0 430 0 150000);
    (t.drum 0).state = .settling 170000 ∧ sent .plant t = [[35, 17, 0x30, 4, 3, 1, 0, 0]] := by decide +kernel

/-- Sections 6.9, at 510, and 8.6: the third failed flush is a FAULT; the notice stands before the STOP. -/
theorem test_third_failed_flush :
    let t := after (.settleTimeEnd 0) (drumIs 0 (.settling 510000) 9 415 2 510000);
    t.drum 0 = { state := .fault, fines := 0, dp := 415, failed := 3 } ∧
      t.notices.captured = some { kind := .drumFault, time := 510000, lot := none, cell := none, detail := some (.drum 0) } ∧
      sent .plant t = [[200, 17, 0x48, 6, 8, 1, 0, 255, 255, 0], [35, 17, 0x30, 4, 3, 0, 0, 0]] := by decide +kernel

/-- Section 7.9, at 1,500: the end test fails, and the second repetition issues step A. -/
theorem test_second_repetition :
    let t := after .stepHoldExpiry { running (chainOf 4 1 1 true) 5000 with head := { line.head with crusher := .reversing, current := 480 } };
    (t.engine.chain.map fun c => (c.repetition, c.inB, c.holdEnd)) = some (2, false, 6000) ∧
      t.coalescer.entries.map (fun e => (e.target, e.mode, e.setpoint)) = [(.crusher, .reverse, 40)] := by decide +kernel

/-- Section 7.9, at 5,000: CLEARED; the crusher is released and becomes STARTING with FORWARD 80. -/
theorem test_chain_cleared :
    let t := after .stepHoldExpiry { running (chainOf 4 1 2 true) 5000 with head := { line.head with crusher := .reversing, current := 140 } };
    t.engine.chain = none ∧ t.engine.lastOutcome = some .cleared ∧ t.head.crusher = .starting 5000 2000 ∧
      t.coalescer.entries.map (fun e => (e.target, e.mode, e.setpoint)) = [(.crusher, .forward, 80)] := by decide +kernel

theorem test_unload_by_age :
    sent .plant (after .coalesceAgeLimit (coalescing [beltEntry 600 0 false] 4)) = [[32, 17, 0x30, 4, 0, 1, 2, 88]] ∧
    sent .plant (after .coalesceAgeLimit (coalescing [beltEntry 600 0 false] 3)) = [] := by decide +kernel

/-- The tick queues the expiry that falls in it, and no other. -/
theorem test_tick_queues_expiry :
    (tick (drumIs 0 (.flushing 5001) 0 430 0 5000)).pending = [.flushTimeEnd 0] ∧ (tick line).pending = [] := by decide +kernel

/-! ### One step each: management -/

theorem test_read_ident : answer (after (.readIdent (req 0)) line) = [0, 3, 0x34, 0x22, 1] := by decide +kernel

theorem test_read_entry : answer (after (.readEntry (reqOf 4 0 0)) line) = [0, 10, 0, 128, 1, 144, 7, 208, 3, 30, 10, 14] := by decide +kernel

theorem test_read_entry_bad_index : answer (after (.readEntry (reqOf 4 1 0)) line) = [4, 0] := by decide +kernel

theorem test_write_entry :
    let t := after (.writeEntry (reqOf 9 20 0) (dataOf [0, 1, 7, 208, 3, 232, 0, 1, 0, 0, 0, 0, 1, 0, 255, 1])) line;
    answer t = [0, 0] ∧ t.tables.action[20].stepA = { mode := .run, setpoint := 1000, hold := 1000 } ∧ t.tables.action[20].notifyAtEnd = true := by
  decide +kernel

theorem test_write_entry_bad_table : answer (after (.writeEntry (reqOf 14 0 0) (dataOf [])) line) = [3, 0] := by decide +kernel

theorem test_write_classify :
    answer (after (.writeClassify (req 0) ⟨1, 2, 1, 0x28, 1, 0, 1, 0, 4⟩) line) = [5, 0] ∧
    (after (.writeClassify (req 0) ⟨1, 2, 0, 0x28, 1, 0, 1, 0, 4⟩) line).tables.classify[0].action = .clamp := by decide +kernel

/-- A node address stands in one entry only (R44), and a drop point does not move under a request (R8). -/
theorem test_write_cell :
    answer (after (.writeCell (req 3) ⟨52, 0, 17, 0⟩) line) = [5, 0] ∧ answer (after (.writeCell (req 2) ⟨52, 1, 31, 0⟩) waiting) = [6, 0] := by
  decide +kernel

/-- A new route of the class at the head moves the gate (R85). -/
theorem test_write_class :
    let t := after (.writeClass (req 3) ⟨1, 5, 1, 0⟩) { loading with head := { line.head with gate := .settled 3 } };
    t.tables.cls[3].route = 5 ∧ t.head.gate = .moving (some 5) 5000 false := by decide +kernel

theorem test_write_plant :
    answer (after (.writePlant (req 0) ⟨1, 2, 3, 4, 255⟩) line) = [5, 0] ∧
    (after (.writePlant (req 0) ⟨1, 2, 3, 4, 254⟩) line).tables.plant.skid = 254 := by decide +kernel

theorem test_write_belt :
    answer (after (.writeBelt (req 0) ⟨91, 400, 2000, 3, 30, 10, 255⟩) line) = [6, 0] ∧
    (after (.writeBelt (req 0) ⟨91, 400, 2000, 3, 30, 10, 255⟩) held).tracker.map = List.replicate 91 .empty := by decide +kernel

/-- A belt speed above 1000 is taken as 1000, and the override is released (R75). -/
theorem test_write_profile :
    let t := after (.writeProfile (req 0) ⟨2000, 350⟩) { line with belt := { line.belt with latched := true, selected := 300, issued := some 300 } };
    t.tables.profile = { primary := 1000, overriding := 350 } ∧ t.belt.latched = false ∧ t.belt.issued = some 1000 := by decide +kernel

theorem test_write_crusher :
    answer (after (.writeCrusher (req 0) ⟨0, 256, 80, 450, 3, 150, 60, 2, 3, 600⟩) line) = [5, 0] ∧
    (after (.writeCrusher (req 0) ⟨1, 128, 200, 450, 3, 150, 60, 3, 3, 600⟩) line).tables.crusher.speed = 100 := by decide +kernel

/-- The worked filtration case after event 3 (Section 6.8). -/
def afterSeal : State :=
  { clampLine with filtration := { clampLine.filtration with
      drums := ((clampLine.filtration.drums.set 0 { state := .online, fines := 487168, dp := 0, failed := 0 }).set 1
        { state := .flushing 9000, fines := 490068, dp := 0, failed := 0 }).set 2 { state := .online, fines := 340498, dp := 0, failed := 0 }
      residue := 1, lastFlushed := 1, capacity := 2400, demand := 2062 } }

/-- Section 6.8, event 4: the drum is disabled, the residue is discarded and CAPACITY_LOW is raised. -/
theorem test_write_drum_disables :
    let t := after (.writeDrum (req 2) ⟨0, 1200, 400, 490000, 30, 20⟩) afterSeal;
    t.drum 2 = { state := .offline, fines := 340498, dp := 0, failed := 0 } ∧ t.filtration.residue = 0 ∧ t.counter .finesUnfiltered = 1 ∧
      t.filtration.capacity = 1200 ∧ t.filtration.low = true ∧ t.router.flags[9] = true ∧ t.counter .flushArbitrations = 1 := by decide +kernel

/-- A lowered min online lets the waiting drum flush (R113). -/
theorem test_write_filter :
    ((after (.writeFilter (req 0) ⟨1, 120⟩) (flushWaits 0 5000)).drum 0).state = .flushing 35000 ∧
    answer (after (.writeFilter (req 0) ⟨1, 9⟩) (flushWaits 0 5000)) = [5, 0] := by decide +kernel

/-- DP_LOW is for drum targets (R138). -/
theorem test_write_action :
    answer (after (.writeAction (req 31) ⟨2, 5, 7, 1, 0, 0, 0, 0, 0, 2, 255, 0⟩) line) = [5, 0] ∧
    (after (.writeAction (req 31) ⟨2, 5, 7, 1, 0, 0, 0, 0, 0, 0, 31, 0⟩) line).tables.action[31].link = some 31 := by decide +kernel

theorem test_write_eventroute :
    answer (after (.writeEventroute (req 15) ⟨0, 3, 1, 0, 0⟩) line) = [5, 0] ∧
    (after (.writeEventroute (req 15) ⟨1, 3, 1, 0, 0⟩) line).tables.route[15].program = some 3 := by decide +kernel

/-- A silence time that has already passed takes the port down (R172). -/
theorem test_write_port :
    (after (.writePort (req 1) ⟨100⟩) line).plantPort.state = .down ∧ (after (.writePort (req 1) ⟨101⟩) line).plantPort.state = .up 4900 := by
  decide +kernel

/-- A lowered age limit unloads the entry that has reached it (R169). -/
theorem test_write_coalesce :
    (sent .plant (after (.writeCoalesce (req 0) ⟨3⟩) (coalescing [beltEntry 600 0 false] 3))).drop 1 = [[32, 17, 0x30, 4, 0, 1, 2, 88]] := by
  decide +kernel

/-- The reply to a NODE write carries the old node address (R190). -/
theorem test_write_node :
    let t := after (.writeNode (req 0) ⟨18, 200, 0, 0, 0⟩) line;
    sent .plant t = [[200, 17, 0x41, 6, 7, 3, 0, 0, 0, 0]] ∧ t.tables.node.node = 18 := by decide +kernel

theorem test_read_pitches :
    answer (after (.readStatePitches (reqOf 0 15 2)) loading) = [0, 6, 0, 255, 255, 2, 5, 2] ∧
    answer (after (.readStatePitches (reqOf 0 113 16)) loading) = [4, 0] := by decide +kernel

theorem test_read_lot :
    answer (after (.readStateLot (reqOf 1 5 0)) loading) = [0, 17, 1, 4, 2, 6, 6, 4, 0, 2, 222, 0, 0, 0, 0, 0, 122, 0, 124] := by decide +kernel

theorem test_read_request :
    answer (after (.readStateRequest (reqOf 2 9 0)) waiting) = [0, 13, 1, 1, 6, 3, 132, 1, 0, 0, 15, 160, 3, 5, 14] := by decide +kernel

theorem test_read_crusher :
    answer (after (.readStateCrusher (reqOf 3 0 0)) (crusherIs (.running 0) 2 5000)) = [0, 12, 2, 0, 2, 0, 0, 1, 0, 0, 0, 0, 0, 0] := by decide +kernel

theorem test_read_gate :
    answer (after (.readStateGate (reqOf 4 0 0)) (gateIs (.moving (some 3) 2000 true) 5000)) = [0, 10, 1, 3, 255, 2, 0, 0, 11, 184, 1, 0] := by
  decide +kernel

theorem test_read_drum :
    answer (after (.readStateDrum (reqOf 5 0 0)) (flushWaits 0 5000)) = [0, 17, 2, 0, 0, 0, 0, 1, 174, 0, 0, 0, 19, 136, 0, 0, 0, 0, 0] ∧
    (answer (after (.readStateDrum (reqOf 5 255 0)) clampLine)).take 12 = [0, 58, 2, 3, 14, 16, 0, 0, 7, 108, 0, 0] := by decide +kernel

theorem test_read_belt :
    answer (after (.readStateBelt (reqOf 6 0 0)) shiftStart) =
      [0, 20, 1, 255, 255, 254, 116, 0, 250, 0, 0, 0, 0, 0, 0, 255, 255, 2, 88, 3, 2, 88] := by decide +kernel

theorem test_read_program :
    answer (after (.readStateProgram (reqOf 7 0 0)) (running (chainOf 4 1 1 false) 4000)) =
      [0, 37, 1, 255, 4, 1, 0, 1, 0, 2, 0, 0, 0, 3, 232, 0, 1, 0, 0, 0, 0, 0, 0] ++ List.replicate 16 0 := by decide +kernel

/-- The running line with source 8 flagged twice. -/
def flagged : State := { line with router := { flags := line.router.flags.set 8 true, counts := line.router.counts.set 8 2 } }

theorem test_read_event : answer (after (.readStateEvent (reqOf 8 8 0)) flagged) = [0, 3, 1, 2, 0] := by decide +kernel

/-- Section 8.3.1: the record between 13,050 and 15,900. -/
theorem test_read_fault :
    answer (after (.readStateFault (reqOf 9 0 0)) { line with notices := { line.notices with
        captured := some { kind := .beltImplausible, time := 12400, lot := none, cell := none, detail := none }, furtherMinor := true } }) =
      [0, 12, 1, 7, 0, 0, 48, 112, 255, 255, 0, 0, 0, 1] := by decide +kernel

theorem test_read_counters :
    answer (after (.readStateCounters (reqOf 10 0 0)) (bumpBy .pitchesShifted 6 (bump .samplesImplausible (bumpBy .samplesAccepted 3 line)))) =
      [0, 12, 0, 0, 0, 3, 0, 0, 0, 1, 0, 0, 0, 6] := by decide +kernel

theorem test_read_routes :
    let a := answer (after (.readStateRoutes (reqOf 11 0 0)) (bump (.routeLots 2) (bumpBy (.routeMass 2) 734 line)));
    a.length = 74 ∧ (a.drop 18).take 8 = [0, 0, 2, 222, 0, 0, 0, 1] := by decide +kernel

theorem test_read_causes : answer (after (.readStateCauses (reqOf 12 0 0)) line) = [0, 3, 1, 0, 0] := by decide +kernel

/-- HOLD to the loading cell, the reply, then the belt's 0 (R69, R72, R166). -/
theorem test_halt :
    let t := after (.haltLine (req 0)) loading;
    t.belt.supervisor = true ∧ sent .cell t = [[54, 17, 0x18, 4, 1, 5, 0, 0]] ∧
      sent .plant t = [[200, 17, 0x41, 6, 7, 5, 0, 0, 0, 0], [32, 17, 0x30, 4, 0, 1, 0, 0]] := by decide +kernel

theorem test_release :
    let t := after (.releaseLine (req 0)) { loading with belt := { held.belt with selected := 0, issued := some 0 } };
    t.belt.supervisor = false ∧ sent .cell t = [[54, 17, 0x18, 4, 2, 5, 0, 0]] ∧ t.belt.issued = some 600 ∧ t.counter .passes = 1 := by
  decide +kernel

theorem test_release_override :
    let t := after (.releaseOverride (req 0)) { line with belt := { line.belt with latched := true, seconds := 8, selected := 300, issued := some 300 } };
    t.belt.latched = false ∧ t.belt.seconds = 0 ∧ t.belt.issued = some 600 := by decide +kernel

theorem test_ack_event :
    (after (.ackEvent (req 8)) flagged).router = line.router ∧ (after (.ackEvent (req 9)) flagged).router = flagged.router ∧
    answer (after (.ackEvent (req 16)) flagged) = [4, 0] := by decide +kernel

theorem test_clear_fault :
    (after (.clearFault (req 0)) { line with notices := { line.notices with furtherMajor := true, furtherMinor := true } }).notices = line.notices := by
  decide +kernel

theorem test_clear_crusher :
    let t := after (.clearCrusher (req 0)) (crusherIs .stalled 3 5000);
    t.head.crusher = .off ∧ t.head.jam = 0 ∧ t.belt.crusher = true ∧ answer (after (.clearCrusher (req 0)) (crusherIs .reversing 3 5000)) = [6, 0] := by
  decide +kernel

/-- Section 6.9, at 600: a drum in FAULT returns to ONLINE. -/
theorem test_clear_drum :
    let t := after (.clearDrum (req 2)) (flushWaits 4000 5000);
    t.drum 2 = { state := .online, fines := 0, dp := 0, failed := 0 } ∧ t.counter .flushArbitrations = 1 := by decide +kernel

/-- Section 7.10, at 0: BELT is taken and 200 is issued. -/
theorem test_start_program :
    let t := after (.startProgram (req 20)) line;
    (t.engine.chain.map fun c => (c.started, c.holdEnd, c.held)) = some (1, 6000, [.belt]) ∧ t.belt.programSetpoint = some 200 ∧ t.belt.issued = some 200 := by
  decide +kernel

theorem test_abort_program :
    let t := after (.abortProgram (req 0)) { running (chainOf 20 1 1 false) 4500 with belt := { line.belt with programSetpoint := some 200, selected := 200 } };
    t.engine.chain = none ∧ t.engine.lastOutcome = some .aborted ∧ t.belt.programSetpoint = none ∧ t.belt.issued = some 600 := by decide +kernel

theorem test_clear_counters :
    let t := after (.clearCounters (req 0)) (bumpBy .passes 9 line);
    t.counter .passes = 0 ∧ t.counter .requestsServed = 1 := by decide +kernel

theorem test_clear_causes : (after (.clearCauses (req 0)) line).causes = (false, false, false) := by decide +kernel

/-- Section 11.9, at 800: STOP of the loading lot, then the refusal, and no reply while the image is read. -/
theorem test_restart_with_reload :
    let t := after (.restartLine (req 0)) { loading with
      tables := reloads.tables, arbiter := { requests := loading.arbiter.requests.set 9 (some (request 1 6 900 1000 false)), pointer := 5 } };
    sent .cell t = [[54, 17, 0x18, 4, 3, 5, 0, 0], [59, 17, 0x18, 4, 4, 255, 0, 8]] ∧ t.activity = .reloading (req 0) 17 ∧
      t.arbiter.pointer = 23 ∧ (sent .plant t).map (List.drop 4) =
        [[0, 1, 0, 0], [1, 0, 0, 0], [3, 1, 0, 0], [4, 1, 0, 0], [5, 1, 0, 0], [6, 1, 0, 0]] := by decide +kernel

theorem test_reload_bad_image :
    let t := after (.reloadComplete false) { held with activity := .reloading (req 0) 17 };
    t.activity = .idle ∧ answer t = [0, 0] ∧ t.counter .reloadsBad = 1 ∧ t.tables = tables := by decide +kernel

theorem test_save_image :
    let t := after (.saveImage (req 0)) line;
    t.activity = .saving (req 0) 0 ∧ sent .plant t = [] ∧ answer (after (.saveImage (req 0)) t) = [1, 0] := by decide +kernel

/-- The first page holds the word count, 556 (R192). -/
theorem test_save_first_page :
    let t := after (.savePageWritten true) { line with activity := .saving (req 0) 0 };
    t.activity = .saving (req 0) 1 ∧ t.eeprom.read 0 = 2 ∧ t.eeprom.read 1 = 44 ∧ t.eeprom.wf = true ∧ t.eeprom.read 16 = Config.blankByte := by
  decide +kernel

theorem test_save_fails :
    let t := after (.savePageWritten false) { line with activity := .saving (req 0) 0 };
    t.activity = .idle ∧ answer t = [8, 0] ∧ t.counter .savesFailed = 1 := by decide +kernel

/-- The image is 1,112 bytes whose words sum to 0 (R192). -/
theorem test_image_sum : (imageBytes tables).length = 1112 ∧ wordSum (imageBytes tables) = 0 := by decide +kernel

/-- Section 5.4.1: lot 5 at indices 7 to 12, 3 to 8 and 2 to 7, with A = 8 and crusher limit 600. -/
def approaching (i : Nat) : State :=
  { line with
    tracker := { line.tracker with map := List.replicate i .empty ++ List.replicate 6 (.loaded 5 2) ++ List.replicate (122 - i) .empty }
    lots := line.lots.set 5 (.active (lot .riding 4 2 6 6 0 734 0)) }

theorem test_approach_load :
    (computeApproach (approaching 7)).head.approach = 122 ∧ (computeApproach (approaching 3)).head.approach = 610 ∧
    (computeApproach (approaching 3)).head.surge = true ∧ (computeApproach (approaching 2)).head.approach = 734 ∧
    (computeApproach (approaching 8)).head.approach = 0 := by decide +kernel

end Sys2Proof.Tests
end

section
/-! SUPPORT. The law of the lots (R4, R42) record by record: what it reads of a state, what one lot's record says of the pitches that name
the lot, and how each change of the map and of a record bears on it. -/

namespace Sys2Proof.Machine

/-! ### The pitches of one lot -/

/-- A pitch as one lot sees it: a pitch of any other lot is as good as EMPTY. -/
def Pitch.ofLot (l : LotNo) (p : Pitch) : Pitch := if p.lot = some l then p else .empty

@[simp] theorem Pitch.ofLot_empty (l : LotNo) : Pitch.ofLot l .empty = .empty := by simp [Pitch.ofLot, Pitch.lot]

theorem Pitch.ofLot_foreign {l : LotNo} {p : Pitch} (h : p.lot ≠ some l) : Pitch.ofLot l p = .empty := by simp [Pitch.ofLot, h]

@[simp] theorem Pitch.lot_ofLot (l : LotNo) (p : Pitch) : (Pitch.ofLot l p).lot = some l ↔ p.lot = some l := by
  unfold Pitch.ofLot
  split <;> simp_all [Pitch.lot]

theorem Pitch.ofLot_eq_iff {l : LotNo} {p x : Pitch} (hx : x.lot = some l) : Pitch.ofLot l p = x ↔ p = x := by
  by_cases hp : p.lot = some l
  · simp [Pitch.ofLot, hp]
  · have hne : p ≠ x := fun e => hp (e ▸ hx)
    have hempty : Pitch.empty ≠ x := fun e => by simp [← e, Pitch.lot] at hx
    simp [Pitch.ofLot, hp, hne, hempty]

/-- Two maps hold the same pitches of a lot, at the same indices. -/
def SamePitches (l : LotNo) (m m' : List Pitch) : Prop := m'.map (Pitch.ofLot l) = m.map (Pitch.ofLot l)

theorem SamePitches.getElem? {l : LotNo} {m m' : List Pitch} (h : SamePitches l m m') {x : Pitch} (hx : x.lot = some l) (i : Nat) :
    m'[i]? = some x ↔ m[i]? = some x := by
  have at_ (n : List Pitch) : (n.map (Pitch.ofLot l))[i]? = some x ↔ n[i]? = some x := by simp [Pitch.ofLot_eq_iff hx]
  rw [← at_ m', ← at_ m, h]

theorem SamePitches.countP {l : LotNo} {m m' : List Pitch} (h : SamePitches l m m') :
    (m'.countP fun p => p.lot = some l) = m.countP fun p => p.lot = some l := by
  have of (n : List Pitch) : ((n.map (Pitch.ofLot l)).countP fun p => p.lot = some l) = n.countP fun p => p.lot = some l := by
    simp [List.countP_map, Function.comp_def]
  rw [← of m', ← of m, h]

/-- A pitch that a lot does not see, replaced by another that it does not see either. -/
theorem SamePitches.set {l : LotNo} {m : List Pitch} {i : Nat} {p q : Pitch} (hp : m[i]? = some p) (h : p.lot ≠ some l)
    (hq : q.lot ≠ some l) : SamePitches l m (m.set i q) := by
  obtain ⟨hi, rfl⟩ := List.getElem?_eq_some_iff.mp hp
  unfold SamePitches
  rw [List.map_set, Pitch.ofLot_foreign hq]
  apply List.ext_getElem (by simp)
  intro j _ _
  rw [List.getElem_set]
  split
  · subst j; simp [Pitch.ofLot_foreign h]
  · rfl

/-- The reservation that one lot gives back is nothing to another (R3). -/
theorem SamePitches.release {l n : LotNo} (h : n ≠ l) (m : List Pitch) : SamePitches n m (m.map (releasePitch l)) := by
  unfold SamePitches
  rw [List.map_map]
  refine List.map_congr_left fun p _ => ?_
  cases p with
  | empty => rfl
  | loaded l' k => rfl
  | reserved l' k =>
    by_cases e : l' = l
    · have hn : (Pitch.reserved l' k).lot ≠ some n := by simpa [Pitch.lot, e] using h.symm
      simp [releasePitch, e, Pitch.ofLot_foreign (e ▸ hn)]
    · simp [releasePitch, e]

/-! ### What a record says of the map -/

/-- The record of an active lot against the map, for a cell whose drop point is taken as `dp` (R4). During a shift the cells whose crossing
test is still to come stand one index lower than their drop point. -/
structure ActiveAgrees (dp : Nat) (m : List Pitch) (l : LotNo) (a : ActiveLot) : Prop where
  short : a.length ≤ 16
  undone : a.delivered < a.length
  count : (m.countP fun p => p.lot = some l) + a.delivered = a.length
  undelivered : a.state = .loading → a.delivered = 0
  unloaded : a.state = .loading → a.loaded < a.length
  reserved : a.state = .loading → ∀ (i : Nat) (k : ClassNo), m[i]? = some (Pitch.reserved l k) ↔ k = a.cls ∧ dp ≤ i ∧ i + a.loaded < dp + a.length
  loaded : a.state = .loading → ∀ (i : Nat) (k : ClassNo), m[i]? = some (Pitch.loaded l k) ↔ k = a.cls ∧ dp ≤ i + a.loaded ∧ i < dp
  sealed : a.state ≠ .loading → ∀ (i : Nat) (k : ClassNo), m[i]? ≠ some (Pitch.reserved l k)

/-- A lot record against the map, with a drop point for each cell. -/
def LotAgrees (dp : CellNo → Nat) (m : List Pitch) (l : LotNo) : Lot → Prop
  | .free _ => ∀ p ∈ m, p.lot ≠ some l
  | .active a => ActiveAgrees (dp a.cell) m l a

theorem lotAgrees_iff (s : State) (l : LotNo) (r : Lot) : s.lotAgrees l r ↔ LotAgrees s.dropPoint s.tracker.map l r := by
  cases r with
  | free o => exact Iff.rfl
  | active a =>
    constructor
    · rintro ⟨hshort, hundone, hcount, hloading, hsealed⟩
      refine ⟨hshort, hundone, hcount, fun h => ?_, fun h => ?_, fun h => ?_, fun h => ?_,
        fun h i k e => hsealed h k (List.mem_of_getElem? e)⟩
      all_goals obtain ⟨hdel, hlt, hres, hload⟩ := hloading h
      · exact hdel
      · exact hlt
      · exact hres
      · exact hload
    · rintro ⟨hshort, hundone, hcount, hdel, hlt, hres, hload, hsealed⟩
      refine ⟨hshort, hundone, hcount, fun h => ⟨hdel h, hlt h, hres h, hload h⟩, fun h k e => ?_⟩
      obtain ⟨i, hi⟩ := List.mem_iff_getElem?.mp e
      exact hsealed h i k hi

theorem ActiveAgrees.congr {dp : Nat} {l : LotNo} {a : ActiveLot} {m m' : List Pitch} (hm : SamePitches l m m') (h : ActiveAgrees dp m l a) :
    ActiveAgrees dp m' l a where
  short := h.short
  undone := h.undone
  count := hm.countP ▸ h.count
  undelivered := h.undelivered
  unloaded := h.unloaded
  reserved hs i k := (hm.getElem? rfl i).trans (h.reserved hs i k)
  loaded hs i k := (hm.getElem? rfl i).trans (h.loaded hs i k)
  sealed hs i k e := h.sealed hs i k ((hm.getElem? rfl i).mp e)

/-- Records agree with every map that holds the same pitches of their lot. -/
theorem LotAgrees.congr {dp : CellNo → Nat} {l : LotNo} {r : Lot} {m m' : List Pitch} (hm : SamePitches l m m') (h : LotAgrees dp m l r) :
    LotAgrees dp m' l r := by
  cases r with
  | active a => exact ActiveAgrees.congr hm h
  | free o =>
    intro p hp e
    obtain ⟨i, hi⟩ := List.mem_iff_getElem?.mp hp
    exact h p (List.mem_of_getElem? ((hm.getElem? e i).mp hi)) e

/-- The drop point of a cell counts for its loading lot alone. -/
theorem LotAgrees.congr_dropPoint {dp dp' : CellNo → Nat} {l : LotNo} {r : Lot} {m : List Pitch}
    (hdp : ∀ a, r = .active a → a.state = .loading → dp' a.cell = dp a.cell) (h : LotAgrees dp m l r) : LotAgrees dp' m l r := by
  cases r with
  | free o => exact h
  | active a =>
    exact {
      short := h.short
      undone := h.undone
      count := h.count
      undelivered := h.undelivered
      unloaded := h.unloaded
      reserved := fun hs => hdp a rfl hs ▸ h.reserved hs
      loaded := fun hs => hdp a rfl hs ▸ h.loaded hs
      sealed := h.sealed }

/-- A lot that has a pitch in a map it agrees with is active. -/
theorem LotAgrees.active_of_getElem? {dp : CellNo → Nat} {l : LotNo} {r : Lot} {m : List Pitch} {i : Nat} {p : Pitch}
    (h : LotAgrees dp m l r) (hi : m[i]? = some p) (hp : p.lot = some l) : ∃ a, r = .active a := by
  cases r with
  | active a => exact ⟨a, rfl⟩
  | free o => exact absurd hp (h p (List.mem_of_getElem? hi))

/-- On a map of EMPTY pitches every record is FREE: an active lot has pitches to deliver. -/
theorem LotAgrees.free_of_empty {dp : CellNo → Nat} {l : LotNo} {r : Lot} {m : List Pitch} (h : LotAgrees dp m l r)
    (hm : ∀ p ∈ m, p = .empty) : ∃ o, r = .free o := by
  cases r with
  | free o => exact ⟨o, rfl⟩
  | active a =>
    have hzero : (m.countP fun p => p.lot = some l) = 0 := List.countP_eq_zero.mpr fun p hp => by simp [hm p hp, Pitch.lot]
    have hcount := h.count
    have hundone := h.undone
    omega

/-! ### The law with a drop point for each cell -/

/-- The record is that of a lot in LOADING for the cell. -/
def Lot.loadsFor (c : CellNo) (r : Lot) : Prop := ∃ a, r = .active a ∧ a.state = .loading ∧ a.cell = c

/-- The law of the lots (R4, R42, R193, R197) with a drop point for each cell; `lotLaw_iff` says that with the drop points of the CELL table
it is the law itself. -/
structure LotLawAt (dp : CellNo → Nat) (s : State) : Prop where
  agrees : ∀ l : LotNo, LotAgrees dp s.tracker.map l s.lots[l]
  single : ∀ (c : CellNo) (l m : LotNo), s.lots[l].loadsFor c → s.lots[m].loadsFor c → l = m
  requested : ∀ c q, s.request c = some q → (∀ l : LotNo, ¬ s.lots[l].loadsFor c) ∧ 1 ≤ q.length ∧ q.length ≤ 16
  halted : s.mode = .loading ∨ s.activity.isReloading = true → s.belt.supervisor = true ∧ ∀ l : LotNo, ∃ o, s.lots[l] = .free o

theorem LotLawAt.active {dp : CellNo → Nat} {s : State} {l : LotNo} {a : ActiveLot} (h : LotLawAt dp s) (hl : s.lots[l] = .active a) :
    ActiveAgrees (dp a.cell) s.tracker.map l a := by
  have hagrees := h.agrees l
  rwa [hl] at hagrees

theorem LotLawAt.free {dp : CellNo → Nat} {s : State} {l : LotNo} {o : Option CellNo} (h : LotLawAt dp s) (hl : s.lots[l] = .free o) :
    ∀ p ∈ s.tracker.map, p.lot ≠ some l := by
  have hagrees := h.agrees l
  rwa [hl] at hagrees

theorem loading?_eq_some_iff {r : Lot} {a : ActiveLot} : r.loading? = some a ↔ r = .active a ∧ a.state = .loading := by
  cases r with
  | free o => simp [Lot.loading?]
  | active b =>
    simp only [Lot.loading?, Option.ite_none_right_eq_some, Option.some.injEq, Lot.active.injEq]
    constructor
    · rintro ⟨h, rfl⟩; exact ⟨rfl, h⟩
    · rintro ⟨rfl, h⟩; exact ⟨h, rfl⟩

theorem loadsFor_iff {c : CellNo} {r : Lot} : r.loadsFor c ↔ ∃ a, r.loading? = some a ∧ a.cell = c := by
  simp only [Lot.loadsFor, loading?_eq_some_iff, and_assoc]

theorem loadingLot_eq_none_iff {s : State} {c : CellNo} : s.loadingLot c = none ↔ ∀ l : LotNo, ¬ s.lots[l].loadsFor c := by
  unfold State.loadingLot
  rw [List.find?_eq_none]
  constructor
  · intro h l hl
    obtain ⟨a, ha, hc⟩ := loadsFor_iff.mp hl
    refine h l (List.mem_finRange l) ?_
    rw [ha]
    exact decide_eq_true hc
  · intro h l _ hl
    split at hl
    · rename_i a ha
      exact h l (loadsFor_iff.mpr ⟨a, ha, of_decide_eq_true hl⟩)
    · cases hl

theorem loadsFor_of_loadingLot {s : State} {c : CellNo} {l : LotNo} (h : s.loadingLot c = some l) : s.lots[l].loadsFor c := by
  unfold State.loadingLot at h
  have hl := List.find?_some h
  split at hl
  · rename_i a ha
    exact loadsFor_iff.mpr ⟨a, ha, of_decide_eq_true hl⟩
  · cases hl

theorem free_of_lowestFree {s : State} {l : LotNo} (h : s.lowestFree = some l) : ∃ o, s.lots[l] = .free o := by
  unfold State.lowestFree at h
  have hl := List.find?_some h
  split at hl
  · rename_i o ho
    exact ⟨o, ho⟩
  · cases hl

theorem lotLaw_iff {s : State} : s.lotLaw ↔ LotLawAt s.dropPoint s := by
  constructor
  · rintro ⟨hagrees, hsingle, hreq, hmode, hact⟩
    refine ⟨fun l => (lotAgrees_iff s l _).mp (hagrees l), ?_, fun c q h => ?_, fun h => h.elim hmode hact⟩
    · rintro c l m ⟨a, ha, hsa, rfl⟩ ⟨b, hb, hsb, hc⟩
      exact hsingle l m a b ha hb hsa hsb hc.symm
    · exact ⟨loadingLot_eq_none_iff.mp (hreq c q h).1, (hreq c q h).2⟩
  · rintro ⟨hagrees, hsingle, hreq, hhalted⟩
    refine ⟨fun l => (lotAgrees_iff s l _).mpr (hagrees l), ?_, fun c q h => ?_, fun h => hhalted (.inl h), fun h => hhalted (.inr h)⟩
    · intro l m a b ha hb hsa hsb hc
      exact hsingle a.cell l m ⟨a, ha, hsa, rfl⟩ ⟨b, hb, hsb, hc.symm⟩
    · exact ⟨loadingLot_eq_none_iff.mpr (hreq c q h).1, (hreq c q h).2⟩

/-! ### What the law reads of a state -/

/-- What the law of the lots reads of a state. -/
structure LotView where
  map        : List Pitch
  lots       : Vector Lot 64
  requests   : Vector (Option Request) 24
  cell       : Vector CellEntry 24
  mode       : LineMode
  reloading  : Bool
  supervisor : Bool

/-- A state as the law of the lots sees it. -/
def State.lotView (s : State) : LotView :=
  { map := s.tracker.map, lots := s.lots, requests := s.arbiter.requests, cell := s.tables.cell, mode := s.mode,
    reloading := s.activity.isReloading, supervisor := s.belt.supervisor }

theorem LotLawAt.congr {dp : CellNo → Nat} {s t : State} (e : t.lotView = s.lotView) (h : LotLawAt dp s) : LotLawAt dp t := by
  simp only [State.lotView, LotView.mk.injEq] at e
  obtain ⟨emap, elots, ereq, -, emode, eact, esup⟩ := e
  obtain ⟨hagrees, hsingle, hreq, hhalted⟩ := h
  constructor
  · simpa only [emap, elots] using hagrees
  · simpa only [elots] using hsingle
  · simpa only [State.request, ereq, elots] using hreq
  · simpa only [emode, eact, esup, elots] using hhalted

theorem dropPoint_congr {s t : State} (e : t.tables.cell = s.tables.cell) : t.dropPoint = s.dropPoint := by
  funext c
  simp [State.dropPoint, e]

/-- The law of the lots depends on its view alone. -/
theorem State.lotLaw.congr {s t : State} (h : s.lotLaw) (e : t.lotView = s.lotView) : t.lotLaw := by
  have ecell : t.tables.cell = s.tables.cell := congrArg LotView.cell e
  rw [lotLaw_iff] at h ⊢
  rw [dropPoint_congr ecell]
  exact h.congr e

end Sys2Proof.Machine
end

section
/-! SUPPORT. How a request, a grant, a mass report and a withdraw bear on the law of the lots (R2, R3, R26 to R33, R42). -/

namespace Sys2Proof.Machine

/-- An active lot's record and its pitches change; every other record agrees with the new map as it stands. -/
theorem LotLawAt.change {dp dp' : CellNo → Nat} {s : State} {l : LotNo} {a : ActiveLot} {r : Lot} {m : List Pitch} (h : LotLawAt dp s)
    (hl : s.lots[l] = .active a) (hself : LotAgrees dp' m l r) (hload : ∀ c, r.loadsFor c → s.lots[l].loadsFor c)
    (hother : ∀ n : LotNo, n ≠ l → LotAgrees dp' m n s.lots[n]) : LotLawAt dp' ((s.setMap m).setLot l r) := by
  have hloads : ∀ (c : CellNo) (n : LotNo), ((s.setMap m).setLot l r).lots[n].loadsFor c → s.lots[n].loadsFor c := by
    intro c n hn
    by_cases e : n = l
    · subst e; rw [State.setLot_same] at hn; exact hload c hn
    · rwa [State.setLot_other _ _ _ _ e] at hn
  constructor
  · intro n
    by_cases e : n = l
    · subst e; rw [State.setLot_same]; exact hself
    · rw [State.setLot_other _ _ _ _ e]; exact hother n e
  · exact fun c n k hn hk => h.single c n k (hloads c n hn) (hloads c k hk)
  · exact fun c q hq => ⟨fun n hn => (h.requested c q hq).1 n (hloads c n hn), (h.requested c q hq).2⟩
  · intro hmode
    obtain ⟨o, ho⟩ := (h.halted hmode).2 l
    simp [ho] at hl

theorem Lot.not_loadsFor_free (o : Option CellNo) (c : CellNo) : ¬ (Lot.free o).loadsFor c := by simp [Lot.loadsFor]

theorem Lot.loadsFor_active {a : ActiveLot} {c : CellNo} : (Lot.active a).loadsFor c ↔ a.state = .loading ∧ a.cell = c := by
  simp [Lot.loadsFor]

/-- With no active lot, an EMPTY map and the SUPERVISOR cause in force the law holds, whatever the line mode and the activity. -/
theorem lotLaw_of_free {s : State} (hlots : ∀ l : LotNo, ∃ o, s.lots[l] = .free o) (hmap : ∀ p ∈ s.tracker.map, p = .empty)
    (hreq : ∀ c q, s.request c = some q → 1 ≤ q.length ∧ q.length ≤ 16) (hsup : s.belt.supervisor = true) : s.lotLaw := by
  have hnone : ∀ (c : CellNo) (l : LotNo), ¬ s.lots[l].loadsFor c := by
    intro c l hl
    obtain ⟨o, ho⟩ := hlots l
    exact Lot.not_loadsFor_free o c (ho ▸ hl)
  rw [lotLaw_iff]
  constructor
  · intro l
    obtain ⟨o, ho⟩ := hlots l
    rw [ho]
    intro p hp
    simp [hmap p hp, Pitch.lot]
  · exact fun c l _ hl => absurd hl (hnone c l)
  · exact fun c q hq => ⟨hnone c, hreq c q hq⟩
  · exact fun _ => ⟨hsup, hlots⟩

/-! ### Requests -/

theorem LotLawAt.setRequest_none {dp : CellNo → Nat} {s : State} (c : CellNo) (h : LotLawAt dp s) : LotLawAt dp (s.setRequest c none) where
  agrees := h.agrees
  single := h.single
  requested d q hq := by
    by_cases e : d = c
    · subst e; simp at hq
    · rw [State.setRequest_other _ _ _ _ e] at hq; exact h.requested d q hq
  halted := h.halted

theorem LotLawAt.setRequest_some {dp : CellNo → Nat} {s : State} {c : CellNo} {q : Request} (h : LotLawAt dp s)
    (hload : ∀ l : LotNo, ¬ s.lots[l].loadsFor c) (hlen : 1 ≤ q.length ∧ q.length ≤ 16) : LotLawAt dp (s.setRequest c (some q)) where
  agrees := h.agrees
  single := h.single
  requested d p hp := by
    by_cases e : d = c
    · subst e
      rw [State.setRequest_same, Option.some.injEq] at hp
      exact ⟨hload, hp ▸ hlen⟩
    · rw [State.setRequest_other _ _ _ _ e] at hp; exact h.requested d p hp
  halted := h.halted

/-! ### A grant (R2, R26) -/

/-- A map whose window is EMPTY is the window's two sides and the window. -/
theorem map_of_windowEmpty {dp len : Nat} {m : List Pitch} (h : windowEmpty dp len m = true) :
    m = m.take dp ++ List.replicate len .empty ++ m.drop (dp + len) := by
  have hw : (m.drop dp).take len = List.replicate len .empty := of_decide_eq_true h
  rw [← hw, ← List.drop_drop, List.append_assoc, List.take_append_drop, List.take_append_drop]

theorem le_length_of_windowEmpty {dp len : Nat} {m : List Pitch} (h : windowEmpty dp len m = true) (hlen : 1 ≤ len) : dp ≤ m.length := by
  have hw : (m.drop dp).take len = List.replicate len .empty := of_decide_eq_true h
  have hlength := congrArg List.length hw
  simp only [List.length_take, List.length_drop, List.length_replicate] at hlength
  omega

theorem SamePitches.writeWindow {n l : LotNo} {dp len : Nat} {k : ClassNo} {m : List Pitch} (h : n ≠ l)
    (hw : windowEmpty dp len m = true) : SamePitches n m (writeWindow dp len l k m) := by
  have hn : (Pitch.reserved l k).lot ≠ some n := by simpa [Pitch.lot] using h.symm
  unfold SamePitches
  conv_rhs => rw [map_of_windowEmpty hw]
  simp [Machine.writeWindow, Pitch.ofLot_foreign hn]

/-- The pitches of a grant's window, and no others, name the lot it opens. -/
theorem getElem?_writeWindow {dp len : Nat} {l : LotNo} {k : ClassNo} {m : List Pitch} (hdp : dp ≤ m.length)
    (hfree : ∀ p ∈ m, p.lot ≠ some l) {x : Pitch} (hx : x.lot = some l) (i : Nat) :
    (writeWindow dp len l k m)[i]? = some x ↔ x = .reserved l k ∧ dp ≤ i ∧ i < dp + len := by
  have hnone : ∀ j, m[j]? ≠ some x := fun j e => hfree x (List.mem_of_getElem? e) hx
  unfold writeWindow
  rw [List.append_assoc, List.getElem?_append, List.getElem?_append]
  simp only [List.length_take, List.length_replicate, Nat.min_eq_left hdp]
  split
  · rename_i hi
    rw [List.getElem?_take_of_lt hi]
    simp only [hnone, false_iff]
    omega
  · split
    · rename_i hlo hhi
      rw [List.getElem?_replicate_of_lt hhi, Option.some.injEq]
      constructor
      · rintro rfl; exact ⟨rfl, by omega, by omega⟩
      · exact fun e => e.1.symm
    · rw [List.getElem?_drop]
      simp only [hnone, false_iff]
      omega

theorem countP_writeWindow {dp len : Nat} {l : LotNo} {k : ClassNo} {m : List Pitch} (hfree : ∀ p ∈ m, p.lot ≠ some l) :
    ((writeWindow dp len l k m).countP fun p => p.lot = some l) = len := by
  have hzero : ∀ n : List Pitch, (∀ p ∈ n, p ∈ m) → (n.countP fun p => p.lot = some l) = 0 := fun n hn =>
    List.countP_eq_zero.mpr fun p hp => by simpa using hfree p (hn p hp)
  unfold writeWindow
  rw [List.countP_append, List.countP_append, hzero _ fun p => List.mem_of_mem_take, hzero _ fun p => List.mem_of_mem_drop,
    List.countP_replicate]
  simp [Pitch.lot]

/-- The record that a grant opens agrees with the window it writes. -/
theorem grantedLot_agrees {dp : CellNo → Nat} {c : CellNo} {q : Request} {l : LotNo} {m : List Pitch}
    (hw : windowEmpty (dp c) q.length m = true) (hlen : 1 ≤ q.length ∧ q.length ≤ 16) (hfree : ∀ p ∈ m, p.lot ≠ some l) :
    LotAgrees dp (writeWindow (dp c) q.length l q.cls m) l (grantedLot c q) := by
  have hget : ∀ x : Pitch, x.lot = some l → ∀ i : Nat, (writeWindow (dp c) q.length l q.cls m)[i]? = some x ↔ _ := fun _ hx i =>
    getElem?_writeWindow (le_length_of_windowEmpty hw hlen.1) hfree hx i
  refine ActiveAgrees.mk hlen.2 hlen.1 ?_ (fun _ => rfl) (fun _ => hlen.1) (fun _ i k => ?_) (fun _ i k => ?_) (fun h => absurd rfl h)
  · exact countP_writeWindow hfree
  · rw [hget _ rfl]
    simp only [Pitch.reserved.injEq, true_and, Nat.add_zero]
  · rw [hget _ rfl]
    simp only [reduceCtorEq, false_and, Nat.add_zero, false_iff]
    omega

theorem grant_lotView (c : CellNo) (q : Request) (l : LotNo) (s : State) :
    (grant c q l s).lotView =
      (((s.setMap (writeWindow (s.dropPoint c) q.length l q.cls s.tracker.map)).setLot l (grantedLot c q)).setRequest c none).lotView := by
  simp [grant, State.lotView, State.setRequest, State.setMap, State.setLot, State.dropPoint]

/-- The grant's lot loads for its cell, and every other lot as before. -/
theorem loadsFor_of_granted {s : State} {l n : LotNo} {c d : CellNo} {q : Request}
    (h : (s.setLot l (grantedLot c q)).lots[n].loadsFor d) : (n = l ∧ d = c) ∨ s.lots[n].loadsFor d := by
  by_cases e : n = l
  · subst e
    rw [State.setLot_same] at h
    exact .inl ⟨rfl, (Lot.loadsFor_active.mp h).2.symm⟩
  · rw [State.setLot_other _ _ _ _ e] at h
    exact .inr h

/-- A grant opens a lot of a cell that has none in LOADING, with its window in the map (R26). -/
theorem grant_lotLaw {c : CellNo} {q : Request} {l : LotNo} {s : State} (h : s.lotLaw) (hq : s.request c = some q)
    (hl : s.lowestFree = some l) (hw : windowEmpty (s.dropPoint c) q.length s.tracker.map = true) (hsup : s.belt.supervisor = false) :
    (grant c q l s).lotLaw := by
  rw [lotLaw_iff] at h
  obtain ⟨hnone, hlen⟩ := h.requested c q hq
  obtain ⟨o, ho⟩ := free_of_lowestFree hl
  have hfree := h.free ho
  refine State.lotLaw.congr (lotLaw_iff.mpr ?_) (grant_lotView c q l s)
  constructor
  · intro n
    by_cases e : n = l
    · subst e
      exact (State.setLot_same _ _ _).symm ▸ grantedLot_agrees hw hlen hfree
    · exact (State.setLot_other _ _ _ _ e).symm ▸ (h.agrees n).congr (SamePitches.writeWindow e hw)
  · intro d n k hn hk
    obtain ⟨en, ed⟩ | hn := loadsFor_of_granted hn <;> obtain ⟨ek, ed'⟩ | hk := loadsFor_of_granted hk
    · exact en.trans ek.symm
    · exact absurd (ed ▸ hk) (hnone k)
    · exact absurd (ed' ▸ hn) (hnone n)
    · exact h.single d n k hn hk
  · intro d p hp
    by_cases e : d = c
    · subst e; simp at hp
    · rw [State.setRequest_other _ _ _ _ e] at hp
      refine ⟨fun n hn => ?_, (h.requested d p hp).2⟩
      obtain ⟨-, ed⟩ | hn := loadsFor_of_granted hn
      · exact e ed
      · exact (h.requested d p hp).1 n hn
  · intro hmode
    exact absurd (h.halted hmode).1 (by simp [hsup])

/-! ### A mass report, a withdraw (R3, R30 to R33) -/

theorem ActiveAgrees.setMass {dp : Nat} {m : List Pitch} {l : LotNo} {a : ActiveLot} (h : ActiveAgrees dp m l a) (mass : Nat) :
    ActiveAgrees dp m l { a with mass := mass } :=
  ⟨h.short, h.undone, h.count, h.undelivered, h.unloaded, h.reserved, h.loaded, h.sealed⟩

theorem setMass_lotLaw {s : State} {l : LotNo} {a : ActiveLot} (h : s.lotLaw) (hl : s.lots[l] = .active a) (mass : Nat) :
    (s.setLot l (.active { a with mass := mass })).lotLaw := by
  rw [lotLaw_iff] at h ⊢
  refine h.change (m := s.tracker.map) hl ((h.active hl).setMass mass) (fun c hc => ?_) fun n _ => h.agrees n
  obtain ⟨hs, hcell⟩ := Lot.loadsFor_active.mp hc
  rw [hl]
  exact Lot.loadsFor_active.mpr ⟨hs, hcell⟩

/-- What is left of a loading lot's pitches when its reservation is given back: those that have loaded. -/
theorem getElem?_release {l : LotNo} {m : List Pitch} {x : Pitch} (hx : x.lot = some l) (i : Nat) :
    (m.map (releasePitch l))[i]? = some x ↔ m[i]? = some x ∧ ∀ k, x ≠ .reserved l k := by
  rw [List.getElem?_map, Option.map_eq_some_iff]
  constructor
  · rintro ⟨p, hp, rfl⟩
    cases p with
    | empty => simp [releasePitch, Pitch.lot] at hx
    | loaded l' k => exact ⟨hp, by simp [releasePitch]⟩
    | reserved l' k =>
      by_cases e : l' = l <;> simp [releasePitch, e, Pitch.lot] at hx
  · rintro ⟨hp, hne⟩
    refine ⟨x, hp, ?_⟩
    cases x with
    | empty => rfl
    | loaded l' k => rfl
    | reserved l' k =>
      have e : l' = l := by simpa [Pitch.lot] using hx
      exact absurd (e ▸ rfl) (hne k)

/-- As many elements satisfy a test as lie between two indices, where the test holds there and nowhere else. -/
theorem countP_of_interval {α : Type} {p : α → Bool} {m : List α} {lo n : Nat} (hlen : lo + n ≤ m.length)
    (h : ∀ (i : Nat) (x : α), m[i]? = some x → (p x = true ↔ lo ≤ i ∧ i < lo + n)) : m.countP p = n := by
  induction m generalizing lo n with
  | nil => simp only [List.length_nil] at hlen; simp; omega
  | cons x xs ih =>
    have hx := h 0 x rfl
    have hxs : ∀ (i : Nat) (y : α), xs[i]? = some y → (p y = true ↔ lo ≤ i + 1 ∧ i + 1 < lo + n) := fun i y hy => h (i + 1) y hy
    simp only [List.length_cons] at hlen
    rw [List.countP_cons]
    by_cases hlo : lo = 0
    · cases n with
      | zero =>
        rw [ih (lo := 0) (n := 0) (by omega) fun i y hy => (hxs i y hy).trans (by omega), if_neg (by rw [hx]; omega)]
      | succ n =>
        rw [ih (lo := 0) (n := n) (by omega) fun i y hy => (hxs i y hy).trans (by omega), if_pos (by rw [hx]; omega)]
    · rw [ih (lo := lo - 1) (n := n) (by omega) fun i y hy => (hxs i y hy).trans (by omega), if_neg (by rw [hx]; omega),
        Nat.add_zero]

/-- The pitches of a loading lot that have loaded number its loaded count. -/
theorem ActiveAgrees.countP_release {dp : Nat} {m : List Pitch} {l : LotNo} {a : ActiveLot} (h : ActiveAgrees dp m l a)
    (hs : a.state = .loading) (hdp : 17 ≤ dp) : ((m.map (releasePitch l)).countP fun p => p.lot = some l) = a.loaded := by
  have hshort := h.short
  have hlt := h.unloaded hs
  have hindex : ∀ (i : Nat) (x : Pitch), (m.map (releasePitch l))[i]? = some x →
      (decide (x.lot = some l) = true ↔ dp - a.loaded ≤ i ∧ i < dp - a.loaded + a.loaded) := by
    intro i x hi
    have hload := h.loaded hs i
    rw [decide_eq_true_iff]
    constructor
    · intro hx
      obtain ⟨hm, hne⟩ := (getElem?_release hx i).mp hi
      cases x with
      | empty => cases hx
      | reserved l' k => cases hx; exact absurd rfl (hne k)
      | loaded l' k =>
        cases hx
        obtain ⟨-, h1, h2⟩ := (hload k).mp hm
        omega
    · rintro ⟨h1, h2⟩
      have hm := (hload a.cls).mpr ⟨rfl, by omega, by omega⟩
      have hm' := (getElem?_release (l := l) rfl i).mpr ⟨hm, fun k => Pitch.noConfusion⟩
      rw [hi, Option.some.injEq] at hm'
      rw [hm']
      rfl
  refine countP_of_interval ?_ hindex
  obtain ⟨hnext, -⟩ := List.getElem?_eq_some_iff.mp ((h.reserved hs dp a.cls).mpr ⟨rfl, by omega, by omega⟩)
  simp only [List.length_map]
  omega

/-- A withdraw of a loading lot frees it, or seals it with the pitches that have loaded (R29 to R31). -/
theorem release_lotLaw {s : State} {l : LotNo} {a b : ActiveLot} (h : s.lotLaw) (hdp : ∀ c, 17 ≤ s.dropPoint c) (hl : s.lots[l] = .active a)
    (hs : a.state = .loading) (hb : b.state = .riding) (hlen : b.length = a.loaded) (hdel : b.delivered = a.delivered) :
    ((s.setMap (s.tracker.map.map (releasePitch l))).setLot l (if a.loaded = 0 then .free (some a.cell) else .active b)).lotLaw := by
  rw [lotLaw_iff] at h ⊢
  have ha := h.active hl
  have hcount := ha.countP_release hs (hdp a.cell)
  have hnot : ∀ {q : Prop}, b.state = .loading → q := fun hload => LotState.noConfusion (hb.symm.trans hload)
  refine h.change hl ?_ (fun c hc => ?_) fun n hn => (h.agrees n).congr (SamePitches.release hn _)
  · split
    · rename_i hzero
      rw [hzero, List.countP_eq_zero] at hcount
      exact fun p hp => by simpa using hcount p hp
    · have hshort := ha.short
      have hlt := ha.unloaded hs
      have hzero := ha.undelivered hs
      refine ActiveAgrees.mk (by omega) (by omega) (by rw [hcount]; omega) hnot hnot hnot hnot fun _ i k hi => ?_
      exact ((getElem?_release rfl i).mp hi).2 k rfl
  · split at hc
    · exact absurd hc (Lot.not_loadsFor_free _ c)
    · exact hnot (Lot.loadsFor_active.mp hc).1

end Sys2Proof.Machine
end

section
/-! SUPPORT. The single-pitch shift and its crossings keep the law of the lots (R15, R17, R27, R28, R36, R37): the map moves one index toward
the head, so that the loading lots stand one index below their drop points, and the crossing test of each cell makes up for it. -/

namespace Sys2Proof.Machine

/-! ### The move (R15) -/

theorem getElem?_append_empty {rest : List Pitch} {x : Pitch} (hx : x ≠ .empty) (i : Nat) :
    (rest ++ [Pitch.empty])[i]? = some x ↔ rest[i]? = some x := by
  rw [List.getElem?_append]
  split
  · rfl
  · rename_i hi
    rw [List.getElem?_eq_none (Nat.le_of_not_lt hi), List.getElem?_singleton]
    split
    · simpa using hx.symm
    · rfl

/-- A loading lot's pitches stand below its drop point by its loaded count at most, so none is at the head. -/
theorem ActiveAgrees.not_loading_of_head {dp : Nat} {p : Pitch} {rest : List Pitch} {l : LotNo} {a : ActiveLot}
    (h : ActiveAgrees dp (p :: rest) l a) (hdp : 17 ≤ dp) (hp : p.lot = some l) : a.state ≠ .loading ∧ ∃ k, p = .loaded l k := by
  have hshort := h.short
  have hstate : a.state ≠ .loading := by
    intro hs
    have hlt := h.unloaded hs
    cases p with
    | empty => cases hp
    | reserved l' k =>
      cases hp
      obtain ⟨-, h1, -⟩ := (h.reserved hs 0 k).mp rfl
      omega
    | loaded l' k =>
      cases hp
      obtain ⟨-, h1, -⟩ := (h.loaded hs 0 k).mp rfl
      omega
  refine ⟨hstate, ?_⟩
  cases p with
  | empty => cases hp
  | reserved l' k => cases hp; exact absurd rfl (h.sealed hstate 0 k)
  | loaded l' k => cases hp; exact ⟨k, rfl⟩

theorem ActiveAgrees.move {dp : Nat} {p : Pitch} {rest : List Pitch} {l : LotNo} {a : ActiveLot} (h : ActiveAgrees dp (p :: rest) l a)
    (hdp : 17 ≤ dp) (hp : p.lot ≠ some l) : ActiveAgrees (dp - 1) (rest ++ [.empty]) l a := by
  have hcount := h.count
  rw [List.countP_cons_of_neg (by simpa using hp)] at hcount
  refine ActiveAgrees.mk h.short h.undone ?_ h.undelivered h.unloaded (fun hs i k => ?_) (fun hs i k => ?_) fun hs i k hi => ?_
  · simpa [List.countP_append, Pitch.lot] using hcount
  · rw [getElem?_append_empty Pitch.noConfusion]
    exact (h.reserved hs (i + 1) k).trans (and_congr_right fun _ => by omega)
  · rw [getElem?_append_empty Pitch.noConfusion]
    exact (h.loaded hs (i + 1) k).trans (and_congr_right fun _ => by omega)
  · rw [getElem?_append_empty Pitch.noConfusion] at hi
    exact h.sealed hs (i + 1) k hi

/-- A lot whose pitch does not leave the map agrees with the map moved by one index, for a drop point one index lower. -/
theorem LotAgrees.move {dp : CellNo → Nat} {p : Pitch} {rest : List Pitch} {l : LotNo} {r : Lot} (h : LotAgrees dp (p :: rest) l r)
    (hdp : ∀ c, 17 ≤ dp c) (hp : p.lot ≠ some l) : LotAgrees (fun c => dp c - 1) (rest ++ [.empty]) l r := by
  cases r with
  | active a => exact ActiveAgrees.move h (hdp a.cell) hp
  | free o =>
    intro q hq
    obtain hq | hq := List.mem_append.mp hq
    · exact h q (List.mem_cons_of_mem _ hq)
    · rw [List.mem_singleton.mp hq]; exact Option.some_ne_none l |>.symm

/-! ### Delivery (R36, R37) -/

/-- What becomes of a lot's record when one of its pitches is delivered. -/
def ActiveLot.afterPitch (a : ActiveLot) (misrouted : Bool) : Lot :=
  if a.length ≤ a.delivered + 1 then .free (some a.cell)
  else .active { a with contaminated := a.contaminated || misrouted }.afterDelivery

theorem deliverPitch_lotView (l : LotNo) (k : ClassNo) (a : ActiveLot) (s : State) :
    (deliverPitch l k a s).lotView =
      (s.setLot l (a.afterPitch (gateOutcome s.head.gate s.tables.cls[k].route).2)).lotView := by
  unfold deliverPitch ActiveLot.afterPitch
  generalize gateOutcome s.head.gate s.tables.cls[k].route = outcome
  obtain ⟨route, misrouted⟩ := outcome
  by_cases hdone : a.length ≤ a.delivered + 1 <;> cases misrouted <;> simp [hdone, completeLot, State.lotView, State.setLot]

/-- The lot whose pitch leaves the map at the head: one more pitch is delivered and one less stands on the map. -/
theorem ActiveAgrees.deliver {dp : CellNo → Nat} {p : Pitch} {rest : List Pitch} {l : LotNo} {a : ActiveLot}
    (h : ActiveAgrees (dp a.cell) (p :: rest) l a) (hs : a.state ≠ .loading) (hp : p.lot = some l) (misrouted : Bool) :
    LotAgrees (fun c => dp c - 1) (rest ++ [.empty]) l (a.afterPitch misrouted) := by
  have hcount := h.count
  have hundone := h.undone
  rw [List.countP_cons_of_pos (by simpa using hp)] at hcount
  have hmoved : ((rest ++ [Pitch.empty]).countP fun p => p.lot = some l) = rest.countP fun p => p.lot = some l := by
    simp [List.countP_append, Pitch.lot]
  unfold ActiveLot.afterPitch
  split
  · have hzero : ((rest ++ [Pitch.empty]).countP fun p => p.lot = some l) = 0 := by omega
    rw [List.countP_eq_zero] at hzero
    exact fun q hq => by simpa using hzero q hq
  · have hnot : ∀ {q : Prop}, LotState.delivering = .loading → q := fun h => LotState.noConfusion h
    refine ActiveAgrees.mk h.short ?_ ?_ hnot hnot hnot hnot fun _ i k hi => ?_
    · change a.delivered + 1 < a.length
      omega
    · change _ + (a.delivered + 1) = a.length
      omega
    · rw [getElem?_append_empty Pitch.noConfusion] at hi
      exact h.sealed hs (i + 1) k hi

theorem ActiveLot.not_loadsFor_afterPitch (a : ActiveLot) (misrouted : Bool) (c : CellNo) : ¬ (a.afterPitch misrouted).loadsFor c := by
  unfold ActiveLot.afterPitch
  split
  · exact Lot.not_loadsFor_free _ c
  · exact fun h => LotState.noConfusion (Lot.loadsFor_active.mp h).1

/-- The pitch that leaves the map is handed over and the others move: the law holds for drop points one index lower. -/
theorem LotLawAt.takeDelivered {dp : CellNo → Nat} {s : State} {p : Pitch} {rest : List Pitch} (h : LotLawAt dp s) (hdp : ∀ c, 17 ≤ dp c)
    (hm : s.tracker.map = p :: rest) :
    LotLawAt (fun c => dp c - 1) (takeDelivered p (bump .pitchesShifted (s.setMap (rest ++ [.empty])))) := by
  have hagrees : ∀ l : LotNo, LotAgrees dp (p :: rest) l s.lots[l] := fun l => hm ▸ h.agrees l
  have hmove : p = .empty → LotLawAt (fun c => dp c - 1) (s.setMap (rest ++ [.empty])) := fun hp =>
    { agrees := fun l => (hagrees l).move hdp (by rw [hp]; exact Option.some_ne_none l |>.symm)
      single := h.single
      requested := h.requested
      halted := h.halted }
  have hloaded : ∀ l, p.lot = some l → ∃ a k, s.lots[l] = .active a ∧ p = .loaded l k ∧ ActiveAgrees (dp a.cell) (p :: rest) l a ∧
      a.state ≠ .loading := by
    intro l hl
    obtain ⟨a, ha⟩ := (hagrees l).active_of_getElem? (i := 0) rfl hl
    have hact : ActiveAgrees (dp a.cell) (p :: rest) l a := hm ▸ h.active ha
    obtain ⟨hs, k, hk⟩ := hact.not_loading_of_head (hdp a.cell) hl
    exact ⟨a, k, ha, hk, hact, hs⟩
  cases p with
  | empty => exact (hmove rfl).congr (by simp [Machine.takeDelivered, State.lotView])
  | reserved l k =>
    obtain ⟨a, k', -, hk, -⟩ := hloaded l rfl
    cases hk
  | loaded l k =>
    obtain ⟨a, k', ha, hk, hact, hs⟩ := hloaded l rfl
    have hchange := h.change ha (hact.deliver hs rfl (gateOutcome s.head.gate s.tables.cls[k].route).2)
      (fun c hc => absurd hc (a.not_loadsFor_afterPitch _ c))
      fun n hn => (hagrees n).move hdp (by simpa [Pitch.lot] using hn.symm)
    refine hchange.congr ?_
    have hlots : (bump .pitchesShifted (s.setMap (rest ++ [.empty]))).lots[l] = .active a := by simpa using ha
    simp only [Machine.takeDelivered, hlots]
    have heval : ∀ t : State, (evalGate t).lotView = t.lotView := fun t => by simp [State.lotView]
    rw [heval, deliverPitch_lotView]
    simp [State.lotView, State.setLot]

/-! ### The crossings (R17, R27, R28) -/

theorem sealFull_lotView (l : LotNo) (a : ActiveLot) (s : State) :
    (sealFull l a s).lotView = (s.setLot l (.active { a with state := .riding })).lotView := by
  simp [sealFull, State.lotView, State.setLot]

/-- What becomes of a loading lot's record when one of its pitches has loaded: the last one seals it. -/
def ActiveLot.loadedOne (a : ActiveLot) : ActiveLot :=
  { a with loaded := a.loaded + 1, state := if a.loaded + 1 < a.length then a.state else .riding }

theorem ActiveLot.loadedOne_loading {a : ActiveLot} (h : a.loadedOne.state = .loading) : a.loadedOne.loaded < a.length := by
  unfold ActiveLot.loadedOne at h ⊢
  split at h
  · assumption
  · cases h

theorem ActiveLot.loadedOne_sealed {a : ActiveLot} (hs : a.state = .loading) (h : a.loadedOne.state ≠ .loading) :
    a.length ≤ a.loaded + 1 := by
  unfold ActiveLot.loadedOne at h
  split at h
  · exact absurd hs h
  · omega

theorem pitchLoaded_lotView (l : LotNo) (a : ActiveLot) (s : State) :
    (pitchLoaded l a s).lotView = (s.setLot l (.active a.loadedOne)).lotView := by
  unfold pitchLoaded ActiveLot.loadedOne
  split
  · rfl
  · rw [sealFull_lotView]

/-- The pitch at a loading lot's drop point, as the crossing test takes it, becomes LOADED. -/
theorem ActiveAgrees.cross {dp : Nat} {m : List Pitch} {l : LotNo} {a : ActiveLot} (h : ActiveAgrees dp m l a) (hs : a.state = .loading) :
    ActiveAgrees (dp + 1) (m.set dp (.loaded l a.cls)) l a.loadedOne := by
  have hlt := h.unloaded hs
  have hzero := h.undelivered hs
  have hcross := (h.reserved hs dp a.cls).mpr ⟨rfl, by omega, by omega⟩
  obtain ⟨hin, hat⟩ := List.getElem?_eq_some_iff.mp hcross
  have hcount : ((m.set dp (.loaded l a.cls)).countP fun p => p.lot = some l) = m.countP fun p => p.lot = some l := by
    have hlot : (m.set dp (.loaded l a.cls)).map Pitch.lot = m.map Pitch.lot := by
      rw [List.map_set]
      refine (congrArg _ ?_).trans (List.set_getElem_self (i := dp) (h := by simpa using hin))
      rw [List.getElem_map, hat]
      rfl
    have count_lot (n : List Pitch) : (n.countP fun p => p.lot = some l) = (n.map Pitch.lot).countP fun o => o = some l := by
      simp [List.countP_map, Function.comp_def]
    rw [count_lot, hlot, ← count_lot]
  have hget : ∀ (i : Nat) (x : Pitch), (m.set dp (.loaded l a.cls))[i]? = some x ↔
      if i = dp then x = .loaded l a.cls else m[i]? = some x := by
    intro i x
    rw [List.getElem?_set]
    by_cases e : i = dp
    · simp [e, hin, eq_comm]
    · simp [e, Ne.symm e]
  refine ActiveAgrees.mk h.short h.undone (hcount ▸ h.count) (fun _ => hzero) (fun hs' => ?_) (fun hs' i k => ?_) (fun hs' i k => ?_)
    fun hs' i k hi => ?_
  · exact ActiveLot.loadedOne_loading hs'
  · rw [hget]
    split
    · simp only [reduceCtorEq, false_iff]
      omega
    · exact (h.reserved hs i k).trans (and_congr_right fun _ => by simp only [ActiveLot.loadedOne]; omega)
  · rw [hget]
    split
    · simp only [Pitch.loaded.injEq, true_and]
      exact (and_iff_left (by simp only [ActiveLot.loadedOne]; omega)).symm
    · exact (h.loaded hs i k).trans (and_congr_right fun _ => by simp only [ActiveLot.loadedOne]; omega)
  · have hlast := ActiveLot.loadedOne_sealed hs hs'
    rw [hget] at hi
    split at hi
    · cases hi
    · obtain ⟨-, h1, h2⟩ := (h.reserved hs i k).mp hi
      omega

theorem ActiveLot.loadsFor_of_loadedOne {a : ActiveLot} {c : CellNo} (h : (Lot.active a.loadedOne).loadsFor c) :
    (Lot.active a).loadsFor c := by
  obtain ⟨hs, hc⟩ := Lot.loadsFor_active.mp h
  refine Lot.loadsFor_active.mpr ⟨?_, hc⟩
  unfold ActiveLot.loadedOne at hs
  split at hs
  · exact hs
  · cases hs

/-- The crossing test of a cell that stands one index below its drop point brings it up to its drop point. -/
theorem LotLawAt.crossCell {dp : CellNo → Nat} {s : State} {c : CellNo} (h : LotLawAt dp s) (hc : dp c + 1 = s.dropPoint c) :
    LotLawAt (Function.update dp c (s.dropPoint c)) (crossCell c s) := by
  have hother : ∀ d, d ≠ c → Function.update dp c (s.dropPoint c) d = dp d := fun d hd => Function.update_of_ne hd _ _
  unfold Machine.crossCell
  split
  · rename_i hnone
    rw [loadingLot_eq_none_iff] at hnone
    refine { h with agrees := fun l => (h.agrees l).congr_dropPoint fun a ha hs => hother _ fun hd => ?_ }
    exact hnone l (ha ▸ Lot.loadsFor_active.mpr ⟨hs, hd⟩)
  · rename_i l hl
    obtain ⟨a, ha, hs, rfl⟩ := loadsFor_of_loadingLot hl
    have hact := h.active ha
    have hindex : s.tables.cell[a.cell].dropPoint - 1 = dp a.cell := Nat.sub_eq_of_eq_add hc.symm
    have hlt := hact.unloaded hs
    have hat : s.tracker.map[dp a.cell]? = some (.reserved l a.cls) := (hact.reserved hs _ _).mpr ⟨rfl, by omega, by omega⟩
    rw [loading?_eq_some_iff.mpr ⟨ha, hs⟩]
    simp only [hindex, loadPitch, hat, if_true]
    refine LotLawAt.congr (pitchLoaded_lotView _ _ _) (h.change ha ?_ (fun d hd => ha ▸ a.loadsFor_of_loadedOne hd) fun n hn => ?_)
    · have hcross := hact.cross hs
      rwa [hc, ← Function.update_self a.cell (s.dropPoint a.cell) dp] at hcross
    · refine ((h.agrees n).congr_dropPoint fun b hb hsb => hother _ fun hd => hn ?_).congr (SamePitches.set hat ?_ ?_)
      · exact h.single a.cell n l (hb ▸ Lot.loadsFor_active.mpr ⟨hsb, hd⟩) (ha ▸ Lot.loadsFor_active.mpr ⟨hs, rfl⟩)
      · simpa [Pitch.lot] using hn.symm
      · simpa [Pitch.lot] using hn.symm

/-- The crossing tests of a list of cells that stand one index below their drop points. -/
theorem LotLawAt.crossCells {dp : CellNo → Nat} {s : State} {cs : List CellNo} (hnodup : cs.Nodup) (h : LotLawAt dp s)
    (hin : ∀ c ∈ cs, dp c + 1 = s.dropPoint c) (hout : ∀ c ∉ cs, dp c = s.dropPoint c) :
    LotLawAt s.dropPoint (cs.foldl (fun t c => Machine.crossCell c t) s) := by
  induction cs generalizing dp s with
  | nil =>
    have hdp : dp = s.dropPoint := funext fun c => hout c List.not_mem_nil
    exact hdp ▸ h
  | cons c cs ih =>
    obtain ⟨hc, hnodup⟩ := List.nodup_cons.mp hnodup
    have hsame : (Machine.crossCell c s).dropPoint = s.dropPoint := dropPoint_congr (by simp)
    rw [List.foldl_cons, ← hsame]
    refine ih hnodup (h.crossCell (hin c List.mem_cons_self)) (fun d hd => ?_) fun d hd => ?_
    · rw [hsame, Function.update_of_ne (ne_of_mem_of_not_mem hd hc)]
      exact hin d (List.mem_cons_of_mem _ hd)
    · rw [hsame]
      by_cases e : d = c
      · rw [e, Function.update_self]
      · rw [Function.update_of_ne e]
        exact hout d (List.not_mem_cons_of_ne_of_not_mem e hd)

/-! ### The shift and the samples (R9 to R12) -/

/-- A drop point stands at index 17 at least, above every pitch of a lot that its cell has loaded (R8). -/
def State.dropPointsHigh (s : State) : Prop := ∀ c, 17 ≤ s.dropPoint c

theorem dropPointsHigh_of_inRange {s : State} (h : s.tables.inRange) : s.dropPointsHigh := by
  obtain ⟨-, hcell, -⟩ := h
  exact fun c => (hcell c).1

theorem State.dropPointsHigh.congr {s t : State} (h : s.dropPointsHigh) (e : t.tables = s.tables) : t.dropPointsHigh := by
  have hdp : t.dropPoint = s.dropPoint := dropPoint_congr (e ▸ rfl)
  exact fun c => hdp ▸ h c

theorem shiftPitch_lotLaw {s : State} (h : s.lotLaw) (hdp : s.dropPointsHigh) : (shiftPitch s).lotLaw := by
  have htables : (shiftPitch s).dropPoint = s.dropPoint := dropPoint_congr (by simp)
  rw [lotLaw_iff] at h ⊢
  rw [htables]
  unfold shiftPitch crossings
  split
  · exact h
  · rename_i p rest hm
    have hmoved : (takeDelivered p (bump .pitchesShifted (s.setMap (rest ++ [.empty])))).dropPoint = s.dropPoint :=
      dropPoint_congr (by simp)
    rw [← hmoved]
    refine (h.takeDelivered hdp hm).crossCells (List.nodup_finRange 24) (fun c _ => ?_) fun c hc => absurd (List.mem_finRange c) hc
    have hhigh := hdp c
    rw [hmoved]
    omega

theorem shiftPitches_lotLaw (n : Nat) {s : State} (h : s.lotLaw) (hdp : s.dropPointsHigh) : (shiftPitches n s).lotLaw := by
  induction n generalizing s with
  | zero => exact h
  | succ n ih => exact ih (shiftPitch_lotLaw h hdp) (hdp.congr (by simp))

end Sys2Proof.Machine
end

section
/-! SUPPORT. Every operation of the arbiter, the head controller, the program engine and the event router keeps the law of the lots. Most of
them change nothing that the law reads; an arbiter pass is made only while no hold is in force, so neither in LOADING nor in RELOADING. -/

namespace Sys2Proof.Machine

/-! ### The SUPERVISOR cause is set and cleared by HALT_LINE, RELEASE_LINE and the restart alone -/

@[simp] theorem issueSetpoint_supervisor (s : State) : (issueSetpoint s).belt.supervisor = s.belt.supervisor := by simp [issueSetpoint]

@[simp] theorem reselect_supervisor (s : State) : (reselect s).belt.supervisor = s.belt.supervisor := by
  unfold reselect
  split
  · rfl
  · simp

@[simp] theorem latchOverride_supervisor (s : State) : (latchOverride s).belt.supervisor = s.belt.supervisor := by
  unfold latchOverride
  split
  · rfl
  · simp

@[simp] theorem releaseOverride_supervisor (s : State) : (releaseOverride s).belt.supervisor = s.belt.supervisor := by
  unfold releaseOverride
  split
  · simp
  · rfl

@[simp] theorem beltReleased_supervisor (s : State) : (beltReleased s).belt.supervisor = s.belt.supervisor := by simp [beltReleased]

@[simp] theorem issueStep_supervisor (t : Target) (st : StepEntry) (s : State) :
    (issueStep t st s).belt.supervisor = s.belt.supervisor := by
  unfold issueStep
  split <;> simp

/-! ### Requests and the arbiter pass (R46 to R62) -/

theorem State.lotLaw.requested {s : State} {c : CellNo} {q : Request} (h : s.lotLaw) (hq : s.request c = some q) :
    s.loadingLot c = none ∧ 1 ≤ q.length ∧ q.length ≤ 16 := by
  obtain ⟨-, -, hreq, -⟩ := h
  exact hreq c q hq

theorem setRequest_none_lotLaw {s : State} (c : CellNo) (h : s.lotLaw) : (s.setRequest c none).lotLaw := by
  rw [lotLaw_iff] at h ⊢
  exact h.setRequest_none c

theorem setRequest_some_lotLaw {s : State} {c : CellNo} {q : Request} (h : s.lotLaw) (hload : s.loadingLot c = none)
    (hlen : 1 ≤ q.length ∧ q.length ≤ 16) : (s.setRequest c (some q)).lotLaw := by
  rw [lotLaw_iff] at h ⊢
  exact h.setRequest_some (loadingLot_eq_none_iff.mp hload) hlen

theorem considerRequest_lotLaw {c : CellNo} {q : Request} {s : State} (h : s.lotLaw) (hq : s.request c = some q)
    (hsup : s.belt.supervisor = false) : (considerRequest c q s).lotLaw := by
  unfold considerRequest
  split
  · exact (setRequest_none_lotLaw c h).congr (by simp [State.lotView])
  · split
    · exact h.congr (by simp [State.lotView])
    · split
      · exact h.congr (by simp [State.lotView])
      · rename_i hfeasible
        split
        · rename_i l hl
          simp only [State.feasible, Bool.and_eq_false_iff, not_or, Bool.not_eq_false] at hfeasible
          obtain ⟨⟨-, hwindow⟩, -⟩ := hfeasible
          exact grant_lotLaw h hq hl hwindow hsup
        · exact h

theorem considerCell_lotLaw (c : CellNo) {s : State} (h : s.lotLaw) (hsup : s.belt.supervisor = false) : (considerCell c s).lotLaw := by
  unfold considerCell
  split
  · exact h
  · rename_i q hq
    exact considerRequest_lotLaw h hq hsup

theorem sweepPass_lotLaw {s : State} (h : s.lotLaw) (hsup : s.belt.supervisor = false) : (sweepPass s).lotLaw := by
  have hcell : ∀ (t : State) (c : CellNo), t.lotLaw ∧ t.belt.supervisor = false →
      (considerCell c t).lotLaw ∧ (considerCell c t).belt.supervisor = false := fun t c ⟨ht, hsup⟩ =>
    ⟨considerCell_lotLaw c ht hsup, by simpa using hsup⟩
  unfold sweepPass
  refine (List.foldlRecOn (motive := fun t => t.lotLaw ∧ t.belt.supervisor = false) _ _ ?_ fun t ht c _ => hcell t c ht).1
  split
  · exact hcell s _ ⟨h, hsup⟩
  · exact ⟨h, hsup⟩

theorem arbiterPass_lotLaw {s : State} (h : s.lotLaw) : (arbiterPass s).lotLaw := by
  have hbump : (bump .passes s).lotLaw := h.congr (by simp [State.lotView])
  unfold arbiterPass
  dsimp only
  split
  · exact hbump
  · rename_i hhold
    simp only [State.holdInForce, Bool.or_eq_true, not_or, Bool.not_eq_true] at hhold
    obtain ⟨⟨hsup, -⟩, -⟩ := hhold
    exact sweepPass_lotLaw hbump hsup

/-- A request that passes the tests of R46 comes from a cell without a loading lot, and its length is 1 to 16. -/
theorem testRequest_ok {s : State} {node cls length : Byte} {c : CellNo} {k : ClassNo} {len : Nat}
    (h : s.testRequest node cls length = .ok (c, k, len)) : s.loadingLot c = none ∧ 1 ≤ len ∧ len ≤ 16 := by
  unfold State.testRequest at h
  split at h
  · cases h
  · split at h
    · cases h
    · split at h
      · cases h
      · split at h
        · cases h
        · split at h
          · cases h
          · rename_i hlength
            split at h
            · cases h
            · rename_i hload
              rw [Bool.not_eq_true, Option.isSome_eq_false_iff, Option.isNone_iff_eq_none] at hload
              obtain ⟨hzero, hlong, -⟩ := not_or.mp hlength |>.imp_right not_or.mp
              have hpos : length.toNat ≠ 0 := fun e => hzero (BitVec.eq_of_toNat_eq e)
              cases h
              exact ⟨hload, by omega⟩

theorem opDischargeRequest_lotLaw (node cls length : Byte) (mass : Half) {s : State} (h : s.lotLaw) :
    (opDischargeRequest node cls length mass s).lotLaw := by
  unfold opDischargeRequest
  split
  · exact h.congr (by simp [State.lotView])
  · rename_i c k len htest
    obtain ⟨hload, hlen⟩ := testRequest_ok htest
    have hset (q : Request) (hq : q.length = len) : (s.setRequest c (some q)).lotLaw :=
      setRequest_some_lotLaw h hload (hq ▸ hlen)
    refine arbiterPass_lotLaw ?_
    unfold placeRequest
    split
    · rename_i q _
      exact (hset { q with cls := k, length := len, mass := mass.toNat } rfl).congr (by simp [State.lotView])
    · exact (hset { cls := k, length := len, mass := mass.toNat, arrival := s.now, urgent := false } rfl).congr (by simp [State.lotView])

theorem withdrawLoading_lotView (l : LotNo) (a : ActiveLot) (s : State) :
    (withdrawLoading l a s).lotView =
      ((s.setMap (s.tracker.map.map (releasePitch l))).setLot l (if a.loaded = 0 then .free (some a.cell)
        else .active { a with state := .riding, mass := a.mass * a.loaded / a.length, length := a.loaded })).lotView := by
  unfold withdrawLoading
  by_cases hzero : a.loaded = 0 <;> simp [hzero, freeWithdrawn, sealShort, releaseLot, State.lotView, State.setMap, State.setLot]

theorem opDischargeWithdraw_lotLaw (node : Byte) {s : State} (h : s.lotLaw) (hdp : s.dropPointsHigh) :
    (opDischargeWithdraw node s).lotLaw := by
  have hrefuse : (refuse .noRequest node s).lotLaw := h.congr (by simp [State.lotView])
  unfold opDischargeWithdraw
  split
  · exact hrefuse
  · rename_i c _
    split
    · exact arbiterPass_lotLaw ((setRequest_none_lotLaw c h).congr (by simp [State.lotView]))
    · split
      · exact hrefuse
      · split
        · exact hrefuse
        · rename_i l _ _ a ha
          obtain ⟨ha, hs⟩ := loading?_eq_some_iff.mp ha
          refine arbiterPass_lotLaw (State.lotLaw.congr ?_ (withdrawLoading_lotView l a s))
          exact release_lotLaw h hdp ha hs rfl rfl rfl

theorem opDischargeEnd_lotLaw (node lot : Byte) (mass : Half) {s : State} (h : s.lotLaw) : (opDischargeEnd node lot mass s).lotLaw := by
  unfold opDischargeEnd
  split
  · rename_i l a hreport
    have ha : s.lots[l] = .active a := by
      unfold State.classifyReport classifyRecord at hreport
      repeat' split at hreport
      all_goals cases hreport
      assumption
    exact (setMass_lotLaw h ha mass.toNat).congr (by simp [State.lotView])
  · exact h.congr (by simp [State.lotView])
  · exact h.congr (by simp [State.lotView])

theorem opRequestUrgent_lotLaw (c : CellNo) {s : State} (h : s.lotLaw) : (opRequestUrgent c s).lotLaw := by
  unfold opRequestUrgent makeUrgent
  repeat' split
  · exact h
  · rename_i q hq
    obtain ⟨hload, hlen⟩ := h.requested hq
    exact (setRequest_some_lotLaw (q := { q with urgent := true }) h hload hlen).congr (by simp [State.lotView])
  · exact h

theorem opRequestExpiry_lotLaw (c : CellNo) {s : State} (h : s.lotLaw) : (opRequestExpiry c s).lotLaw := by
  unfold opRequestExpiry expireRequest
  split
  · exact (setRequest_none_lotLaw c h).congr (by simp [State.lotView])
  · exact h

theorem applyAges_lotLaw {s : State} (h : s.lotLaw) : (applyAges s).lotLaw := by
  unfold applyAges
  refine List.foldlRecOn _ _ ?_ fun t ht c _ => opRequestUrgent_lotLaw c ht
  exact List.foldlRecOn _ _ h fun t ht c _ => opRequestExpiry_lotLaw c ht

/-! ### The hold-cause set (R68 to R73) -/

@[simp] theorem setCauseFlag_supervisor (s : State) (b : Bool) : (s.setCauseFlag .supervisor b).belt.supervisor = b := rfl
@[simp] theorem setCauseFlag_crusher_supervisor (s : State) (b : Bool) :
    (s.setCauseFlag .crusher b).belt.supervisor = s.belt.supervisor := rfl
@[simp] theorem setCauseFlag_link_supervisor (s : State) (b : Bool) : (s.setCauseFlag .link b).belt.supervisor = s.belt.supervisor := rfl

/-- The SUPERVISOR cause may change where the line is neither in LOADING nor in RELOADING, and may be set everywhere. -/
theorem State.lotLaw.of_supervisor {s t : State} {b : Bool} (h : s.lotLaw) (e : t.lotView = { s.lotView with supervisor := b })
    (hb : s.mode = .loading ∨ s.activity.isReloading = true → b = true) : t.lotLaw := by
  suffices key : ({ s with belt := { s.belt with supervisor := b } } : State).lotLaw from key.congr e
  rw [lotLaw_iff] at h ⊢
  exact { h with halted := fun hmode => ⟨hb hmode, (h.halted hmode).2⟩ }

/-- A cause that is set changes what the law reads where it is the SUPERVISOR cause. -/
theorem setCause_lotView (c : HoldCause) (s : State) :
    (setCause c s).lotView = { s.lotView with supervisor := s.belt.supervisor || decide (c = .supervisor) } := by
  unfold setCause
  split
  · rename_i hin
    cases c <;> simp_all [State.causeInForce, State.lotView]
  · split <;> cases c <;> simp [State.lotView]

theorem setCause_lotLaw (c : HoldCause) {s : State} (h : s.lotLaw) : (setCause c s).lotLaw := by
  refine h.of_supervisor (setCause_lotView c s) fun hmode => ?_
  rw [lotLaw_iff] at h
  simp [(h.halted hmode).1]

/-- A cause other than SUPERVISOR changes nothing that the law reads. -/
theorem setCauseFlag_lotView {c : HoldCause} (hc : c ≠ .supervisor) (b : Bool) (s : State) : (s.setCauseFlag c b).lotView = s.lotView := by
  cases c with
  | supervisor => exact absurd rfl hc
  | crusher => rfl
  | link => rfl

/-- A cause that is cleared while SUPERVISOR stands ends no hold: nothing follows that the law reads. -/
theorem clearCause_lotView {c : HoldCause} (hc : c ≠ .supervisor) {s : State} (hsup : s.belt.supervisor = true) :
    (clearCause c s).lotView = s.lotView := by
  have hhold : (s.setCauseFlag c false).holdInForce = true := by
    have hview := congrArg LotView.supervisor (setCauseFlag_lotView hc false s)
    simp only [State.lotView] at hview
    simp [State.holdInForce, hview, hsup]
  unfold clearCause
  by_cases hin : s.causeInForce c = false
  · rw [if_pos hin]
  · rw [if_neg hin, if_pos hhold]
    exact setCauseFlag_lotView hc false s

theorem clearCause_lotLaw {c : HoldCause} {s : State} (h : s.lotLaw)
    (hc : c = .supervisor → s.mode ≠ .loading ∧ s.activity.isReloading = false) : (clearCause c s).lotLaw := by
  have hflag : (s.setCauseFlag c false).lotLaw := by
    by_cases e : c = .supervisor
    · obtain ⟨hmode, hact⟩ := hc e
      subst e
      exact h.of_supervisor (b := false) rfl fun hor => absurd hor (by simp [hmode, hact])
    · exact h.congr (setCauseFlag_lotView e false s)
  unfold clearCause
  split
  · exact h
  · split
    · exact hflag
    · exact arbiterPass_lotLaw (hflag.congr (by simp [State.lotView]))

/-! ### The head controller (Chapter 5) -/

theorem interlock_lotLaw {s : State} (h : s.lotLaw) : (interlock s).lotLaw := by
  unfold interlock
  split
  · split
    · exact h
    · exact setCause_lotLaw .crusher (h.congr (by simp [State.lotView]))
  · exact clearCause_lotLaw h HoldCause.noConfusion

/-- While SUPERVISOR stands the interlock changes nothing that the law reads. -/
theorem interlock_lotView {s : State} (hsup : s.belt.supervisor = true) : (interlock s).lotView = s.lotView := by
  unfold interlock
  split
  · split
    · rfl
    · rw [setCause_lotView]
      simp [State.lotView]
  · exact clearCause_lotView HoldCause.noConfusion hsup

theorem startCrusher_lotLaw {s : State} (h : s.lotLaw) : (startCrusher s).lotLaw :=
  interlock_lotLaw (h.congr (by simp [State.lotView]))

theorem enterRunning_lotLaw {s : State} (h : s.lotLaw) : (enterRunning s).lotLaw :=
  interlock_lotLaw (h.congr rfl)

theorem testCurrent_lotLaw (current : Nat) {s : State} (h : s.lotLaw) : (testCurrent current s).lotLaw := by
  unfold testCurrent
  split
  · exact h.congr rfl
  · dsimp only
    split
    · exact interlock_lotLaw (h.congr (by simp [State.lotView]))
    · exact h.congr rfl

theorem opCrusherStatus_lotLaw (current : Half) (confirm : Byte) {s : State} (h : s.lotLaw) : (opCrusherStatus current confirm s).lotLaw := by
  have htaken : ({ s with head := { s.head with current := current.toNat, confirm := decide (confirm ≠ 0) } } : State).lotLaw := h.congr rfl
  unfold opCrusherStatus
  dsimp only
  split
  · split
    · exact enterRunning_lotLaw htaken
    · exact htaken
  · split
    · exact interlock_lotLaw (htaken.congr (by simp [crusherToFault, State.lotView]))
    · exact testCurrent_lotLaw _ htaken
  · exact htaken

theorem opStartTimerExpiry_lotLaw {s : State} (h : s.lotLaw) : (opStartTimerExpiry s).lotLaw := by
  unfold opStartTimerExpiry
  repeat' split
  · exact h
  · exact enterRunning_lotLaw h
  · exact interlock_lotLaw (h.congr (by simp [crusherToFault, State.lotView]))
  · exact h

theorem idleExpired_lotLaw {s : State} (h : s.lotLaw) : (idleExpired s).lotLaw := by
  unfold idleExpired
  split
  · exact h.congr rfl
  · exact interlock_lotLaw (h.congr (by simp [crusherToOff, State.lotView]))

theorem opIdleTimerExpiry_lotLaw {s : State} (h : s.lotLaw) : (opIdleTimerExpiry s).lotLaw := by
  unfold opIdleTimerExpiry
  split
  · exact idleExpired_lotLaw h
  · exact h

theorem crusherReleased_lotLaw (o : ChainOutcome) {s : State} (h : s.lotLaw) : (crusherReleased o s).lotLaw := by
  have hfault : (interlock (crusherToFault Source.crusherFault s)).lotLaw :=
    interlock_lotLaw (h.congr (by simp [crusherToFault, State.lotView]))
  cases o with
  | cleared => exact startCrusher_lotLaw h
  | exhausted => exact hfault
  | aborted => exact hfault

theorem reactCrusher_lotLaw {s : State} (h : s.lotLaw) : (reactCrusher s).lotLaw := by
  unfold reactCrusher
  repeat' split
  · exact startCrusher_lotLaw h
  · exact h
  · exact h.congr rfl
  · exact h
  · exact h

theorem headReaction_lotLaw {s : State} (h : s.lotLaw) : (headReaction s).lotLaw :=
  interlock_lotLaw (reactCrusher_lotLaw (h.congr (by simp [State.lotView])))

theorem headReevaluate_lotLaw {s : State} (h : s.lotLaw) : (headReevaluate s).lotLaw :=
  interlock_lotLaw (h.congr (by simp [State.lotView]))

/-! ### Samples (R9 to R18) -/

theorem sampleCompleted_lotLaw {s : State} (h : s.lotLaw) : (sampleCompleted s).lotLaw :=
  arbiterPass_lotLaw ((headReaction_lotLaw h).congr (by simp [State.lotView]))

theorem acceptSample_lotLaw (count : Word) (delta : Nat) {s : State} (h : s.lotLaw) (hdp : s.dropPointsHigh) :
    (acceptSample count delta s).lotLaw := by
  have hshifted := shiftPitches_lotLaw ((s.tracker.acc + delta) / s.tables.belt.cpp) h hdp
  exact sampleCompleted_lotLaw (hshifted.congr (by simp [State.lotView, State.setReference]))

theorem opBeltSample_lotLaw (count : Word) {s : State} (h : s.lotLaw) (hdp : s.dropPointsHigh) : (opBeltSample count s).lotLaw := by
  unfold opBeltSample
  split
  · exact sampleCompleted_lotLaw (h.congr (by simp [State.lotView, State.setReference]))
  · split
    · exact h.congr (by simp [State.lotView])
    · exact acceptSample_lotLaw count _ h hdp

/-! ### The program engine and the event router (Chapter 7) -/

theorem takeHold_lotLaw (t : Target) {s : State} (h : s.lotLaw) : (takeHold t s).lotLaw := by
  unfold takeHold
  split
  · exact h
  · split
    · exact h
    · cases t with
      | belt => exact h.congr rfl
      | crusher => exact interlock_lotLaw (h.congr rfl)
      | gate => exact h.congr (by simp [ownerHeld, State.lotView])
      | drum d => exact h.congr rfl

theorem ownerReleased_lotLaw (o : ChainOutcome) (t : Target) {s : State} (h : s.lotLaw) : (ownerReleased o t s).lotLaw := by
  cases t with
  | crusher => exact crusherReleased_lotLaw o h
  | belt => exact h.congr (by simp [ownerReleased, State.lotView])
  | gate => exact h.congr (by simp [ownerReleased, State.lotView])
  | drum d => exact h.congr (by simp [ownerReleased, State.lotView])

theorem releaseTarget_lotLaw {reissue : Target → State → State} (hr : ∀ t u, u.lotLaw → (reissue t u).lotLaw) (t : Target) {s : State}
    (h : s.lotLaw) : (releaseTarget reissue t s).lotLaw := by
  unfold releaseTarget
  split
  · exact h
  · split
    · exact hr t _ (h.congr rfl)
    · exact h

theorem releaseAll_lotLaw {reissue : Target → State → State} (hr : ∀ t u, u.lotLaw → (reissue t u).lotLaw) {s : State} (h : s.lotLaw) :
    (releaseAll reissue s).lotLaw :=
  List.foldlRecOn _ _ h fun _ hu t _ => releaseTarget_lotLaw hr t hu

@[simp] theorem beginDescriptor_lotView (s : State) : (beginDescriptor s).lotView = s.lotView := by
  unfold beginDescriptor
  split
  · rfl
  · simp [startRepetition, startStep, State.lotView]

theorem startDescriptor_lotLaw (i : ActionNo) (c : Chain) {s : State} (h : s.lotLaw) : (startDescriptor i c s).lotLaw :=
  State.lotLaw.congr (takeHold_lotLaw _ (h.congr (by simp [State.lotView]))) (beginDescriptor_lotView _)

theorem startChain_lotLaw (i : ActionNo) (src : Option SourceNo) (t : Trigger) {s : State} (h : s.lotLaw) : (startChain i src t s).lotLaw :=
  startDescriptor_lotLaw i _ (h.congr (by simp [State.lotView]))

theorem servePending_lotLaw (n : Nat) {s : State} (h : s.lotLaw) : (servePending n s).lotLaw := by
  induction n generalizing s with
  | zero => exact h
  | succ n ih =>
    unfold servePending
    split
    · exact h
    · split
      · exact startChain_lotLaw _ _ _ (h.congr rfl)
      · exact ih (h.congr (by simp [State.lotView]))

theorem endChain_lotLaw (o : ChainOutcome) (c : Chain) {s : State} (h : s.lotLaw) : (endChain o c s).lotLaw := by
  have hreleased : (releaseAll (ownerReleased o) (recordOutcome o s)).lotLaw :=
    releaseAll_lotLaw (fun t _ => ownerReleased_lotLaw o t) (h.congr (by simp [State.lotView]))
  exact servePending_lotLaw 17 (hreleased.congr (by simp [State.lotView]))

theorem exhaustDescriptor_lotLaw (c : Chain) {s : State} (h : s.lotLaw) : (exhaustDescriptor c s).lotLaw := by
  unfold exhaustDescriptor
  repeat' split
  · exact endChain_lotLaw _ c h
  · exact startDescriptor_lotLaw _ c h
  · exact endChain_lotLaw _ c (h.congr (by simp [State.lotView]))

theorem stepExpired_lotLaw (c : Chain) {s : State} (h : s.lotLaw) : (stepExpired c s).lotLaw := by
  unfold stepExpired endRepetition
  repeat' split
  · exact h.congr (by simp [startStep, State.lotView])
  · exact endChain_lotLaw _ c h
  · exact h.congr (by simp [startRepetition, startStep, State.lotView])
  · exact exhaustDescriptor_lotLaw c h

theorem opStepHoldExpiry_lotLaw {s : State} (h : s.lotLaw) : (opStepHoldExpiry s).lotLaw := by
  unfold opStepHoldExpiry
  repeat' split
  · exact h
  · exact stepExpired_lotLaw _ h
  · exact h

theorem triggerRoute_lotLaw (o : Occurrence) {s : State} (h : s.lotLaw) : (triggerRoute o s).lotLaw := by
  unfold triggerRoute trigger
  repeat' split
  · exact h
  · exact startChain_lotLaw _ _ _ h
  · exact h.congr (by simp [State.lotView])
  · exact h.congr (by simp [State.lotView])

theorem takeOccurrence_lotLaw (o : Occurrence) {s : State} (h : s.lotLaw) : (takeOccurrence o s).lotLaw := by
  have hover : (overrideRoute o.source (countOccurrence o.source s)).lotLaw := by
    unfold overrideRoute
    split
    all_goals exact h.congr (by simp [State.lotView])
  unfold takeOccurrence
  split
  · exact h
  · exact (triggerRoute_lotLaw o hover).congr (by simp [State.lotView])

theorem takeOccurrences_lotLaw (n : Nat) {s : State} (h : s.lotLaw) : (takeOccurrences n s).lotLaw := by
  induction n generalizing s with
  | zero => exact h
  | succ n ih =>
    unfold takeOccurrences
    split
    · exact h
    · exact ih (takeOccurrence_lotLaw _ (h.congr rfl))

theorem routeAll_lotLaw {s : State} (h : s.lotLaw) : (routeAll s).lotLaw := takeOccurrences_lotLaw _ h

theorem complete_lotLaw {s : State} (h : s.lotLaw) : (complete s).lotLaw :=
  (routeAll_lotLaw h).congr (by simp [complete, State.lotView])

end Sys2Proof.Machine
end

section
/-! SUPPORT. Every table write, every management command, every frame and so every command keeps the law of the lots. -/

namespace Sys2Proof.Machine

/-! ### Serving and completing (R135, R175, R188) -/

theorem operate_lotLaw {op : State → State} {s : State} (h : s.lotLaw) (hop : (op s).lotLaw) : (operate op s).lotLaw := by
  unfold operate
  split
  · exact h
  · exact complete_lotLaw hop

theorem finishRequest_lotLaw (node : Byte) (command : Nat) (r : Req) (a : Answer) {s : State} (h : s.lotLaw) :
    (finishRequest node command r a s).lotLaw := by
  cases a with
  | now st data => exact (routeAll_lotLaw h).congr (by simp [finishRequest, State.lotView])
  | later => exact (routeAll_lotLaw h).congr (by simp [finishRequest, State.lotView])

theorem serveAlways_lotLaw {command : Nat} {r : Req} {body : State → State × Answer} {s : State} (h : s.lotLaw)
    (hbody : s.mode ≠ .loading → (body s).1.lotLaw) : (serveAlways command r body s).lotLaw := by
  unfold serveAlways
  split
  · exact h
  · rename_i hmode
    split
    · exact finishRequest_lotLaw _ _ _ _ (hbody hmode)
    · exact h.congr (by simp [State.lotView])

theorem serve_lotLaw {command : Nat} {r : Req} {body : State → State × Answer} {s : State} (h : s.lotLaw)
    (hbody : s.mode ≠ .loading → s.activity.isReloading = false → (body s).1.lotLaw) : (serve command r body s).lotLaw := by
  refine serveAlways_lotLaw h fun hmode => ?_
  split
  · exact h
  · rename_i hact
    exact hbody hmode (Bool.eq_false_iff.mpr hact)

theorem readOnly_lotLaw {command : Nat} {r : Req} {f : State → Answer} {s : State} (h : s.lotLaw) :
    (serveAlways command r (readOnly f) s).lotLaw :=
  serveAlways_lotLaw h fun _ => h

/-! ### Ports, timers and drums -/

theorem opSilenceTimeout_lotLaw (p : Port) {s : State} (h : s.lotLaw) : (opSilenceTimeout p s).lotLaw := by
  unfold opSilenceTimeout portDown
  split
  · cases p with
    | cell => exact h.congr (by simp [State.lotView])
    | plant => exact setCause_lotLaw .link (h.congr (by simp [State.lotView]))
  · exact h

theorem goodFrame_lotLaw (p : Port) {s : State} (h : s.lotLaw) : (goodFrame p s).lotLaw := by
  unfold goodFrame portUp
  dsimp only
  split
  · cases p with
    | cell => exact h.congr (by simp [State.lotView])
    | plant => exact clearCause_lotLaw (h.congr (by simp [State.lotView])) HoldCause.noConfusion
  · exact h.congr (by simp [State.lotView])

theorem opCoolantAllotment_lotLaw (p : Port) (f : Frame) {s : State} (h : s.lotLaw) : (opCoolantAllotment p f s).lotLaw := by
  refine h.congr ?_
  unfold opCoolantAllotment takeAllotment clampAllotment
  dsimp only
  repeat' split
  all_goals simp [State.lotView]

theorem applyIdle_lotLaw {s : State} (h : s.lotLaw) : (applyIdle s).lotLaw := opIdleTimerExpiry_lotLaw h

/-! ### The table writes (R189) -/

theorem writeTable_lotLaw {n : Nat} {r : Req} {body : Fin n → State → Option (State × Status)} {s : State} (h : s.lotLaw)
    (hbody : ∀ i t st, body i s = some (t, st) → t.lotLaw) : (writeTable n r body s).1.lotLaw := by
  obtain e | ⟨i, t, st, hb, e⟩ := writeTable_cases n r body s
  · rw [e]; exact h
  · rw [e]; exact hbody i t st hb

theorem writeEntry_lotLaw {n : Nat} {r : Req} {body : Fin n → State → Option (State × Status)} {s : State} (h : s.lotLaw)
    (hbody : ∀ i t st, body i s = some (t, st) → t.lotLaw) : (serveAlways writeCode r (writeTable n r body) s).lotLaw :=
  serveAlways_lotLaw h fun _ => writeTable_lotLaw h hbody

theorem eq_of_taken {s t : State} {st : Status} (h : taken s = some (t, st)) : t = s := (Prod.mk.inj (Option.some.inj h)).1.symm

/-- What a write whose entry passes its checks answers, where nothing else is checked (R189). -/
theorem bind_taken_lotLaw {α : Type} {v? : Option α} {f : α → State} {t : State} {st : Status} (hf : ∀ v, (f v).lotLaw)
    (e : (v?.bind fun v => taken (f v)) = some (t, st)) : t.lotLaw := by
  obtain ⟨v, -, hv⟩ := Option.bind_eq_some_iff.mp e
  exact eq_of_taken hv ▸ hf v

theorem opWriteClassify_lotLaw (r : Req) (e : RawClassify) {s : State} (h : s.lotLaw) : (opWriteClassify r e s).lotLaw :=
  writeEntry_lotLaw h fun _ _ _ => bind_taken_lotLaw fun _ => h.congr rfl

theorem opWritePlant_lotLaw (r : Req) (e : RawPlant) {s : State} (h : s.lotLaw) : (opWritePlant r e s).lotLaw :=
  writeEntry_lotLaw h fun _ _ _ => bind_taken_lotLaw fun _ => h.congr rfl

theorem opWriteAction_lotLaw (r : Req) (e : RawAction) {s : State} (h : s.lotLaw) : (opWriteAction r e s).lotLaw :=
  writeEntry_lotLaw h fun _ _ _ => bind_taken_lotLaw fun _ => h.congr rfl

theorem opWriteEventroute_lotLaw (r : Req) (e : RawRoute) {s : State} (h : s.lotLaw) : (opWriteEventroute r e s).lotLaw :=
  writeEntry_lotLaw h fun _ _ _ => bind_taken_lotLaw fun _ => h.congr rfl

theorem opWriteCoalesce_lotLaw (r : Req) (e : RawCoalesce) {s : State} (h : s.lotLaw) : (opWriteCoalesce r e s).lotLaw :=
  writeEntry_lotLaw h fun _ _ _ => bind_taken_lotLaw fun _ => h.congr rfl

theorem opWriteNode_lotLaw (r : Req) (e : RawNode) {s : State} (h : s.lotLaw) : (opWriteNode r e s).lotLaw :=
  writeEntry_lotLaw h fun _ _ _ => bind_taken_lotLaw fun _ => h.congr rfl

theorem opWriteFilter_lotLaw (r : Req) (e : RawFilter) {s : State} (h : s.lotLaw) : (opWriteFilter r e s).lotLaw :=
  writeEntry_lotLaw h fun _ _ _ => bind_taken_lotLaw fun _ => h.congr (by simp [State.lotView])

theorem opWriteCrusher_lotLaw (r : Req) (e : RawCrusher) {s : State} (h : s.lotLaw) : (opWriteCrusher r e s).lotLaw :=
  writeEntry_lotLaw h fun _ _ _ => bind_taken_lotLaw fun _ => interlock_lotLaw (applyIdle_lotLaw (h.congr rfl))

theorem opWriteClass_lotLaw (r : Req) (e : RawClass) {s : State} (h : s.lotLaw) : (opWriteClass r e s).lotLaw := by
  refine writeEntry_lotLaw h fun i _ _ => bind_taken_lotLaw fun v => ?_
  have hset : (s.setTables { s.tables with cls := s.tables.cls.set i v }).lotLaw := h.congr rfl
  split
  · exact hset
  · exact headReevaluate_lotLaw hset

theorem opWritePort_lotLaw (r : Req) (e : RawPort) {s : State} (h : s.lotLaw) : (opWritePort r e s).lotLaw := by
  refine writeEntry_lotLaw h fun i _ _ => bind_taken_lotLaw fun ms => opSilenceTimeout_lotLaw _ (h.congr ?_)
  cases hp : portOfIndex i <;> rfl

theorem opWriteProfile_lotLaw (r : Req) (e : RawProfile) {s : State} (h : s.lotLaw) : (opWriteProfile r e s).lotLaw := by
  refine writeEntry_lotLaw h fun _ t st hbody => ?_
  rw [eq_of_taken hbody]
  refine h.congr ?_
  split <;> simp [State.lotView]

theorem opWriteDrum_lotLaw (r : Req) (e : RawDrum) {s : State} (h : s.lotLaw) : (opWriteDrum r e s).lotLaw := by
  refine writeEntry_lotLaw h fun d t st hbody => ?_
  obtain ⟨v, -, hv⟩ := Option.bind_eq_some_iff.mp hbody
  split at hv
  · cases hv; exact h
  · rw [eq_of_taken hv]
    refine h.congr ?_
    split <;> simp [State.lotView]

/-- A cell that has a loading lot keeps its drop point, and the drop point of the others is free to change (R8). -/
theorem setCell_lotLaw {s : State} {i : CellNo} {v : CellEntry} (h : s.lotLaw)
    (hv : s.loadingLot i ≠ none → v.dropPoint = s.dropPoint i) :
    (s.setTables { s.tables with cell := s.tables.cell.set i v }).lotLaw := by
  rw [lotLaw_iff] at h ⊢
  refine { h with agrees := fun l => (h.agrees l).congr_dropPoint fun a ha hs => ?_ }
  by_cases e : a.cell = i
  · subst e
    have hload : s.loadingLot a.cell ≠ none := fun hnone =>
      loadingLot_eq_none_iff.mp hnone l (ha ▸ Lot.loadsFor_active.mpr ⟨hs, rfl⟩)
    simpa [State.dropPoint] using hv hload
  · have hne : i.val ≠ a.cell.val := fun hval => e (Fin.ext hval.symm)
    simp [State.dropPoint, hne]

theorem opWriteCell_lotLaw (r : Req) (e : RawCell) {s : State} (h : s.lotLaw) : (opWriteCell r e s).lotLaw := by
  refine writeEntry_lotLaw h fun i t st hbody => ?_
  obtain ⟨v, -, hv⟩ := Option.bind_eq_some_iff.mp hbody
  split at hv
  · cases hv
  · split at hv
    · cases hv; exact h
    · rename_i huse
      rw [eq_of_taken hv]
      refine setCell_lotLaw (i := i) (v := v) h fun hload => ?_
      by_contra hne
      refine huse ⟨?_, .inl hne⟩
      simp [State.cellInUse, Option.isSome_iff_ne_none.mpr hload]

/-- A changed belt length is taken on a map of EMPTY pitches under SUPERVISOR alone, where no lot is active (R6). -/
theorem opWriteBelt_lotLaw (r : Req) (e : RawBelt) {s : State} (h : s.lotLaw) : (opWriteBelt r e s).lotLaw := by
  refine writeEntry_lotLaw h fun _ t st hbody => ?_
  obtain ⟨v, -, hv⟩ := Option.bind_eq_some_iff.mp hbody
  dsimp only at hv
  split at hv
  · cases hv
  · split at hv
    · cases hv; exact h
    · rename_i hfree
      split at hv
      · cases hv; exact h
      · rw [eq_of_taken hv]
        refine applyAges_lotLaw ?_
        by_cases hlen : v.length = s.tables.belt.length
        · exact h.congr (by simp [retrack, hlen, State.lotView])
        · have hgeometry : s.geometryFree = true := by
            by_contra hnot
            exact hfree ⟨.inl hlen, Bool.eq_false_iff.mpr hnot⟩
          simp only [State.geometryFree, Bool.and_eq_true, List.all_eq_true, decide_eq_true_eq] at hgeometry
          obtain ⟨hempty, hsup⟩ := hgeometry
          refine lotLaw_of_free (fun l => ?_) (fun p hp => ?_) (fun c q hq => (h.requested hq).2) hsup
          · exact ((lotLaw_iff.mp h).agrees l).free_of_empty hempty
          · simp only [retrack, hlen, if_false] at hp
            exact List.eq_of_mem_replicate hp

theorem opWriteEntry_lotLaw (r : Req) (data : List Byte) {s : State} (h : s.lotLaw) : (opWriteEntry r data s).lotLaw := by
  unfold opWriteEntry
  split
  · exact opWriteClassify_lotLaw r _ h
  · exact opWriteCell_lotLaw r _ h
  · exact opWriteClass_lotLaw r _ h
  · exact opWritePlant_lotLaw r _ h
  · exact opWriteBelt_lotLaw r _ h
  · exact opWriteProfile_lotLaw r _ h
  · exact opWriteCrusher_lotLaw r _ h
  · exact opWriteDrum_lotLaw r _ h
  · exact opWriteFilter_lotLaw r _ h
  · exact opWriteAction_lotLaw r _ h
  · exact opWriteEventroute_lotLaw r _ h
  · exact opWritePort_lotLaw r _ h
  · exact opWriteCoalesce_lotLaw r _ h
  · exact opWriteNode_lotLaw r _ h
  · exact readOnly_lotLaw h

end Sys2Proof.Machine
end

section
/-! SUPPORT. Every management command, the reload, the save and the start-up keep the law of the lots. Where a restart or an image read rebuilds
the map no lot is active, and the law holds of any state without lots and pitches. -/

namespace Sys2Proof.Machine

/-! ### The management commands (R188) -/

/-- A change of the line mode and of the activity that enters neither LOADING nor RELOADING. -/
theorem State.lotLaw.of_running {s t : State} {m : LineMode} {b : Bool} (h : s.lotLaw)
    (e : t.lotView = { s.lotView with mode := m, reloading := b }) (hmode : m = .loading → s.mode = .loading)
    (hact : b = true → s.activity.isReloading = true) : t.lotLaw := by
  simp only [State.lotView, LotView.mk.injEq] at e
  obtain ⟨emap, elots, ereq, ecell, emode, eact, esup⟩ := e
  have hdp : t.dropPoint = s.dropPoint := dropPoint_congr ecell
  rw [lotLaw_iff] at h ⊢
  constructor
  · simpa only [emap, elots, hdp] using h.agrees
  · simpa only [elots] using h.single
  · simpa only [State.request, ereq, elots] using h.requested
  · rw [emode, eact, esup, elots]
    exact fun hor => h.halted (hor.imp hmode hact)

theorem opHaltLine_lotLaw (r : Req) {s : State} (h : s.lotLaw) : (opHaltLine r s).lotLaw :=
  serve_lotLaw h fun _ _ => setCause_lotLaw .supervisor h

/-- RELEASE_LINE is served neither in LOADING nor in RELOADING. -/
theorem opReleaseLine_lotLaw (r : Req) {s : State} (h : s.lotLaw) : (opReleaseLine r s).lotLaw :=
  serve_lotLaw h fun hmode hact => clearCause_lotLaw h fun _ => ⟨hmode, hact⟩

theorem opReleaseOverride_lotLaw (r : Req) {s : State} (h : s.lotLaw) : (opReleaseOverride r s).lotLaw :=
  serve_lotLaw h fun _ _ => h.congr (by simp [releaseOverrideBody, State.lotView])

theorem opAckEvent_lotLaw (r : Req) {s : State} (h : s.lotLaw) : (opAckEvent r s).lotLaw :=
  serve_lotLaw h fun _ _ => h.congr (by simp [State.lotView])

theorem opClearFault_lotLaw (r : Req) {s : State} (h : s.lotLaw) : (opClearFault r s).lotLaw :=
  serve_lotLaw h fun _ _ => h.congr rfl

theorem opClearCounters_lotLaw (r : Req) {s : State} (h : s.lotLaw) : (opClearCounters r s).lotLaw :=
  serve_lotLaw h fun _ _ => h.congr rfl

theorem opClearCauses_lotLaw (r : Req) {s : State} (h : s.lotLaw) : (opClearCauses r s).lotLaw :=
  serve_lotLaw h fun _ _ => h.congr rfl

theorem opClearDrum_lotLaw (r : Req) {s : State} (h : s.lotLaw) : (opClearDrum r s).lotLaw :=
  serve_lotLaw h fun _ _ => h.congr (by simp [State.lotView])

theorem opClearCrusher_lotLaw (r : Req) {s : State} (h : s.lotLaw) : (opClearCrusher r s).lotLaw := by
  have hstop : (interlock (stopCrusher s)).lotLaw := interlock_lotLaw (h.congr (by simp [stopCrusher, State.lotView]))
  refine serve_lotLaw h fun _ _ => ?_
  unfold clearCrusherBody
  split
  · exact hstop
  · exact hstop
  · exact hstop
  · exact h
  · exact h
  · exact h

theorem opStartProgram_lotLaw (r : Req) {s : State} (h : s.lotLaw) : (opStartProgram r s).lotLaw := by
  refine serve_lotLaw h fun _ _ => ?_
  unfold startProgramBody
  split
  · exact h
  · split
    · exact h
    · exact startChain_lotLaw _ _ _ h

theorem opAbortProgram_lotLaw (r : Req) {s : State} (h : s.lotLaw) : (opAbortProgram r s).lotLaw := by
  refine serve_lotLaw h fun _ _ => ?_
  unfold abortProgramBody
  split
  · exact h
  · exact endChain_lotLaw _ _ h

/-! ### The line restart (R196) -/

/-- What a line restart leaves: no lot, no pitch, no request, and the line halted by SUPERVISOR. -/
structure State.Cleared (s : State) : Prop where
  lots : ∀ l : LotNo, ∃ o, s.lots[l] = .free o
  map : ∀ p ∈ s.tracker.map, p = .empty
  requests : ∀ c, s.request c = none
  supervisor : s.belt.supervisor = true

theorem State.Cleared.lotLaw {s : State} (h : s.Cleared) : s.lotLaw :=
  lotLaw_of_free h.lots h.map (fun c q hq => by simp [h.requests c] at hq) h.supervisor

theorem State.Cleared.congr {s t : State} (h : s.Cleared) (e : t.lotView = s.lotView) : t.Cleared := by
  simp only [State.lotView, LotView.mk.injEq] at e
  obtain ⟨emap, elots, ereq, -, -, -, esup⟩ := e
  exact ⟨elots ▸ h.lots, emap ▸ h.map, by simpa only [State.request, ereq] using h.requests, esup ▸ h.supervisor⟩

theorem State.Cleared.setActivity {s : State} (h : s.Cleared) (a : Activity) : (s.setActivity a).Cleared :=
  ⟨h.lots, h.map, h.requests, h.supervisor⟩

theorem Lot.restarted_free (r : Lot) : ∃ o, r.restarted = .free o := by
  cases r with
  | free o => exact ⟨o, rfl⟩
  | active a => exact ⟨some a.cell, rfl⟩

/-- Step 6 of R196 sets the SUPERVISOR cause on a line that the steps before it have emptied. -/
theorem restartBelt_cleared (s : State) :
    (restartBelt (restartRouter (restartTracker (restartArbiter (restartLots s))))).Cleared := by
  have hview := setCause_lotView .supervisor
    (releaseOverride (restartRouter (restartTracker (restartArbiter (restartLots s)))))
  simp only [State.lotView, LotView.mk.injEq] at hview
  obtain ⟨hmap, hlots, hreq, -, -, -, hsup⟩ := hview
  unfold restartBelt
  constructor
  · intro l
    rw [hlots]
    simp [restartLots, Lot.restarted_free]
  · intro p hp
    rw [hmap] at hp
    simp only [releaseOverride_tracker, restartRouter_tracker, restartTracker] at hp
    exact List.eq_of_mem_replicate hp
  · intro c
    unfold State.request
    rw [hreq]
    simp [restartTracker, restartArbiter, restartRequests]
  · rw [hsup]
    simp

theorem restartHead_cleared {s : State} (h : s.Cleared) : (restartHead s).Cleared := by
  have hstopped : (stopCrusher s).Cleared := h.congr (by simp [stopCrusher, State.lotView])
  have hgate : ∀ t : State, (restartGate t).lotView = t.lotView := fun t => by simp [State.lotView]
  refine State.Cleared.congr (s := stopCrusher s) hstopped ?_
  unfold restartHead
  rw [hgate, clearCause_lotView HoldCause.noConfusion (by simpa using hstopped.supervisor)]
  rfl

theorem restartLine_cleared (s : State) : (restartLine s).Cleared := by
  have hissued := (restartBelt_cleared (abortForRestart s)).congr (t := issueSetpoint (restartCoalescer (restartBelt (restartRouter
    (restartTracker (restartArbiter (restartLots (abortForRestart s)))))))) (by simp [restartCoalescer, State.lotView])
  exact (restartHead_cleared hissued).congr (by simp [restartLine, State.lotView])

theorem opRestartLine_lotLaw (r : Req) {s : State} (h : s.lotLaw) : (opRestartLine r s).lotLaw := by
  refine serve_lotLaw h fun _ _ => ?_
  unfold restartBody
  split
  · split
    · exact ((restartLine_cleared s).setActivity _).lotLaw
    · exact (restartLine_cleared s).lotLaw.congr (by simp [State.lotView])
  · exact h

/-! ### The reload (R197) -/

/-- A map that agrees with records that are all FREE is EMPTY. -/
theorem empty_of_free {s : State} (h : s.lotLaw) (hfree : ∀ l : LotNo, ∃ o, s.lots[l] = .free o) : ∀ p ∈ s.tracker.map, p = .empty := by
  rw [lotLaw_iff] at h
  have hnone : ∀ p ∈ s.tracker.map, ∀ l, p.lot ≠ some l := by
    intro p hp l
    obtain ⟨o, ho⟩ := hfree l
    exact h.free ho p hp
  intro p hp
  cases p with
  | empty => rfl
  | reserved l k => exact absurd rfl (hnone _ hp l)
  | loaded l k => exact absurd rfl (hnone _ hp l)

theorem takeTables_lotLaw (t : Tables) {s : State} (h : s.lotLaw) (hact : s.activity.isReloading = true) :
    (takeTables t (restartRequests s)).lotLaw := by
  obtain ⟨hsup, hfree⟩ := (lotLaw_iff.mp h).halted (.inr hact)
  have hempty := empty_of_free h hfree
  refine State.Cleared.lotLaw ⟨?_, fun p hp => ?_, fun c => ?_, ?_⟩
  · rw [takeTables_lots, restartRequests_lots]
    exact hfree
  · simp only [takeTables, retrack, restartRequests_tracker] at hp
    split at hp
    · exact hempty p hp
    · exact List.eq_of_mem_replicate hp
  · unfold State.request
    rw [takeTables_arbiter]
    simp [restartRequests]
  · rw [takeTables_belt, restartRequests_belt]
    exact hsup

theorem reloadValid_lotLaw (t : Tables) {s : State} (h : s.lotLaw) (hact : s.activity.isReloading = true) : (reloadValid t s).lotLaw := by
  have htaken : (reselect (reloadFiltration s.tables (takeTables t (restartRequests s)))).lotLaw :=
    (takeTables_lotLaw t h hact).congr (by simp [State.lotView])
  have hheard := opSilenceTimeout_lotLaw .plant (opSilenceTimeout_lotLaw .cell htaken)
  exact (headReevaluate_lotLaw (applyIdle_lotLaw hheard)).congr (by simp [reloadValid, State.lotView])

theorem setActivity_lotLaw {a : Activity} {s : State} (h : s.lotLaw) (ha : a.isReloading = false) : (s.setActivity a).lotLaw :=
  h.of_running (b := false) (by simp [State.lotView, ha]) id fun h => Bool.noConfusion h

theorem opReloadComplete_lotLaw (ack : Bool) {s : State} (h : s.lotLaw) : (opReloadComplete ack s).lotLaw := by
  unfold opReloadComplete
  split
  · rename_i r node hact
    have hreloading : s.activity.isReloading = true := by rw [hact]; rfl
    have hread : ∀ u : State, u.lotLaw →
        (unloadIfHanded (bump .restarts (reply node 16 r .ok [] (routeAll (u.setActivity .idle))))).lotLaw := fun u hu =>
      (routeAll_lotLaw (setActivity_lotLaw (a := .idle) hu rfl)).congr (by simp [State.lotView])
    split
    · exact hread _ (reloadValid_lotLaw _ h hreloading)
    · exact hread _ (h.congr (by simp [State.lotView]))
  · exact h

/-! ### The save (R195) -/

theorem opSaveImage_lotLaw (r : Req) {s : State} (h : s.lotLaw) : (opSaveImage r s).lotLaw := by
  refine serve_lotLaw h fun _ _ => ?_
  unfold saveBody
  split
  · exact setActivity_lotLaw h rfl
  · exact h

theorem endSave_lotLaw (r : Req) (st : Status) {s : State} (h : s.lotLaw) : (endSave r st s).lotLaw := by
  refine (setActivity_lotLaw (a := .idle) h rfl).congr ?_
  unfold endSave
  dsimp only
  split <;> simp [State.lotView]

theorem opSavePageWritten_lotLaw (ack : Bool) {s : State} (h : s.lotLaw) : (opSavePageWritten ack s).lotLaw := by
  unfold opSavePageWritten
  split
  · split
    · dsimp only
      split
      · exact setActivity_lotLaw (h.congr rfl) rfl
      · exact endSave_lotLaw _ _ (h.congr rfl)
    · exact endSave_lotLaw _ _ (h.congr rfl)
  · exact h

/-! ### Resets and start-up (R193, R194, R198) -/

theorem resetBlocks_lotLaw (s : State) : (resetBlocks s).lotLaw := by
  refine State.Cleared.lotLaw ⟨fun l => ⟨none, ?_⟩, fun p hp => List.eq_of_mem_replicate hp, fun c => ?_, rfl⟩
  · simp [resetBlocks, State.reset]
  · simp [resetBlocks, State.reset, State.request]

theorem opPowerOn_lotLaw (s : State) : (opPowerOn s).lotLaw := resetBlocks_lotLaw _

theorem opPinReset_lotLaw (s : State) : (opPinReset s).lotLaw := (resetBlocks_lotLaw (endSaveByReset s)).congr rfl

theorem deriveState_lotLaw (t : Tables) {s : State} (h : s.lotLaw) (hmode : s.mode = .loading) : (deriveState t s).lotLaw := by
  obtain ⟨hsup, hfree⟩ := (lotLaw_iff.mp h).halted (.inl hmode)
  exact lotLaw_of_free hfree (fun p hp => List.eq_of_mem_replicate hp) (fun c q hq => (h.requested hq).2) hsup

theorem takeImage_lotLaw (t? : Option Tables) {s : State} (h : s.lotLaw) (hmode : s.mode = .loading) : (takeImage t? s).lotLaw := by
  cases t? with
  | some t => exact deriveState_lotLaw t (h.congr (by simp [State.lotView])) (by simpa using hmode)
  | none => exact (deriveState_lotLaw Tables.default h hmode).congr (by simp [takeImage, State.lotView])

theorem startLine_lotLaw {s : State} (h : s.lotLaw) : (startLine s).lotLaw := by
  refine h.of_running (m := .operating) (b := s.activity.isReloading) ?_ LineMode.noConfusion id
  simp [startLine, State.lotView]

theorem opImageLoadComplete_lotLaw (ack : Bool) {s : State} (h : s.lotLaw) : (opImageLoadComplete ack s).lotLaw := by
  unfold opImageLoadComplete
  split
  · rename_i hmode
    exact complete_lotLaw (startLine_lotLaw (takeImage_lotLaw _ h hmode))
  · exact h

end Sys2Proof.Machine
end

section
/-! SUPPORT. Every frame, every command and every step keeps the law of the lots. -/

namespace Sys2Proof.Machine

/-! ### Management requests (R186, R188, R191) -/

theorem opReadState_lotLaw (r : Req) {s : State} (h : s.lotLaw) : (opReadState r s).lotLaw := by
  unfold opReadState
  split
  all_goals exact readOnly_lotLaw h

theorem opManagement_lotLaw (command : Byte) (r : Req) (data : List Byte) {s : State} (h : s.lotLaw) :
    (opManagement command r data s).lotLaw := by
  unfold opManagement
  split
  · exact readOnly_lotLaw h
  · exact readOnly_lotLaw h
  · exact opWriteEntry_lotLaw r data h
  · exact opReadState_lotLaw r h
  · exact opHaltLine_lotLaw r h
  · exact opReleaseLine_lotLaw r h
  · exact opReleaseOverride_lotLaw r h
  · exact opAckEvent_lotLaw r h
  · exact opClearFault_lotLaw r h
  · exact opClearCrusher_lotLaw r h
  · exact opClearDrum_lotLaw r h
  · exact opStartProgram_lotLaw r h
  · exact opAbortProgram_lotLaw r h
  · exact opClearCounters_lotLaw r h
  · exact opClearCauses_lotLaw r h
  · exact opRestartLine_lotLaw r h
  · exact opSaveImage_lotLaw r h
  · exact readOnly_lotLaw h

/-! ### Frames (R173 to R179) -/

theorem takeDischarge_lotLaw {p : Port} {by_ : Consumption} {op : State → State} {s : State} (h : s.lotLaw) (hop : (op s).lotLaw) :
    (takeDischarge p by_ op s).lotLaw := by
  unfold takeDischarge
  split
  · exact complete_lotLaw hop
  · exact h.congr (by simp [discardDischarge, State.lotView])

theorem acceptFrom_lotLaw {p : Port} {src node : Byte} {op : State → State} {s : State} (h : s.lotLaw) (hop : (op s).lotLaw) :
    (acceptFrom p src node op s).lotLaw := by
  unfold acceptFrom
  split
  · exact complete_lotLaw hop
  · exact h.congr (by simp [foreignSample, State.lotView])

theorem opGateStatus_lotLaw (position : Byte) {s : State} (h : s.lotLaw) : (opGateStatus position s).lotLaw :=
  h.congr (by simp [State.lotView])

theorem opFilterSample_lotLaw (drum : Byte) (dp : Half) {s : State} (h : s.lotLaw) : (opFilterSample drum dp s).lotLaw :=
  h.congr (by simp [State.lotView])

theorem dispatch_lotLaw (p : Port) (by_ : Consumption) (t : Telegram) {s : State} (h : s.lotLaw) (hdp : s.dropPointsHigh) :
    (dispatch p by_ t s).lotLaw := by
  have hunusable : (unusableTelegram p s).lotLaw := h.congr (by simp [unusableTelegram, State.lotView])
  unfold dispatch
  split
  · exact takeDischarge_lotLaw h (opDischargeRequest_lotLaw _ _ _ _ h)
  · exact takeDischarge_lotLaw h (opDischargeWithdraw_lotLaw _ h hdp)
  · exact takeDischarge_lotLaw h (opDischargeEnd_lotLaw _ _ _ h)
  · exact acceptFrom_lotLaw h (opBeltSample_lotLaw _ h hdp)
  · exact acceptFrom_lotLaw h (opCrusherStatus_lotLaw _ _ h)
  · exact acceptFrom_lotLaw h (opGateStatus_lotLaw _ h)
  · exact acceptFrom_lotLaw h (opFilterSample_lotLaw _ _ h)
  · split
    · exact opManagement_lotLaw _ _ _ h
    · exact hunusable
  · exact hunusable

theorem consume_lotLaw (p : Port) (by_ : Consumption) (t : Telegram) {s : State} (h : s.lotLaw) (hdp : s.dropPointsHigh) :
    (consume p by_ t s).lotLaw := by
  unfold consume
  split
  · exact dispatch_lotLaw p by_ t (h.congr (by simp [State.lotView])) (hdp.congr (by simp))
  · exact h.congr (by simp [State.lotView])

theorem applyAction_lotLaw (a : Action) (p : Port) (f : Frame) (t : Telegram) {s : State} (h : s.lotLaw) (hdp : s.dropPointsHigh) :
    (applyAction a p f t s).lotLaw := by
  have hforward : (forwardTo p.other f s).lotLaw := h.congr (by simp [State.lotView])
  cases a with
  | forward => exact hforward
  | drop => exact h
  | consume => exact consume_lotLaw p _ t h hdp
  | snoop => exact consume_lotLaw p _ t hforward (hdp.congr (by simp))
  | clamp => exact complete_lotLaw (opCoolantAllotment_lotLaw p f h)

theorem classify_lotLaw (p : Port) (f : Frame) (t : Telegram) {s : State} (h : s.lotLaw) (hdp : s.dropPointsHigh) :
    (classify p f t s).lotLaw := by
  unfold classify
  split
  · exact h.congr (by simp [State.lotView])
  · exact applyAction_lotLaw _ p f t (h.congr (by simp [State.lotView])) (hdp.congr (by simp))

theorem lineFrame_lotLaw (p : Port) (f : Frame) {s : State} (h : s.lotLaw) (hdp : s.dropPointsHigh) : (lineFrame p f s).lotLaw := by
  unfold lineFrame
  split
  · exact h.congr (by simp [State.lotView])
  · split
    · exact consume_lotLaw p _ _ h hdp
    · exact classify_lotLaw p f _ h hdp

theorem loadingFrame_lotView (p : Port) (f : Frame) (s : State) : (loadingFrame p f s).lotView = s.lotView := by
  unfold loadingFrame
  split
  · simp [State.lotView]
  · split <;> simp [State.lotView]

theorem handleFrame_lotLaw (p : Port) (f : Frame) {s : State} (h : s.lotLaw) (hdp : s.dropPointsHigh) : (handleFrame p f s).lotLaw := by
  unfold handleFrame
  split
  · exact h.congr (loadingFrame_lotView p f s)
  · split
    · exact h.congr (by simp [State.lotView])
    · exact lineFrame_lotLaw p f h hdp

theorem opFrameReceived_lotLaw (p : Port) (fcsOk : Bool) (f : Frame) {s : State} (h : s.lotLaw) (hdp : s.dropPointsHigh) :
    (opFrameReceived p fcsOk f s).lotLaw := by
  unfold opFrameReceived
  split
  · exact h.congr (by simp [State.lotView])
  · exact handleFrame_lotLaw p f (complete_lotLaw (goodFrame_lotLaw p h)) (hdp.congr (by simp))

/-! ### Every command -/

/-- Whatever the command, the state it leaves meets the law of the lots. -/
theorem exec_lotLaw (i : Instr) {s : State} (h : s.lotLaw) (hdp : s.dropPointsHigh) : ∃ t, exec i s = .next t ∧ t.lotLaw := by
  have hsame : ∀ {t : State}, t.lotView = s.lotView → (complete t).lotLaw := fun e => complete_lotLaw (h.congr e)
  cases i with
  | powerOn => exact ⟨_, exec_powerOn s, opPowerOn_lotLaw s⟩
  | pinReset => exact ⟨_, exec_pinReset s, opPinReset_lotLaw s⟩
  | imageLoadComplete ack => exact ⟨_, exec_imageLoadComplete ack s, opImageLoadComplete_lotLaw ack h⟩
  | frameReceived p ok f => exact ⟨_, exec_frameReceived p ok f s, opFrameReceived_lotLaw p ok f h hdp⟩
  | dischargeRequest node cls len mass =>
    exact ⟨_, exec_dischargeRequest node cls len mass s, operate_lotLaw h (opDischargeRequest_lotLaw node cls len mass h)⟩
  | dischargeWithdraw node => exact ⟨_, exec_dischargeWithdraw node s, operate_lotLaw h (opDischargeWithdraw_lotLaw node h hdp)⟩
  | dischargeEnd node lot mass => exact ⟨_, exec_dischargeEnd node lot mass s, operate_lotLaw h (opDischargeEnd_lotLaw node lot mass h)⟩
  | beltSample count => exact ⟨_, exec_beltSample count s, operate_lotLaw h (opBeltSample_lotLaw count h hdp)⟩
  | crusherStatus current confirm =>
    exact ⟨_, exec_crusherStatus current confirm s, operate_lotLaw h (opCrusherStatus_lotLaw current confirm h)⟩
  | gateStatus position => exact ⟨_, exec_gateStatus position s, operate_lotLaw h (opGateStatus_lotLaw position h)⟩
  | filterSample d dp => exact ⟨_, exec_filterSample d dp s, operate_lotLaw h (opFilterSample_lotLaw d dp h)⟩
  | coolantAllotment p f => exact ⟨_, exec_coolantAllotment p f s, operate_lotLaw h (opCoolantAllotment_lotLaw p f h)⟩
  | frameTransmitted p => exact ⟨_, exec_frameTransmitted p s, h.congr (by simp [State.lotView])⟩
  | silenceTimeout p => exact ⟨_, exec_silenceTimeout p s, complete_lotLaw (opSilenceTimeout_lotLaw p h)⟩
  | requestUrgent c => exact ⟨_, exec_requestUrgent c s, complete_lotLaw (opRequestUrgent_lotLaw c h)⟩
  | requestExpiry c => exact ⟨_, exec_requestExpiry c s, complete_lotLaw (opRequestExpiry_lotLaw c h)⟩
  | overrideSecond => exact ⟨_, exec_overrideSecond s, h.congr (by unfold opOverrideSecond; split <;> rfl)⟩
  | gateTimeout => exact ⟨_, exec_gateTimeout s, hsame (by simp [State.lotView])⟩
  | startTimerExpiry => exact ⟨_, exec_startTimerExpiry s, complete_lotLaw (opStartTimerExpiry_lotLaw h)⟩
  | idleTimerExpiry => exact ⟨_, exec_idleTimerExpiry s, complete_lotLaw (opIdleTimerExpiry_lotLaw h)⟩
  | flushWaitLimit d => exact ⟨_, exec_flushWaitLimit d s, hsame (by simp [State.lotView])⟩
  | flushTimeEnd d => exact ⟨_, exec_flushTimeEnd d s, hsame (by simp [State.lotView])⟩
  | settleTimeEnd d => exact ⟨_, exec_settleTimeEnd d s, hsame (by simp [State.lotView])⟩
  | stepHoldExpiry => exact ⟨_, exec_stepHoldExpiry s, complete_lotLaw (opStepHoldExpiry_lotLaw h)⟩
  | coalesceAgeLimit => exact ⟨_, exec_coalesceAgeLimit s, h.congr (by simp [State.lotView])⟩
  | readIdent r => exact ⟨_, exec_readIdent r s, readOnly_lotLaw h⟩
  | readEntry r => exact ⟨_, exec_readEntry r s, readOnly_lotLaw h⟩
  | writeEntry r data => exact ⟨_, exec_writeEntry r data s, opWriteEntry_lotLaw r data h⟩
  | writeClassify r e => exact ⟨_, exec_writeClassify r e s, opWriteClassify_lotLaw r e h⟩
  | writeCell r e => exact ⟨_, exec_writeCell r e s, opWriteCell_lotLaw r e h⟩
  | writeClass r e => exact ⟨_, exec_writeClass r e s, opWriteClass_lotLaw r e h⟩
  | writePlant r e => exact ⟨_, exec_writePlant r e s, opWritePlant_lotLaw r e h⟩
  | writeBelt r e => exact ⟨_, exec_writeBelt r e s, opWriteBelt_lotLaw r e h⟩
  | writeProfile r e => exact ⟨_, exec_writeProfile r e s, opWriteProfile_lotLaw r e h⟩
  | writeCrusher r e => exact ⟨_, exec_writeCrusher r e s, opWriteCrusher_lotLaw r e h⟩
  | writeDrum r e => exact ⟨_, exec_writeDrum r e s, opWriteDrum_lotLaw r e h⟩
  | writeFilter r e => exact ⟨_, exec_writeFilter r e s, opWriteFilter_lotLaw r e h⟩
  | writeAction r e => exact ⟨_, exec_writeAction r e s, opWriteAction_lotLaw r e h⟩
  | writeEventroute r e => exact ⟨_, exec_writeEventroute r e s, opWriteEventroute_lotLaw r e h⟩
  | writePort r e => exact ⟨_, exec_writePort r e s, opWritePort_lotLaw r e h⟩
  | writeCoalesce r e => exact ⟨_, exec_writeCoalesce r e s, opWriteCoalesce_lotLaw r e h⟩
  | writeNode r e => exact ⟨_, exec_writeNode r e s, opWriteNode_lotLaw r e h⟩
  | readStatePitches r => exact ⟨_, exec_readStatePitches r s, readOnly_lotLaw h⟩
  | readStateLot r => exact ⟨_, exec_readStateLot r s, readOnly_lotLaw h⟩
  | readStateRequest r => exact ⟨_, exec_readStateRequest r s, readOnly_lotLaw h⟩
  | readStateCrusher r => exact ⟨_, exec_readStateCrusher r s, readOnly_lotLaw h⟩
  | readStateGate r => exact ⟨_, exec_readStateGate r s, readOnly_lotLaw h⟩
  | readStateDrum r => exact ⟨_, exec_readStateDrum r s, readOnly_lotLaw h⟩
  | readStateBelt r => exact ⟨_, exec_readStateBelt r s, readOnly_lotLaw h⟩
  | readStateProgram r => exact ⟨_, exec_readStateProgram r s, readOnly_lotLaw h⟩
  | readStateEvent r => exact ⟨_, exec_readStateEvent r s, readOnly_lotLaw h⟩
  | readStateFault r => exact ⟨_, exec_readStateFault r s, readOnly_lotLaw h⟩
  | readStateCounters r => exact ⟨_, exec_readStateCounters r s, readOnly_lotLaw h⟩
  | readStateRoutes r => exact ⟨_, exec_readStateRoutes r s, readOnly_lotLaw h⟩
  | readStateCauses r => exact ⟨_, exec_readStateCauses r s, readOnly_lotLaw h⟩
  | haltLine r => exact ⟨_, exec_haltLine r s, opHaltLine_lotLaw r h⟩
  | releaseLine r => exact ⟨_, exec_releaseLine r s, opReleaseLine_lotLaw r h⟩
  | releaseOverride r => exact ⟨_, exec_releaseOverride r s, opReleaseOverride_lotLaw r h⟩
  | ackEvent r => exact ⟨_, exec_ackEvent r s, opAckEvent_lotLaw r h⟩
  | clearFault r => exact ⟨_, exec_clearFault r s, opClearFault_lotLaw r h⟩
  | clearCrusher r => exact ⟨_, exec_clearCrusher r s, opClearCrusher_lotLaw r h⟩
  | clearDrum r => exact ⟨_, exec_clearDrum r s, opClearDrum_lotLaw r h⟩
  | startProgram r => exact ⟨_, exec_startProgram r s, opStartProgram_lotLaw r h⟩
  | abortProgram r => exact ⟨_, exec_abortProgram r s, opAbortProgram_lotLaw r h⟩
  | clearCounters r => exact ⟨_, exec_clearCounters r s, opClearCounters_lotLaw r h⟩
  | clearCauses r => exact ⟨_, exec_clearCauses r s, opClearCauses_lotLaw r h⟩
  | restartLine r => exact ⟨_, exec_restartLine r s, opRestartLine_lotLaw r h⟩
  | reloadComplete ack => exact ⟨_, exec_reloadComplete ack s, opReloadComplete_lotLaw ack h⟩
  | saveImage r => exact ⟨_, exec_saveImage r s, opSaveImage_lotLaw r h⟩
  | savePageWritten ack => exact ⟨_, exec_savePageWritten ack s, opSavePageWritten_lotLaw ack h⟩

end Sys2Proof.Machine

namespace Sys2Proof.Proofs

open Sys2Proof.Machine

/-- Settles O58. A tick leaves the lots alone; a command keeps their law (`exec_lotLaw`), where the table ranges are used for the drop points
alone, which stand at index 17 or above: no pitch of a LOADING lot reaches the head. -/
theorem lotLawKept : Obligations.LotLawKept := by
  unfold Obligations.LotLawKept
  intro s t hrange h hstep
  unfold step at hstep
  split at hstep
  · cases hstep
    exact h.congr rfl
  · rename_i c rest _
    have hq : (s.withPending rest).lotLaw := h.congr rfl
    obtain ⟨u, hu, hlaw⟩ := exec_lotLaw c hq ((dropPointsHigh_of_inRange hrange).congr rfl)
    rw [hu] at hstep
    cases hstep
    exact hlaw

end Sys2Proof.Proofs
end

section
/-! SUPPORT. A DISCHARGE REQUEST that passes the tests of R46: what the tests answer, and what placing the request writes (R48, R49). -/

namespace Sys2Proof.Machine

theorem asIndex_val {n : Nat} (k : Fin n) : asIndex n k.val = some k := by simp [asIndex]

@[simp] theorem bump_request (k : Counter) (s : State) (c : CellNo) : (bump k s).request c = s.request c := by
  simp [State.request]

/-- One counter grows on a state whose counter file is the old one. -/
theorem onlyGrew_bump {s t : State} (k : Counter) (h : t.counters = s.counters) : s.onlyGrew (bump k t) [k] := by
  intro c
  simp only [counter_bump, State.counter_of_counters _ h, List.mem_singleton]
  by_cases e : c = k
  · subst e; simp
  · simp [e, Ne.symm e]

/-! ### Arrival (R46 to R49) -/

/-- A request that stands against none of the four tests is passed with its cell, class and length (R46). -/
theorem testRequest_passed {s : State} {node cls len : Byte} {c : CellNo} {k : ClassNo} (hcell : s.cellOf node = some c)
    (henrolled : s.tables.cell[c].enrolled = true) (hclass : k.val = cls.toNat) (henabled : s.tables.cls[k].enabled = true)
    (hpos : 1 ≤ len.toNat) (hmax : len.toNat ≤ 16) (hfits : s.tables.cell[c].dropPoint + len.toNat ≤ s.tables.belt.length)
    (hload : s.loadingLot c = none) : s.testRequest node cls len = .ok (c, k, len.toNat) := by
  have hlen : ¬ (len = 0 ∨ 16 < len.toNat ∨ s.tables.belt.length < s.dropPoint c + len.toNat) := by
    have hne : len ≠ 0 := by rintro rfl; exact absurd hpos (by decide)
    simp only [hne, false_or, State.dropPoint]
    omega
  simp only [State.testRequest, hcell, henrolled, ← hclass, asIndex_val, henabled, hload, if_neg hlen, Option.isSome_none, reduceCtorEq,
    if_false]

/-- The cell's pending request is replaced in class, length and mass estimate alone (R48). -/
theorem placeRequest_of_some {s : State} {c : CellNo} {q : Request} (h : s.request c = some q) (k : ClassNo) (len mass : Nat) :
    placeRequest c k len mass s =
      bump .requestsReplaced (s.setRequest c (some { cls := k, length := len, mass := mass, arrival := q.arrival, urgent := q.urgent })) := by
  simp [placeRequest, h]

/-- With none pending the request is added with the present timebase and is not urgent (R49). -/
theorem placeRequest_of_none {s : State} {c : CellNo} (h : s.request c = none) (k : ClassNo) (len mass : Nat) :
    placeRequest c k len mass s =
      bump .requestsAdded (s.setRequest c (some { cls := k, length := len, mass := mass, arrival := s.now, urgent := false })) := by
  simp [placeRequest, h]

/-- Replaced or added, a request is one update of the cell's place in the list and one count. -/
theorem placeRequest_cases (c : CellNo) (k : ClassNo) (len mass : Nat) (s : State) :
    ∃ count q, placeRequest c k len mass s = bump count (s.setRequest c (some q)) := by
  cases h : s.request c with
  | some q => exact ⟨_, _, placeRequest_of_some h k len mass⟩
  | none => exact ⟨_, _, placeRequest_of_none h k len mass⟩

theorem placeRequest_request_other {c d : CellNo} (h : d ≠ c) (k : ClassNo) (len mass : Nat) (s : State) :
    (placeRequest c k len mass s).request d = s.request d := by
  obtain ⟨count, q, hplace⟩ := placeRequest_cases c k len mass s
  rw [hplace, bump_request, State.setRequest_other _ _ _ _ h]

theorem placeRequest_pointer (c : CellNo) (k : ClassNo) (len mass : Nat) (s : State) :
    (placeRequest c k len mass s).arbiter.pointer = s.arbiter.pointer := by
  obtain ⟨count, q, hplace⟩ := placeRequest_cases c k len mass s
  rw [hplace, bump_arbiter, State.setRequest_pointer]

/-- Placing a request writes the list of requests and the counter file, and nothing else: no order is sent. -/
theorem placeRequest_rest (c : CellNo) (k : ClassNo) (len mass : Nat) (s : State) :
    { placeRequest c k len mass s with arbiter := s.arbiter, counters := s.counters } = s := by
  obtain ⟨count, q, hplace⟩ := placeRequest_cases c k len mass s
  rw [hplace]
  rfl

/-- In OPERATING a request that passes the tests is placed, and an arbiter pass follows (R48, R49, R56). -/
theorem exec_dischargeRequest_passed {s : State} {node cls len : Byte} {c : CellNo} {k : ClassNo} {n : Nat} (hm : s.mode = .operating)
    (htest : s.testRequest node cls len = .ok (c, k, n)) (mass : Half) :
    exec (.dischargeRequest node cls len mass) s = .next (complete (arbiterPass (placeRequest c k n mass.toNat s))) := by
  rw [exec_dischargeRequest, operate_operating hm, opDischargeRequest, htest]

end Sys2Proof.Machine

namespace Sys2Proof.Proofs

open Sys2Proof.Machine

/-- Settles O17. The state before the pass is `placeRequest`'s; whether it is a replacement or an addition turns on the cell's pending
request alone. -/
theorem requestsTaken : Obligations.RequestsTaken := by
  unfold Obligations.RequestsTaken
  intro node cls len mass s c k hm hcell henrolled hclass henabled hpos hmax hfits hload
  have htest := testRequest_passed hcell henrolled hclass henabled hpos hmax hfits hload
  refine ⟨placeRequest c k len.toNat mass.toNat s, exec_dischargeRequest_passed hm htest mass, ?replaced, ?added, ?others,
    placeRequest_pointer c k _ _ s, placeRequest_rest c k _ _ s⟩
  case replaced =>
    intro q hq
    rw [placeRequest_of_some hq]
    exact ⟨by simp, onlyGrew_bump _ (State.setRequest_counters s c _)⟩
  case added =>
    intro hq
    rw [placeRequest_of_none hq]
    exact ⟨by simp, onlyGrew_bump _ (State.setRequest_counters s c _)⟩
  case others => exact fun d hd => placeRequest_request_other hd k _ _ s

end Sys2Proof.Proofs
end

section
/-! SUPPORT. The checks of the table rules give entries in their ranges, and so do the tables of a valid image (R189, R192). -/

namespace Sys2Proof.Machine

/-! ### One entry -/

theorem checkClassify_inRange {r : RawClassify} {v : ClassifyEntry} (h : checkClassify r = some v) : v.inRange := by
  simp only [checkClassify, Option.bind_eq_bind, Option.bind_eq_some_iff] at h
  obtain ⟨valid, -, arrival, -, kindAny, -, sourceAny, -, destAny, -, action, -, h⟩ := h
  split at h
  · cases h
  · rename_i hclamp
    cases h
    intro haction
    have hact : action = .clamp := haction
    simpa [hact] using hclamp

theorem checkCell_inRange {p : Nat} {r : RawCell} {v : CellEntry} (h : checkCell p r = some v) : v.inRange p := by
  simp only [checkCell, Option.bind_eq_bind, Option.bind_eq_some_iff] at h
  obtain ⟨enrolled, -, h⟩ := h
  split_ifs at h with hdrop hnode hnone
  cases h
  have hshare := r.share.isLt
  exact ⟨by simp only; omega, by simp only; omega, hnode, fun he hz => hnone ⟨he, hz⟩, by simp only; omega⟩

theorem checkClass_inRange {r : RawClass} {v : ClassEntry} (h : checkClass r = some v) : v.inRange := by
  simp only [checkClass, Option.bind_eq_bind, Option.bind_eq_some_iff] at h
  obtain ⟨enabled, -, route, -, crush, -, h⟩ := h
  split at h
  · cases h
  · rename_i hfines
    cases h
    exact Nat.not_lt.mp hfines

theorem checkPlant_inRange {r : RawPlant} {v : PlantEntry} (h : checkPlant r = some v) : v.inRange := by
  simp only [checkPlant] at h
  split_ifs at h with hnone
  cases h
  simpa [PlantEntry.inRange] using hnone

theorem checkBelt_inRange {r : RawBelt} {v : BeltEntry} (h : checkBelt r = some v) : v.inRange := by
  simp only [checkBelt] at h
  split_ifs at h with hrange
  cases h
  have hmpa : r.mpa.toNat ≠ 0 := fun e => hrange (by simp [BitVec.toNat_eq, e])
  have hlt := r.mpa.isLt
  simp only [BeltEntry.inRange]
  omega

theorem takenProfile_inRange (r : RawProfile) : (takenProfile r).inRange := ⟨Nat.min_le_right _ _, Nat.min_le_right _ _⟩

theorem checkCrusher_inRange {r : RawCrusher} {v : CrusherEntry} (h : checkCrusher r = some v) : v.inRange := by
  simp only [checkCrusher, Option.bind_eq_bind, Option.bind_eq_some_iff] at h
  obtain ⟨delay, -, h⟩ := h
  split at h
  · cases h
  rename_i hdelay
  split at h
  · cases h
  rename_i hrange
  cases h
  have hjam : r.jamThreshold.toNat ≠ 0 := fun e => hrange (by simp [BitVec.toNat_eq, e])
  have hlimit : r.limit.toNat ≠ 0 := fun e => hrange (by simp [BitVec.toNat_eq, e])
  have hdelay' : r.startDelay.toNat = 128 ∨ r.startDelay.toNat = 256 ∨ r.startDelay.toNat = 512 := by
    have h128 : (128 : Half).toNat = 128 := rfl
    have h256 : (256 : Half).toNat = 256 := rfl
    have h512 : (512 : Half).toNat = 512 := rfl
    simp only [ne_eq, BitVec.toNat_eq, h128, h256, h512] at hdelay
    omega
  have := r.jamThreshold.isLt
  have := r.limit.isLt
  have := r.clearLevel.isLt
  simp only [CrusherEntry.inRange]
  omega

theorem checkCrusherImage_inRange {r : RawCrusher} {v : CrusherEntry} (h : checkCrusherImage r = some v) : v.inRange := by
  simp only [checkCrusherImage] at h
  split_ifs at h
  exact checkCrusher_inRange h

theorem checkDrum_inRange {r : RawDrum} {v : DrumEntry} (h : checkDrum r = some v) : v.inRange := by
  simp only [checkDrum, Option.bind_eq_bind, Option.bind_eq_some_iff] at h
  obtain ⟨enabled, -, h⟩ := h
  split_ifs at h with hrange
  cases h
  have hdp : r.dpLimit.toNat ≠ 0 := fun e => hrange (by simp [BitVec.toNat_eq, e])
  have hthreshold : r.threshold.toNat ≠ 0 := fun e => hrange (by simp [BitVec.toNat_eq, e])
  have := r.dpLimit.isLt
  simp only [DrumEntry.inRange]
  omega

theorem checkFilter_inRange {r : RawFilter} {v : FilterEntry} (h : checkFilter r = some v) : v.inRange := by
  simp only [checkFilter] at h
  split_ifs at h with hrange
  cases h
  simp only [FilterEntry.inRange]
  omega

/-- A mode that its target takes (R138). -/
theorem stepMode_mem {t : Target} {b : Byte} {m : Mode} (h : stepMode t b = some m) :
    match t with
    | .belt => m = .run
    | .crusher => m = .stop ∨ m = .forward ∨ m = .reverse
    | .gate => m = .move
    | .drum _ => m = .stop ∨ m = .run ∨ m = .flush := by
  cases t with
  | belt => exact (Option.some.inj h).symm
  | crusher => simpa using (Option.filter_eq_some_iff.mp h).2
  | gate => simpa using (Option.filter_eq_some_iff.mp h).2
  | drum d => simpa using (Option.filter_eq_some_iff.mp h).2

theorem checkStep_inRange {t : Target} {mode : Byte} {setpoint hold : Half} {st : StepEntry}
    (h : checkStep t mode setpoint hold = some st) : st.inRange t := by
  simp only [checkStep, Option.bind_eq_bind, Option.bind_eq_some_iff] at h
  obtain ⟨m, hmode, h⟩ := h
  split_ifs at h with hgate hhold
  cases h
  have hpos : hold.toNat ≠ 0 := fun e => hhold (.inl (by simp [BitVec.toNat_eq, e]))
  have hm := stepMode_mem hmode
  refine ⟨by simp only; omega, by simp only; omega, ?_⟩
  cases t with
  | belt => exact ⟨hm, Nat.min_le_right _ _⟩
  | crusher => exact ⟨hm, Nat.min_le_right _ _⟩
  | gate => exact ⟨hm, by simpa [stepSetpoint] using hgate⟩
  | drum d => exact ⟨hm, rfl⟩

theorem absentStep_inRange (t : Target) (mode : Byte) (setpoint hold : Half) : (absentStep t mode setpoint hold).inRange t := by
  have hlt := setpoint.isLt
  cases t with
  | belt =>
    refine ⟨rfl, ?_⟩
    simp only [stepSetpoint, BitVec.toNat_ofNat]
    omega
  | crusher =>
    simp only [absentStep, StepB.inRange, stepSetpoint, BitVec.toNat_ofNat]
    omega
  | gate => trivial
  | drum d => rfl

theorem checkAction_inRange {r : RawAction} {v : Descriptor} (h : checkAction r = some v) : v.inRange := by
  simp only [checkAction, Option.bind_eq_bind, Option.bind_eq_some_iff] at h
  obtain ⟨t, -, a, ha, present, -, h⟩ := h
  obtain ⟨b, hb, e, -, link, -, notify, -, h⟩ : ∃ b, b.inRange t ∧ ∃ e, EndTest.ofCode r.endTest = some e ∧ ∃ link,
      asOptional 32 r.link = some link ∧ ∃ notify, asFlag r.notifyAtEnd = some notify ∧
        (if e = .dpLow ∧ t.isDrum = false then none
          else some { target := t, stepA := a, stepB := b, repeats := r.repeats, endTest := e, link := link, notifyAtEnd := notify }) =
          some v := by
    split at h
    · simp only [Option.bind_eq_some_iff, Option.map_eq_some_iff] at h
      obtain ⟨b, ⟨st, hst, rfl⟩, h⟩ := h
      exact ⟨.present st, checkStep_inRange hst, h⟩
    · simp only [Option.bind_eq_some_iff] at h
      obtain ⟨b, hb, h⟩ := h
      exact ⟨b, Option.some.inj hb ▸ absentStep_inRange t _ _ _, h⟩
  split_ifs at h with htest
  cases h
  refine ⟨checkStep_inRange ha, hb, fun he => ?_⟩
  cases t with
  | drum i => exact ⟨i, rfl⟩
  | _ => exact absurd ⟨he, rfl⟩ htest

theorem checkRoute_inRange {r : RawRoute} {v : RouteEntry} (h : checkRoute r = some v) : v.inRange := by
  simp only [checkRoute, Option.bind_eq_bind, Option.bind_eq_some_iff] at h
  obtain ⟨notify, -, program, -, notifyAfter, -, urgent, -, overriding, -, h⟩ := h
  split_ifs at h with hafter
  cases h
  intro hn
  simpa [show notifyAfter = true from hn] using hafter

theorem checkPort_range {r : RawPort} {ms : Nat} (h : checkPort r = some ms) : 20 ≤ ms ∧ ms ≤ 2000 := by
  simp only [checkPort] at h
  split_ifs at h
  cases h
  omega

theorem checkCoalesce_range {r : RawCoalesce} {ms : Nat} (h : checkCoalesce r = some ms) : 1 ≤ ms ∧ ms ≤ 15 := by
  simp only [checkCoalesce] at h
  split_ifs at h
  cases h
  omega

theorem checkNode_inRange {r : RawNode} {v : NodeEntry} (h : checkNode r = some v) : v.inRange := by
  simp only [checkNode, Option.bind_eq_bind, Option.bind_eq_some_iff] at h
  obtain ⟨suppress, -, cellSide, -, reload, -, h⟩ := h
  split_ifs at h with hnone
  cases h
  simpa [NodeEntry.inRange] using hnone

/-! ### Whole tables -/

/-- Every entry of a vector that `allValid` gives was checked. -/
theorem allValid_get {α : Type} {n : Nat} {fallback : α} {v : Vector (Option α) n} {w : Vector α n} (h : allValid fallback v = some w)
    (i : Fin n) : v[i] = some w[i] := by
  simp only [allValid] at h
  split_ifs at h with hall
  cases h
  have hmem : v[i] ∈ v.toList := by simp
  obtain ⟨x, hx⟩ := Option.isSome_iff_exists.mp (List.all_eq_true.mp hall _ hmem)
  simp only [Fin.getElem_fin, Vector.getElem_map] at hx ⊢
  rw [hx]
  rfl

/-- A table of checked entries holds entries in their ranges. -/
theorem allValid_ofFn {α : Type} {n : Nat} {fallback : α} {f : Fin n → Option α} {w : Vector α n} {P : α → Prop}
    (h : allValid fallback (Vector.ofFn f) = some w) (hf : ∀ i v, f i = some v → P v) (i : Fin n) : P w[i] := by
  have hget := allValid_get h i
  simp only [Fin.getElem_fin, Vector.getElem_ofFn] at hget
  exact hf i _ hget

theorem nodesDistinct_iff {v : Vector CellEntry 24} :
    nodesDistinct v = true ↔ ∀ c d : CellNo, v[c].node = v[d].node → v[c].node ≠ 0 → c = d := by
  simp only [nodesDistinct, List.all_eq_true, List.mem_finRange, forall_const, Bool.or_eq_true, decide_eq_true_eq]
  constructor
  · intro h c d hnode hne
    obtain (rfl | hzero) | hdiff := h c d
    · rfl
    · exact absurd hzero hne
    · exact absurd hnode hdiff
  · intro h c d
    by_cases hne : v[c].node = 0
    · exact .inl (.inr hne)
    · by_cases hnode : v[c].node = v[d].node
      · exact .inl (.inl (h c d hnode hne))
      · exact .inr hnode

theorem ofBytes_inRange {l : List Byte} {t : Tables} (h : Tables.ofBytes l = some t) : t.inRange := by
  obtain ⟨belt, hbelt, h⟩ := Option.bind_eq_some_iff.mp h
  obtain ⟨classify, hclassify, h⟩ := Option.bind_eq_some_iff.mp h
  obtain ⟨cell, hcell, h⟩ := Option.bind_eq_some_iff.mp h
  obtain ⟨cls, hcls, h⟩ := Option.bind_eq_some_iff.mp h
  obtain ⟨plant, hplant, h⟩ := Option.bind_eq_some_iff.mp h
  obtain ⟨crusher, hcrusher, h⟩ := Option.bind_eq_some_iff.mp h
  obtain ⟨drum, hdrum, h⟩ := Option.bind_eq_some_iff.mp h
  obtain ⟨filter, hfilter, h⟩ := Option.bind_eq_some_iff.mp h
  obtain ⟨action, haction, h⟩ := Option.bind_eq_some_iff.mp h
  obtain ⟨route, hroute, h⟩ := Option.bind_eq_some_iff.mp h
  obtain ⟨silenceCell, hsc, h⟩ := Option.bind_eq_some_iff.mp h
  obtain ⟨silencePlant, hsp, h⟩ := Option.bind_eq_some_iff.mp h
  obtain ⟨coalesceAge, hage, h⟩ := Option.bind_eq_some_iff.mp h
  obtain ⟨node, hnode, h⟩ := Option.bind_eq_some_iff.mp h
  split_ifs at h with hdistinct
  cases h
  exact ⟨allValid_ofFn hclassify fun _ _ => checkClassify_inRange, allValid_ofFn hcell fun _ _ => checkCell_inRange,
    nodesDistinct_iff.mp hdistinct, allValid_ofFn hcls fun _ _ => checkClass_inRange, checkPlant_inRange hplant,
    checkBelt_inRange hbelt, takenProfile_inRange _, checkCrusherImage_inRange hcrusher,
    allValid_ofFn hdrum fun _ _ => checkDrum_inRange, checkFilter_inRange hfilter,
    allValid_ofFn haction fun _ _ => checkAction_inRange, allValid_ofFn hroute fun _ _ => checkRoute_inRange, checkPort_range hsc,
    checkPort_range hsp, checkCoalesce_range hage, checkNode_inRange hnode⟩

/-- The tables of a valid image lie in their ranges (R192). -/
theorem readImage_inRange {ack : Bool} {m : Memory} {t : Tables} (h : readImage ack m = some t) : t.inRange := by
  simp only [readImage, decodeImage] at h
  split_ifs at h
  exact ofBytes_inRange h

/-- The default tables lie in their ranges (R193). -/
theorem default_inRange : Tables.default.inRange := by
  have hcell : ∀ c : CellNo, Tables.default.cell[c] = CellEntry.default := fun c => by simp [Tables.default]
  refine ⟨fun i => ?classify, fun c => ?cell, fun c d _ hne => absurd (congrArg CellEntry.node (hcell c)) hne, fun k => ?cls, ?plant,
    ?belt, ?profile, ?crusher, fun d => ?drum, ?filter, fun i => ?action, fun i => ?route, by decide, by decide, by decide, ?node⟩
  case classify => simp [Tables.default, ClassifyEntry.inRange, ClassifyEntry.default]
  case cell => rw [hcell]; simp [CellEntry.inRange, CellEntry.default, Tables.default, BeltEntry.default]
  case cls => simp [Tables.default, ClassEntry.inRange, ClassEntry.default]
  case plant => simp [Tables.default, PlantEntry.inRange, PlantEntry.default]
  case belt => simp [Tables.default, BeltEntry.inRange, BeltEntry.default]
  case profile => simp [Tables.default, ProfileEntry.inRange, ProfileEntry.default]
  case crusher => simp [Tables.default, CrusherEntry.inRange, CrusherEntry.default]
  case drum => simp [Tables.default, DrumEntry.inRange, DrumEntry.default]
  case filter => simp [Tables.default, FilterEntry.inRange, FilterEntry.default]
  case action => simp [Tables.default, Descriptor.inRange, Descriptor.default, StepEntry.inRange, StepB.inRange]
  case route => simp [Tables.default, RouteEntry.inRange, RouteEntry.default]
  case node => simp [Tables.default, NodeEntry.inRange, NodeEntry.default]

end Sys2Proof.Machine
end

section
/-! SUPPORT. What any operation does to the fields that the laws of the blocks read: a run of a few kinds of edit. Each law is then a statement
about the edits alone, and every operation's body is walked through once. -/

namespace Sys2Proof.Machine

/-- What the laws of the blocks read of a state: the tables, the map, the two queues, the coalescer's entries with the selected setpoint, and
which drums are in a phase. -/
structure BlockView where
  tables     : Tables
  map        : List Pitch
  cellQueue  : List Frame
  plantQueue : List Frame
  entries    : List Entry
  selected   : Nat
  busy       : DrumNo → Bool

def State.blockView (s : State) : BlockView :=
  { tables := s.tables, map := s.tracker.map, cellQueue := s.cellPort.queue, plantQueue := s.plantPort.queue,
    entries := s.coalescer.entries, selected := s.belt.selected, busy := fun d => (s.drum d).state.busy }

/-- What the edits are told apart by: the view of the blocks, and the three cause flags. -/
structure EditView where
  block  : BlockView
  causes : Bool × Bool × Bool

def State.editView (s : State) : EditView := { block := s.blockView, causes := s.causes }

theorem blockView_of_editView {s t : State} (h : t.editView = s.editView) : t.blockView = s.blockView := congrArg EditView.block h

/-- What is watched besides the laws of the blocks. `gap`: a new guard gap is written only where it was the same before or every pitch is EMPTY
(R7). `causes`: no edit writes a cause flag (R160). -/
structure Watch where
  gap    : Prop
  causes : Prop

/-- The edits, under a watch. -/
inductive Edit (w : Watch) : State → State → Prop
  | quiet {s t : State} (h : t.editView = s.editView) : Edit w s t
  | mark (s : State) (n : Notices) (h : ¬ w.causes) : Edit w s { s with notices := n }
  | enqueue {s : State} (p : Port) (f : Frame) (h : s.hasRoom p = true) : Edit w s (enqueue p f s)
  | dequeue {s : State} (p : Port) {f : Frame} {rest : List Frame} (h : (s.port p).queue = f :: rest) :
      Edit w s (s.setPort p { s.port p with queue := rest })
  | hand {s : State} {t : Target} (m : Mode) (setpoint : Nat) (h : t ≠ .belt) : Edit w s (hand t m setpoint s)
  | issue (s : State) : Edit w s (issueSetpoint s)
  | unload (s : State) (t : Target) : Edit w s (removeEntry t s)
  | discard (s : State) : Edit w s (restartCoalescer s)
  | drum {s : State} (d : DrumNo) (r : DrumRec) (h : r.state.busy = true → (s.drum d).state.busy = true) : Edit w s (s.setDrum d r)
  | flush {s : State} (d : DrumNo) (r : DrumRec) (h : ∀ e, (s.drum e).state.busy = false) : Edit w s (s.setDrum d r)
  | window {s : State} (c : CellNo) (q : Request) (l : LotNo) (h : s.feasible c q = true) :
      Edit w s (s.setMap (writeWindow (s.dropPoint c) q.length l q.cls s.tracker.map))
  | release (s : State) (l : LotNo) : Edit w s (s.setMap (s.tracker.map.map (releasePitch l)))
  | load {s : State} {i : Nat} {l : LotNo} {k : ClassNo} (h : s.tracker.map[i]? = some (.reserved l k)) :
      Edit w s (s.setMap (s.tracker.map.set i (.loaded l k)))
  | shift {s : State} {p : Pitch} {rest : List Pitch} (h : s.tracker.map = p :: rest) : Edit w s (s.setMap (rest ++ [.empty]))
  | clear (s : State) : Edit w s (restartTracker s)
  | retable {s : State} (t : Tables) (h : s.tables.inRange → t.inRange)
      (hgap : w.gap → t.belt.gap = s.tables.belt.gap ∨ ∀ p ∈ s.tracker.map, p = .empty) : Edit w s (takeTables t s)
  | rebuild {s : State} (t : Tables) (h : t.inRange) : Edit w s (deriveState t s)

/-- A run of edits. -/
abbrev Edits (w : Watch) : State → State → Prop := Relation.ReflTransGen (Edit w)

variable {w : Watch}

theorem Edits.same {s t : State} (h : t.editView = s.editView) : Edits w s t := .single (.quiet h)

/-- A run may be followed to a state that the laws cannot tell from its end. -/
theorem Edits.then_same {s t u : State} (h : Edits w s t) (e : u.editView = t.editView) : Edits w s u := h.tail (.quiet e)

/-- A law that every edit keeps is kept by a run. -/
theorem Edits.keeps {P : State → Prop} (hP : ∀ {s t : State}, Edit w s t → P s → P t) {s t : State} (h : Edits w s t) (hs : P s) : P t := by
  induction h with
  | refl => exact hs
  | tail _ he ih => exact hP he ih

variable {s t : State}

/-- A run goes on over a list of operations. -/
theorem foldl_edits {α : Type} {f : State → α → State} (hf : ∀ (t : State) (a : α), Edits w s t → Edits w s (f t a)) (l : List α)
    (h : Edits w s t) : Edits w s (l.foldl f t) :=
  List.foldlRecOn l f h fun t h a _ => hf t a h

/-! ### Queues, orders, replies, notices (Machine/Flags.lean, Machine/Ops.lean) -/

theorem bumpBy_edits (c : Counter) (n : Nat) (h : Edits w s t) : Edits w s (bumpBy c n t) := h.then_same rfl

theorem bump_edits (c : Counter) (h : Edits w s t) : Edits w s (bump c t) := h.then_same rfl

theorem raise_edits (o : Occurrence) (h : Edits w s t) : Edits w s (raise o t) := h.then_same rfl

theorem raiseFault_edits (k : FaultKind) (l : Option LotNo) (c : Option CellNo) (d : Option Detail) (h : Edits w s t) :
    Edits w s (raiseFault k l c d t) := h.then_same (by simp [State.editView, State.blockView, State.drum, State.causes, raiseFault_causes])

theorem forwardTo_edits (p : Port) (f : Frame) (h : Edits w s t) : Edits w s (forwardTo p f t) := by
  unfold forwardTo
  split
  · rename_i hroom
    exact h.tail (.enqueue p f hroom)
  · exact bump_edits _ h

theorem placeFrom_edits (src : Byte) (p : Port) (dest kind : Byte) (body : List Byte) (h : Edits w s t) :
    Edits w s (placeFrom src p dest kind body t) := by
  unfold placeFrom
  split
  · rename_i hroom
    exact h.tail (.enqueue p _ hroom)
  · exact raiseFault_edits _ _ _ _ (bump_edits _ h)

theorem placeOwn_edits (p : Port) (dest kind : Byte) (body : List Byte) (h : Edits w s t) : Edits w s (placeOwn p dest kind body t) :=
  placeFrom_edits _ p dest kind body h

theorem sendOrder_edits (o : Order) (node : Byte) (l : Option LotNo) (n : Nat) (r : Option Reason) (h : Edits w s t) :
    Edits w s (sendOrder o node l n r t) := placeOwn_edits _ _ _ _ h

theorem sendLotOrder_edits (o : Order) (l : LotNo) (c : CellNo) (h : Edits w s t) : Edits w s (sendLotOrder o l c t) :=
  sendOrder_edits _ _ _ _ _ h

theorem refuse_edits (r : Reason) (node : Byte) (h : Edits w s t) : Edits w s (refuse r node t) :=
  sendOrder_edits _ _ _ _ _ (bump_edits _ h)

theorem sendNotice_edits (src : Option SourceNo) (n : Nat) (o : Option ChainOutcome) (tr : Trigger) (h : Edits w s t) :
    Edits w s (sendNotice src n o tr t) := by
  unfold sendNotice
  repeat' split
  · exact bump_edits _ h
  · exact bump_edits _ (placeOwn_edits _ _ _ _ h)
  · exact placeOwn_edits _ _ _ _ h

/-! ### The coalescer and the setpoint -/

theorem unloadOnce_edits (h : Edits w s t) : Edits w s (unloadOnce t).1 := by
  unfold unloadOnce
  split
  · exact h
  · rename_i e c _
    have hremoved : Edits w s (removeEntry e.target t) := h.tail (.unload t e.target)
    repeat' split
    · exact bump_edits _ hremoved
    · exact bump_edits _ (bump_edits _ (placeOwn_edits _ _ _ _ hremoved))
    · exact h
    · exact bump_edits _ (h.then_same rfl)

theorem unloadLoop_edits (n : Nat) (h : Edits w s t) : Edits w s (unloadLoop n t) := by
  induction n generalizing t with
  | zero => exact h
  | succ n ih =>
    unfold unloadLoop
    split
    · exact ih (unloadOnce_edits h)
    · exact unloadOnce_edits h

theorem unloadTest_edits (h : Edits w s t) : Edits w s (unloadTest t) := unloadLoop_edits _ h

theorem unloadIfHanded_edits (h : Edits w s t) : Edits w s (unloadIfHanded t) := by
  unfold unloadIfHanded
  split
  · exact unloadTest_edits (h.then_same rfl)
  · exact h

theorem issueSetpoint_edits (h : Edits w s t) : Edits w s (issueSetpoint t) := h.tail (.issue t)

theorem reselect_edits (h : Edits w s t) : Edits w s (reselect t) := by
  unfold reselect
  split
  · exact h
  · exact issueSetpoint_edits h

theorem latchOverride_edits (h : Edits w s t) : Edits w s (latchOverride t) := by
  unfold latchOverride
  split
  · exact h
  · exact reselect_edits (bump_edits _ (h.then_same rfl))

theorem releaseOverride_edits (h : Edits w s t) : Edits w s (releaseOverride t) := by
  unfold releaseOverride
  split
  · exact reselect_edits (h.then_same rfl)
  · exact h

/-! ### Filtration (Machine/Filtration.lean) -/

theorem handDrum_edits (d : DrumNo) (h : Edits w s t) : Edits w s (handDrum d t) := by
  unfold handDrum
  split
  · exact h
  · exact bump_edits _ (h.tail (.hand _ _ (by simp)))

/-- A drum's record changes, and its command is then handed over. -/
theorem changeDrum_edits {d : DrumNo} {r : DrumRec} (h : Edits w s (t.setDrum d r)) : Edits w s (changeDrum d r t) := by
  unfold changeDrum
  split
  · exact h
  · exact handDrum_edits d h

/-- A record that is in no phase may be written at any time. -/
theorem changeDrum_still {d : DrumNo} {r : DrumRec} (hr : r.state.busy = false) (h : Edits w s t) : Edits w s (changeDrum d r t) :=
  changeDrum_edits (h.tail (.drum d r (by simp [hr])))

theorem testCapacity_edits (h : Edits w s t) : Edits w s (testCapacity t) := by
  unfold testCapacity
  repeat' split
  · exact h
  · exact h.then_same rfl
  · exact h.then_same rfl

theorem recomputeCapacity_edits (h : Edits w s t) : Edits w s (recomputeCapacity t) := testCapacity_edits (h.then_same rfl)

theorem cutResidue_edits (n : Nat) (h : Edits w s t) : Edits w s (cutResidue n t) := h.then_same rfl

theorem afterCountChange_edits (n : Nat) (h : Edits w s t) : Edits w s (afterCountChange n t) := by
  unfold afterCountChange
  repeat' split
  · exact h
  · exact recomputeCapacity_edits (cutResidue_edits _ h)
  · exact recomputeCapacity_edits h

theorem recordAllotment_edits (c : CellNo) (flow : Nat) (h : Edits w s t) : Edits w s (recordAllotment c flow t) :=
  testCapacity_edits (h.then_same rfl)

theorem lastFlushed_edits (d : DrumNo) (h : Edits w s t) :
    Edits w s { t with filtration := { t.filtration with lastFlushed := d } } := h.then_same rfl

/-- A flush is granted only while no drum is in a phase (R121). -/
theorem grantFlush_edits {d : DrumNo} (hstill : ∀ e, (t.drum e).state.busy = false) (h : Edits w s t) : Edits w s (grantFlush d t) :=
  afterCountChange_edits _ (bump_edits _ (lastFlushed_edits d (changeDrum_edits (h.tail (.flush d _ hstill)))))

theorem considerFlush_edits (ds : List DrumNo) (hstill : ∀ e, (t.drum e).state.busy = false) (h : Edits w s t) :
    Edits w s (considerFlush ds t) := by
  induction ds with
  | nil => exact h
  | cons d ds ih =>
    unfold considerFlush
    split
    · exact ih
    · exact grantFlush_edits hstill h
    · exact grantFlush_edits hstill (bump_edits _ (raise_edits _ h))

/-- No drum of the list in a phase means no drum at all. -/
theorem not_busy_of_any (h : ¬ (drumList.any fun d => (t.drum d).state.busy) = true) (e : DrumNo) : (t.drum e).state.busy = false := by
  have hmem : e ∈ drumList := by revert e; decide
  simpa using fun hb : (t.drum e).state.busy = true => h (List.any_eq_true.mpr ⟨e, hmem, hb⟩)

theorem arbitrateFlush_edits (h : Edits w s t) : Edits w s (arbitrateFlush t) := by
  have hcounted : Edits w s (bump .flushArbitrations t) := bump_edits _ h
  unfold arbitrateFlush
  dsimp only
  split
  · exact hcounted
  · rename_i hbusy
    exact considerFlush_edits _ (not_busy_of_any hbusy) hcounted

theorem enterWait_edits (d : DrumNo) (h : Edits w s t) : Edits w s (enterWait d t) := changeDrum_still rfl h

theorem addFines_edits (share : Nat) (d : DrumNo) (h : Edits w s t) : Edits w s (addFines share d t) := by
  unfold addFines
  split
  · exact h.tail (.drum d _ id)
  · exact h

theorem waitIfReached_edits (d : DrumNo) (h : Edits w s t) : Edits w s (waitIfReached d t) := by
  unfold waitIfReached
  split
  · exact enterWait_edits d h
  · exact h

theorem testFines_edits (h : Edits w s t) : Edits w s (testFines t) := by
  unfold testFines
  split
  · exact arbitrateFlush_edits (foldl_edits (fun _ d => waitIfReached_edits d) _ h)
  · exact h

theorem residue_edits (n : Nat) (h : Edits w s t) : Edits w s { t with filtration := { t.filtration with residue := n } } :=
  h.then_same rfl

theorem creditFines_edits (mass : Nat) (k : ClassNo) (h : Edits w s t) : Edits w s (creditFines mass k t) := by
  unfold creditFines
  dsimp only
  split
  · exact bumpBy_edits _ _ (bumpBy_edits _ _ (bump_edits _ h))
  · exact testFines_edits (bumpBy_edits _ _ (residue_edits _
      (foldl_edits (fun _ d => addFines_edits _ d) _ (bumpBy_edits _ _ (bump_edits _ h)))))

theorem enterWaitByDp_edits (d : DrumNo) (h : Edits w s t) : Edits w s (enterWaitByDp d t) :=
  bump_edits _ (raise_edits _ (enterWait_edits d h))

theorem opFilterSample_edits (drum : Byte) (dp : Half) (h : Edits w s t) : Edits w s (opFilterSample drum dp t) := by
  unfold opFilterSample
  split
  · exact bump_edits _ h
  · rename_i d _
    have hrecorded : Edits w s (t.setDrum d { t.drum d with dp := dp.toNat }) := h.tail (.drum d _ id)
    dsimp only
    split
    · exact arbitrateFlush_edits (enterWaitByDp_edits d hrecorded)
    · exact hrecorded

theorem opFlushTimeEnd_edits (d : DrumNo) (h : Edits w s t) : Edits w s (opFlushTimeEnd d t) := by
  unfold opFlushTimeEnd
  split
  · rename_i e he
    split
    · exact changeDrum_edits (h.tail (.drum d _ fun _ => by simp [he, DrumState.busy]))
    · exact h
  · exact h

theorem failDrum_edits (d : DrumNo) (h : Edits w s t) : Edits w s (failDrum d t) :=
  bump_edits _ (raiseFault_edits _ _ _ _ (raise_edits _ (changeDrum_still rfl h)))

theorem settleOutcome_edits (d : DrumNo) (h : Edits w s t) : Edits w s (settleOutcome d t) := by
  unfold settleOutcome
  split
  · exact changeDrum_still rfl h
  · split
    · exact bump_edits _ (changeDrum_still rfl h)
    · have hfailed : Edits w s (bump .flushesFailed (t.setDrum d { t.drum d with failed := (t.drum d).failed + 1 })) :=
        bump_edits _ (h.tail (.drum d _ id))
      dsimp only
      split
      · exact enterWait_edits d hfailed
      · exact failDrum_edits d hfailed

theorem opSettleTimeEnd_edits (d : DrumNo) (h : Edits w s t) : Edits w s (opSettleTimeEnd d t) := by
  unfold opSettleTimeEnd
  repeat' split
  · exact arbitrateFlush_edits (afterCountChange_edits _ (settleOutcome_edits d (h.tail (.drum d _ id))))
  · exact h
  · exact h

theorem opFlushWaitLimit_edits (d : DrumNo) (h : Edits w s t) : Edits w s (opFlushWaitLimit d t) := by
  unfold opFlushWaitLimit
  repeat' split
  · exact arbitrateFlush_edits h
  · exact h
  · exact h

theorem enableDrum_busy (was new : Bool) (r : DrumRec) (h : (enableDrum was new r).state.busy = true) : r.state.busy = true := by
  obtain ⟨state, fines, dp, failed⟩ := r
  cases was <;> cases new <;> cases state <;> exact h

theorem retestDrum_edits (d : DrumNo) (h : Edits w s t) : Edits w s (retestDrum d t) := by
  have hwait : Edits w s (t.setDrum d { t.drum d with state := .flushWait t.now }) := h.tail (.drum d _ (by simp [DrumState.busy]))
  unfold retestDrum
  repeat' split
  · exact hwait
  · exact bump_edits _ (raise_edits _ hwait)
  · exact h
  · exact h

/-- A command handed over after the test of a changed entry, where it differs (R112). -/
theorem handIf_edits {c : Prop} [Decidable c] (d : DrumNo) (h : Edits w s t) : Edits w s (if c then t else handDrum d t) := by
  split
  · exact h
  · exact handDrum_edits d h

theorem applyDrum_edits (d : DrumNo) (old : DrumEntry) (h : Edits w s t) : Edits w s (applyDrum d old t) := by
  unfold applyDrum
  have htested := retestDrum_edits d (h.tail (.drum d _ (enableDrum_busy old.enabled t.tables.drum[d].enabled (t.drum d))))
  extract_lets tested handedOver
  have hhanded : Edits w s handedOver := handIf_edits d htested
  clear_value handedOver
  repeat' split
  · exact recomputeCapacity_edits hhanded
  · exact hhanded
  · exact afterCountChange_edits _ hhanded

/-! ### The gate, the lots and the arbiter (Machine/Gate.lean, Lots.lean, Arbiter.lean) -/

theorem setGate_edits (g : GateState) (h : Edits w s t) : Edits w s (t.setGate g) := h.then_same rfl

theorem setLot_edits (l : LotNo) (r : Lot) (h : Edits w s t) : Edits w s (t.setLot l r) := h.then_same rfl

theorem setRequest_edits (c : CellNo) (q : Option Request) (h : Edits w s t) : Edits w s (t.setRequest c q) := h.then_same rfl

theorem handMove_edits (r : RouteNo) (h : Edits w s t) : Edits w s (handMove r t) := bump_edits _ (h.tail (.hand _ _ (by simp)))

theorem startTravel_edits (r : RouteNo) (h : Edits w s t) : Edits w s (startTravel r t) := by
  unfold startTravel
  split
  · exact setGate_edits _ h
  · exact handMove_edits r (setGate_edits _ h)

theorem evalGate_edits (h : Edits w s t) : Edits w s (evalGate t) := by
  unfold evalGate
  repeat' split
  · exact h
  · exact h
  · exact startTravel_edits _ h
  · exact h
  · exact startTravel_edits _ h

theorem opGateStatus_edits (p : Byte) (h : Edits w s t) : Edits w s (opGateStatus p t) := by
  have hseen : Edits w s { t with head := { t.head with lastPosition := some p } } := h.then_same rfl
  unfold opGateStatus
  dsimp only
  repeat' split
  · exact bump_edits _ h
  · exact hseen
  · exact bump_edits _ (startTravel_edits _ hseen)
  · exact setGate_edits _ hseen
  · exact hseen
  · exact setGate_edits _ hseen
  · exact hseen

theorem opGateTimeout_edits (h : Edits w s t) : Edits w s (opGateTimeout t) := by
  unfold opGateTimeout
  repeat' split
  · exact h
  · exact bump_edits _ (handMove_edits _ (raiseFault_edits _ _ _ _ (raise_edits _ (setGate_edits _ h))))
  · exact h

theorem gateHeld_edits (h : Edits w s t) : Edits w s (gateHeld t) := by
  unfold gateHeld
  split
  · exact setGate_edits _ h
  · exact h

theorem gateReleased_edits (h : Edits w s t) : Edits w s (gateReleased t) := by
  unfold gateReleased
  split
  · exact startTravel_edits _ h
  · exact startTravel_edits _ h
  · exact startTravel_edits _ h
  · exact h

theorem releaseLot_edits (l : LotNo) (h : Edits w s t) : Edits w s (releaseLot l t) := evalGate_edits (h.tail (.release t l))

theorem sealFull_edits (l : LotNo) (a : ActiveLot) (h : Edits w s t) : Edits w s (sealFull l a t) :=
  creditFines_edits _ _ (sendLotOrder_edits _ _ _ (bump_edits _ (setLot_edits _ _ h)))

theorem pitchLoaded_edits (l : LotNo) (a : ActiveLot) (h : Edits w s t) : Edits w s (pitchLoaded l a t) := by
  unfold pitchLoaded
  split
  · exact setLot_edits _ _ h
  · exact sealFull_edits l _ h

theorem loadPitch_edits (i : Nat) (l : LotNo) (a : ActiveLot) (h : Edits w s t) : Edits w s (loadPitch i l a t) := by
  unfold loadPitch
  split
  · rename_i m k hm
    split
    · rename_i e
      subst e
      exact pitchLoaded_edits _ a (h.tail (.load hm))
    · exact h
  · exact h

theorem crossCell_edits (c : CellNo) (h : Edits w s t) : Edits w s (crossCell c t) := by
  unfold crossCell
  repeat' split
  · exact h
  · exact h
  · exact loadPitch_edits _ _ _ h

theorem crossings_edits (h : Edits w s t) : Edits w s (crossings t) := foldl_edits (fun _ c => crossCell_edits c) _ h

theorem withdrawLoading_edits (l : LotNo) (a : ActiveLot) (h : Edits w s t) : Edits w s (withdrawLoading l a t) := by
  have hstopped : Edits w s (sendLotOrder .stop l a.cell (releaseLot l t)) := sendLotOrder_edits _ _ _ (releaseLot_edits l h)
  unfold withdrawLoading
  dsimp only
  split
  · exact bump_edits _ (setLot_edits _ _ hstopped)
  · exact creditFines_edits _ _ (bump_edits _ (setLot_edits _ _ hstopped))

theorem opDischargeEnd_edits (node lot : Byte) (mass : Half) (h : Edits w s t) : Edits w s (opDischargeEnd node lot mass t) := by
  unfold opDischargeEnd
  split
  · exact bump_edits _ (setLot_edits _ _ h)
  · exact raiseFault_edits _ _ _ _ (bump_edits _ h)
  · exact raiseFault_edits _ _ _ _ (bump_edits _ h)

theorem pointer_edits (c : CellNo) (h : Edits w s t) : Edits w s { t with arbiter := { t.arbiter with pointer := c } } :=
  h.then_same rfl

theorem grant_edits {c : CellNo} {q : Request} (hq : t.feasible c q = true) (l : LotNo) (h : Edits w s t) : Edits w s (grant c q l t) := by
  have hwindow : Edits w s (t.setMap (writeWindow (t.dropPoint c) q.length l q.cls t.tracker.map)) := h.tail (.window c q l hq)
  unfold grant
  dsimp only
  exact setRequest_edits _ _ (pointer_edits c (sendOrder_edits _ _ _ _ _ (evalGate_edits (hwindow.then_same rfl))))

end Sys2Proof.Machine
end

section
/-! SUPPORT. The runs of edits of the remaining operations, up to every command but the two resets. -/

namespace Sys2Proof.Machine

variable {w : Watch} {s t : State}

/-! ### Passes and hold causes (Machine/Arbiter.lean) -/

theorem considerRequest_edits (c : CellNo) (q : Request) (h : Edits w s t) : Edits w s (considerRequest c q t) := by
  unfold considerRequest
  repeat' split
  · exact refuse_edits _ _ (setRequest_edits _ _ h)
  · exact bump_edits _ h
  · exact bump_edits _ h
  · rename_i hfeasible _ l _
    exact grant_edits (by simpa using hfeasible) l h
  · exact h

theorem considerCell_edits (c : CellNo) (h : Edits w s t) : Edits w s (considerCell c t) := by
  unfold considerCell
  split
  · exact h
  · exact considerRequest_edits _ _ h

theorem sweepPass_edits (h : Edits w s t) : Edits w s (sweepPass t) := by
  unfold sweepPass
  refine foldl_edits (fun _ c => considerCell_edits c) _ ?_
  split
  · exact considerCell_edits _ h
  · exact h

theorem arbiterPass_edits (h : Edits w s t) : Edits w s (arbiterPass t) := by
  unfold arbiterPass
  dsimp only
  split
  · exact bump_edits _ h
  · exact sweepPass_edits (bump_edits _ h)

theorem setCauseFlag_edits (c : HoldCause) (b : Bool) (h : Edits w s t) : Edits w s (t.setCauseFlag c b) :=
  h.then_same (by cases c <;> rfl)

theorem orderLoading_edits (o : Order) (c : Counter) (l : LotNo) (h : Edits w s t) : Edits w s (orderLoading o c l t) := by
  unfold orderLoading
  split
  · exact sendLotOrder_edits _ _ _ (bump_edits _ h)
  · exact h

theorem orderAllLoading_edits (o : Order) (c : Counter) (h : Edits w s t) : Edits w s (orderAllLoading o c t) :=
  foldl_edits (fun _ l => orderLoading_edits o c l) _ h

theorem setCause_edits (c : HoldCause) (h : Edits w s t) : Edits w s (setCause c t) := by
  unfold setCause
  repeat' split
  · exact h
  · exact setCauseFlag_edits _ _ h
  · exact reselect_edits (orderAllLoading_edits _ _ (bump_edits _ (setCauseFlag_edits _ _ h)))

theorem clearCause_edits (c : HoldCause) (h : Edits w s t) : Edits w s (clearCause c t) := by
  unfold clearCause
  repeat' split
  · exact h
  · exact setCauseFlag_edits _ _ h
  · exact arbiterPass_edits (reselect_edits (orderAllLoading_edits _ _ (setCauseFlag_edits _ _ h)))

theorem placeRequest_edits (c : CellNo) (k : ClassNo) (len mass : Nat) (h : Edits w s t) : Edits w s (placeRequest c k len mass t) := by
  unfold placeRequest
  split <;> exact bump_edits _ (setRequest_edits _ _ h)

theorem opDischargeRequest_edits (node cls length : Byte) (mass : Half) (h : Edits w s t) :
    Edits w s (opDischargeRequest node cls length mass t) := by
  unfold opDischargeRequest
  split
  · exact refuse_edits _ _ h
  · exact arbiterPass_edits (placeRequest_edits _ _ _ _ h)

theorem opDischargeWithdraw_edits (node : Byte) (h : Edits w s t) : Edits w s (opDischargeWithdraw node t) := by
  unfold opDischargeWithdraw
  repeat' split
  · exact refuse_edits _ _ h
  · exact arbiterPass_edits (refuse_edits _ _ (setRequest_edits _ _ h))
  · exact refuse_edits _ _ h
  · exact refuse_edits _ _ h
  · exact arbiterPass_edits (withdrawLoading_edits _ _ h)

theorem opRequestUrgent_edits (c : CellNo) (h : Edits w s t) : Edits w s (opRequestUrgent c t) := by
  unfold opRequestUrgent makeUrgent
  repeat' split
  · exact h
  · exact bump_edits _ (setRequest_edits _ _ h)
  · exact h

theorem opRequestExpiry_edits (c : CellNo) (h : Edits w s t) : Edits w s (opRequestExpiry c t) := by
  unfold opRequestExpiry
  split
  · exact raise_edits _ (refuse_edits _ _ (setRequest_edits _ _ h))
  · exact h

theorem applyAges_edits (h : Edits w s t) : Edits w s (applyAges t) :=
  foldl_edits (fun _ c => opRequestUrgent_edits c) _ (foldl_edits (fun _ c => opRequestExpiry_edits c) _ h)

theorem refuseRestarted_edits (c : CellNo) (h : Edits w s t) : Edits w s (refuseRestarted c t) := by
  unfold refuseRestarted
  split
  · exact h
  · exact refuse_edits _ _ h

theorem setArbiter_edits (a : Arbiter) (h : Edits w s t) : Edits w s { t with arbiter := a } := h.then_same rfl

theorem restartRequests_edits (h : Edits w s t) : Edits w s (restartRequests t) := by
  unfold restartRequests
  exact setArbiter_edits _ (foldl_edits (fun _ c => refuseRestarted_edits c) cellList h)

/-! ### The head (Machine/Head.lean) -/

theorem setHead_edits (hd : Head) (h : Edits w s t) : Edits w s { t with head := hd } := h.then_same rfl

theorem computeApproach_edits (h : Edits w s t) : Edits w s (computeApproach t) := by
  unfold computeApproach
  dsimp only
  refine setHead_edits _ ?_
  split
  · exact bump_edits _ (raise_edits _ h)
  · exact h

theorem interlock_edits (h : Edits w s t) : Edits w s (interlock t) := by
  unfold interlock
  repeat' split
  · exact h
  · exact setCause_edits _ (bump_edits _ (raise_edits _ h))
  · exact clearCause_edits _ h

theorem setCrusher_edits (c : CrusherState) (h : Edits w s t) : Edits w s (t.setCrusher c) := setHead_edits _ h

theorem handCrusher_edits (m : Mode) (setpoint : Nat) (h : Edits w s t) : Edits w s (hand .crusher m setpoint t) :=
  h.tail (.hand _ _ (by simp))

theorem handStop_edits (h : Edits w s t) : Edits w s (handStop t) := handCrusher_edits _ _ h

theorem startCrusher_edits (h : Edits w s t) : Edits w s (startCrusher t) :=
  interlock_edits (bump_edits _ (handCrusher_edits _ _ (setHead_edits _ h)))

theorem enterRunning_edits (h : Edits w s t) : Edits w s (enterRunning t) := interlock_edits (setHead_edits _ h)

theorem crusherToFault_edits (src : SourceNo) (h : Edits w s t) : Edits w s (crusherToFault src t) :=
  raiseFault_edits _ _ _ _ (raise_edits _ (handStop_edits (setCrusher_edits _ h)))

theorem testCurrent_edits (current : Nat) (h : Edits w s t) : Edits w s (testCurrent current t) := by
  unfold testCurrent
  dsimp only
  repeat' split
  · exact setHead_edits _ h
  · exact interlock_edits (bump_edits _ (raise_edits _ (handStop_edits (setCrusher_edits _ (setHead_edits _ h)))))
  · exact setHead_edits _ h

theorem opCrusherStatus_edits (current : Half) (confirm : Byte) (h : Edits w s t) : Edits w s (opCrusherStatus current confirm t) := by
  unfold opCrusherStatus
  extract_lets hd u
  have hu : Edits w s u := setHead_edits _ h
  clear_value u
  repeat' split
  · exact enterRunning_edits hu
  · exact hu
  · exact interlock_edits (bump_edits _ (crusherToFault_edits _ hu))
  · exact testCurrent_edits _ hu
  · exact hu

theorem opStartTimerExpiry_edits (h : Edits w s t) : Edits w s (opStartTimerExpiry t) := by
  unfold opStartTimerExpiry
  repeat' split
  · exact h
  · exact enterRunning_edits h
  · exact interlock_edits (bump_edits _ (crusherToFault_edits _ h))
  · exact h

theorem idleExpired_edits (h : Edits w s t) : Edits w s (idleExpired t) := by
  unfold idleExpired
  split
  · exact setCrusher_edits _ h
  · exact interlock_edits (bump_edits _ (handStop_edits (setCrusher_edits _ h)))

theorem opIdleTimerExpiry_edits (h : Edits w s t) : Edits w s (opIdleTimerExpiry t) := by
  unfold opIdleTimerExpiry
  split
  · exact idleExpired_edits h
  · exact h

theorem crusherReleased_edits (o : ChainOutcome) (h : Edits w s t) : Edits w s (crusherReleased o t) := by
  unfold crusherReleased
  split
  · exact startCrusher_edits h
  · exact interlock_edits (crusherToFault_edits _ h)

theorem creditRoute_edits (r : Option RouteNo) (n : Nat) (h : Edits w s t) : Edits w s (creditRoute r n t) := by
  cases r <;> exact bumpBy_edits _ _ h

theorem testUncrushed_edits (l : LotNo) (a : ActiveLot) (k : ClassNo) (h : Edits w s t) : Edits w s (testUncrushed l a k t) := by
  unfold testUncrushed
  split
  · exact raiseFault_edits _ _ _ _ (bump_edits _ h)
  · exact h

theorem countCompletion_edits (a : ActiveLot) (h : Edits w s t) : Edits w s (countCompletion a t) := by
  unfold countCompletion
  split <;> exact bump_edits _ h

theorem completeLot_edits (l : LotNo) (a : ActiveLot) (h : Edits w s t) : Edits w s (completeLot l a t) :=
  h.then_same rfl

theorem deliverPitch_edits (l : LotNo) (k : ClassNo) (a : ActiveLot) (h : Edits w s t) : Edits w s (deliverPitch l k a t) := by
  unfold deliverPitch
  extract_lets outcome a' u done v x
  have hu : Edits w s u := by
    dsimp only [u]
    split
    · exact bump_edits _ (raiseFault_edits _ _ _ _ (raise_edits _ h))
    · exact h
  have hv : Edits w s v := by
    dsimp only [v]
    split
    · exact completeLot_edits _ _ hu
    · exact setLot_edits _ _ hu
  have hx : Edits w s x := testUncrushed_edits _ _ _ (creditRoute_edits _ _ hv)
  clear_value x
  split
  · exact countCompletion_edits _ hx
  · exact hx

theorem takeDelivered_edits (p : Pitch) (h : Edits w s t) : Edits w s (takeDelivered p t) := by
  unfold takeDelivered
  repeat' split
  · exact evalGate_edits (deliverPitch_edits _ _ _ h)
  · exact evalGate_edits h
  · exact evalGate_edits h

theorem reactCrusher_edits (h : Edits w s t) : Edits w s (reactCrusher t) := by
  unfold reactCrusher
  repeat' split
  · exact startCrusher_edits h
  · exact h
  · exact setCrusher_edits _ h
  · exact h
  · exact h

theorem headReaction_edits (h : Edits w s t) : Edits w s (headReaction t) :=
  interlock_edits (reactCrusher_edits (computeApproach_edits (evalGate_edits h)))

theorem headReevaluate_edits (h : Edits w s t) : Edits w s (headReevaluate t) := interlock_edits (evalGate_edits h)

/-! ### Programs and occurrences (Machine/Program.lean) -/

theorem setEngine_edits (e : Engine) (h : Edits w s t) : Edits w s { t with engine := e } := h.then_same rfl

theorem setChain_edits (c : Option Chain) (h : Edits w s t) : Edits w s (t.setChain c) := setEngine_edits _ h

theorem setRouter_edits (r : Router) (h : Edits w s t) : Edits w s { t with router := r } := h.then_same rfl

theorem ownerHeld_edits (tg : Target) (h : Edits w s t) : Edits w s (ownerHeld tg t) := by
  cases tg with
  | belt => exact h
  | crusher => exact interlock_edits (setCrusher_edits _ h)
  | gate => exact gateHeld_edits h
  | drum _ => exact h

theorem takeHold_edits (tg : Target) (h : Edits w s t) : Edits w s (takeHold tg t) := by
  unfold takeHold
  repeat' split
  · exact h
  · exact h
  · exact ownerHeld_edits tg (setChain_edits _ h)

theorem programSetpoint_edits (p : Option Nat) (h : Edits w s t) :
    Edits w s { t with belt := { t.belt with programSetpoint := p } } := h.then_same rfl

theorem ownerReleased_edits (o : ChainOutcome) (tg : Target) (h : Edits w s t) : Edits w s (ownerReleased o tg t) := by
  cases tg with
  | belt => exact issueSetpoint_edits (programSetpoint_edits none h)
  | crusher => exact crusherReleased_edits o h
  | gate => exact gateReleased_edits h
  | drum d => exact handDrum_edits d h

/-- Releases of targets edit as the owners' re-issues do. -/
theorem releaseAll_edits {reissue : Target → State → State} (hre : ∀ (tg : Target) (t : State), Edits w s t → Edits w s (reissue tg t))
    (h : Edits w s t) : Edits w s (releaseAll reissue t) := by
  refine foldl_edits (fun t tg h => ?_) _ h
  unfold releaseTarget
  repeat' split
  · exact h
  · exact hre _ _ (setChain_edits _ h)
  · exact h

theorem issueStep_edits (tg : Target) (st : StepEntry) (h : Edits w s t) : Edits w s (issueStep tg st t) := by
  cases tg with
  | belt => exact issueSetpoint_edits (programSetpoint_edits _ h)
  | crusher => exact handCrusher_edits _ _ h
  | gate => exact h.tail (.hand _ _ (by simp))
  | drum _ => exact h.tail (.hand _ _ (by simp))

theorem startStep_edits (c : Chain) (inB : Bool) (st : StepEntry) (h : Edits w s t) : Edits w s (startStep c inB st t) :=
  issueStep_edits _ _ (bump_edits _ (setChain_edits _ h))

theorem startDescriptor_edits (i : ActionNo) (c : Chain) (h : Edits w s t) : Edits w s (startDescriptor i c t) := by
  unfold startDescriptor beginDescriptor
  dsimp only
  split
  · exact takeHold_edits _ (bump_edits _ (setChain_edits _ h))
  · exact startStep_edits _ _ _ (takeHold_edits _ (bump_edits _ (setChain_edits _ h)))

theorem startChain_edits (i : ActionNo) (src : Option SourceNo) (tr : Trigger) (h : Edits w s t) : Edits w s (startChain i src tr t) :=
  startDescriptor_edits _ _ (bump_edits _ h)

theorem servePending_edits (n : Nat) (h : Edits w s t) : Edits w s (servePending n t) := by
  induction n generalizing t with
  | zero => exact h
  | succ n ih =>
    unfold servePending
    repeat' split
    · exact h
    · exact startChain_edits _ _ _ (setEngine_edits _ h)
    · exact ih (bump_edits _ (setEngine_edits _ h))

theorem recordOutcome_edits (o : ChainOutcome) (h : Edits w s t) : Edits w s (recordOutcome o t) := bump_edits _ (setEngine_edits _ h)

theorem endChain_edits (o : ChainOutcome) (c : Chain) (h : Edits w s t) : Edits w s (endChain o c t) := by
  have hreleased : Edits w s (releaseAll (ownerReleased o) (recordOutcome o t)) :=
    releaseAll_edits (fun tg _ => ownerReleased_edits o tg) (recordOutcome_edits o h)
  unfold endChain endNotice
  refine servePending_edits _ (setChain_edits _ ?_)
  split
  · exact sendNotice_edits _ _ _ _ hreleased
  · exact hreleased

theorem abortForRestart_edits (h : Edits w s t) : Edits w s (abortForRestart t) := by
  unfold abortForRestart
  split
  · exact h
  · refine setChain_edits _ (releaseAll_edits (fun tg t h => ?_) (recordOutcome_edits _ h))
    unfold reissueAtRestart
    split
    · exact h
    · exact ownerReleased_edits _ tg h

theorem exhaustDescriptor_edits (c : Chain) (h : Edits w s t) : Edits w s (exhaustDescriptor c t) := by
  unfold exhaustDescriptor
  repeat' split
  · exact endChain_edits _ _ h
  · exact startDescriptor_edits _ _ h
  · exact endChain_edits _ _ (bump_edits _ (raiseFault_edits _ _ _ _ h))

theorem endRepetition_edits (c : Chain) (h : Edits w s t) : Edits w s (endRepetition c t) := by
  unfold endRepetition
  repeat' split
  · exact endChain_edits _ _ h
  · exact startStep_edits _ _ _ h
  · exact exhaustDescriptor_edits _ h

theorem opStepHoldExpiry_edits (h : Edits w s t) : Edits w s (opStepHoldExpiry t) := by
  unfold opStepHoldExpiry stepExpired
  repeat' split
  · exact h
  · exact startStep_edits _ _ _ h
  · exact endRepetition_edits _ h
  · exact h

theorem triggerRoute_edits (o : Occurrence) (h : Edits w s t) : Edits w s (triggerRoute o t) := by
  unfold triggerRoute trigger
  repeat' split
  · exact h
  · exact startChain_edits _ _ _ h
  · exact bump_edits _ (setEngine_edits _ h)
  · exact bump_edits _ h

theorem takeOccurrence_edits (o : Occurrence) (h : Edits w s t) : Edits w s (takeOccurrence o t) := by
  have hcounted : Edits w s (countOccurrence o.source t) := bump_edits _ (setRouter_edits _ h)
  have hlatched : Edits w s (overrideRoute o.source (countOccurrence o.source t)) := by
    unfold overrideRoute
    split
    · exact latchOverride_edits hcounted
    · exact hcounted
  unfold takeOccurrence noticeRoute
  repeat' split
  · exact h
  · exact sendNotice_edits _ _ _ _ (triggerRoute_edits o hlatched)
  · exact triggerRoute_edits o hlatched

theorem takeOccurrences_edits (n : Nat) (h : Edits w s t) : Edits w s (takeOccurrences n t) := by
  induction n generalizing t with
  | zero => exact h
  | succ n ih =>
    unfold takeOccurrences
    split
    · exact h
    · exact ih (takeOccurrence_edits _ (h.then_same rfl))

theorem routeAll_edits (h : Edits w s t) : Edits w s (routeAll t) := takeOccurrences_edits _ h

theorem complete_edits (h : Edits w s t) : Edits w s (complete t) := unloadIfHanded_edits (routeAll_edits h)

/-- An operation on a telegram edits as the block's own operation does. -/
theorem operate_edits {op : State → State} (hop : Edits w s t → Edits w s (op t)) (h : Edits w s t) :
    Edits w s (operate op t) := by
  unfold operate
  split
  · exact h
  · exact complete_edits (hop h)

/-! ### The belt (Machine/Belt.lean) -/

theorem shiftPitch_edits (h : Edits w s t) : Edits w s (shiftPitch t) := by
  unfold shiftPitch
  split
  · exact h
  · rename_i p rest hmap
    exact crossings_edits (takeDelivered_edits p (bump_edits _ (h.tail (.shift hmap))))

theorem shiftPitches_edits (n : Nat) (h : Edits w s t) : Edits w s (shiftPitches n t) := by
  induction n generalizing t with
  | zero => exact h
  | succ n ih => exact ih (shiftPitch_edits h)

theorem sampleCompleted_edits (h : Edits w s t) : Edits w s (sampleCompleted t) :=
  arbiterPass_edits (issueSetpoint_edits (headReaction_edits h))

theorem setReference_edits (count : Word) (acc : Nat) (h : Edits w s t) : Edits w s (t.setReference count acc) := h.then_same rfl

theorem opBeltSample_edits (count : Word) (h : Edits w s t) : Edits w s (opBeltSample count t) := by
  unfold opBeltSample
  repeat' split
  · exact sampleCompleted_edits (bump_edits _ (setReference_edits _ _ h))
  · exact raiseFault_edits _ _ _ _ (raise_edits _ (bump_edits _ h))
  · exact sampleCompleted_edits (bump_edits _ (setReference_edits _ _ (shiftPitches_edits _ h)))

/-! ### Ports (Machine/Ports.lean) -/

theorem setPortState_edits (p : Port) (st : PortState) (h : Edits w s t) : Edits w s (t.setPortState p st) :=
  h.then_same (by cases p <;> rfl)

theorem portDown_edits (p : Port) (h : Edits w s t) : Edits w s (portDown p t) := by
  cases p with
  | cell => exact raise_edits _ (bump_edits _ (setPortState_edits _ _ h))
  | plant => exact setCause_edits _ (raise_edits _ (bump_edits _ (setPortState_edits _ _ h)))

theorem portUp_edits (p : Port) (h : Edits w s t) : Edits w s (portUp p t) := by
  cases p with
  | cell => exact bump_edits _ (setPortState_edits _ _ h)
  | plant => exact clearCause_edits _ (bump_edits _ (setPortState_edits _ _ h))

theorem goodFrame_edits (p : Port) (h : Edits w s t) : Edits w s (goodFrame p t) := by
  unfold goodFrame
  dsimp only
  split
  · exact portUp_edits p (bump_edits _ h)
  · exact setPortState_edits _ _ (bump_edits _ h)

theorem opSilenceTimeout_edits (p : Port) (h : Edits w s t) : Edits w s (opSilenceTimeout p t) := by
  unfold opSilenceTimeout
  split
  · exact portDown_edits p h
  · exact h

theorem opFrameTransmitted_edits (p : Port) (h : Edits w s t) : Edits w s (opFrameTransmitted p t) := by
  unfold opFrameTransmitted
  split
  · exact h
  · rename_i f rest hq
    have hleft : Edits w s (dequeue p rest t) := bump_edits _ (h.tail (.dequeue p hq))
    cases p with
    | cell => exact hleft
    | plant => exact unloadTest_edits hleft

theorem opOverrideSecond_edits (h : Edits w s t) : Edits w s (opOverrideSecond t) := by
  unfold opOverrideSecond
  split
  · exact h.then_same rfl
  · exact h

theorem opCoalesceAgeLimit_edits (h : Edits w s t) : Edits w s (opCoalesceAgeLimit t) := by
  unfold opCoalesceAgeLimit
  repeat' split
  · exact h
  · exact unloadTest_edits h
  · exact h

/-! ### The responder's frame (Machine/Serve.lean) -/

theorem reply_edits (node : Byte) (n : Nat) (r : Req) (st : Status) (data : List Byte) (h : Edits w s t) :
    Edits w s (reply node n r st data t) := placeFrom_edits _ _ _ _ _ h

theorem countServed_edits (st : Status) (h : Edits w s t) : Edits w s (countServed st t) := by
  unfold countServed
  split
  · exact bump_edits _ h
  · exact bump_edits _ (bump_edits _ h)

theorem finishRequest_edits (node : Byte) (n : Nat) (r : Req) (a : Answer) (h : Edits w s t) : Edits w s (finishRequest node n r a t) := by
  cases a with
  | now st data => exact unloadIfHanded_edits (countServed_edits _ (reply_edits _ _ _ _ _ (routeAll_edits h)))
  | later => exact unloadIfHanded_edits (bump_edits _ (routeAll_edits h))

/-- A request edits as its body does. -/
theorem serveAlways_edits {n : Nat} {r : Req} {body : State → State × Answer} (hbody : Edits w s (body t).1) (h : Edits w s t) :
    Edits w s (serveAlways n r body t) := by
  unfold serveAlways refuseCellSide
  repeat' split
  · exact h
  · exact finishRequest_edits _ _ _ _ hbody
  · exact bump_edits _ (reply_edits _ _ _ _ _ h)

theorem serve_edits {n : Nat} {r : Req} {body : State → State × Answer} (hbody : Edits w s (body t).1) (h : Edits w s t) :
    Edits w s (serve n r body t) := by
  refine serveAlways_edits ?_ h
  split
  · exact h
  · exact hbody

theorem readRequest_edits (n : Nat) (r : Req) (f : State → Answer) (h : Edits w s t) : Edits w s (serveAlways n r (readOnly f) t) :=
  serveAlways_edits (by simpa using h) h

end Sys2Proof.Machine
end

section
/-! SUPPORT. The runs of edits of the table writes, the line commands, the restart, the reload, the start-up read and the frames, and so of every
command but the two resets. -/

namespace Sys2Proof.Machine

variable {w : Watch} {s t : State}

/-! ### Table writes (Machine/Writes.lean) -/

/-- One entry of a table replaced by an entry with a property that every entry has. -/
theorem forall_get_set {α : Type} {n : Nat} {P : α → Prop} {v : Vector α n} (i : Fin n) {x : α} (hx : P x) (hv : ∀ j : Fin n, P v[j])
    (j : Fin n) : P (v.set i x)[j] := by
  by_cases e : i = j
  · subst e
    simpa using hx
  · have hne : i.val ≠ j.val := fun h => e (Fin.ext h)
    simpa [hne] using hv j

theorem retrack_self {old new : BeltEntry} (tr : Tracker) (h : new = old) : retrack old new tr = tr := by simp [retrack, h]

/-- A write of a table but BELT. -/
theorem setTables_edits {new : Tables} (hbelt : new.belt = t.tables.belt) (hrange : t.tables.inRange → new.inRange)
    (h : Edits w s t) : Edits w s (t.setTables new) := by
  have hwritten : Edits w s (takeTables new t) := h.tail (.retable new hrange fun _ => .inl (by rw [hbelt]))
  refine hwritten.then_same ?_
  simp only [State.editView, State.blockView, State.causes, takeTables, State.setTables, retrack_self _ hbelt]

/-- A table write edits as its body does for a taken entry. -/
theorem writeEntry_edits {n : Nat} {r : Req} {body : Fin n → State → Option (State × Status)}
    (hbody : ∀ i u st, body i t = some (u, st) → Edits w s u) (h : Edits w s t) :
    Edits w s (serveAlways writeCode r (writeTable n r body) t) := by
  refine serveAlways_edits ?_ h
  obtain e | ⟨i, u, st, hu, e⟩ := writeTable_cases n r body t
  · rwa [e]
  · rw [e]
    exact hbody i u st hu

theorem opWriteClassify_edits (r : Req) (e : RawClassify) (h : Edits w s t) : Edits w s (opWriteClassify r e t) := by
  refine writeEntry_edits (fun i u st hbody => ?_) h
  obtain ⟨v, hv, htaken⟩ := Option.bind_eq_some_iff.mp hbody
  rw [eq_of_taken htaken]
  refine setTables_edits rfl (fun hr => ?_) h
  obtain ⟨hclassify, hrest⟩ := hr
  exact ⟨forall_get_set i (checkClassify_inRange hv) hclassify, hrest⟩

/-- A cell entry at an address that no other entry holds leaves the addresses distinct (R44). -/
theorem distinct_set_cell {cells : Vector CellEntry 24} {i : CellNo} {v : CellEntry}
    (hfree : ∀ j : CellNo, j ≠ i → v.node ≠ 0 → cells[j].node ≠ v.node)
    (h : ∀ c d : CellNo, cells[c].node = cells[d].node → cells[c].node ≠ 0 → c = d) (c d : CellNo)
    (he : (cells.set i v)[c].node = (cells.set i v)[d].node) (hne : (cells.set i v)[c].node ≠ 0) : c = d := by
  have hget : ∀ j : CellNo, (cells.set i v)[j] = if j = i then v else cells[j] := fun j => by
    by_cases e : j = i
    · subst e; simp
    · have hval : i.val ≠ j.val := fun h => e (Fin.ext h.symm)
      simp [e, hval]
  rw [hget, hget] at he
  rw [hget] at hne
  by_cases hc : c = i <;> by_cases hd : d = i <;> simp only [hc, hd, if_true, if_false] at he hne
  · exact hc.trans hd.symm
  · exact absurd he.symm (hfree d hd hne)
  · exact absurd he (hfree c hc (he ▸ hne))
  · exact h c d he hne

theorem opWriteCell_edits (r : Req) (e : RawCell) (h : Edits w s t) : Edits w s (opWriteCell r e t) := by
  refine writeEntry_edits (fun i u st hbody => ?_) h
  obtain ⟨v, hv, htaken⟩ := Option.bind_eq_some_iff.mp hbody
  split at htaken
  · cases htaken
  · rename_i hnode
    split at htaken
    · cases htaken; exact h
    · rw [eq_of_taken htaken]
      refine setTables_edits rfl (fun hr => ?_) h
      obtain ⟨hclassify, hcell, hdistinct, hrest⟩ := hr
      refine ⟨hclassify, forall_get_set i (checkCell_inRange hv) hcell, distinct_set_cell (fun j hj hne he => hnode ?_) hdistinct, hrest⟩
      exact List.any_eq_true.mpr ⟨j, List.mem_finRange j, by simpa [hj] using ⟨hne, he⟩⟩

theorem opWriteClass_edits (r : Req) (e : RawClass) (h : Edits w s t) : Edits w s (opWriteClass r e t) := by
  refine writeEntry_edits (fun i u st hbody => ?_) h
  obtain ⟨v, hv, htaken⟩ := Option.bind_eq_some_iff.mp hbody
  rw [eq_of_taken htaken]
  have hwritten : Edits w s (t.setTables { t.tables with cls := t.tables.cls.set i v }) := by
    refine setTables_edits rfl (fun hr => ?_) h
    obtain ⟨hclassify, hcell, hdistinct, hcls, hrest⟩ := hr
    exact ⟨hclassify, hcell, hdistinct, forall_get_set i (checkClass_inRange hv) hcls, hrest⟩
  split
  · exact hwritten
  · exact headReevaluate_edits hwritten

theorem opWritePlant_edits (r : Req) (e : RawPlant) (h : Edits w s t) : Edits w s (opWritePlant r e t) := by
  refine writeEntry_edits (fun i u st hbody => ?_) h
  obtain ⟨v, hv, htaken⟩ := Option.bind_eq_some_iff.mp hbody
  rw [eq_of_taken htaken]
  refine setTables_edits rfl (fun hr => ?_) h
  obtain ⟨hclassify, hcell, hdistinct, hcls, -, hrest⟩ := hr
  exact ⟨hclassify, hcell, hdistinct, hcls, checkPlant_inRange hv, hrest⟩

/-- A taken BELT entry: a changed length lies above every drop point, and a changed gap is taken on a map of EMPTY pitches (R6, R7). -/
theorem opWriteBelt_edits (r : Req) (e : RawBelt) (h : Edits w s t) : Edits w s (opWriteBelt r e t) := by
  refine writeEntry_edits (fun i u st hbody => ?_) h
  obtain ⟨v, hv, htaken⟩ := Option.bind_eq_some_iff.mp hbody
  dsimp only at htaken
  split at htaken
  · cases htaken
  · rename_i hdrop
    split at htaken
    · cases htaken; exact h
    · rename_i hfree
      split at htaken
      · cases htaken; exact h
      · rw [eq_of_taken htaken]
        refine applyAges_edits (h.tail (.retable { t.tables with belt := v } (fun hr => ?_) fun _ => ?_))
        · obtain ⟨hclassify, hcell, hdistinct, hcls, hplant, -, hrest⟩ := hr
          refine ⟨hclassify, fun c => ?_, hdistinct, hcls, hplant, checkBelt_inRange hv, hrest⟩
          obtain ⟨hlow, hhigh, hcellrest⟩ := hcell c
          refine ⟨hlow, ?_, hcellrest⟩
          by_cases hlen : v.length = t.tables.belt.length
          · exact hlen ▸ hhigh
          · refine Nat.lt_of_not_le fun hle => hdrop ⟨hlen, List.any_eq_true.mpr ⟨t.tables.cell[c], ?_, by simpa using hle⟩⟩
            simp
        · by_cases hgap : v.gap = t.tables.belt.gap
          · exact .inl hgap
          · right
            have hgeo : t.geometryFree = true := by
              by_contra hno
              exact hfree ⟨.inr (.inr (.inr hgap)), by simpa using hno⟩
            simp only [State.geometryFree, Bool.and_eq_true, List.all_eq_true, decide_eq_true_eq] at hgeo
            exact hgeo.1

theorem setBelt_edits (b : BeltUnit) (he : b.selected = t.belt.selected) (h : Edits w s t) : Edits w s { t with belt := b } :=
  h.then_same (by simp [State.editView, State.blockView, State.causes, he, State.drum])

theorem opWriteProfile_edits (r : Req) (e : RawProfile) (h : Edits w s t) : Edits w s (opWriteProfile r e t) := by
  refine writeEntry_edits (fun i u st hbody => ?_) h
  rw [eq_of_taken hbody]
  have hwritten : Edits w s (t.setTables { t.tables with profile := takenProfile e }) := by
    refine setTables_edits rfl (fun hr => ?_) h
    obtain ⟨hclassify, hcell, hdistinct, hcls, hplant, hbelt, -, hrest⟩ := hr
    exact ⟨hclassify, hcell, hdistinct, hcls, hplant, hbelt, takenProfile_inRange e, hrest⟩
  refine reselect_edits ?_
  split
  · exact setBelt_edits _ rfl hwritten
  · exact hwritten

theorem applyIdle_edits (h : Edits w s t) : Edits w s (applyIdle t) := by
  unfold applyIdle
  split
  · exact idleExpired_edits h
  · exact h

theorem opWriteCrusher_edits (r : Req) (e : RawCrusher) (h : Edits w s t) : Edits w s (opWriteCrusher r e t) := by
  refine writeEntry_edits (fun i u st hbody => ?_) h
  obtain ⟨v, hv, htaken⟩ := Option.bind_eq_some_iff.mp hbody
  rw [eq_of_taken htaken]
  refine interlock_edits (applyIdle_edits (setTables_edits rfl (fun hr => ?_) h))
  obtain ⟨hclassify, hcell, hdistinct, hcls, hplant, hbelt, hprofile, -, hrest⟩ := hr
  exact ⟨hclassify, hcell, hdistinct, hcls, hplant, hbelt, hprofile, checkCrusher_inRange hv, hrest⟩

theorem opWriteDrum_edits (r : Req) (e : RawDrum) (h : Edits w s t) : Edits w s (opWriteDrum r e t) := by
  refine writeEntry_edits (fun d u st hbody => ?_) h
  obtain ⟨v, hv, htaken⟩ := Option.bind_eq_some_iff.mp hbody
  split at htaken
  · cases htaken; exact h
  · rw [eq_of_taken htaken]
    have happlied : Edits w s (applyDrum d t.tables.drum[d] (t.setTables { t.tables with drum := t.tables.drum.set d v })) := by
      refine applyDrum_edits _ _ (setTables_edits rfl (fun hr => ?_) h)
      obtain ⟨hclassify, hcell, hdistinct, hcls, hplant, hbelt, hprofile, hcrusher, hdrum, hrest⟩ := hr
      exact ⟨hclassify, hcell, hdistinct, hcls, hplant, hbelt, hprofile, hcrusher, forall_get_set d (checkDrum_inRange hv) hdrum, hrest⟩
    split
    · exact arbitrateFlush_edits happlied
    · exact happlied

theorem opWriteFilter_edits (r : Req) (e : RawFilter) (h : Edits w s t) : Edits w s (opWriteFilter r e t) := by
  refine writeEntry_edits (fun i u st hbody => ?_) h
  obtain ⟨v, hv, htaken⟩ := Option.bind_eq_some_iff.mp hbody
  rw [eq_of_taken htaken]
  refine arbitrateFlush_edits (setTables_edits rfl (fun hr => ?_) h)
  obtain ⟨hclassify, hcell, hdistinct, hcls, hplant, hbelt, hprofile, hcrusher, hdrum, -, hrest⟩ := hr
  exact ⟨hclassify, hcell, hdistinct, hcls, hplant, hbelt, hprofile, hcrusher, hdrum, checkFilter_inRange hv, hrest⟩

theorem opWriteAction_edits (r : Req) (e : RawAction) (h : Edits w s t) : Edits w s (opWriteAction r e t) := by
  refine writeEntry_edits (fun i u st hbody => ?_) h
  obtain ⟨v, hv, htaken⟩ := Option.bind_eq_some_iff.mp hbody
  rw [eq_of_taken htaken]
  refine setTables_edits rfl (fun hr => ?_) h
  obtain ⟨hclassify, hcell, hdistinct, hcls, hplant, hbelt, hprofile, hcrusher, hdrum, hfilter, haction, hrest⟩ := hr
  exact ⟨hclassify, hcell, hdistinct, hcls, hplant, hbelt, hprofile, hcrusher, hdrum, hfilter,
    forall_get_set i (checkAction_inRange hv) haction, hrest⟩

theorem opWriteEventroute_edits (r : Req) (e : RawRoute) (h : Edits w s t) : Edits w s (opWriteEventroute r e t) := by
  refine writeEntry_edits (fun i u st hbody => ?_) h
  obtain ⟨v, hv, htaken⟩ := Option.bind_eq_some_iff.mp hbody
  rw [eq_of_taken htaken]
  refine setTables_edits rfl (fun hr => ?_) h
  obtain ⟨hclassify, hcell, hdistinct, hcls, hplant, hbelt, hprofile, hcrusher, hdrum, hfilter, haction, hroute, hrest⟩ := hr
  exact ⟨hclassify, hcell, hdistinct, hcls, hplant, hbelt, hprofile, hcrusher, hdrum, hfilter, haction,
    forall_get_set i (checkRoute_inRange hv) hroute, hrest⟩

/-- A silence time in its range leaves the tables in theirs (R172). -/
theorem setSilence_inRange (p : Port) {ms : Nat} {tb : Tables} (hms : 20 ≤ ms ∧ ms ≤ 2000) (hr : tb.inRange) : (tb.setSilence p ms).inRange := by
  obtain ⟨hclassify, hcell, hdistinct, hcls, hplant, hbelt, hprofile, hcrusher, hdrum, hfilter, haction, hroute, hsc, hsp, hrest⟩ := hr
  cases p with
  | cell => exact ⟨hclassify, hcell, hdistinct, hcls, hplant, hbelt, hprofile, hcrusher, hdrum, hfilter, haction, hroute, hms, hsp, hrest⟩
  | plant => exact ⟨hclassify, hcell, hdistinct, hcls, hplant, hbelt, hprofile, hcrusher, hdrum, hfilter, haction, hroute, hsc, hms, hrest⟩

theorem opWritePort_edits (r : Req) (e : RawPort) (h : Edits w s t) : Edits w s (opWritePort r e t) := by
  refine writeEntry_edits (fun i u st hbody => ?_) h
  obtain ⟨ms, hms, htaken⟩ := Option.bind_eq_some_iff.mp hbody
  rw [eq_of_taken htaken]
  exact opSilenceTimeout_edits _ (setTables_edits (by cases portOfIndex i <;> rfl) (setSilence_inRange _ (checkPort_range hms)) h)

theorem opWriteCoalesce_edits (r : Req) (e : RawCoalesce) (h : Edits w s t) : Edits w s (opWriteCoalesce r e t) := by
  refine writeEntry_edits (fun i u st hbody => ?_) h
  obtain ⟨ms, hms, htaken⟩ := Option.bind_eq_some_iff.mp hbody
  rw [eq_of_taken htaken]
  have hwritten : Edits w s (t.setTables { t.tables with coalesceAge := ms }) := by
    refine setTables_edits rfl (fun hr => ?_) h
    obtain ⟨hclassify, hcell, hdistinct, hcls, hplant, hbelt, hprofile, hcrusher, hdrum, hfilter, haction, hroute, hsc, hsp, -, hnode⟩ := hr
    exact ⟨hclassify, hcell, hdistinct, hcls, hplant, hbelt, hprofile, hcrusher, hdrum, hfilter, haction, hroute, hsc, hsp,
      checkCoalesce_range hms, hnode⟩
  exact hwritten.then_same rfl

theorem opWriteNode_edits (r : Req) (e : RawNode) (h : Edits w s t) : Edits w s (opWriteNode r e t) := by
  refine writeEntry_edits (fun i u st hbody => ?_) h
  obtain ⟨v, hv, htaken⟩ := Option.bind_eq_some_iff.mp hbody
  rw [eq_of_taken htaken]
  refine setTables_edits rfl (fun hr => ?_) h
  obtain ⟨hclassify, hcell, hdistinct, hcls, hplant, hbelt, hprofile, hcrusher, hdrum, hfilter, haction, hroute, hsc, hsp, hage, -⟩ := hr
  exact ⟨hclassify, hcell, hdistinct, hcls, hplant, hbelt, hprofile, hcrusher, hdrum, hfilter, haction, hroute, hsc, hsp, hage,
    checkNode_inRange hv⟩

theorem opWriteEntry_edits (r : Req) (data : List Byte) (h : Edits w s t) : Edits w s (opWriteEntry r data t) := by
  unfold opWriteEntry
  split
  · exact opWriteClassify_edits _ _ h
  · exact opWriteCell_edits _ _ h
  · exact opWriteClass_edits _ _ h
  · exact opWritePlant_edits _ _ h
  · exact opWriteBelt_edits _ _ h
  · exact opWriteProfile_edits _ _ h
  · exact opWriteCrusher_edits _ _ h
  · exact opWriteDrum_edits _ _ h
  · exact opWriteFilter_edits _ _ h
  · exact opWriteAction_edits _ _ h
  · exact opWriteEventroute_edits _ _ h
  · exact opWritePort_edits _ _ h
  · exact opWriteCoalesce_edits _ _ h
  · exact opWriteNode_edits _ _ h
  · exact readRequest_edits _ _ _ h

/-! ### The line commands (Machine/Commands.lean) -/

theorem opHaltLine_edits (r : Req) (h : Edits w s t) : Edits w s (opHaltLine r t) := serve_edits (setCause_edits _ h) h

theorem opReleaseLine_edits (r : Req) (h : Edits w s t) : Edits w s (opReleaseLine r t) := serve_edits (clearCause_edits _ h) h

theorem opReleaseOverride_edits (r : Req) (h : Edits w s t) : Edits w s (opReleaseOverride r t) :=
  serve_edits (releaseOverride_edits h) h

theorem opAckEvent_edits (r : Req) (h : Edits w s t) : Edits w s (opAckEvent r t) := by
  refine serve_edits ?_ h
  unfold ackBody
  repeat' split
  · exact setRouter_edits _ h
  · exact h
  · exact setRouter_edits _ h

/-- The fault record is cleared, the cause flags left alone. -/
theorem setNotices_edits (n : Notices) (e : (n.causePowerOn, n.causePin, n.causeRestart) = t.causes) (h : Edits w s t) :
    Edits w s { t with notices := n } := h.then_same (by simp [State.editView, State.blockView, State.causes, State.drum] at e ⊢; exact e)

theorem markCauses_edits (hw : ¬ w.causes) (n : Notices) (h : Edits w s t) : Edits w s { t with notices := n } := h.tail (.mark t n hw)

theorem opClearFault_edits (r : Req) (h : Edits w s t) : Edits w s (opClearFault r t) := serve_edits (setNotices_edits _ rfl h) h

theorem stopCrusher_edits (h : Edits w s t) : Edits w s (stopCrusher t) := handStop_edits (setHead_edits _ h)

theorem opClearCrusher_edits (r : Req) (h : Edits w s t) : Edits w s (opClearCrusher r t) := by
  have hstopped : Edits w s (interlock (stopCrusher t)) := interlock_edits (stopCrusher_edits h)
  refine serve_edits ?_ h
  unfold clearCrusherBody
  split
  · exact hstopped
  · exact hstopped
  · exact hstopped
  · exact h
  · exact h
  · exact h

theorem opClearDrum_edits (r : Req) (h : Edits w s t) : Edits w s (opClearDrum r t) := by
  refine serve_edits ?_ h
  unfold clearDrumBody
  split
  · exact h
  · rename_i d _
    unfold clearDrumState
    dsimp only
    split
    · exact h.tail (.drum d _ id)
    · exact h.tail (.drum d _ id)
    · exact changeDrum_still rfl h
    · exact arbitrateFlush_edits (afterCountChange_edits _ (changeDrum_still rfl h))
    · exact h
    · exact h

theorem opStartProgram_edits (r : Req) (h : Edits w s t) : Edits w s (opStartProgram r t) := by
  refine serve_edits ?_ h
  unfold startProgramBody
  repeat' split
  · exact h
  · exact h
  · exact startChain_edits _ _ _ h

theorem opAbortProgram_edits (r : Req) (h : Edits w s t) : Edits w s (opAbortProgram r t) := by
  refine serve_edits ?_ h
  unfold abortProgramBody
  split
  · exact h
  · exact endChain_edits _ _ h

theorem opClearCounters_edits (r : Req) (h : Edits w s t) : Edits w s (opClearCounters r t) := serve_edits (h.then_same rfl) h

theorem opClearCauses_edits (hw : ¬ w.causes) (r : Req) (h : Edits w s t) : Edits w s (opClearCauses r t) :=
  serve_edits (markCauses_edits hw _ h) h

/-! ### The line restart -/

theorem setLots_edits (l : Vector Lot 64) (h : Edits w s t) : Edits w s { t with lots := l } := h.then_same rfl

theorem restartLots_edits (h : Edits w s t) : Edits w s (restartLots t) := by
  unfold restartLots
  refine setLots_edits _ (foldl_edits (fun u l h => ?_) _ h)
  unfold stopLoading
  split
  · exact sendLotOrder_edits _ _ _ h
  · exact h

theorem restartArbiter_edits (h : Edits w s t) : Edits w s (restartArbiter t) := setArbiter_edits _ (restartRequests_edits h)

theorem restartBelt_edits (h : Edits w s t) : Edits w s (restartBelt t) := setCause_edits _ (releaseOverride_edits h)

theorem restartHead_edits (h : Edits w s t) : Edits w s (restartHead t) := by
  unfold restartHead restartGate
  dsimp only
  have hcleared := clearCause_edits .crusher (setHead_edits { (stopCrusher t).head with approach := 0, surge := false } (stopCrusher_edits h))
  split
  · exact handMove_edits _ hcleared
  · exact hcleared

theorem handDrums_edits (h : Edits w s t) : Edits w s (handDrums t) := foldl_edits (fun _ d => handDrum_edits d) _ h

/-- Steps 1 to 4 of R196. -/
theorem restartTracker_edits (h : Edits w s t) : Edits w s (restartTracker (restartArbiter (restartLots (abortForRestart t)))) :=
  (restartArbiter_edits (restartLots_edits (abortForRestart_edits h))).tail (.clear _)

theorem restartRouter_edits (h : Edits w s t) : Edits w s (restartRouter t) := setRouter_edits _ (setEngine_edits _ h)

theorem restartCoalescer_edits (h : Edits w s t) : Edits w s (restartCoalescer t) := h.tail (.discard t)

/-- Steps 1 to 8 of R196. -/
theorem restartBlocks_edits (h : Edits w s t) : Edits w s (handDrums (restartHead (issueSetpoint (restartCoalescer (restartBelt
    (restartRouter (restartTracker (restartArbiter (restartLots (abortForRestart t)))))))))) :=
  handDrums_edits (restartHead_edits (issueSetpoint_edits (restartCoalescer_edits (restartBelt_edits (restartRouter_edits
    (restartTracker_edits h))))))

theorem restartLine_edits (hw : ¬ w.causes) (h : Edits w s t) : Edits w s (restartLine t) := markCauses_edits hw _ (restartBlocks_edits h)

theorem setActivity_edits (a : Activity) (h : Edits w s t) : Edits w s (t.setActivity a) := h.then_same rfl

theorem opRestartLine_edits (hw : ¬ w.causes) (r : Req) (h : Edits w s t) : Edits w s (opRestartLine r t) := by
  refine serve_edits ?_ h
  unfold restartBody
  repeat' split
  · exact setActivity_edits _ (restartLine_edits hw h)
  · exact bump_edits _ (restartLine_edits hw h)
  · exact h

/-! ### The reload, the save and the start-up read -/

theorem reloadFiltration_edits (old : Tables) (h : Edits w s t) : Edits w s (reloadFiltration old t) := by
  refine arbitrateFlush_edits (recomputeCapacity_edits (foldl_edits (fun u d h => ?_) _ h))
  unfold reloadDrum
  split
  · exact h
  · exact applyDrum_edits _ _ h

theorem setHanded_edits (b : Bool) (h : Edits w s t) : Edits w s { t with handed := b } := h.then_same rfl

/-- A reload takes a new gap on a map of EMPTY pitches alone. -/
theorem reloadValid_edits {new : Tables} (hnew : new.inRange) (hmap : w.gap → ∀ p ∈ t.tracker.map, p = .empty) (h : Edits w s t) :
    Edits w s (reloadValid new t) := by
  have htaken : Edits w s (takeTables new (restartRequests t)) :=
    (restartRequests_edits h).tail (.retable new (fun _ => hnew) fun hg => .inr (by simpa using hmap hg))
  unfold reloadValid
  dsimp only
  exact bump_edits _ (setHanded_edits true (headReevaluate_edits (applyIdle_edits (opSilenceTimeout_edits .plant
    (opSilenceTimeout_edits .cell (reselect_edits (reloadFiltration_edits t.tables htaken)))))))

theorem opReloadComplete_edits (ack : Bool) (hmap : w.gap → t.activity.isReloading = true → ∀ p ∈ t.tracker.map, p = .empty)
    (h : Edits w s t) : Edits w s (opReloadComplete ack t) := by
  unfold opReloadComplete
  split
  · rename_i r node hact
    refine unloadIfHanded_edits (bump_edits _ (reply_edits _ _ _ _ _ (routeAll_edits (setActivity_edits _ ?_))))
    split
    · rename_i new hnew
      exact reloadValid_edits (readImage_inRange hnew) (fun hg => hmap hg (by simp [hact, Activity.isReloading])) h
    · exact bump_edits _ (raiseFault_edits _ _ _ _ h)
  · exact h

theorem opSaveImage_edits (r : Req) (h : Edits w s t) : Edits w s (opSaveImage r t) := by
  refine serve_edits ?_ h
  unfold saveBody
  split
  · exact setActivity_edits _ h
  · exact h

theorem endSave_edits (r : Req) (st : Status) (h : Edits w s t) : Edits w s (endSave r st t) := by
  unfold endSave
  dsimp only
  split
  · exact bump_edits _ (reply_edits _ _ _ _ _ (setActivity_edits _ h))
  · exact bump_edits _ (bump_edits _ (reply_edits _ _ _ _ _ (setActivity_edits _ h)))

theorem setEeprom_edits (m : Memory) (h : Edits w s t) : Edits w s { t with eeprom := m } := h.then_same rfl

theorem opSavePageWritten_edits (ack : Bool) (h : Edits w s t) : Edits w s (opSavePageWritten ack t) := by
  unfold opSavePageWritten
  dsimp only
  repeat' split
  · exact setActivity_edits _ (setEeprom_edits _ h)
  · exact endSave_edits _ _ (setEeprom_edits _ h)
  · exact endSave_edits _ _ (h.then_same rfl)
  · exact h

theorem takeImage_edits {image : Option Tables} (himage : ∀ new, image = some new → new.inRange) (h : Edits w s t) :
    Edits w s (takeImage image t) := by
  cases image with
  | some new => exact (bump_edits _ h).tail (.rebuild new (himage new rfl))
  | none => exact raiseFault_edits _ _ _ _ (bump_edits _ (h.tail (.rebuild Tables.default default_inRange)))

theorem startLine_edits (h : Edits w s t) : Edits w s (startLine t) := by
  have hoperating : Edits w s { t with mode := .operating } := h.then_same rfl
  exact handDrums_edits (handStop_edits (issueSetpoint_edits hoperating))

theorem opImageLoadComplete_edits (ack : Bool) (h : Edits w s t) : Edits w s (opImageLoadComplete ack t) := by
  unfold opImageLoadComplete
  split
  · exact complete_edits (startLine_edits (takeImage_edits (fun _ => readImage_inRange) h))
  · exact h

/-! ### Frames (Machine/Frames.lean) -/

theorem opReadState_edits (r : Req) (h : Edits w s t) : Edits w s (opReadState r t) := by
  unfold opReadState
  split <;> exact readRequest_edits _ _ _ h

theorem opManagement_edits (hw : ¬ w.causes) (n : Byte) (r : Req) (data : List Byte) (h : Edits w s t) : Edits w s (opManagement n r data t) := by
  unfold opManagement
  split
  · exact readRequest_edits _ _ _ h
  · exact readRequest_edits _ _ _ h
  · exact opWriteEntry_edits _ _ h
  · exact opReadState_edits _ h
  · exact opHaltLine_edits _ h
  · exact opReleaseLine_edits _ h
  · exact opReleaseOverride_edits _ h
  · exact opAckEvent_edits _ h
  · exact opClearFault_edits _ h
  · exact opClearCrusher_edits _ h
  · exact opClearDrum_edits _ h
  · exact opStartProgram_edits _ h
  · exact opAbortProgram_edits _ h
  · exact opClearCounters_edits _ h
  · exact opClearCauses_edits hw _ h
  · exact opRestartLine_edits hw _ h
  · exact opSaveImage_edits _ h
  · exact readRequest_edits _ _ _ h

theorem takeDischarge_edits (p : Port) (by_ : Consumption) {op : State → State} (hop : Edits w s (op t)) (h : Edits w s t) :
    Edits w s (takeDischarge p by_ op t) := by
  unfold takeDischarge
  split
  · exact complete_edits hop
  · exact bump_edits _ h

theorem acceptFrom_edits (p : Port) (src node : Byte) {op : State → State} (hop : Edits w s (op t)) (h : Edits w s t) :
    Edits w s (acceptFrom p src node op t) := by
  unfold acceptFrom
  split
  · exact complete_edits hop
  · exact raiseFault_edits _ _ _ _ (bump_edits _ h)

theorem dispatch_edits (hw : ¬ w.causes) (p : Port) (by_ : Consumption) (tg : Telegram) (h : Edits w s t) : Edits w s (dispatch p by_ tg t) := by
  unfold dispatch
  split
  · exact takeDischarge_edits _ _ (opDischargeRequest_edits _ _ _ _ h) h
  · exact takeDischarge_edits _ _ (opDischargeWithdraw_edits _ h) h
  · exact takeDischarge_edits _ _ (opDischargeEnd_edits _ _ _ h) h
  · exact acceptFrom_edits _ _ _ (opBeltSample_edits _ h) h
  · exact acceptFrom_edits _ _ _ (opCrusherStatus_edits _ _ h) h
  · exact acceptFrom_edits _ _ _ (opGateStatus_edits _ h) h
  · exact acceptFrom_edits _ _ _ (opFilterSample_edits _ _ h) h
  · split
    · exact opManagement_edits hw _ _ _ h
    · exact bump_edits _ h
  · exact bump_edits _ h

theorem consume_edits (hw : ¬ w.causes) (p : Port) (by_ : Consumption) (tg : Telegram) (h : Edits w s t) : Edits w s (consume p by_ tg t) := by
  unfold consume
  split
  · exact dispatch_edits hw _ _ _ (bump_edits _ h)
  · exact bump_edits _ h

theorem clampAllotment_edits (p : Port) (f : Frame) (c : CellNo) (flow : Half) (h : Edits w s t) :
    Edits w s (clampAllotment p f c flow t) := by
  unfold clampAllotment
  extract_lets decided
  have hdecided : Edits w s decided := by
    dsimp only [decided]
    split
    · exact bump_edits _ h
    · exact h
  clear_value decided
  split
  · exact recordAllotment_edits _ _ (forwardTo_edits _ _ hdecided)
  · exact forwardTo_edits _ _ hdecided

theorem opCoolantAllotment_edits (p : Port) (f : Frame) (h : Edits w s t) : Edits w s (opCoolantAllotment p f t) := by
  unfold opCoolantAllotment takeAllotment
  dsimp only
  repeat' split
  · exact bump_edits _ h
  · exact forwardTo_edits _ _ (bump_edits _ (bump_edits _ h))
  · exact clampAllotment_edits _ _ _ _ (bump_edits _ h)
  · exact bump_edits _ h

theorem classify_edits (hw : ¬ w.causes) (p : Port) (f : Frame) (tg : Telegram) (h : Edits w s t) : Edits w s (classify p f tg t) := by
  unfold classify
  split
  · exact forwardTo_edits _ _ h
  · rename_i i _
    unfold applyAction
    split
    · exact forwardTo_edits _ _ (bump_edits _ h)
    · exact bump_edits _ h
    · exact consume_edits hw _ _ _ (bump_edits _ h)
    · exact consume_edits hw _ _ _ (forwardTo_edits _ _ (bump_edits _ h))
    · exact complete_edits (opCoolantAllotment_edits _ _ (bump_edits _ h))

theorem handleFrame_edits (hw : ¬ w.causes) (p : Port) (f : Frame) (h : Edits w s t) : Edits w s (handleFrame p f t) := by
  unfold handleFrame loadingFrame lineFrame
  repeat' split
  · exact forwardTo_edits _ _ (bump_edits _ h)
  · exact bump_edits _ h
  · exact forwardTo_edits _ _ h
  · exact forwardTo_edits _ _ (bump_edits _ h)
  · exact bump_edits _ h
  · exact consume_edits hw _ _ _ h
  · exact classify_edits hw _ _ _ h

theorem opFrameReceived_edits (hw : ¬ w.causes) (p : Port) (ok : Bool) (f : Frame) (h : Edits w s t) : Edits w s (opFrameReceived p ok f t) := by
  unfold opFrameReceived
  split
  · exact bump_edits _ h
  · exact handleFrame_edits hw _ _ (complete_edits (goodFrame_edits _ h))

/-! ### Every command -/

/-- What a command but a reset does to the blocks is a run of edits; the map of a line that is RELOADING is asked to be EMPTY where the gap is
watched. -/
theorem exec_edits (hw : ¬ w.causes) (i : Instr) (hpower : i ≠ .powerOn) (hpin : i ≠ .pinReset)
    (hmap : w.gap → s.activity.isReloading = true → ∀ p ∈ s.tracker.map, p = .empty) : ∃ t, exec i s = .next t ∧ Edits w s t := by
  have h : Edits w s s := .refl
  cases i with
  | powerOn => exact absurd rfl hpower
  | pinReset => exact absurd rfl hpin
  | imageLoadComplete ack => exact ⟨_, exec_imageLoadComplete ack s, opImageLoadComplete_edits ack h⟩
  | frameReceived p ok f => exact ⟨_, exec_frameReceived p ok f s, opFrameReceived_edits hw p ok f h⟩
  | dischargeRequest node cls len mass =>
    exact ⟨_, exec_dischargeRequest node cls len mass s, operate_edits (opDischargeRequest_edits node cls len mass) h⟩
  | dischargeWithdraw node => exact ⟨_, exec_dischargeWithdraw node s, operate_edits (opDischargeWithdraw_edits node) h⟩
  | dischargeEnd node lot mass => exact ⟨_, exec_dischargeEnd node lot mass s, operate_edits (opDischargeEnd_edits node lot mass) h⟩
  | beltSample count => exact ⟨_, exec_beltSample count s, operate_edits (opBeltSample_edits count) h⟩
  | crusherStatus current confirm => exact ⟨_, exec_crusherStatus current confirm s, operate_edits (opCrusherStatus_edits current confirm) h⟩
  | gateStatus position => exact ⟨_, exec_gateStatus position s, operate_edits (opGateStatus_edits position) h⟩
  | filterSample d dp => exact ⟨_, exec_filterSample d dp s, operate_edits (opFilterSample_edits d dp) h⟩
  | coolantAllotment p f => exact ⟨_, exec_coolantAllotment p f s, operate_edits (opCoolantAllotment_edits p f) h⟩
  | frameTransmitted p => exact ⟨_, exec_frameTransmitted p s, opFrameTransmitted_edits p h⟩
  | silenceTimeout p => exact ⟨_, exec_silenceTimeout p s, complete_edits (opSilenceTimeout_edits p h)⟩
  | requestUrgent c => exact ⟨_, exec_requestUrgent c s, complete_edits (opRequestUrgent_edits c h)⟩
  | requestExpiry c => exact ⟨_, exec_requestExpiry c s, complete_edits (opRequestExpiry_edits c h)⟩
  | overrideSecond => exact ⟨_, exec_overrideSecond s, opOverrideSecond_edits h⟩
  | gateTimeout => exact ⟨_, exec_gateTimeout s, complete_edits (opGateTimeout_edits h)⟩
  | startTimerExpiry => exact ⟨_, exec_startTimerExpiry s, complete_edits (opStartTimerExpiry_edits h)⟩
  | idleTimerExpiry => exact ⟨_, exec_idleTimerExpiry s, complete_edits (opIdleTimerExpiry_edits h)⟩
  | flushWaitLimit d => exact ⟨_, exec_flushWaitLimit d s, complete_edits (opFlushWaitLimit_edits d h)⟩
  | flushTimeEnd d => exact ⟨_, exec_flushTimeEnd d s, complete_edits (opFlushTimeEnd_edits d h)⟩
  | settleTimeEnd d => exact ⟨_, exec_settleTimeEnd d s, complete_edits (opSettleTimeEnd_edits d h)⟩
  | stepHoldExpiry => exact ⟨_, exec_stepHoldExpiry s, complete_edits (opStepHoldExpiry_edits h)⟩
  | coalesceAgeLimit => exact ⟨_, exec_coalesceAgeLimit s, opCoalesceAgeLimit_edits h⟩
  | readIdent r => exact ⟨_, exec_readIdent r s, readRequest_edits _ _ _ h⟩
  | readEntry r => exact ⟨_, exec_readEntry r s, readRequest_edits _ _ _ h⟩
  | writeEntry r data => exact ⟨_, exec_writeEntry r data s, opWriteEntry_edits r data h⟩
  | writeClassify r e => exact ⟨_, exec_writeClassify r e s, opWriteClassify_edits r e h⟩
  | writeCell r e => exact ⟨_, exec_writeCell r e s, opWriteCell_edits r e h⟩
  | writeClass r e => exact ⟨_, exec_writeClass r e s, opWriteClass_edits r e h⟩
  | writePlant r e => exact ⟨_, exec_writePlant r e s, opWritePlant_edits r e h⟩
  | writeBelt r e => exact ⟨_, exec_writeBelt r e s, opWriteBelt_edits r e h⟩
  | writeProfile r e => exact ⟨_, exec_writeProfile r e s, opWriteProfile_edits r e h⟩
  | writeCrusher r e => exact ⟨_, exec_writeCrusher r e s, opWriteCrusher_edits r e h⟩
  | writeDrum r e => exact ⟨_, exec_writeDrum r e s, opWriteDrum_edits r e h⟩
  | writeFilter r e => exact ⟨_, exec_writeFilter r e s, opWriteFilter_edits r e h⟩
  | writeAction r e => exact ⟨_, exec_writeAction r e s, opWriteAction_edits r e h⟩
  | writeEventroute r e => exact ⟨_, exec_writeEventroute r e s, opWriteEventroute_edits r e h⟩
  | writePort r e => exact ⟨_, exec_writePort r e s, opWritePort_edits r e h⟩
  | writeCoalesce r e => exact ⟨_, exec_writeCoalesce r e s, opWriteCoalesce_edits r e h⟩
  | writeNode r e => exact ⟨_, exec_writeNode r e s, opWriteNode_edits r e h⟩
  | readStatePitches r => exact ⟨_, exec_readStatePitches r s, readRequest_edits _ _ _ h⟩
  | readStateLot r => exact ⟨_, exec_readStateLot r s, readRequest_edits _ _ _ h⟩
  | readStateRequest r => exact ⟨_, exec_readStateRequest r s, readRequest_edits _ _ _ h⟩
  | readStateCrusher r => exact ⟨_, exec_readStateCrusher r s, readRequest_edits _ _ _ h⟩
  | readStateGate r => exact ⟨_, exec_readStateGate r s, readRequest_edits _ _ _ h⟩
  | readStateDrum r => exact ⟨_, exec_readStateDrum r s, readRequest_edits _ _ _ h⟩
  | readStateBelt r => exact ⟨_, exec_readStateBelt r s, readRequest_edits _ _ _ h⟩
  | readStateProgram r => exact ⟨_, exec_readStateProgram r s, readRequest_edits _ _ _ h⟩
  | readStateEvent r => exact ⟨_, exec_readStateEvent r s, readRequest_edits _ _ _ h⟩
  | readStateFault r => exact ⟨_, exec_readStateFault r s, readRequest_edits _ _ _ h⟩
  | readStateCounters r => exact ⟨_, exec_readStateCounters r s, readRequest_edits _ _ _ h⟩
  | readStateRoutes r => exact ⟨_, exec_readStateRoutes r s, readRequest_edits _ _ _ h⟩
  | readStateCauses r => exact ⟨_, exec_readStateCauses r s, readRequest_edits _ _ _ h⟩
  | haltLine r => exact ⟨_, exec_haltLine r s, opHaltLine_edits r h⟩
  | releaseLine r => exact ⟨_, exec_releaseLine r s, opReleaseLine_edits r h⟩
  | releaseOverride r => exact ⟨_, exec_releaseOverride r s, opReleaseOverride_edits r h⟩
  | ackEvent r => exact ⟨_, exec_ackEvent r s, opAckEvent_edits r h⟩
  | clearFault r => exact ⟨_, exec_clearFault r s, opClearFault_edits r h⟩
  | clearCrusher r => exact ⟨_, exec_clearCrusher r s, opClearCrusher_edits r h⟩
  | clearDrum r => exact ⟨_, exec_clearDrum r s, opClearDrum_edits r h⟩
  | startProgram r => exact ⟨_, exec_startProgram r s, opStartProgram_edits r h⟩
  | abortProgram r => exact ⟨_, exec_abortProgram r s, opAbortProgram_edits r h⟩
  | clearCounters r => exact ⟨_, exec_clearCounters r s, opClearCounters_edits r h⟩
  | clearCauses r => exact ⟨_, exec_clearCauses r s, opClearCauses_edits hw r h⟩
  | restartLine r => exact ⟨_, exec_restartLine r s, opRestartLine_edits hw r h⟩
  | reloadComplete ack => exact ⟨_, exec_reloadComplete ack s, opReloadComplete_edits ack hmap h⟩
  | saveImage r => exact ⟨_, exec_saveImage r s, opSaveImage_edits r h⟩
  | savePageWritten ack => exact ⟨_, exec_savePageWritten ack s, opSavePageWritten_edits ack h⟩

end Sys2Proof.Machine
end

section
/-! SUPPORT. The laws of the blocks that every edit keeps: P records, 32 frames, one entry for a target, one drum in a phase, the tables' ranges and the
guard gap. -/

namespace Sys2Proof.Machine

variable {w : Watch} {s t : State}

/-- A window is as long as the EMPTY pitches it takes. -/
theorem length_writeWindow {dp len : Nat} {l : LotNo} {k : ClassNo} {m : List Pitch} (hw : windowEmpty dp len m = true) :
    (writeWindow dp len l k m).length = m.length := by
  have hempty := congrArg List.length (map_of_windowEmpty hw)
  simp only [List.length_append, List.length_replicate] at hempty
  simp only [writeWindow, List.length_append, List.length_replicate]
  omega

/-- P records: a run of edits keeps the map as long as the belt. -/
theorem Edit.mapLaw (e : Edit w s t) (hs : s.mapLaw) : t.mapLaw := by
  have hview : ∀ u : State, u.mapLaw ↔ u.blockView.map.length = u.blockView.tables.belt.length := fun _ => Iff.rfl
  cases e with
  | quiet h => rw [hview, blockView_of_editView h]; exact hs
  | mark n _ => exact hs
  | enqueue p f _ => simpa [State.mapLaw] using hs
  | dequeue p _ => simpa [State.mapLaw] using hs
  | hand m setpoint _ => simpa [State.mapLaw] using hs
  | issue => simpa [State.mapLaw] using hs
  | unload tg => simpa [State.mapLaw] using hs
  | discard => simpa [State.mapLaw] using hs
  | drum d r _ => exact hs
  | flush d r _ => exact hs
  | window c q l h =>
    simp only [State.feasible, Bool.and_eq_true] at h
    exact (length_writeWindow h.1.2).trans hs
  | release l => simpa [State.mapLaw, State.setMap] using hs
  | load h => simpa [State.mapLaw, State.setMap] using hs
  | shift h => simpa [State.mapLaw, State.setMap, h] using hs
  | clear => simp [State.mapLaw, restartTracker]
  | retable new _ _ =>
    unfold State.mapLaw takeTables retrack
    dsimp only
    split
    · rename_i hsame
      rw [hsame]; exact hs
    · exact List.length_replicate
  | rebuild new _ => simp [State.mapLaw, deriveState]

/-- At most 32 frames: a frame is placed only where there is room. -/
theorem Edit.queueLaw (e : Edit w s t) (hs : s.queueLaw) : t.queueLaw := by
  have hview : ∀ u : State, u.queueLaw ↔ u.blockView.cellQueue.length ≤ queueCapacity ∧ u.blockView.plantQueue.length ≤ queueCapacity :=
    fun _ => Iff.rfl
  obtain ⟨hcell, hplant⟩ := hs
  cases e with
  | quiet h => rw [hview, blockView_of_editView h]; exact ⟨hcell, hplant⟩
  | mark n _ => exact ⟨hcell, hplant⟩
  | enqueue p f h =>
    have hroom := of_decide_eq_true h
    have hlength : ((s.port p).queue ++ [f]).length ≤ queueCapacity := by simpa using hroom
    cases p with
    | cell => exact ⟨hlength, hplant⟩
    | plant => exact ⟨hcell, hlength⟩
  | @dequeue p f rest h =>
    have hlen := congrArg List.length h
    rw [List.length_cons] at hlen
    cases p with
    | cell =>
      have hrest : rest.length ≤ queueCapacity := by
        change s.cellPort.queue.length = _ at hlen
        omega
      exact ⟨hrest, hplant⟩
    | plant =>
      have hrest : rest.length ≤ queueCapacity := by
        change s.plantPort.queue.length = _ at hlen
        omega
      exact ⟨hcell, hrest⟩
  | hand m setpoint _ => exact ⟨by simpa using hcell, by simpa using hplant⟩
  | issue => exact ⟨by simpa using hcell, by simpa using hplant⟩
  | unload tg => exact ⟨hcell, hplant⟩
  | discard => exact ⟨hcell, hplant⟩
  | drum d r _ => exact ⟨hcell, hplant⟩
  | flush d r _ => exact ⟨hcell, hplant⟩
  | window c q l _ => exact ⟨hcell, hplant⟩
  | release l => exact ⟨hcell, hplant⟩
  | load _ => exact ⟨hcell, hplant⟩
  | shift _ => exact ⟨hcell, hplant⟩
  | clear => exact ⟨hcell, hplant⟩
  | retable new _ _ => exact ⟨hcell, hplant⟩
  | rebuild new _ => exact ⟨hcell, hplant⟩

/-- The targets of the entries after a hand-over: the new target goes to the end, unless an entry has it (R164). -/
theorem hand_targets (tg : Target) (m : Mode) (setpoint : Nat) (s : State) :
    (hand tg m setpoint s).coalescer.entries.map Entry.target =
      if tg ∈ s.coalescer.entries.map Entry.target then s.coalescer.entries.map Entry.target
      else s.coalescer.entries.map Entry.target ++ [tg] := by
  have hmem : (s.coalescer.entries.any fun e => e.target = tg) = true ↔ tg ∈ s.coalescer.entries.map Entry.target := by simp
  have hmerge : (mergeEntry tg m setpoint s.coalescer.entries).map Entry.target = s.coalescer.entries.map Entry.target := by
    simp only [mergeEntry, List.map_map]
    refine List.map_congr_left fun e _ => ?_
    simp only [Function.comp]
    split <;> rfl
  unfold hand
  by_cases h : tg ∈ s.coalescer.entries.map Entry.target
  · rw [if_pos (hmem.mpr h), if_pos h]
    exact hmerge
  · rw [if_neg (mt hmem.mp h), if_neg h]
    simp [bump, bumpBy]

theorem hand_entryLaw (tg : Target) (m : Mode) (setpoint : Nat) (hs : s.entryLaw) : (hand tg m setpoint s).entryLaw := by
  unfold State.entryLaw at hs ⊢
  rw [hand_targets]
  split
  · exact hs
  · rename_i hnew
    exact List.nodup_append.mpr ⟨hs, List.nodup_singleton _, fun a ha b hb e => hnew (by rw [← List.mem_singleton.mp hb, ← e]; exact ha)⟩

/-- One entry for a target. -/
theorem Edit.entryLaw (e : Edit w s t) (hs : s.entryLaw) : t.entryLaw := by
  have hview : ∀ u : State, u.entryLaw ↔ (u.blockView.entries.map Entry.target).Nodup := fun _ => Iff.rfl
  cases e with
  | quiet h => rw [hview, blockView_of_editView h]; exact hs
  | mark n _ => exact hs
  | enqueue p f _ => simpa [State.entryLaw] using hs
  | dequeue p _ => simpa [State.entryLaw] using hs
  | hand m setpoint _ => exact hand_entryLaw _ _ _ hs
  | issue => exact hand_entryLaw _ _ _ hs
  | unload tg => exact hs.sublist (List.filter_sublist.map _)
  | discard => exact List.nodup_nil
  | drum d r _ => exact hs
  | flush d r _ => exact hs
  | window c q l _ => exact hs
  | release l => exact hs
  | load _ => exact hs
  | shift _ => exact hs
  | clear => exact hs
  | retable new _ _ => exact hs
  | rebuild new _ => exact hs

/-! ### At most one drum in a phase -/

theorem flushLaw_iff : s.flushLaw ↔ ∀ d e : DrumNo, (s.drum d).state.busy = true → (s.drum e).state.busy = true → d = e := by
  have hfour : ∀ b : DrumNo → Bool, drumList.countP b ≤ 1 ↔ ∀ d e : DrumNo, b d = true → b e = true → d = e := by decide
  exact hfour _

theorem setDrum_drum (d e : DrumNo) (r : DrumRec) (s : State) : (s.setDrum d r).drum e = if e = d then r else s.drum e := by
  by_cases h : e = d
  · subst h; simp [State.drum, State.setDrum]
  · have hval : d.val ≠ e.val := fun hv => h (Fin.ext hv.symm)
    simp [State.drum, State.setDrum, h, hval]

/-- At most one drum is FLUSHING or SETTLING: a drum enters a phase only while none is in one. -/
theorem Edit.flushLaw (e : Edit w s t) (hs : s.flushLaw) : t.flushLaw := by
  have hview : ∀ u : State, u.flushLaw ↔ drumList.countP u.blockView.busy ≤ 1 := fun _ => Iff.rfl
  cases e with
  | quiet h => rw [hview, blockView_of_editView h]; exact hs
  | mark n _ => exact hs
  | enqueue p f _ => simpa [State.flushLaw, State.drum] using hs
  | dequeue p _ => simpa [State.flushLaw, State.drum] using hs
  | hand m setpoint _ => simpa [State.flushLaw, State.drum] using hs
  | issue => simpa [State.flushLaw, State.drum] using hs
  | unload tg => exact hs
  | discard => exact hs
  | drum d r h =>
    rw [flushLaw_iff] at hs ⊢
    have hback : ∀ e, ((s.setDrum d r).drum e).state.busy = true → (s.drum e).state.busy = true := fun e he => by
      rw [setDrum_drum] at he
      split at he
      · rename_i hed; exact hed ▸ h he
      · exact he
    exact fun d' e' hd he => hs d' e' (hback d' hd) (hback e' he)
  | flush d r h =>
    rw [flushLaw_iff]
    have honly : ∀ e, ((s.setDrum d r).drum e).state.busy = true → e = d := fun e he => by
      by_contra hne
      rw [setDrum_drum, if_neg hne, h e] at he
      cases he
    exact fun d' e' hd he => (honly d' hd).trans (honly e' he).symm
  | window c q l _ => exact hs
  | release l => exact hs
  | load _ => exact hs
  | shift _ => exact hs
  | clear => exact hs
  | retable new _ _ => exact hs
  | rebuild new _ =>
    have hstill : ∀ d, ((deriveState new s).drum d).state.busy = false := fun d => by
      simp only [deriveState, State.drum, initialDrum, Fin.getElem_fin, Vector.getElem_map]
      split <;> rfl
    exact flushLaw_iff.mpr fun d e hd => by rw [hstill d] at hd; cases hd

/-! ### The ranges of the tables -/

theorem Edit.inRange (e : Edit w s t) (hs : s.tables.inRange) : t.tables.inRange := by
  have hview : ∀ u : State, u.tables = u.blockView.tables := fun _ => rfl
  cases e with
  | quiet h => rw [hview, blockView_of_editView h]; exact hs
  | mark n _ => exact hs
  | enqueue p f _ => simpa using hs
  | dequeue p _ => simpa using hs
  | hand m setpoint _ => simpa using hs
  | issue => simpa using hs
  | unload tg => exact hs
  | discard => exact hs
  | drum d r _ => exact hs
  | flush d r _ => exact hs
  | window c q l _ => exact hs
  | release l => exact hs
  | load _ => exact hs
  | shift _ => exact hs
  | clear => exact hs
  | retable new h _ => exact h hs
  | rebuild new h => exact h

/-! ### The guard gap -/

/-- The pitch at an index is of a class. -/
def ClassAt (m : List Pitch) (i : Nat) (k : ClassNo) : Prop := ∃ p, m[i]? = some p ∧ p.cls = some k

/-- Two pitches of different classes stand more than `g` indices apart. -/
def Guarded (g : Nat) (m : List Pitch) : Prop := ∀ i j k n, i < j → ClassAt m i k → ClassAt m j n → k ≠ n → i + g < j

theorem gapLaw_iff : s.gapLaw ↔ Guarded s.tables.belt.gap s.tracker.map :=
  ⟨fun h i j k n hij ⟨p, hp, hk⟩ ⟨q, hq, hn⟩ hne => h i j p q k n hij hp hq hk hn hne,
    fun h i j p q k n hij hp hq hk hn hne => h i j k n hij ⟨p, hp, hk⟩ ⟨q, hq, hn⟩ hne⟩

/-- Pitches that only become EMPTY keep the gap. -/
theorem Guarded.mono {g : Nat} {m n : List Pitch} (h : Guarded g m) (hsub : ∀ i k, ClassAt n i k → ClassAt m i k) : Guarded g n :=
  fun i j k l hij hi hj hne => h i j k l hij (hsub i k hi) (hsub j l hj) hne

theorem guarded_of_empty {g : Nat} {m : List Pitch} (h : ∀ p ∈ m, p = .empty) : Guarded g m := by
  rintro i j k n - ⟨p, hp, hk⟩
  rw [h p (List.mem_of_getElem? hp)] at hk
  cases hk

/-- A reserved window: its pitches are of the class, the others as before. -/
theorem classAt_writeWindow {dp len : Nat} {l : LotNo} {k n : ClassNo} {m : List Pitch} {i : Nat}
    (hw : windowEmpty dp len m = true) (h : ClassAt (writeWindow dp len l k m) i n) :
    (dp ≤ i ∧ i < dp + len ∧ n = k) ∨ ClassAt m i n := by
  obtain ⟨p, hp, hn⟩ := h
  have hold := map_of_windowEmpty hw
  have hlen := congrArg List.length hold
  rw [writeWindow, List.append_assoc, List.getElem?_append] at hp
  rw [List.append_assoc] at hold
  split at hp
  · rename_i hlow
    right
    refine ⟨p, ?_, hn⟩
    rwa [hold, List.getElem?_append, if_pos hlow]
  · rename_i hlow
    rw [List.getElem?_append, List.length_replicate] at hp
    split at hp
    · rename_i hin
      left
      have hdp := le_length_of_windowEmpty hw (by omega)
      rw [List.length_take, Nat.min_eq_left hdp] at hlow hin
      rw [List.length_take, Nat.min_eq_left hdp, List.getElem?_replicate, if_pos hin] at hp
      cases hp
      exact ⟨by omega, by omega, (Option.some.inj hn).symm⟩
    · rename_i hout
      right
      refine ⟨p, ?_, hn⟩
      rwa [hold, List.getElem?_append, if_neg hlow, List.getElem?_append, List.length_replicate, if_neg hout]

/-- Within the guard gap of a feasible window every pitch that is not EMPTY is of the request's class (R61). -/
theorem class_of_guardClear {dp len g : Nat} {k n : ClassNo} {m : List Pitch} {i : Nat} (hg : guardClear dp len g k m = true)
    (hi : ClassAt m i n) (hlow : dp ≤ i + g) (hhigh : i < dp + len + g) : n = k := by
  obtain ⟨p, hp, hn⟩ := hi
  have hmem : p ∈ (m.drop (dp - g)).take (min dp g + len + g) := by
    refine List.mem_of_getElem? (i := i - (dp - g)) ?_
    rw [List.getElem?_take, if_pos (by omega), List.getElem?_drop]
    convert hp using 2
    omega
  have hclear := List.all_eq_true.mp hg p hmem
  simpa [hn] using hclear

/-- A granted window keeps the gap (R61). -/
theorem Guarded.writeWindow {dp len g : Nat} {l : LotNo} {k : ClassNo} {m : List Pitch} (h : Guarded g m)
    (hw : windowEmpty dp len m = true) (hg : guardClear dp len g k m = true) : Guarded g (writeWindow dp len l k m) := by
  intro i j a b hij hi hj hne
  rcases classAt_writeWindow hw hi with ⟨hi1, hi2, rfl⟩ | hiOld <;>
    rcases classAt_writeWindow hw hj with ⟨hj1, hj2, rfl⟩ | hjOld
  · exact absurd rfl hne
  · by_contra hclose
    exact hne (class_of_guardClear hg hjOld (by omega) (by omega)).symm
  · by_contra hclose
    exact hne (class_of_guardClear hg hiOld (by omega) (by omega))
  · exact h i j a b hij hiOld hjOld hne

/-- A shift keeps the distances of the pitches that stay (R15). -/
theorem Guarded.shift {g : Nat} {p : Pitch} {m : List Pitch} (h : Guarded g (p :: m)) : Guarded g (m ++ [.empty]) := by
  have hback : ∀ i k, ClassAt (m ++ [.empty]) i k → ClassAt (p :: m) (i + 1) k := by
    rintro i k ⟨q, hq, hk⟩
    refine ⟨q, ?_, hk⟩
    rw [List.getElem?_append] at hq
    split at hq
    · simpa using hq
    · rw [List.getElem?_singleton] at hq
      split at hq
      · cases hq; cases hk
      · cases hq
  intro i j k n hij hi hj hne
  have hfar := h (i + 1) (j + 1) k n (by omega) (hback i k hi) (hback j n hj) hne
  omega

theorem releasePitch_cls {l : LotNo} {p : Pitch} {k : ClassNo} (h : (releasePitch l p).cls = some k) : p.cls = some k := by
  cases p with
  | empty => exact h
  | loaded _ _ => exact h
  | reserved m n =>
    simp only [releasePitch] at h
    split at h
    · cases h
    · exact h

/-- The guard gap: a window is written where it is clear, and every other edit moves all pitches alike or takes some away. -/
theorem Edit.gapLaw (e : Edit ⟨True, False⟩ s t) (hs : s.gapLaw) : t.gapLaw := by
  have hview : ∀ u : State, u.gapLaw ↔ Guarded u.blockView.tables.belt.gap u.blockView.map := fun _ => gapLaw_iff
  have hempty : ∀ n, ∀ p ∈ List.replicate n Pitch.empty, p = .empty := fun n p => List.eq_of_mem_replicate
  rw [gapLaw_iff] at hs
  cases e with
  | quiet h => rw [hview, blockView_of_editView h]; exact hs
  | mark n _ => exact gapLaw_iff.mpr hs
  | enqueue p f _ => simpa [gapLaw_iff] using hs
  | dequeue p _ => simpa [gapLaw_iff] using hs
  | hand m setpoint _ => simpa [gapLaw_iff] using hs
  | issue => simpa [gapLaw_iff] using hs
  | unload tg => exact gapLaw_iff.mpr hs
  | discard => exact gapLaw_iff.mpr hs
  | drum d r _ => exact gapLaw_iff.mpr hs
  | flush d r _ => exact gapLaw_iff.mpr hs
  | window c q l h =>
    simp only [State.feasible, Bool.and_eq_true] at h
    obtain ⟨⟨-, hw⟩, hg⟩ := h
    exact gapLaw_iff.mpr (hs.writeWindow hw hg)
  | release l =>
    refine gapLaw_iff.mpr (hs.mono ?_)
    rintro i k ⟨p, hp, hk⟩
    simp only [State.setMap, List.getElem?_map, Option.map_eq_some_iff] at hp
    obtain ⟨q, hq, rfl⟩ := hp
    exact ⟨q, hq, releasePitch_cls hk⟩
  | @load i l k h =>
    refine gapLaw_iff.mpr (hs.mono ?_)
    rintro j n ⟨p, hp, hn⟩
    simp only [State.setMap, List.getElem?_set] at hp
    split at hp
    · rename_i hij
      subst hij
      split at hp
      · cases hp; exact ⟨_, h, hn⟩
      · cases hp
    · exact ⟨p, hp, hn⟩
  | shift h =>
    rw [h] at hs
    exact gapLaw_iff.mpr hs.shift
  | clear => exact gapLaw_iff.mpr (guarded_of_empty (hempty _))
  | retable new _ hgap =>
    rw [gapLaw_iff]
    unfold takeTables retrack
    dsimp only
    split
    · rcases hgap trivial with hsame | hnone
      · rw [hsame]; exact hs
      · exact guarded_of_empty hnone
    · exact guarded_of_empty (hempty _)
  | rebuild new _ => exact gapLaw_iff.mpr (guarded_of_empty (hempty _))

/-! ### The laws after a reset -/

/-- Both resets leave the blocks as they stand in the reset state. -/
theorem resetBlocks_blockView (s : State) : (resetBlocks s).blockView = State.reset.blockView := rfl

theorem opPowerOn_blockView (s : State) : (opPowerOn s).blockView = State.reset.blockView := rfl

theorem opPinReset_blockView (s : State) : (opPinReset s).blockView = State.reset.blockView := rfl

theorem reset_mapLaw : State.reset.mapLaw := by
  simp [State.mapLaw, State.reset, Tables.default, BeltEntry.default]

theorem reset_queueLaw : State.reset.queueLaw := ⟨Nat.zero_le _, Nat.zero_le _⟩

theorem reset_entryLaw : State.reset.entryLaw := List.nodup_nil

theorem reset_flushLaw : State.reset.flushLaw := by
  refine flushLaw_iff.mpr fun d e hd => ?_
  simp [State.reset, State.drum, DrumState.busy] at hd

theorem reset_gapLaw : State.reset.gapLaw := gapLaw_iff.mpr (guarded_of_empty fun _ => List.eq_of_mem_replicate)

/-- A law of the blocks that the reset state meets and every edit keeps is kept by every step, where the map of a line that is RELOADING is
EMPTY. -/
theorem step_keeps (hw : ¬ w.causes) {P : State → Prop} {Q : BlockView → Prop} (hview : ∀ u, P u ↔ Q u.blockView) (hreset : P State.reset)
    (hedit : ∀ {s t : State}, Edit w s t → P s → P t)
    (hmap : w.gap → s.activity.isReloading = true → ∀ p ∈ s.tracker.map, p = .empty) (hstep : step s = .next t) (hs : P s) : P t := by
  have hcongr : ∀ {u v : State}, v.blockView = u.blockView → P u → P v := fun e h => (hview _).mpr (e ▸ (hview _).mp h)
  unfold step at hstep
  split at hstep
  · cases hstep
    exact hcongr (u := s) rfl hs
  · rename_i c rest _
    have hq : P (s.withPending rest) := hcongr (u := s) rfl hs
    by_cases hpower : c = .powerOn
    · subst hpower; cases hstep
      exact hcongr (opPowerOn_blockView _) hreset
    · by_cases hpin : c = .pinReset
      · subst hpin; cases hstep
        exact hcongr (opPinReset_blockView _) hreset
      · obtain ⟨u, hu, hrun⟩ := exec_edits hw (w := w) (s := s.withPending rest) c hpower hpin hmap
        rw [hu] at hstep
        cases hstep
        exact hrun.keeps hedit hq

end Sys2Proof.Machine
end

section
/-! SUPPORT. The laws of the steps that the edits alone decide (O57, O59). -/

namespace Sys2Proof.Machine

/-- The map names no lot where no lot is active: it is EMPTY (R42, R197). -/
theorem map_empty_of_reloading {s : State} (h : s.lotLaw) (hre : s.activity.isReloading = true) : ∀ p ∈ s.tracker.map, p = .empty := by
  obtain ⟨hagree, -, -, -, hreloading⟩ := h
  obtain ⟨-, hfree⟩ := hreloading hre
  have hnone : ∀ (l : LotNo) (p : Pitch), p ∈ s.tracker.map → p.lot ≠ some l := fun l p hp => by
    obtain ⟨o, ho⟩ := hfree l
    have hl := hagree l
    rw [ho] at hl
    exact hl p hp
  intro p hp
  cases p with
  | empty => rfl
  | reserved l k => exact absurd rfl (hnone l _ hp)
  | loaded l k => exact absurd rfl (hnone l _ hp)

end Sys2Proof.Machine

namespace Sys2Proof.Proofs

open Sys2Proof.Machine

/-- Settles O57. The tables change by the edits `retable` and `rebuild` alone, and what these write has passed its checks. -/
theorem tablesStayInRange : Obligations.TablesStayInRange := by
  unfold Obligations.TablesStayInRange
  intro s t hs hstep
  exact step_keeps (w := ⟨False, False⟩) not_false (P := fun u => u.tables.inRange) (Q := fun v => v.tables.inRange) (fun _ => Iff.rfl) default_inRange
    Edit.inRange (fun h => h.elim) hstep hs

/-- Settles O59. A pass reserves a window where `guardClear` finds no other class within the gap; every other edit moves all pitches alike or takes
some away, and a new gap is taken on a map of EMPTY pitches alone. -/
theorem gapLawKept : Obligations.GapLawKept := by
  unfold Obligations.GapLawKept
  intro s t _ hlots hs hstep
  exact step_keeps (w := ⟨True, False⟩) not_false (Q := fun v => Guarded v.tables.belt.gap v.map) (fun _ => gapLaw_iff) reset_gapLaw Edit.gapLaw
    (fun _ => map_empty_of_reloading hlots) hstep hs

end Sys2Proof.Proofs
end

section
/-! SUPPORT. What exec leaves alone, command by command, from the laws of each operation's fields (O1, O3, O53). -/

namespace Sys2Proof.Machine

/-- Every command answers a next state. -/
theorem exec_next (c : Instr) (s : State) : ∃ t, exec c s = .next t := by
  cases c <;> exact ⟨_, rfl⟩

/-! ### The fields that the frame laws of the operations leave out -/

@[simp] theorem opPowerOn_pending (s : State) : (opPowerOn s).pending = s.pending := endSaveByReset_pending s

@[simp] theorem opPinReset_pending (s : State) : (opPinReset s).pending = s.pending := endSaveByReset_pending s

@[simp] theorem opReloadComplete_mode (ack : Bool) (s : State) : (opReloadComplete ack s).mode = s.mode := by
  unfold opReloadComplete
  split
  · dsimp only
    split <;> simp [State.setActivity]
  · rfl

@[simp] theorem opCoolantAllotment_tables (p : Port) (f : Frame) (s : State) : (opCoolantAllotment p f s).tables = s.tables := by
  unfold opCoolantAllotment takeAllotment clampAllotment
  dsimp only
  repeat' split
  all_goals simp

@[simp] theorem readRequest_tables (n : Nat) (r : Req) (f : State → Answer) (s : State) :
    (serveAlways n r (readOnly f) s).tables = s.tables :=
  serveAlways_tables n r _ s rfl

/-! ### Fields over every command -/

theorem exec_pending {c : Instr} {s t : State} (h : exec c s = .next t) : t.pending = s.pending := by
  cases c <;> cases h <;> simp

theorem exec_now {c : Instr} {s t : State} (h : exec c s = .next t) (hpower : c ≠ .powerOn) (hpin : c ≠ .pinReset) : t.now = s.now := by
  cases c <;> cases h <;> simp at hpower hpin ⊢

theorem exec_eeprom {c : Instr} {s t : State} (h : exec c s = .next t) (hpower : c ≠ .powerOn) (hpin : c ≠ .pinReset)
    (hpage : ∀ ack, c ≠ .savePageWritten ack) : t.eeprom = s.eeprom := by
  cases c <;> cases h <;> simp at hpower hpin hpage ⊢

theorem exec_mode {c : Instr} {s t : State} (h : exec c s = .next t) (hpower : c ≠ .powerOn) (hpin : c ≠ .pinReset)
    (hread : ∀ ack, c ≠ .imageLoadComplete ack) : t.mode = s.mode := by
  cases c <;> cases h <;> simp at hpower hpin hread ⊢

theorem exec_tables {c : Instr} {s t : State} (h : exec c s = .next t) (hpower : c ≠ .powerOn) (hpin : c ≠ .pinReset)
    (hread : ∀ ack, c ≠ .imageLoadComplete ack) (hreload : ∀ ack, c ≠ .reloadComplete ack) (hframe : ∀ p ok f, c ≠ .frameReceived p ok f)
    (hwrite : c.tableCode = none) (hentry : ∀ r l, c ≠ .writeEntry r l) : t.tables = s.tables := by
  cases c <;> cases h <;>
    simp [Instr.tableCode, opReadIdent, opReadEntry, opReadPitches, opReadLot, opReadRequest, opReadCrusher, opReadGate, opReadDrum,
      opReadBelt, opReadProgram, opReadEvent, opReadFault, opReadCounters, opReadRoutes, opReadCauses, opHaltLine, opReleaseLine,
      opReleaseOverride, opAckEvent, opClearFault, opClearCrusher, opClearDrum, opStartProgram, opAbortProgram, opClearCounters,
      opClearCauses, opRestartLine, opSaveImage] at hpower hpin hread hreload hframe hwrite hentry ⊢

/-! ### LOADING (R175) -/

theorem operate_loading {s : State} (hm : s.mode = .loading) (op : State → State) : operate op s = s := if_pos hm

theorem serveAlways_loading {s : State} (hm : s.mode = .loading) (n : Nat) (r : Req) (body : State → State × Answer) :
    serveAlways n r body s = s := if_pos hm

theorem serve_loading {s : State} (hm : s.mode = .loading) (n : Nat) (r : Req) (body : State → State × Answer) :
    serve n r body s = s := serveAlways_loading hm n r _

theorem opWriteEntry_loading {s : State} (hm : s.mode = .loading) (r : Req) (data : List Byte) : opWriteEntry r data s = s := by
  unfold opWriteEntry
  split <;> exact serveAlways_loading hm _ _ _

/-- The commands of the line: those that stand for a telegram, or are a management request. -/
def ofLine : Instr → Bool
  | .powerOn | .pinReset | .imageLoadComplete .. | .frameReceived .. | .frameTransmitted .. | .silenceTimeout .. | .requestUrgent ..
  | .requestExpiry .. | .overrideSecond | .gateTimeout | .startTimerExpiry | .idleTimerExpiry | .flushWaitLimit .. | .flushTimeEnd ..
  | .settleTimeEnd .. | .stepHoldExpiry | .coalesceAgeLimit | .reloadComplete .. | .savePageWritten .. => false
  | _ => true

/-- While the line mode is LOADING the line is deaf. -/
theorem exec_ofLine_loading {c : Instr} {s : State} (hm : s.mode = .loading) (hline : ofLine c = true) : exec c s = .next s := by
  cases c with
  | powerOn | pinReset | imageLoadComplete | frameReceived | frameTransmitted | silenceTimeout | requestUrgent | requestExpiry
  | overrideSecond | gateTimeout | startTimerExpiry | idleTimerExpiry | flushWaitLimit | flushTimeEnd | settleTimeEnd | stepHoldExpiry
  | coalesceAgeLimit | reloadComplete | savePageWritten => cases hline
  | dischargeRequest | dischargeWithdraw | dischargeEnd | beltSample | crusherStatus | gateStatus | filterSample | coolantAllotment =>
    exact congrArg _ (operate_loading hm _)
  | writeEntry r data => rw [exec_writeEntry, opWriteEntry_loading hm]
  | haltLine | releaseLine | releaseOverride | ackEvent | clearFault | clearCrusher | clearDrum | startProgram | abortProgram | clearCounters
  | clearCauses | restartLine | saveImage => exact congrArg _ (serve_loading hm _ _ _)
  | _ => exact congrArg _ (serveAlways_loading hm _ _ _)

end Sys2Proof.Machine

namespace Sys2Proof.Proofs

open Sys2Proof.Machine

/-- Settles O1. -/
theorem stepTakesFront : Obligations.StepTakesFront := by
  unfold Obligations.StepTakesFront
  intro c rest s hp
  unfold step
  rw [hp]

/-- Settles O3. -/
theorem everyCommandCompletes : Obligations.EveryCommandCompletes := by
  unfold Obligations.EveryCommandCompletes
  intro c s
  obtain ⟨t, ht⟩ := exec_next c s
  exact ⟨t, ht, exec_pending ht, exec_now ht⟩

/-- Settles O53. -/
theorem tablesAndImageKept : Obligations.TablesAndImageKept := by
  unfold Obligations.TablesAndImageKept
  refine ⟨fun c s t h hpower hpin => ⟨exec_eeprom h hpower hpin, exec_mode h hpower hpin, exec_tables h hpower hpin⟩, ?_⟩
  intro c s hm hread hframe hsent hlist hrequest hdrum hack
  refine exec_ofLine_loading hm ?_
  cases c with
  | imageLoadComplete a => exact absurd rfl (hread a)
  | frameReceived p ok f => exact absurd rfl (hframe p ok f)
  | frameTransmitted p => exact absurd rfl (hsent p)
  | silenceTimeout p => cases p <;> simp at hlist
  | powerOn | pinReset | overrideSecond | gateTimeout | startTimerExpiry | idleTimerExpiry | stepHoldExpiry | coalesceAgeLimit =>
    simp at hlist
  | requestUrgent k => exact absurd rfl (hrequest k).1
  | requestExpiry k => exact absurd rfl (hrequest k).2
  | flushWaitLimit d => exact absurd rfl (hdrum d).1
  | flushTimeEnd d => exact absurd rfl (hdrum d).2.1
  | settleTimeEnd d => exact absurd rfl (hdrum d).2.2
  | reloadComplete a => exact absurd rfl (hack a).1
  | savePageWritten a => exact absurd rfl (hack a).2
  | _ => rfl

end Sys2Proof.Proofs
end

section
/-! SUPPORT. No occurrence and no hand-over is left behind by a command (R135, R166), and the EEPROM keeps its one form. -/

namespace Sys2Proof.Machine

/-! ### The router takes every occurrence -/

/-- The turns the router still needs at most: one for each occurrence, and one more for the interlock's where a chain can still start. -/
def State.turns (s : State) : Nat := s.raised.length + if s.engine.chain = none then 1 else 0

theorem interlock_raised_length (s : State) : (interlock s).raised.length ≤ s.raised.length + 1 := by
  unfold interlock
  repeat' split
  · omega
  · simp [raise]
  · simp

theorem ownerHeld_raised_length (t : Target) (s : State) : (ownerHeld t s).raised.length ≤ s.raised.length + 1 := by
  cases t with
  | belt => exact Nat.le_succ _
  | crusher => exact interlock_raised_length _
  | gate => simp [ownerHeld]
  | drum _ => exact Nat.le_succ _

theorem takeHold_raised_length (t : Target) (s : State) : (takeHold t s).raised.length ≤ s.raised.length + 1 := by
  unfold takeHold
  repeat' split
  · omega
  · omega
  · exact ownerHeld_raised_length t _

/-- Taking hold of a target does not end a chain. -/
theorem takeHold_chain {t : Target} {s : State} (h : s.engine.chain ≠ none) : (takeHold t s).engine.chain ≠ none := by
  unfold takeHold
  repeat' split
  · exact h
  · exact h
  · simp [State.setChain]

/-- The first step of a descriptor goes out in the chain that runs. -/
theorem beginDescriptor_chain {s : State} (h : s.engine.chain ≠ none) : (beginDescriptor s).engine.chain ≠ none := by
  unfold beginDescriptor
  split
  · exact h
  · simp [startRepetition, startStep, State.setChain]

theorem startDescriptor_chain (i : ActionNo) (c : Chain) (s : State) : (startDescriptor i c s).engine.chain ≠ none :=
  beginDescriptor_chain (takeHold_chain (by simp [State.setChain]))

theorem startDescriptor_raised_length (i : ActionNo) (c : Chain) (s : State) :
    (startDescriptor i c s).raised.length ≤ s.raised.length + 1 := by
  simp only [startDescriptor, beginDescriptor_raised]
  exact (takeHold_raised_length _ _).trans (by simp [State.setChain])

theorem startChain_turns {s : State} (h : s.engine.chain = none) (i : ActionNo) (src : Option SourceNo) (t : Trigger) :
    (startChain i src t s).turns ≤ s.turns := by
  have hchain := startDescriptor_chain i
    { source := src, trigger := t, desc := s.tables.action[i], index := i, started := 0, repetition := 1, inB := false,
      holdEnd := s.now, held := [] } (bump .chainsStarted s)
  have hraised := startDescriptor_raised_length i
    { source := src, trigger := t, desc := s.tables.action[i], index := i, started := 0, repetition := 1, inB := false,
      holdEnd := s.now, held := [] } (bump .chainsStarted s)
  unfold State.turns startChain
  rw [if_neg hchain, if_pos h]
  simpa using hraised

theorem trigger_turns (i : SourceNo) (p : ActionNo) (t : Trigger) (s : State) : (trigger i p t s).turns ≤ s.turns := by
  unfold trigger
  split
  · rename_i h
    exact startChain_turns h p (some i) t
  · split <;> simp [State.turns]

theorem triggerRoute_turns (o : Occurrence) (s : State) : (triggerRoute o s).turns ≤ s.turns := by
  unfold triggerRoute
  split
  · exact Nat.le_refl _
  · exact trigger_turns _ _ _ _

/-- A taken occurrence raises another one only where it starts a chain. -/
theorem takeOccurrence_turns (o : Occurrence) (s : State) : (takeOccurrence o s).turns ≤ s.turns := by
  have hnotice : ∀ (w : Bool) (n : Nat) (u : State), (noticeRoute o w n u).turns = u.turns := fun w n u => by simp [State.turns]
  have hlatched : (overrideRoute o.source (countOccurrence o.source s)).turns = s.turns := by simp [State.turns]
  unfold takeOccurrence
  split
  · exact Nat.le_refl _
  · rw [hnotice, ← hlatched]
    exact triggerRoute_turns o _

theorem takeOccurrences_raised {n : Nat} {s : State} (h : s.turns ≤ n) : (takeOccurrences n s).raised = [] := by
  induction n generalizing s with
  | zero =>
    have hlen : s.raised.length ≤ 0 := le_trans (Nat.le_add_right _ _) h
    exact List.length_eq_zero_iff.mp (Nat.le_zero.mp hlen)
  | succ n ih =>
    unfold takeOccurrences
    split
    · rename_i hnil; exact hnil
    · rename_i o rest hcons
      refine ih ((takeOccurrence_turns o _).trans ?_)
      simp only [State.turns, hcons, List.length_cons] at h ⊢
      omega

/-- The router leaves no occurrence (R135). -/
theorem routeAll_raised (s : State) : (routeAll s).raised = [] := by
  refine takeOccurrences_raised ?_
  unfold State.turns
  split <;> omega

/-! ### Nothing is left behind -/

theorem complete_settled (s : State) : (complete s).settledLaw :=
  ⟨by rw [complete, unloadIfHanded_raised, routeAll_raised], unloadIfHanded_handed _⟩

theorem finishRequest_settled (node : Byte) (n : Nat) (r : Req) (a : Answer) (s : State) : (finishRequest node n r a s).settledLaw := by
  cases a with
  | now st data => exact ⟨by simp [finishRequest, routeAll_raised], unloadIfHanded_handed _⟩
  | later => exact ⟨by simp [finishRequest, routeAll_raised], unloadIfHanded_handed _⟩

variable {s : State}

/-- A state with the same left over is as settled. -/
theorem State.settledLaw.congr {t : State} (h : s.settledLaw) (hraised : t.raised = s.raised) (hhanded : t.handed = s.handed) :
    t.settledLaw := ⟨hraised.trans h.1, hhanded.trans h.2⟩

theorem bump_settled (c : Counter) (h : s.settledLaw) : (bump c s).settledLaw := h.congr (by simp) (by simp)

theorem forwardTo_settled (p : Port) (f : Frame) (h : s.settledLaw) : (forwardTo p f s).settledLaw := h.congr (by simp) (by simp)

theorem operate_settled (op : State → State) (h : s.settledLaw) : (operate op s).settledLaw := by
  unfold operate
  split
  · exact h
  · exact complete_settled _

theorem serveAlways_settled (n : Nat) (r : Req) (body : State → State × Answer) (h : s.settledLaw) : (serveAlways n r body s).settledLaw := by
  unfold serveAlways
  repeat' split
  · exact h
  · exact finishRequest_settled _ _ _ _ _
  · exact h.congr (by simp) (by simp)

theorem serve_settled (n : Nat) (r : Req) (body : State → State × Answer) (h : s.settledLaw) : (serve n r body s).settledLaw :=
  serveAlways_settled n r _ h

theorem opWriteEntry_settled (r : Req) (data : List Byte) (h : s.settledLaw) : (opWriteEntry r data s).settledLaw := by
  unfold opWriteEntry
  split <;> exact serveAlways_settled _ _ _ h

theorem opReadState_settled (r : Req) (h : s.settledLaw) : (opReadState r s).settledLaw := by
  unfold opReadState
  split <;> exact serveAlways_settled _ _ _ h

theorem opManagement_settled (n : Byte) (r : Req) (data : List Byte) (h : s.settledLaw) : (opManagement n r data s).settledLaw := by
  unfold opManagement
  split
  · exact serveAlways_settled _ _ _ h
  · exact serveAlways_settled _ _ _ h
  · exact opWriteEntry_settled _ _ h
  · exact opReadState_settled _ h
  all_goals exact serveAlways_settled _ _ _ h

theorem takeDischarge_settled (p : Port) (by_ : Consumption) (op : State → State) (h : s.settledLaw) :
    (takeDischarge p by_ op s).settledLaw := by
  unfold takeDischarge
  split
  · exact complete_settled _
  · exact bump_settled _ h

theorem acceptFrom_settled (p : Port) (src node : Byte) (op : State → State) (h : s.settledLaw) : (acceptFrom p src node op s).settledLaw := by
  unfold acceptFrom foreignSample
  split
  · exact complete_settled _
  · exact h.congr (by simp) (by simp)

theorem dispatch_settled (p : Port) (by_ : Consumption) (t : Telegram) (h : s.settledLaw) : (dispatch p by_ t s).settledLaw := by
  unfold dispatch
  split
  · exact takeDischarge_settled _ _ _ h
  · exact takeDischarge_settled _ _ _ h
  · exact takeDischarge_settled _ _ _ h
  · exact acceptFrom_settled _ _ _ _ h
  · exact acceptFrom_settled _ _ _ _ h
  · exact acceptFrom_settled _ _ _ _ h
  · exact acceptFrom_settled _ _ _ _ h
  · split
    · exact opManagement_settled _ _ _ h
    · exact bump_settled _ h
  · exact bump_settled _ h

theorem consume_settled (p : Port) (by_ : Consumption) (t : Telegram) (h : s.settledLaw) : (consume p by_ t s).settledLaw := by
  unfold consume
  split
  · exact dispatch_settled _ _ _ (bump_settled _ h)
  · exact bump_settled _ h

theorem classify_settled (p : Port) (f : Frame) (t : Telegram) (h : s.settledLaw) : (classify p f t s).settledLaw := by
  unfold classify
  split
  · exact forwardTo_settled _ _ h
  · unfold applyAction
    split
    · exact forwardTo_settled _ _ (bump_settled _ h)
    · exact bump_settled _ h
    · exact consume_settled _ _ _ (bump_settled _ h)
    · exact consume_settled _ _ _ (forwardTo_settled _ _ (bump_settled _ h))
    · exact complete_settled _

theorem handleFrame_settled (p : Port) (f : Frame) (h : s.settledLaw) : (handleFrame p f s).settledLaw := by
  unfold handleFrame loadingFrame lineFrame
  repeat' split
  · exact forwardTo_settled _ _ (bump_settled _ h)
  · exact bump_settled _ h
  · exact forwardTo_settled _ _ h
  · exact forwardTo_settled _ _ (bump_settled _ h)
  · exact bump_settled _ h
  · exact consume_settled _ _ _ h
  · exact classify_settled _ _ _ h

theorem opFrameReceived_settled (p : Port) (ok : Bool) (f : Frame) (h : s.settledLaw) : (opFrameReceived p ok f s).settledLaw := by
  unfold opFrameReceived
  split
  · exact bump_settled _ h
  · exact handleFrame_settled _ _ (complete_settled _)

theorem opImageLoadComplete_settled (ack : Bool) (h : s.settledLaw) : (opImageLoadComplete ack s).settledLaw := by
  unfold opImageLoadComplete
  split
  · exact complete_settled _
  · exact h

theorem opReloadComplete_settled (ack : Bool) (h : s.settledLaw) : (opReloadComplete ack s).settledLaw := by
  unfold opReloadComplete
  split
  · exact ⟨by simp [routeAll_raised], unloadIfHanded_handed _⟩
  · exact h

/-- A command leaves nothing half done. -/
theorem exec_settled {c : Instr} {t : State} (hexec : exec c s = .next t) (h : s.settledLaw) : t.settledLaw := by
  cases c with
  | powerOn => cases hexec; exact ⟨rfl, rfl⟩
  | pinReset => cases hexec; exact ⟨rfl, rfl⟩
  | imageLoadComplete ack => cases hexec; exact opImageLoadComplete_settled ack h
  | frameReceived p ok f => cases hexec; exact opFrameReceived_settled p ok f h
  | frameTransmitted p => cases hexec; exact h.congr (opFrameTransmitted_raised p s) (opFrameTransmitted_handed p s)
  | overrideSecond => cases hexec; exact h.congr (opOverrideSecond_raised s) (opOverrideSecond_handed s)
  | coalesceAgeLimit => cases hexec; exact h.congr (opCoalesceAgeLimit_raised s) (opCoalesceAgeLimit_handed s)
  | writeEntry r data => cases hexec; exact opWriteEntry_settled r data h
  | reloadComplete ack => cases hexec; exact opReloadComplete_settled ack h
  | savePageWritten ack => cases hexec; exact h.congr (opSavePageWritten_raised ack s) (opSavePageWritten_handed ack s)
  | dischargeRequest | dischargeWithdraw | dischargeEnd | beltSample | crusherStatus | gateStatus | filterSample | coolantAllotment =>
    cases hexec; exact operate_settled _ h
  | silenceTimeout | requestUrgent | requestExpiry | gateTimeout | startTimerExpiry | idleTimerExpiry | flushWaitLimit | flushTimeEnd
  | settleTimeEnd | stepHoldExpiry => cases hexec; exact complete_settled _
  | haltLine | releaseLine | releaseOverride | ackEvent | clearFault | clearCrusher | clearDrum | startProgram | abortProgram | clearCounters
  | clearCauses | restartLine | saveImage => cases hexec; exact serve_settled _ _ _ h
  | _ => cases hexec; exact serveAlways_settled _ _ _ h

/-! ### The EEPROM -/

theorem endSaveByReset_eepromLaw (h : s.eepromLaw) : (endSaveByReset s).eepromLaw := by
  unfold endSaveByReset
  split
  · exact Memory.writeList_wf h _ _
  · exact h

theorem opSavePageWritten_eepromLaw (ack : Bool) (h : s.eepromLaw) : (opSavePageWritten ack s).eepromLaw := by
  have hend : ∀ (r : Req) (st : Status) {u : State}, u.eepromLaw → (endSave r st u).eepromLaw := fun r st u hu => by
    simpa [State.eepromLaw] using hu
  unfold opSavePageWritten
  split
  · split
    · dsimp only
      split
      · exact Memory.writeList_wf h _ _
      · exact hend _ _ (Memory.writeList_wf h _ _)
    · exact hend _ _ (Memory.writeList_wf h _ _)
  · exact h

/-- A command keeps the EEPROM's contents in their one form. -/
theorem exec_eepromLaw {c : Instr} {t : State} (hexec : exec c s = .next t) (h : s.eepromLaw) : t.eepromLaw := by
  cases c with
  | powerOn => cases hexec; exact endSaveByReset_eepromLaw h
  | pinReset => cases hexec; exact endSaveByReset_eepromLaw h
  | savePageWritten ack => cases hexec; exact opSavePageWritten_eepromLaw ack h
  | _ =>
    have hkept : t.eeprom = s.eeprom := exec_eeprom hexec (by simp) (by simp) (by simp)
    simpa [State.eepromLaw, hkept] using h

/-- A law that reads neither the timebase, the waiting commands nor the free values, and that every command keeps, is kept by a step. -/
theorem step_law {P : State → Prop} {t : State} (htick : ∀ u, P u → P (tick u)) (hqueue : ∀ u q, P u → P (u.withPending q))
    (hexec : ∀ (c : Instr) (u v : State), exec c u = .next v → P u → P v) (hstep : step s = .next t) (hs : P s) : P t := by
  unfold step at hstep
  split at hstep
  · cases hstep
    exact htick s hs
  · exact hexec _ _ _ hstep (hqueue s _ hs)

end Sys2Proof.Machine

namespace Sys2Proof.Proofs

open Sys2Proof.Machine

/-- Settles O55. The first four laws are kept by every edit, and so by every command (`step_keeps`); the router's turns suffice for every
occurrence (`takeOccurrences_raised`), so that nothing is left behind. -/
theorem blockLawsKept : Obligations.BlockLawsKept := by
  unfold Obligations.BlockLawsKept
  have hgap : ∀ {s : State}, False → s.activity.isReloading = true → ∀ p ∈ s.tracker.map, p = .empty := fun h => h.elim
  refine ⟨fun s t hstep => ⟨?map, ?queue, ?entry, ?flush⟩, fun s t hstep => ⟨?eeprom, ?settled⟩⟩
  case map => exact step_keeps (w := ⟨False, False⟩) not_false (Q := fun v => v.map.length = v.tables.belt.length) (fun _ => Iff.rfl) reset_mapLaw Edit.mapLaw hgap hstep
  case queue =>
    exact step_keeps (w := ⟨False, False⟩) not_false (Q := fun v => v.cellQueue.length ≤ queueCapacity ∧ v.plantQueue.length ≤ queueCapacity) (fun _ => Iff.rfl)
      reset_queueLaw Edit.queueLaw hgap hstep
  case entry =>
    exact step_keeps (w := ⟨False, False⟩) not_false (Q := fun v => (v.entries.map Entry.target).Nodup) (fun _ => Iff.rfl) reset_entryLaw Edit.entryLaw hgap hstep
  case flush =>
    exact step_keeps (w := ⟨False, False⟩) not_false (Q := fun v => drumList.countP v.busy ≤ 1) (fun _ => Iff.rfl) reset_flushLaw Edit.flushLaw hgap hstep
  case eeprom => exact step_law (fun _ h => h) (fun _ _ h => h) (fun _ _ _ => exec_eepromLaw) hstep
  case settled => exact step_law (fun _ h => h) (fun _ _ h => h) (fun _ _ _ => exec_settled) hstep

/-- Settles O54. -/
theorem lawsAtReset : Obligations.LawsAtReset := by
  unfold Obligations.LawsAtReset
  exact ⟨reset_mapLaw, reset_queueLaw, reset_entryLaw, reset_flushLaw, rfl, ⟨rfl, rfl⟩, ⟨rfl, fun e he => by cases he⟩, default_inRange,
    resetBlocks_lotLaw State.reset, reset_gapLaw⟩

end Sys2Proof.Proofs
end

section
/-! SUPPORT. The belt's setpoint (O56): after every operation the selected setpoint is the one the selection gives (R76, R78), and a BELT entry of the
coalescer carries it. -/

namespace Sys2Proof.Machine

/-- The selected setpoint is the one R76 selects. -/
def State.selectedLaw (s : State) : Prop := s.belt.selected = s.selection.2

/-- A BELT command that waits carries the selected setpoint. -/
def State.carriedLaw (s : State) : Prop := ∀ e ∈ s.coalescer.entries, e.target = .belt → e.setpoint = s.belt.selected

/-! ### Entries -/

theorem hand_carried {s : State} {t : Target} (m : Mode) (setpoint : Nat) (ht : t ≠ .belt) (h : s.carriedLaw) :
    (hand t m setpoint s).carriedLaw := by
  unfold State.carriedLaw at h ⊢
  rw [hand_belt]
  unfold hand
  split
  · intro e he hbelt
    simp only [bump_coalescer, mergeEntry, List.mem_map] at he
    obtain ⟨e', he', rfl⟩ := he
    split at hbelt
    · rename_i hsame; exact absurd (hsame ▸ hbelt) ht
    · rename_i hother
      rw [if_neg hother]
      exact h e' he' hbelt
  · intro e he hbelt
    simp only [bump_coalescer, List.mem_append, List.mem_singleton] at he
    rcases he with he | rfl
    · exact h e he hbelt
    · exact absurd hbelt ht

/-- A BELT command handed over is the only one that waits. -/
theorem hand_belt_carries (s : State) (setpoint : Nat) (e : Entry) (he : e ∈ (hand .belt .run setpoint s).coalescer.entries)
    (hbelt : e.target = .belt) : e.setpoint = setpoint := by
  unfold hand at he
  split at he
  · simp only [bump_coalescer, mergeEntry, List.mem_map] at he
    obtain ⟨e', -, rfl⟩ := he
    split at hbelt
    · rename_i hsame; rw [if_pos hsame]
    · rename_i hother; exact absurd hbelt hother
  · rename_i hnone
    simp only [bump_coalescer, List.mem_append, List.mem_singleton] at he
    rcases he with he | rfl
    · exact absurd (List.any_eq_true.mpr ⟨e, he, by simpa using hbelt⟩) hnone
    · rfl

/-- Every edit leaves the BELT entries with the selected setpoint: it is issued as it is selected. -/
theorem Edit.carriedLaw {w : Watch} {s t : State} (e : Edit w s t) (h : s.carriedLaw) : t.carriedLaw := by
  have hview : ∀ u : State, u.carriedLaw ↔ ∀ x ∈ u.blockView.entries, x.target = .belt → x.setpoint = u.blockView.selected :=
    fun _ => Iff.rfl
  cases e with
  | quiet hsame => rw [hview, blockView_of_editView hsame]; exact h
  | mark n _ => exact h
  | enqueue p f _ => simpa [State.carriedLaw] using h
  | dequeue p _ => simpa [State.carriedLaw] using h
  | hand m setpoint ht => exact hand_carried m setpoint ht h
  | issue =>
    intro x hx hbelt
    rw [hand_belt_carries _ _ x hx hbelt]
    simp [issueSetpoint]
  | unload tg => exact fun x hx => h x (List.mem_of_mem_filter hx)
  | discard => exact fun x hx => absurd hx List.not_mem_nil
  | drum d r _ => exact h
  | flush d r _ => exact h
  | window c q l _ => exact h
  | release l => exact h
  | load _ => exact h
  | shift _ => exact h
  | clear => exact h
  | retable new _ _ => exact h
  | rebuild new _ => exact h

/-! ### The selection -/

variable {s : State}

/-- The selection reads the belt unit and the tables alone. -/
theorem State.selectedLaw.congr {t : State} (h : s.selectedLaw) (hbelt : t.belt = s.belt) (htables : t.tables = s.tables) :
    t.selectedLaw := by
  unfold State.selectedLaw State.selection State.holdInForce at h ⊢
  rwa [hbelt, htables]

theorem selection_hold (h : s.holdInForce = true) : s.selection.2 = 0 := by simp [State.selection, h]

theorem hand_selected (t : Target) (m : Mode) (setpoint : Nat) (h : s.selectedLaw) : (hand t m setpoint s).selectedLaw :=
  h.congr (by simp) (by simp)

theorem issueSetpoint_selected (s : State) : (issueSetpoint s).selectedLaw := by
  unfold issueSetpoint
  exact hand_selected _ _ _ rfl

theorem reselect_selected (s : State) : (reselect s).selectedLaw := by
  unfold reselect
  split
  · rename_i h; exact h.symm
  · exact issueSetpoint_selected s

theorem latchOverride_selected (h : s.selectedLaw) : (latchOverride s).selectedLaw := by
  unfold latchOverride
  split
  · exact h
  · exact reselect_selected _

theorem releaseOverride_selected (h : s.selectedLaw) : (releaseOverride s).selectedLaw := by
  unfold releaseOverride
  split
  · exact reselect_selected _
  · exact h

theorem setCauseFlag_self {c : HoldCause} {b : Bool} (h : s.causeInForce c = b) : s.setCauseFlag c b = s := by
  subst h
  cases c <;> rfl

/-- A cause set, or cleared, under another one leaves the belt held. -/
theorem setCauseFlag_selected (c : HoldCause) (b : Bool) (hbefore : s.holdInForce = true) (hafter : (s.setCauseFlag c b).holdInForce = true)
    (h : s.selectedLaw) : (s.setCauseFlag c b).selectedLaw := by
  unfold State.selectedLaw at h ⊢
  rw [selection_hold hafter, ← selection_hold hbefore, ← h]
  cases c <;> rfl

theorem holdInForce_setCauseFlag_true (c : HoldCause) (s : State) : (s.setCauseFlag c true).holdInForce = true := by
  cases c <;> simp [State.setCauseFlag, State.holdInForce]

theorem holdInForce_of_cause {c : HoldCause} (h : s.causeInForce c = true) : s.holdInForce = true := by
  cases c <;> simp_all [State.causeInForce, State.holdInForce]

theorem setCause_selected (c : HoldCause) (h : s.selectedLaw) : (setCause c s).selectedLaw := by
  unfold setCause
  repeat' split
  · exact h
  · rename_i hhold
    exact setCauseFlag_selected c true hhold (holdInForce_setCauseFlag_true c s) h
  · exact reselect_selected _

theorem arbiterPass_selected (h : s.selectedLaw) : (arbiterPass s).selectedLaw := h.congr (by simp) (by simp)

theorem clearCause_selected (c : HoldCause) (h : s.selectedLaw) : (clearCause c s).selectedLaw := by
  unfold clearCause
  split
  · exact h
  · rename_i hcause
    split
    · rename_i hhold
      exact setCauseFlag_selected c false (holdInForce_of_cause (by simpa using hcause)) hhold h
    · exact arbiterPass_selected (reselect_selected _)

theorem interlock_selected (h : s.selectedLaw) : (interlock s).selectedLaw := by
  unfold interlock
  repeat' split
  · exact h
  · exact setCause_selected _ (h.congr (by simp) (by simp))
  · exact clearCause_selected _ h

/-! ### The head -/

theorem startCrusher_selected (h : s.selectedLaw) : (startCrusher s).selectedLaw := interlock_selected (h.congr (by simp) (by simp))

theorem enterRunning_selected (h : s.selectedLaw) : (enterRunning s).selectedLaw := interlock_selected (h.congr rfl rfl)

theorem crusherToFault_selected (src : SourceNo) (h : s.selectedLaw) : (crusherToFault src s).selectedLaw := h.congr (by simp) (by simp)

theorem bump_selected (c : Counter) (h : s.selectedLaw) : (bump c s).selectedLaw := h.congr rfl rfl

theorem testCurrent_selected (current : Nat) (h : s.selectedLaw) : (testCurrent current s).selectedLaw := by
  unfold testCurrent
  dsimp only
  repeat' split
  · exact h.congr rfl rfl
  · exact interlock_selected (h.congr (by simp) (by simp))
  · exact h.congr rfl rfl

theorem opCrusherStatus_selected (current : Half) (confirm : Byte) (h : s.selectedLaw) : (opCrusherStatus current confirm s).selectedLaw := by
  unfold opCrusherStatus
  extract_lets hd u
  have hu : u.selectedLaw := h.congr rfl rfl
  clear_value u
  repeat' split
  · exact enterRunning_selected hu
  · exact hu
  · exact interlock_selected (bump_selected _ (crusherToFault_selected _ hu))
  · exact testCurrent_selected _ hu
  · exact hu

theorem opStartTimerExpiry_selected (h : s.selectedLaw) : (opStartTimerExpiry s).selectedLaw := by
  unfold opStartTimerExpiry
  repeat' split
  · exact h
  · exact enterRunning_selected h
  · exact interlock_selected (bump_selected _ (crusherToFault_selected _ h))
  · exact h

theorem idleExpired_selected (h : s.selectedLaw) : (idleExpired s).selectedLaw := by
  unfold idleExpired
  split
  · exact h.congr rfl rfl
  · exact interlock_selected (h.congr (by simp) (by simp))

theorem applyIdle_selected (h : s.selectedLaw) : (applyIdle s).selectedLaw := by
  unfold applyIdle
  split
  · exact idleExpired_selected h
  · exact h

theorem opIdleTimerExpiry_selected (h : s.selectedLaw) : (opIdleTimerExpiry s).selectedLaw := applyIdle_selected h

theorem crusherReleased_selected (o : ChainOutcome) (h : s.selectedLaw) : (crusherReleased o s).selectedLaw := by
  unfold crusherReleased
  split
  · exact startCrusher_selected h
  · exact interlock_selected (crusherToFault_selected _ h)

theorem reactCrusher_selected (h : s.selectedLaw) : (reactCrusher s).selectedLaw := by
  unfold reactCrusher
  repeat' split
  · exact startCrusher_selected h
  · exact h
  · exact h.congr rfl rfl
  · exact h
  · exact h

theorem headReevaluate_selected (h : s.selectedLaw) : (headReevaluate s).selectedLaw := interlock_selected (h.congr (by simp) (by simp))

/-! ### Programs and occurrences -/

theorem setChain_selected (c : Option Chain) (h : s.selectedLaw) : (s.setChain c).selectedLaw := h.congr rfl rfl

theorem ownerHeld_selected (t : Target) (h : s.selectedLaw) : (ownerHeld t s).selectedLaw := by
  cases t with
  | belt => exact h
  | crusher => exact interlock_selected (h.congr rfl rfl)
  | gate => exact h.congr (gateHeld_belt s) (gateHeld_tables s)
  | drum _ => exact h

theorem takeHold_selected (t : Target) (h : s.selectedLaw) : (takeHold t s).selectedLaw := by
  unfold takeHold
  repeat' split
  · exact h
  · exact h
  · exact ownerHeld_selected t (setChain_selected _ h)

theorem ownerReleased_selected (o : ChainOutcome) (t : Target) (h : s.selectedLaw) : (ownerReleased o t s).selectedLaw := by
  cases t with
  | belt => exact issueSetpoint_selected _
  | crusher => exact crusherReleased_selected o h
  | gate => exact h.congr (gateReleased_belt s) (gateReleased_tables s)
  | drum d => exact h.congr (handDrum_belt d s) (handDrum_tables d s)

theorem foldl_selected {α : Type} {f : State → α → State} (hf : ∀ (t : State) (a : α), t.selectedLaw → (f t a).selectedLaw) (l : List α)
    (h : s.selectedLaw) : (l.foldl f s).selectedLaw := List.foldlRecOn l f h fun t h a _ => hf t a h

theorem releaseAll_selected {reissue : Target → State → State} (hre : ∀ (t : Target) (u : State), u.selectedLaw → (reissue t u).selectedLaw)
    (h : s.selectedLaw) : (releaseAll reissue s).selectedLaw := by
  refine foldl_selected (fun u t hu => ?_) _ h
  unfold releaseTarget
  repeat' split
  · exact hu
  · exact hre _ _ (setChain_selected _ hu)
  · exact hu

theorem issueStep_selected (t : Target) (st : StepEntry) (h : s.selectedLaw) : (issueStep t st s).selectedLaw := by
  cases t with
  | belt => exact issueSetpoint_selected _
  | crusher => exact hand_selected _ _ _ h
  | gate => exact hand_selected _ _ _ h
  | drum _ => exact hand_selected _ _ _ h

theorem startStep_selected (c : Chain) (inB : Bool) (st : StepEntry) (h : s.selectedLaw) : (startStep c inB st s).selectedLaw :=
  issueStep_selected _ _ (bump_selected _ (setChain_selected _ h))

theorem startDescriptor_selected (i : ActionNo) (c : Chain) (h : s.selectedLaw) : (startDescriptor i c s).selectedLaw := by
  unfold startDescriptor beginDescriptor
  dsimp only
  split
  · exact takeHold_selected _ (bump_selected _ (setChain_selected _ h))
  · exact startStep_selected _ _ _ (takeHold_selected _ (bump_selected _ (setChain_selected _ h)))

theorem startChain_selected (i : ActionNo) (src : Option SourceNo) (t : Trigger) (h : s.selectedLaw) : (startChain i src t s).selectedLaw :=
  startDescriptor_selected _ _ (bump_selected _ h)

theorem servePending_selected (n : Nat) (h : s.selectedLaw) : (servePending n s).selectedLaw := by
  induction n generalizing s with
  | zero => exact h
  | succ n ih =>
    unfold servePending
    repeat' split
    · exact h
    · exact startChain_selected _ _ _ (h.congr rfl rfl)
    · exact ih (bump_selected _ (h.congr rfl rfl))

theorem recordOutcome_selected (o : ChainOutcome) (h : s.selectedLaw) : (recordOutcome o s).selectedLaw := h.congr rfl rfl

theorem endChain_selected (o : ChainOutcome) (c : Chain) (h : s.selectedLaw) : (endChain o c s).selectedLaw := by
  have hreleased : (releaseAll (ownerReleased o) (recordOutcome o s)).selectedLaw :=
    releaseAll_selected (fun t _ => ownerReleased_selected o t) (recordOutcome_selected o h)
  exact servePending_selected _ (setChain_selected _ (hreleased.congr (by simp) (by simp)))

theorem abortForRestart_selected (h : s.selectedLaw) : (abortForRestart s).selectedLaw := by
  unfold abortForRestart
  split
  · exact h
  · refine setChain_selected _ (releaseAll_selected (fun t u hu => ?_) (recordOutcome_selected _ h))
    unfold reissueAtRestart
    split
    · exact hu
    · exact ownerReleased_selected _ t hu

theorem exhaustDescriptor_selected (c : Chain) (h : s.selectedLaw) : (exhaustDescriptor c s).selectedLaw := by
  unfold exhaustDescriptor
  repeat' split
  · exact endChain_selected _ _ h
  · exact startDescriptor_selected _ _ h
  · exact endChain_selected _ _ (h.congr (by simp) (by simp))

theorem opStepHoldExpiry_selected (h : s.selectedLaw) : (opStepHoldExpiry s).selectedLaw := by
  unfold opStepHoldExpiry stepExpired endRepetition
  repeat' split
  · exact h
  · exact startStep_selected _ _ _ h
  · exact endChain_selected _ _ h
  · exact startStep_selected _ _ _ h
  · exact exhaustDescriptor_selected _ h
  · exact h

theorem triggerRoute_selected (o : Occurrence) (h : s.selectedLaw) : (triggerRoute o s).selectedLaw := by
  unfold triggerRoute trigger
  repeat' split
  · exact h
  · exact startChain_selected _ _ _ h
  · exact h.congr rfl rfl
  · exact bump_selected _ h

theorem takeOccurrence_selected (o : Occurrence) (h : s.selectedLaw) : (takeOccurrence o s).selectedLaw := by
  have hlatched : (overrideRoute o.source (countOccurrence o.source s)).selectedLaw := by
    have hcounted : (countOccurrence o.source s).selectedLaw := h.congr (by simp) (by simp)
    unfold overrideRoute
    split
    · exact latchOverride_selected hcounted
    · exact hcounted
  unfold takeOccurrence
  split
  · exact h
  · exact (triggerRoute_selected o hlatched).congr (by simp) (by simp)

theorem takeOccurrences_selected (n : Nat) (h : s.selectedLaw) : (takeOccurrences n s).selectedLaw := by
  induction n generalizing s with
  | zero => exact h
  | succ n ih =>
    unfold takeOccurrences
    split
    · exact h
    · exact ih (takeOccurrence_selected _ (h.congr rfl rfl))

theorem routeAll_selected (h : s.selectedLaw) : (routeAll s).selectedLaw := takeOccurrences_selected _ h

theorem complete_selected (h : s.selectedLaw) : (complete s).selectedLaw := (routeAll_selected h).congr (by simp [complete]) (by simp [complete])

theorem operate_selected {op : State → State} (hop : (op s).selectedLaw) (h : s.selectedLaw) : (operate op s).selectedLaw := by
  unfold operate
  split
  · exact h
  · exact complete_selected hop

/-! ### Samples and ports -/

theorem sampleCompleted_selected (s : State) : (sampleCompleted s).selectedLaw := arbiterPass_selected (issueSetpoint_selected _)

theorem opBeltSample_selected (count : Word) (h : s.selectedLaw) : (opBeltSample count s).selectedLaw := by
  unfold opBeltSample
  repeat' split
  · exact sampleCompleted_selected _
  · exact h.congr (by simp) (by simp)
  · exact sampleCompleted_selected _

theorem portDown_selected (p : Port) (h : s.selectedLaw) : (portDown p s).selectedLaw := by
  unfold portDown
  cases p with
  | cell => exact h.congr rfl rfl
  | plant => exact setCause_selected _ (h.congr rfl rfl)

theorem opSilenceTimeout_selected (p : Port) (h : s.selectedLaw) : (opSilenceTimeout p s).selectedLaw := by
  unfold opSilenceTimeout
  split
  · exact portDown_selected p h
  · exact h

theorem goodFrame_selected (p : Port) (h : s.selectedLaw) : (goodFrame p s).selectedLaw := by
  have hheard : ∀ st, ((bump (.goodFrames p) s).setPortState p st).selectedLaw := fun st => h.congr (by cases p <;> rfl) (by cases p <;> rfl)
  unfold goodFrame portUp
  dsimp only
  split
  · cases p with
    | cell => exact bump_selected _ (hheard _)
    | plant => exact clearCause_selected _ (bump_selected _ (hheard _))
  · exact hheard _

theorem opOverrideSecond_selected (h : s.selectedLaw) : (opOverrideSecond s).selectedLaw := by
  unfold opOverrideSecond
  split
  · exact h
  · exact h

/-! ### Requests and table writes -/

theorem finishRequest_selected (node : Byte) (n : Nat) (r : Req) (a : Answer) (h : s.selectedLaw) : (finishRequest node n r a s).selectedLaw := by
  cases a with
  | now st data => exact (routeAll_selected h).congr (by simp [finishRequest]) (by simp [finishRequest])
  | later => exact (routeAll_selected h).congr (by simp [finishRequest]) (by simp [finishRequest])

theorem serveAlways_selected {n : Nat} {r : Req} {body : State → State × Answer} (hbody : (body s).1.selectedLaw) (h : s.selectedLaw) :
    (serveAlways n r body s).selectedLaw := by
  unfold serveAlways
  repeat' split
  · exact h
  · exact finishRequest_selected _ _ _ _ hbody
  · exact h.congr (by simp) (by simp)

theorem serve_selected {n : Nat} {r : Req} {body : State → State × Answer} (hbody : (body s).1.selectedLaw) (h : s.selectedLaw) :
    (serve n r body s).selectedLaw := by
  refine serveAlways_selected ?_ h
  split
  · exact h
  · exact hbody

theorem readRequest_selected (n : Nat) (r : Req) (f : State → Answer) (h : s.selectedLaw) : (serveAlways n r (readOnly f) s).selectedLaw :=
  serveAlways_selected h h

theorem writeEntry_selected {n : Nat} {r : Req} {body : Fin n → State → Option (State × Status)}
    (hbody : ∀ i u st, body i s = some (u, st) → u.selectedLaw) (h : s.selectedLaw) :
    (serveAlways writeCode r (writeTable n r body) s).selectedLaw := by
  refine serveAlways_selected ?_ h
  obtain e | ⟨i, u, st, hu, e⟩ := writeTable_cases n r body s
  · rwa [e]
  · rw [e]
    exact hbody i u st hu

/-- The selection reads of the tables the PROFILE entry alone. -/
theorem State.selectedLaw.congr_profile {t : State} (h : s.selectedLaw) (hbelt : t.belt = s.belt)
    (hprofile : t.tables.profile = s.tables.profile) : t.selectedLaw := by
  unfold State.selectedLaw State.selection State.holdInForce at h ⊢
  rwa [hbelt, hprofile]

/-- A table write that only replaces entries of a table but PROFILE. -/
theorem plainWrite_selected {α : Type} {n : Nat} {r : Req} {check : Option α} {write : α → Fin n → Tables}
    {body : Fin n → State → Option (State × Status)}
    (hbody : ∀ i, body i s = check.bind fun v => taken (s.setTables (write v i)))
    (hprofile : ∀ v i, (write v i).profile = s.tables.profile) (h : s.selectedLaw) :
    (serveAlways writeCode r (writeTable n r body) s).selectedLaw := by
  refine writeEntry_selected (fun i u st hu => ?_) h
  rw [hbody] at hu
  obtain ⟨v, -, hv⟩ := Option.bind_eq_some_iff.mp hu
  rw [eq_of_taken hv]
  exact h.congr_profile rfl (hprofile v i)

theorem opWriteClassify_selected (r : Req) (e : RawClassify) (h : s.selectedLaw) : (opWriteClassify r e s).selectedLaw :=
  plainWrite_selected (fun _ => rfl) (fun _ _ => rfl) h

theorem opWriteCell_selected (r : Req) (e : RawCell) (h : s.selectedLaw) : (opWriteCell r e s).selectedLaw := by
  refine writeEntry_selected (fun i u st hbody => ?_) h
  obtain ⟨v, -, hv⟩ := Option.bind_eq_some_iff.mp hbody
  split at hv
  · cases hv
  · split at hv
    · cases hv; exact h
    · rw [eq_of_taken hv]
      exact h.congr_profile rfl rfl

theorem opWriteClass_selected (r : Req) (e : RawClass) (h : s.selectedLaw) : (opWriteClass r e s).selectedLaw := by
  refine writeEntry_selected (fun i u st hbody => ?_) h
  obtain ⟨v, -, hv⟩ := Option.bind_eq_some_iff.mp hbody
  rw [eq_of_taken hv]
  split
  · exact h.congr_profile rfl rfl
  · exact headReevaluate_selected (h.congr_profile rfl rfl)

theorem opWritePlant_selected (r : Req) (e : RawPlant) (h : s.selectedLaw) : (opWritePlant r e s).selectedLaw :=
  plainWrite_selected (n := 1) (fun _ => rfl) (fun _ _ => rfl) h

theorem opWriteBelt_selected (r : Req) (e : RawBelt) (h : s.selectedLaw) : (opWriteBelt r e s).selectedLaw := by
  refine writeEntry_selected (fun i u st hbody => ?_) h
  obtain ⟨v, -, hv⟩ := Option.bind_eq_some_iff.mp hbody
  dsimp only at hv
  split at hv
  · cases hv
  · split at hv
    · cases hv; exact h
    · split at hv
      · cases hv; exact h
      · rw [eq_of_taken hv]
        exact h.congr_profile (by simp) (by simp)

theorem opWriteProfile_selected (r : Req) (e : RawProfile) (h : s.selectedLaw) : (opWriteProfile r e s).selectedLaw := by
  refine writeEntry_selected (fun i u st hbody => ?_) h
  rw [eq_of_taken hbody]
  exact reselect_selected _

theorem opWriteCrusher_selected (r : Req) (e : RawCrusher) (h : s.selectedLaw) : (opWriteCrusher r e s).selectedLaw := by
  refine writeEntry_selected (fun i u st hbody => ?_) h
  obtain ⟨v, -, hv⟩ := Option.bind_eq_some_iff.mp hbody
  rw [eq_of_taken hv]
  exact interlock_selected (applyIdle_selected (h.congr_profile rfl rfl))

theorem opWriteDrum_selected (r : Req) (e : RawDrum) (h : s.selectedLaw) : (opWriteDrum r e s).selectedLaw := by
  refine writeEntry_selected (fun i u st hbody => ?_) h
  obtain ⟨v, -, hv⟩ := Option.bind_eq_some_iff.mp hbody
  split at hv
  · cases hv; exact h
  · rw [eq_of_taken hv]
    split <;> exact h.congr_profile (by simp) (by simp)

theorem opWriteFilter_selected (r : Req) (e : RawFilter) (h : s.selectedLaw) : (opWriteFilter r e s).selectedLaw := by
  refine writeEntry_selected (fun i u st hbody => ?_) h
  obtain ⟨v, -, hv⟩ := Option.bind_eq_some_iff.mp hbody
  rw [eq_of_taken hv]
  exact h.congr_profile (by simp) (by simp)

theorem opWriteAction_selected (r : Req) (e : RawAction) (h : s.selectedLaw) : (opWriteAction r e s).selectedLaw :=
  plainWrite_selected (fun _ => rfl) (fun _ _ => rfl) h

theorem opWriteEventroute_selected (r : Req) (e : RawRoute) (h : s.selectedLaw) : (opWriteEventroute r e s).selectedLaw :=
  plainWrite_selected (fun _ => rfl) (fun _ _ => rfl) h

theorem opWritePort_selected (r : Req) (e : RawPort) (h : s.selectedLaw) : (opWritePort r e s).selectedLaw := by
  refine writeEntry_selected (fun i u st hbody => ?_) h
  obtain ⟨v, -, hv⟩ := Option.bind_eq_some_iff.mp hbody
  rw [eq_of_taken hv]
  exact opSilenceTimeout_selected _ (h.congr_profile rfl (by cases portOfIndex i <;> rfl))

theorem opWriteCoalesce_selected (r : Req) (e : RawCoalesce) (h : s.selectedLaw) : (opWriteCoalesce r e s).selectedLaw := by
  refine writeEntry_selected (fun i u st hbody => ?_) h
  obtain ⟨v, -, hv⟩ := Option.bind_eq_some_iff.mp hbody
  rw [eq_of_taken hv]
  exact h.congr_profile rfl rfl

theorem opWriteNode_selected (r : Req) (e : RawNode) (h : s.selectedLaw) : (opWriteNode r e s).selectedLaw :=
  plainWrite_selected (n := 1) (fun _ => rfl) (fun _ _ => rfl) h

theorem opWriteEntry_selected (r : Req) (data : List Byte) (h : s.selectedLaw) : (opWriteEntry r data s).selectedLaw := by
  unfold opWriteEntry
  split
  · exact opWriteClassify_selected _ _ h
  · exact opWriteCell_selected _ _ h
  · exact opWriteClass_selected _ _ h
  · exact opWritePlant_selected _ _ h
  · exact opWriteBelt_selected _ _ h
  · exact opWriteProfile_selected _ _ h
  · exact opWriteCrusher_selected _ _ h
  · exact opWriteDrum_selected _ _ h
  · exact opWriteFilter_selected _ _ h
  · exact opWriteAction_selected _ _ h
  · exact opWriteEventroute_selected _ _ h
  · exact opWritePort_selected _ _ h
  · exact opWriteCoalesce_selected _ _ h
  · exact opWriteNode_selected _ _ h
  · exact readRequest_selected _ _ _ h

/-! ### Line commands, restart, reload and start-up -/

/-- A body that leaves the belt and the tables alone. -/
theorem quietRequest_selected {n : Nat} {r : Req} {body : State → State × Answer} (hbelt : (body s).1.belt = s.belt)
    (htables : (body s).1.tables = s.tables) (h : s.selectedLaw) : (serve n r body s).selectedLaw :=
  serve_selected (h.congr hbelt htables) h

theorem clearCrusherBody_selected (h : s.selectedLaw) : (clearCrusherBody s).1.selectedLaw := by
  have hstopped : (interlock (stopCrusher s)).selectedLaw := interlock_selected (h.congr (by simp) (by simp))
  unfold clearCrusherBody
  split
  · exact hstopped
  · exact hstopped
  · exact hstopped
  · exact h
  · exact h
  · exact h

theorem startProgramBody_selected (r : Req) (h : s.selectedLaw) : (startProgramBody r s).1.selectedLaw := by
  unfold startProgramBody
  repeat' split
  · exact h
  · exact h
  · exact startChain_selected _ _ _ h

theorem abortProgramBody_selected (h : s.selectedLaw) : (abortProgramBody s).1.selectedLaw := by
  unfold abortProgramBody
  split
  · exact h
  · exact endChain_selected _ _ h

theorem restartHead_selected (h : s.selectedLaw) : (restartHead s).selectedLaw := by
  have hcleared : ∀ {u : State}, u.selectedLaw → (restartGate (clearCause .crusher u)).selectedLaw := fun hu =>
    (clearCause_selected .crusher hu).congr (by simp) (by simp)
  exact hcleared (h.congr (by simp) (by simp))

theorem handDrums_selected (h : s.selectedLaw) : (handDrums s).selectedLaw := h.congr (by simp) (by simp)

theorem markRestart_selected (h : s.selectedLaw) : (markRestart s).selectedLaw := h

theorem restartLine_selected (s : State) : (restartLine s).selectedLaw := by
  unfold restartLine
  exact markRestart_selected (handDrums_selected (restartHead_selected (issueSetpoint_selected _)))

theorem setActivity_selected (a : Activity) (h : s.selectedLaw) : (s.setActivity a).selectedLaw := h

theorem restartBody_selected (r : Req) (h : s.selectedLaw) : (restartBody r s).1.selectedLaw := by
  unfold restartBody
  repeat' split
  · exact setActivity_selected _ (restartLine_selected s)
  · exact bump_selected _ (restartLine_selected s)
  · exact h

theorem setHanded_selected (b : Bool) (h : s.selectedLaw) : State.selectedLaw { s with handed := b } := h

theorem reloadValid_selected (new : Tables) (s : State) : (reloadValid new s).selectedLaw := by
  unfold reloadValid
  dsimp only
  exact bump_selected _ (setHanded_selected true (headReevaluate_selected (applyIdle_selected (opSilenceTimeout_selected .plant
    (opSilenceTimeout_selected .cell (reselect_selected _))))))

theorem reply_selected (node : Byte) (n : Nat) (r : Req) (st : Status) (data : List Byte) (h : s.selectedLaw) :
    (reply node n r st data s).selectedLaw := h.congr (by simp) (by simp)

theorem unloadIfHanded_selected (h : s.selectedLaw) : (unloadIfHanded s).selectedLaw := h.congr (by simp) (by simp)

theorem opReloadComplete_selected (ack : Bool) (h : s.selectedLaw) : (opReloadComplete ack s).selectedLaw := by
  unfold opReloadComplete
  split
  · refine unloadIfHanded_selected (bump_selected _ (reply_selected _ _ _ _ _ (routeAll_selected (setActivity_selected _ ?_))))
    split
    · exact reloadValid_selected _ _
    · exact h.congr (by simp) (by simp)
  · exact h

theorem startLine_selected (s : State) : (startLine s).selectedLaw := by
  unfold startLine
  exact (issueSetpoint_selected { s with mode := .operating }).congr (by simp) (by simp)

theorem opImageLoadComplete_selected (ack : Bool) (h : s.selectedLaw) : (opImageLoadComplete ack s).selectedLaw := by
  unfold opImageLoadComplete
  split
  · exact complete_selected (startLine_selected _)
  · exact h

/-! ### Frames -/

theorem opReadState_selected (r : Req) (h : s.selectedLaw) : (opReadState r s).selectedLaw := by
  unfold opReadState
  split <;> exact readRequest_selected _ _ _ h

theorem opManagement_selected (n : Byte) (r : Req) (data : List Byte) (h : s.selectedLaw) : (opManagement n r data s).selectedLaw := by
  unfold opManagement
  split
  · exact readRequest_selected _ _ _ h
  · exact readRequest_selected _ _ _ h
  · exact opWriteEntry_selected _ _ h
  · exact opReadState_selected _ h
  · exact serve_selected (setCause_selected _ h) h
  · exact serve_selected (clearCause_selected _ h) h
  · exact serve_selected (releaseOverride_selected h) h
  · exact quietRequest_selected (by simp) (by simp) h
  · exact quietRequest_selected (by simp) (by simp) h
  · exact serve_selected (clearCrusherBody_selected h) h
  · exact quietRequest_selected (by simp) (by simp) h
  · exact serve_selected (startProgramBody_selected _ h) h
  · exact serve_selected (abortProgramBody_selected h) h
  · exact quietRequest_selected (by simp) (by simp) h
  · exact quietRequest_selected (by simp) (by simp) h
  · exact serve_selected (restartBody_selected _ h) h
  · exact quietRequest_selected (by simp) (by simp) h
  · exact readRequest_selected _ _ _ h

theorem takeDischarge_selected (p : Port) (by_ : Consumption) {op : State → State} (hop : (op s).selectedLaw) (h : s.selectedLaw) :
    (takeDischarge p by_ op s).selectedLaw := by
  unfold takeDischarge
  split
  · exact complete_selected hop
  · exact bump_selected _ h

theorem acceptFrom_selected (p : Port) (src node : Byte) {op : State → State} (hop : (op s).selectedLaw) (h : s.selectedLaw) :
    (acceptFrom p src node op s).selectedLaw := by
  unfold acceptFrom foreignSample
  split
  · exact complete_selected hop
  · exact h.congr (by simp) (by simp)

theorem dispatch_selected (p : Port) (by_ : Consumption) (t : Telegram) (h : s.selectedLaw) : (dispatch p by_ t s).selectedLaw := by
  unfold dispatch
  split
  · exact takeDischarge_selected _ _ (h.congr (by simp) (by simp)) h
  · exact takeDischarge_selected _ _ (h.congr (by simp) (by simp)) h
  · exact takeDischarge_selected _ _ (h.congr (by simp) (by simp)) h
  · exact acceptFrom_selected _ _ _ (opBeltSample_selected _ h) h
  · exact acceptFrom_selected _ _ _ (opCrusherStatus_selected _ _ h) h
  · exact acceptFrom_selected _ _ _ (h.congr (by simp) (by simp)) h
  · exact acceptFrom_selected _ _ _ (h.congr (by simp) (by simp)) h
  · split
    · exact opManagement_selected _ _ _ h
    · exact bump_selected _ h
  · exact bump_selected _ h

theorem consume_selected (p : Port) (by_ : Consumption) (t : Telegram) (h : s.selectedLaw) : (consume p by_ t s).selectedLaw := by
  unfold consume
  split
  · exact dispatch_selected _ _ _ (bump_selected _ h)
  · exact bump_selected _ h

@[simp] theorem opCoolantAllotment_belt (p : Port) (f : Frame) (s : State) : (opCoolantAllotment p f s).belt = s.belt := by
  unfold opCoolantAllotment takeAllotment clampAllotment
  dsimp only
  repeat' split
  all_goals simp

theorem forwardTo_selected (p : Port) (f : Frame) (h : s.selectedLaw) : (forwardTo p f s).selectedLaw := h.congr (by simp) (by simp)

theorem classify_selected (p : Port) (f : Frame) (t : Telegram) (h : s.selectedLaw) : (classify p f t s).selectedLaw := by
  unfold classify
  split
  · exact forwardTo_selected _ _ h
  · unfold applyAction
    split
    · exact forwardTo_selected _ _ (bump_selected _ h)
    · exact bump_selected _ h
    · exact consume_selected _ _ _ (bump_selected _ h)
    · exact consume_selected _ _ _ (forwardTo_selected _ _ (bump_selected _ h))
    · exact complete_selected (h.congr (by simp) (by simp))

theorem handleFrame_selected (p : Port) (f : Frame) (h : s.selectedLaw) : (handleFrame p f s).selectedLaw := by
  unfold handleFrame loadingFrame lineFrame
  repeat' split
  · exact forwardTo_selected _ _ (bump_selected _ h)
  · exact bump_selected _ h
  · exact forwardTo_selected _ _ h
  · exact forwardTo_selected _ _ (bump_selected _ h)
  · exact bump_selected _ h
  · exact consume_selected _ _ _ h
  · exact classify_selected _ _ _ h

theorem opFrameReceived_selected (p : Port) (ok : Bool) (f : Frame) (h : s.selectedLaw) : (opFrameReceived p ok f s).selectedLaw := by
  unfold opFrameReceived
  split
  · exact bump_selected _ h
  · exact handleFrame_selected _ _ (complete_selected (goodFrame_selected _ h))

/-- Every command leaves the selected setpoint the one the selection gives. -/
theorem exec_selected {c : Instr} {t : State} (hexec : exec c s = .next t) (h : s.selectedLaw) : t.selectedLaw := by
  have hquiet : ∀ {u : State}, u.belt = s.belt → u.tables = s.tables → (complete u).selectedLaw := fun hb ht => complete_selected (h.congr hb ht)
  cases c with
  | powerOn => cases hexec; rfl
  | pinReset => cases hexec; rfl
  | imageLoadComplete ack => cases hexec; exact opImageLoadComplete_selected ack h
  | frameReceived p ok f => cases hexec; exact opFrameReceived_selected p ok f h
  | dischargeRequest | dischargeWithdraw | dischargeEnd | gateStatus | filterSample | coolantAllotment =>
    cases hexec; exact operate_selected (h.congr (by simp) (by simp)) h
  | beltSample count => cases hexec; exact operate_selected (opBeltSample_selected count h) h
  | crusherStatus current confirm => cases hexec; exact operate_selected (opCrusherStatus_selected current confirm h) h
  | silenceTimeout p => cases hexec; exact complete_selected (opSilenceTimeout_selected p h)
  | requestUrgent | requestExpiry | gateTimeout | flushWaitLimit | flushTimeEnd | settleTimeEnd =>
    cases hexec; exact hquiet (by simp) (by simp)
  | overrideSecond => cases hexec; exact opOverrideSecond_selected h
  | startTimerExpiry => cases hexec; exact complete_selected (opStartTimerExpiry_selected h)
  | idleTimerExpiry => cases hexec; exact complete_selected (opIdleTimerExpiry_selected h)
  | stepHoldExpiry => cases hexec; exact complete_selected (opStepHoldExpiry_selected h)
  | writeEntry r data => cases hexec; exact opWriteEntry_selected r data h
  | writeClassify r e => cases hexec; exact opWriteClassify_selected r e h
  | writeCell r e => cases hexec; exact opWriteCell_selected r e h
  | writeClass r e => cases hexec; exact opWriteClass_selected r e h
  | writePlant r e => cases hexec; exact opWritePlant_selected r e h
  | writeBelt r e => cases hexec; exact opWriteBelt_selected r e h
  | writeProfile r e => cases hexec; exact opWriteProfile_selected r e h
  | writeCrusher r e => cases hexec; exact opWriteCrusher_selected r e h
  | writeDrum r e => cases hexec; exact opWriteDrum_selected r e h
  | writeFilter r e => cases hexec; exact opWriteFilter_selected r e h
  | writeAction r e => cases hexec; exact opWriteAction_selected r e h
  | writeEventroute r e => cases hexec; exact opWriteEventroute_selected r e h
  | writePort r e => cases hexec; exact opWritePort_selected r e h
  | writeCoalesce r e => cases hexec; exact opWriteCoalesce_selected r e h
  | writeNode r e => cases hexec; exact opWriteNode_selected r e h
  | haltLine r => cases hexec; exact serve_selected (setCause_selected _ h) h
  | releaseLine r => cases hexec; exact serve_selected (clearCause_selected _ h) h
  | releaseOverride r => cases hexec; exact serve_selected (releaseOverride_selected h) h
  | clearCrusher r => cases hexec; exact serve_selected (clearCrusherBody_selected h) h
  | startProgram r => cases hexec; exact serve_selected (startProgramBody_selected r h) h
  | abortProgram r => cases hexec; exact serve_selected (abortProgramBody_selected h) h
  | restartLine r => cases hexec; exact serve_selected (restartBody_selected r h) h
  | ackEvent | clearFault | clearDrum | clearCounters | clearCauses | saveImage =>
    cases hexec; exact quietRequest_selected (by simp) (by simp) h
  | frameTransmitted | coalesceAgeLimit | savePageWritten => cases hexec; exact h.congr (by simp) (by simp)
  | reloadComplete ack => cases hexec; exact opReloadComplete_selected ack h
  | _ => cases hexec; exact readRequest_selected _ _ _ h

end Sys2Proof.Machine

namespace Sys2Proof.Proofs

open Sys2Proof.Machine

/-- Settles O56. Each change of the hold causes, the override, the program setpoint or the profile ends in a new selection; and the setpoint is
handed over as it is selected, so that a waiting BELT entry carries it (`Edit.carriedLaw`). -/
theorem setpointLawKept : Obligations.SetpointLawKept := by
  unfold Obligations.SetpointLawKept
  intro s t hlaw hstep
  obtain ⟨hselected, hcarried⟩ := hlaw
  refine ⟨?_, ?_⟩
  · exact step_law (P := State.selectedLaw) (fun _ h => h) (fun _ _ h => h) (fun _ _ _ => exec_selected) hstep hselected
  · exact step_keeps (w := ⟨False, False⟩) not_false (P := State.carriedLaw) (Q := fun v => ∀ x ∈ v.entries, x.target = .belt → x.setpoint = v.selected)
      (fun _ => Iff.rfl) (fun e he => absurd he List.not_mem_nil) Edit.carriedLaw (fun h => h.elim) hstep hcarried

end Sys2Proof.Proofs
end

section
/-! SUPPORT. Counters that grew, faults that were taken and requests that were answered: the rules that the statements on single commands are assembled
from (R157, R158, R161, R188). -/

namespace Sys2Proof.Machine

variable {s t u : State}

/-! ### Counters -/

theorem onlyGrew_refl (s : State) : s.onlyGrew s [] := fun c => by simp

/-- A state with the same counter file has grown by the same counters. -/
theorem State.onlyGrew.same {cs : List Counter} (h : s.onlyGrew t cs) (e : u.counters = t.counters) : s.onlyGrew u cs := fun c => by
  rw [State.counter_of_counters c e, h c]

/-- One more counter grows. -/
theorem State.onlyGrew.bump {cs : List Counter} (h : s.onlyGrew t cs) {k : Counter} (hk : k ∉ cs) : s.onlyGrew (bump k t) (cs ++ [k]) := by
  intro c
  rw [counter_bump]
  by_cases e : k = c
  · subst e
    rw [if_pos rfl, h k, if_neg hk, if_pos (by simp)]
  · rw [if_neg e, h c]
    simp [Ne.symm e]

/-- The order of the list says nothing. -/
theorem State.onlyGrew.reorder {cs ds : List Counter} (h : s.onlyGrew t cs) (hmem : ∀ c, c ∈ ds ↔ c ∈ cs) : s.onlyGrew t ds := fun c => by
  rw [h c]
  simp only [hmem]

theorem onlyGrew_same (e : t.counters = s.counters) : s.onlyGrew t [] := (onlyGrew_refl s).same e

/-- Counters that grew before the list's counters grew. -/
theorem State.onlyGrew.from_same {cs : List Counter} (h : t.onlyGrew u cs) (e : t.counters = s.counters) : s.onlyGrew u cs := fun c => by
  rw [h c, State.counter_of_counters c e]

/-! ### Faults (R157, R158) -/

/-- A fault that is suppressed is only counted. -/
theorem raiseFault_suppressed {k : FaultKind} (h : k.isMajor = false ∧ s.tables.node.suppressMinor = true) (l : Option LotNo)
    (c : Option CellNo) (d : Option Detail) : raiseFault k l c d s = bump .faultsSuppressed (bump (.raised k) s) := by
  simp [raiseFault, h]

/-- A fault that is not suppressed is offered to the fault record. -/
theorem raiseFault_offered {k : FaultKind} (h : ¬ (k.isMajor = false ∧ s.tables.node.suppressMinor = true)) (l : Option LotNo)
    (c : Option CellNo) (d : Option Detail) : raiseFault k l c d s = captureFault k l c d (bump (.raised k) s) := by
  unfold raiseFault
  rw [if_neg (by simpa using h)]

/-- An empty fault record takes the fault with the present time (R158). -/
theorem captureFault_empty (h : s.notices.captured = none) (k : FaultKind) (l : Option LotNo) (c : Option CellNo) (d : Option Detail) :
    captureFault k l c d s = bump .faultsCaptured
      { s with notices := { s.notices with captured := some { kind := k, time := s.now, lot := l, cell := c, detail := d },
                                           furtherMajor := false, furtherMinor := false } } := by
  simp [captureFault, h]

/-- A full fault record sets a further flag alone (R158). -/
theorem captureFault_full (h : s.notices.captured ≠ none) (k : FaultKind) (l : Option LotNo) (c : Option CellNo) (d : Option Detail) :
    captureFault k l c d s =
      { s with notices := if k.isMajor then { s.notices with furtherMajor := true } else { s.notices with furtherMinor := true } } := by
  obtain ⟨f, hf⟩ := Option.ne_none_iff_exists'.mp h
  unfold captureFault
  rw [hf]
  dsimp only
  split <;> rfl

/-- What a raised fault leaves in the fault record and the counters, after the counters of the list. -/
theorem raiseFault_faulted {cs : List Counter} (k : FaultKind) (lot : Option LotNo) (cell : Option CellNo) (detail : Option Detail)
    (h : s.onlyGrew t cs) (hnow : t.now = s.now) (htables : t.tables = s.tables) (hnotices : t.notices = s.notices)
    (hk : .raised k ∉ cs) (hc : .faultsCaptured ∉ cs) (hs : .faultsSuppressed ∉ cs) :
    s.faulted (raiseFault k lot cell detail t) k lot cell detail cs := by
  have hraised : s.onlyGrew (bump (.raised k) t) (cs ++ [.raised k]) := h.bump hk
  have hlist : ∀ x, cs ++ [.raised k, x] = cs ++ [.raised k] ++ [x] := fun x => by simp
  unfold State.faulted
  split
  · rename_i hsup
    rw [raiseFault_suppressed (htables ▸ hsup), hlist]
    exact ⟨hnotices, hraised.bump (by simp [hs])⟩
  · rename_i hsup
    rw [raiseFault_offered (htables ▸ hsup)]
    split
    · rename_i hempty
      rw [captureFault_empty (by rw [bump_notices, hnotices]; exact hempty), hlist]
      refine ⟨?_, State.onlyGrew.bump (State.onlyGrew.same hraised rfl) (by simp [hc])⟩
      rw [bump_notices, bump_notices, bump_now, hnotices, hnow]
    · rename_i hfull
      rw [captureFault_full (by rw [bump_notices, hnotices]; exact hfull)]
      refine ⟨?_, hraised.same rfl⟩
      rw [bump_notices, hnotices]

/-- A counter that grows after the fault is one of the list as well. -/
theorem State.faulted.bump {k : FaultKind} {lot : Option LotNo} {cell : Option CellNo} {detail : Option Detail} {cs : List Counter}
    (h : s.faulted t k lot cell detail cs) {c : Counter} (hc : c ∉ cs) (hk : c ≠ .raised k) (hcap : c ≠ .faultsCaptured)
    (hsup : c ≠ .faultsSuppressed) : s.faulted (bump c t) k lot cell detail (cs ++ [c]) := by
  unfold State.faulted at h ⊢
  have hgrow : ∀ ds : List Counter, c ∉ ds → s.onlyGrew t (cs ++ ds) → s.onlyGrew (Machine.bump c t) (cs ++ [c] ++ ds) := fun ds hds hg =>
    (hg.bump (by simp [hc, hds])).reorder fun x => by simp; tauto
  split at h
  · rename_i hcase
    rw [if_pos hcase]
    exact ⟨h.1, hgrow _ (by simp [hk, hsup]) h.2⟩
  · rename_i hcase
    rw [if_neg hcase]
    split at h
    · rename_i hempty
      rw [if_pos hempty]
      exact ⟨h.1, hgrow _ (by simp [hk, hcap]) h.2⟩
    · rename_i hfull
      rw [if_neg hfull]
      exact ⟨h.1, hgrow _ (by simp [hk]) h.2⟩

/-- A state with the same notices and the same counter file has the same fault in it. -/
theorem State.faulted.same {k : FaultKind} {lot : Option LotNo} {cell : Option CellNo} {detail : Option Detail} {cs : List Counter}
    (h : s.faulted t k lot cell detail cs) (hnotices : u.notices = t.notices) (hcounters : u.counters = t.counters) :
    s.faulted u k lot cell detail cs := by
  have hgrow : ∀ ds, s.onlyGrew t ds → s.onlyGrew u ds := fun ds hg => hg.same hcounters
  unfold State.faulted at h ⊢
  rw [hnotices]
  split
  · rename_i hcase
    rw [if_pos hcase] at h
    exact ⟨h.1, hgrow _ h.2⟩
  · rename_i hcase
    rw [if_neg hcase] at h
    split
    · rename_i hempty
      rw [if_pos hempty] at h
      exact ⟨h.1, hgrow _ h.2⟩
    · rename_i hfull
      rw [if_neg hfull] at h
      exact ⟨h.1, hgrow _ h.2⟩

/-! ### Answered requests (R188) -/

theorem enqueue_other (p : Port) (f : Frame) (s : State) : (enqueue p f s).port p.other = s.port p.other := by cases p <;> rfl

theorem enqueue_state (p : Port) (f : Frame) (s : State) : ((enqueue p f s).port p).state = (s.port p).state := by cases p <;> rfl

@[simp] theorem bump_port (c : Counter) (s : State) (p : Port) : (bump c s).port p = s.port p := by cases p <;> rfl

/-- The counters of a served request. -/
def servedCounters (st : Status) : List Counter := if st = .ok then [.requestsServed] else [.requestsServed, .requestsRefused]

theorem countServed_grew {cs : List Counter} (st : Status) (h : s.onlyGrew t cs) (hs : .requestsServed ∉ cs) (hr : .requestsRefused ∉ cs) :
    s.onlyGrew (countServed st t) (servedCounters st ++ cs) := by
  unfold countServed servedCounters
  split
  · exact (h.bump hs).reorder fun c => by simp [or_comm]
  · exact ((h.bump hs).bump (by simp [hr])).reorder fun c => by simp; tauto

@[simp] theorem countServed_port (st : Status) (s : State) (p : Port) : (countServed st s).port p = s.port p := by
  unfold countServed
  split <;> simp

/-- A request whose effects left nothing over, with room for the reply: the reply is placed and the request is counted, and that is all. -/
theorem finishRequest_quiet {node : Byte} {n : Nat} {r : Req} (st : Status) (data : List Byte) (h : s.settledLaw)
    (hroom : s.hasRoom r.port = true) :
    finishRequest node n r (.now st data) s = countServed st (enqueue r.port (ownFrame node r.node 0x41 (replyBody r n st data)) s) := by
  rw [finishRequest_of_nil h.1, reply, placeFrom_room hroom, unloadIfHanded_of_not (by simpa using h.2)]

/-- The reply, the count and the untouched other port of a request that is answered on a state `t` that has grown out of `s`. -/
theorem answered_countServed {n : Nat} {r : Req} {st : Status} {data : List Byte} {cs : List Counter} (hgrew : s.onlyGrew t cs)
    (hport : t.port r.port = s.port r.port) (hother : t.port r.port.other = s.port r.port.other) (hs : .requestsServed ∉ cs)
    (hr : .requestsRefused ∉ cs) :
    s.answered (countServed st (enqueue r.port (s.replyFrame r n st data) t)) r n st data cs := by
  refine ⟨?_, ?_, ?_, countServed_grew st (hgrew.same (by simp)) hs hr⟩
  · rw [countServed_port, enqueue_queue, hport]
  · rw [countServed_port, enqueue_state, hport]
  · rw [countServed_port, enqueue_other, hother]

/-- Placing the reply and counting touch the ports and the counters alone. -/
theorem countServed_enqueue_rest (st : Status) (p : Port) (f : Frame) (s : State) :
    { countServed st (enqueue p f s) with cellPort := s.cellPort, plantPort := s.plantPort, counters := s.counters } = s := by
  unfold countServed
  split <;> cases p <;> rfl

variable {r : Req}

/-- A request that the responder answers at once with a status, and that changes nothing. -/
theorem onlyAnswered_countServed (n : Nat) (st : Status) (data : List Byte) :
    s.onlyAnswered (countServed st (enqueue r.port (s.replyFrame r n st data) s)) r n st data :=
  ⟨answered_countServed (onlyGrew_refl s) rfl rfl (by simp) (by simp), countServed_enqueue_rest _ _ _ _⟩

/-- A ready request whose body leaves a settled part is answered with the body's answer. -/
theorem serveAlways_ready {n : Nat} {body : State → State × Answer} {st : Status} {data : List Byte} (h : s.readyFor r)
    (hbody : body s = (t, .now st data)) (hsettled : t.settledLaw) (hqueue : (t.port r.port).queue = (s.port r.port).queue) :
    serveAlways n r body s = countServed st (enqueue r.port (s.replyFrame r n st data) t) := by
  obtain ⟨hm, hp, -, hroom⟩ := h
  rw [serveAlways_served hm hp, hbody, finishRequest_quiet st data hsettled (by rw [State.hasRoom, hqueue]; exact hroom), State.replyFrame]

theorem serve_ready {n : Nat} {body : State → State × Answer} {st : Status} {data : List Byte} (h : s.readyFor r)
    (ha : s.activity.isReloading = false) (hbody : body s = (t, .now st data)) (hsettled : t.settledLaw)
    (hqueue : (t.port r.port).queue = (s.port r.port).queue) :
    serve n r body s = countServed st (enqueue r.port (s.replyFrame r n st data) t) :=
  serveAlways_ready h (by simpa [ha] using hbody) hsettled hqueue

/-- A ready request that is only answered. -/
theorem serveAlways_onlyAnswered {n : Nat} {body : State → State × Answer} {st : Status} {data : List Byte} (h : s.readyFor r)
    (hbody : body s = (s, .now st data)) : s.onlyAnswered (serveAlways n r body s) r n st data := by
  rw [serveAlways_ready h hbody h.2.2.1 rfl]
  exact onlyAnswered_countServed n st data

theorem serve_onlyAnswered {n : Nat} {body : State → State × Answer} {st : Status} {data : List Byte} (h : s.readyFor r)
    (ha : s.activity.isReloading = false) (hbody : body s = (s, .now st data)) : s.onlyAnswered (serve n r body s) r n st data :=
  serveAlways_onlyAnswered h (by simpa [ha] using hbody)

/-- While RELOADING a command that R197 refuses is answered BUSY. -/
theorem serve_reloading {n : Nat} {body : State → State × Answer} (h : s.readyFor r) (ha : s.activity.isReloading = true) :
    s.onlyAnswered (serve n r body s) r n .busy [] :=
  serveAlways_onlyAnswered h (by simp [ha])

end Sys2Proof.Machine
end

section
/-! SUPPORT. A frame that arrives: what the frame check, the port and the telegram's header make of it (R171 to R179). -/

namespace Sys2Proof.Machine

variable {s t : State}

/-! ### The frame check and the port -/

theorem badFrame_eq_false {f : Frame} (hmin : 64 ≤ f.length) (hmax : f.length ≤ 1518) : badFrame true f = false := by
  simp [badFrame]
  omega

theorem badFrame_eq_true {ok : Bool} {f : Frame} (h : ok = false ∨ f.length < 64 ∨ 1518 < f.length) : badFrame ok f = true := by
  rcases h with h | h | h <;> simp [badFrame, h]

theorem exec_frameReceived_good {f : Frame} (hmin : 64 ≤ f.length) (hmax : f.length ≤ 1518) (p : Port) (s : State) :
    exec (.frameReceived p true f) s = .next (handleFrame p f (complete (goodFrame p s))) := by
  rw [exec_frameReceived, opFrameReceived, badFrame_eq_false hmin hmax]
  rfl

/-- At an UP port the timer restarts and the frame is counted (R171, R173). -/
theorem goodFrame_up {p : Port} (h : s.isUp p) : goodFrame p s = s.heard p := by
  obtain ⟨g, hg⟩ := h
  unfold goodFrame
  dsimp only
  rw [bump_port, hg]
  cases p <;> rfl

theorem goodFrame_down (p : Port) (h : (s.port p).state = .down) : goodFrame p s = portUp p (bump (.goodFrames p) s) := by
  unfold goodFrame
  dsimp only
  rw [bump_port, h]

theorem heard_settled (p : Port) (h : s.settledLaw) : (s.heard p).settledLaw := h.congr (by cases p <;> rfl) (by cases p <;> rfl)

@[simp] theorem heard_mode (p : Port) (s : State) : (s.heard p).mode = s.mode := by cases p <;> rfl
@[simp] theorem heard_tables (p : Port) (s : State) : (s.heard p).tables = s.tables := by cases p <;> rfl
@[simp] theorem heard_now (p : Port) (s : State) : (s.heard p).now = s.now := by cases p <;> rfl
@[simp] theorem heard_activity (p : Port) (s : State) : (s.heard p).activity = s.activity := by cases p <;> rfl
@[simp] theorem heard_notices (p : Port) (s : State) : (s.heard p).notices = s.notices := by cases p <;> rfl
@[simp] theorem heard_hasRoom (p q : Port) (s : State) : (s.heard p).hasRoom q = s.hasRoom q := by cases p <;> cases q <;> rfl
@[simp] theorem heard_port (p : Port) (s : State) : (s.heard p).port p = { s.port p with state := .up s.now } := by cases p <;> rfl
@[simp] theorem heard_port_other (p : Port) (s : State) : (s.heard p).port p.other = s.port p.other := by cases p <;> rfl

/-- Besides the port's state and the counter nothing has changed. -/
theorem heard_rest (p : Port) (s : State) : { s.heard p with counters := s.counters } = s.setPort p { s.port p with state := .up s.now } := by
  cases p <;> rfl

theorem heard_grew (p : Port) (s : State) : s.onlyGrew (s.heard p) [.goodFrames p] :=
  onlyGrew_bump _ (by cases p <;> rfl)

/-- A good frame at an UP port of a settled part: it is heard, and then handled. -/
theorem exec_frameReceived_up {f : Frame} {p : Port} (hmin : 64 ≤ f.length) (hmax : f.length ≤ 1518) (hup : s.isUp p) (hs : s.settledLaw) :
    exec (.frameReceived p true f) s = .next (handleFrame p f (s.heard p)) := by
  rw [exec_frameReceived_good hmin hmax, goodFrame_up hup, complete_of_settled (heard_settled p hs)]

/-! ### What changes of the ports and the counters alone -/

/-- Nothing but the ports and the counters has changed. -/
def State.onlyPorts (s t : State) : Prop := { t with cellPort := s.cellPort, plantPort := s.plantPort, counters := s.counters } = s

theorem onlyPorts_refl (s : State) : s.onlyPorts s := rfl

theorem State.onlyPorts.bump (h : s.onlyPorts t) (k : Counter) : s.onlyPorts (bump k t) := h

theorem State.onlyPorts.setPort (h : s.onlyPorts t) (p : Port) (r : PortRec) : s.onlyPorts (t.setPort p r) := by
  cases p <;> exact h

theorem State.onlyPorts.heard (h : s.onlyPorts t) (p : Port) : s.onlyPorts (t.heard p) := (h.setPort p _).bump _

theorem State.onlyPorts.enqueue (h : s.onlyPorts t) (p : Port) (f : Frame) : s.onlyPorts (enqueue p f t) := h.setPort p _

theorem State.onlyPorts.countServed (h : s.onlyPorts t) (st : Status) : s.onlyPorts (countServed st t) := by
  unfold Machine.countServed
  split
  · exact h.bump _
  · exact (h.bump _).bump _

theorem heard_onlyPorts (p : Port) (s : State) : s.onlyPorts (s.heard p) := (onlyPorts_refl s).heard p

theorem enqueue_port (p : Port) (f : Frame) (s : State) : (enqueue p f s).port p = { s.port p with queue := (s.port p).queue ++ [f] } := by
  cases p <;> rfl

/-- A frame placed at the other port leaves the port alone. -/
theorem enqueue_other_port (p : Port) (f : Frame) (s : State) : (enqueue p.other f s).port p = s.port p := by cases p <;> rfl

theorem forwardTo_other_port (p : Port) (f : Frame) (s : State) : (forwardTo p.other f s).port p = s.port p := by
  unfold forwardTo
  split
  · exact enqueue_other_port p f s
  · exact bump_port _ _ _

/-- A forwarded frame counts where it is dropped alone. -/
theorem forwardTo_counter {p : Port} {c : Counter} (h : c ≠ .forwardDropped p) (f : Frame) (s : State) :
    (forwardTo p f s).counter c = s.counter c := by
  unfold forwardTo
  split
  · exact enqueue_counter p f s c
  · rw [counter_bump, if_neg (Ne.symm h)]

/-! ### Handling (R173 to R175) -/

theorem handleFrame_loading (hm : s.mode = .loading) (p : Port) (f : Frame) : handleFrame p f s = loadingFrame p f s := if_pos hm

theorem handleFrame_otherProtocol (hm : s.mode = .operating) {f : Frame} (hf : f.etherType ≠ lineType) (p : Port) :
    handleFrame p f s = forwardTo p.other f (bump (.otherProtocol p) s) := by
  simp [handleFrame, hm, hf]

theorem handleFrame_line (hm : s.mode = .operating) {f : Frame} (hf : f.etherType = lineType) (p : Port) :
    handleFrame p f s = lineFrame p f s := by
  simp [handleFrame, hm, hf]

/-- In LOADING a telegram for the part is dropped, and another is forwarded (R175). -/
theorem loadingFrame_own {p : Port} {f : Frame} (hf : f.etherType = lineType) (h : f.payload.head? = some s.tables.node.node) :
    loadingFrame p f s = bump (.loadingDrops p) s := by
  simp [loadingFrame, hf, h]

theorem loadingFrame_passed {p : Port} {f : Frame} (hf : f.etherType = lineType) (h : f.payload.head? ≠ some s.tables.node.node) :
    loadingFrame p f s = forwardTo p.other f s := by
  simp [loadingFrame, hf, h]

/-- A good frame of another type goes to the other port in both modes, and is counted as such. -/
theorem handleFrame_otherType {f : Frame} (hf : f.etherType ≠ lineType) (p : Port) (s : State) :
    handleFrame p f s = forwardTo p.other f (bump (.otherProtocol p) s) := by
  cases hm : s.mode with
  | loading => rw [handleFrame_loading hm, loadingFrame, if_pos hf]
  | operating => exact handleFrame_otherProtocol hm hf p

theorem lineFrame_malformed {f : Frame} (h : Telegram.parse f.payload = none) (p : Port) (s : State) : lineFrame p f s = bump (.malformed p) s := by
  simp [lineFrame, h]

theorem lineFrame_addressed {f : Frame} {tg : Telegram} (h : Telegram.parse f.payload = some tg) (hd : tg.dst = s.tables.node.node) (p : Port) :
    lineFrame p f s = consume p .addressed tg s := by
  simp [lineFrame, h, hd]

theorem lineFrame_foreign {f : Frame} {tg : Telegram} (h : Telegram.parse f.payload = some tg) (hd : tg.dst ≠ s.tables.node.node) (p : Port) :
    lineFrame p f s = classify p f tg s := by
  simp [lineFrame, h, hd]

theorem consume_consumable {tg : Telegram} (h : tg.consumable = true) (p : Port) (by_ : Consumption) (s : State) :
    consume p by_ tg s = dispatch p by_ tg (bump (.consumed p) s) := if_pos h

theorem consume_malformed {tg : Telegram} (h : tg.consumable = false) (p : Port) (by_ : Consumption) (s : State) :
    consume p by_ tg s = bump (.malformed p) s := by
  simp [consume, h]

section
variable {p : Port} {f : Frame} {tg : Telegram}

/-- A good line frame at an UP port in OPERATING is handled as a line telegram on the state that has heard it. -/
theorem exec_lineFrame (hf : goodLineFrame f) (hm : s.mode = .operating) (hup : s.isUp p) (hs : s.settledLaw) :
    exec (.frameReceived p true f) s = .next (lineFrame p f (s.heard p)) := by
  obtain ⟨hmin, hmax, htype⟩ := hf
  rw [exec_frameReceived_up hmin hmax hup hs, handleFrame_line (by simpa using hm) htype]

theorem exec_addressed (hf : goodLineFrame f) (hm : s.mode = .operating) (hup : s.isUp p) (hs : s.settledLaw)
    (hparse : Telegram.parse f.payload = some tg) (hdst : tg.dst = s.tables.node.node) :
    exec (.frameReceived p true f) s = .next (consume p .addressed tg (s.heard p)) := by
  rw [exec_lineFrame hf hm hup hs, lineFrame_addressed hparse (by simpa using hdst)]

/-- A well-formed telegram addressed to the part is counted as consumed and goes by its kind (R176). -/
theorem exec_consumed (hf : goodLineFrame f) (hm : s.mode = .operating) (hup : s.isUp p) (hs : s.settledLaw)
    (hparse : Telegram.parse f.payload = some tg) (hdst : tg.dst = s.tables.node.node) (hc : tg.consumable = true) :
    exec (.frameReceived p true f) s = .next (dispatch p .addressed tg (bump (.consumed p) (s.heard p))) := by
  rw [exec_addressed hf hm hup hs hparse hdst, consume_consumable hc]

end

/-! ### Kinds (R176, R177) -/

section
variable {p : Port} {by_ : Consumption} {tg : Telegram}

/-- A sample from its node goes to its block. -/
theorem acceptFrom_own {src node : Byte} (hsrc : src ≠ 0) (hnode : src = node) (p : Port) (op : State → State) (s : State) :
    acceptFrom p src node op s = complete (op s) := if_pos ⟨hsrc, hnode⟩

/-- A sample from another node, or from node 0, is foreign. -/
theorem acceptFrom_foreign {src node : Byte} (h : src = 0 ∨ src ≠ node) (p : Port) (op : State → State) (s : State) :
    acceptFrom p src node op s = foreignSample p s := if_neg fun ⟨hsrc, hnode⟩ => h.elim hsrc (· hnode)

theorem dispatch_belt (hk : tg.kind = 0x20) :
    dispatch p by_ tg s = acceptFrom p tg.src s.tables.plant.encoder (opBeltSample (wordAt tg.body 0)) s := by
  rw [dispatch, hk]; rfl

theorem dispatch_crusher (hk : tg.kind = 0x21) :
    dispatch p by_ tg s = acceptFrom p tg.src s.tables.plant.crusher (opCrusherStatus (halfAt tg.body 0) (byteAt tg.body 2)) s := by
  rw [dispatch, hk]; rfl

theorem dispatch_gate (hk : tg.kind = 0x22) :
    dispatch p by_ tg s = acceptFrom p tg.src s.tables.plant.gate (opGateStatus (byteAt tg.body 0)) s := by
  rw [dispatch, hk]; rfl

theorem dispatch_filter (hk : tg.kind = 0x23) :
    dispatch p by_ tg s = acceptFrom p tg.src s.tables.plant.skid (opFilterSample (byteAt tg.body 0) (halfAt tg.body 1)) s := by
  rw [dispatch, hk]; rfl

theorem dispatch_request (hk : tg.kind = 0x10) : dispatch p by_ tg s =
    takeDischarge p by_ (opDischargeRequest tg.src (byteAt tg.body 0) (byteAt tg.body 1) (halfAt tg.body 2)) s := by
  rw [dispatch, hk]; rfl

theorem dispatch_withdraw (hk : tg.kind = 0x11) : dispatch p by_ tg s = takeDischarge p by_ (opDischargeWithdraw tg.src) s := by
  rw [dispatch, hk]; rfl

theorem dispatch_end (hk : tg.kind = 0x12) :
    dispatch p by_ tg s = takeDischarge p by_ (opDischargeEnd tg.src (byteAt tg.body 0) (halfAt tg.body 1)) s := by
  rw [dispatch, hk]; rfl

theorem dispatch_management (hk : tg.kind = 0x40) :
    dispatch p .addressed tg s = opManagement (byteAt tg.body 1) (requestOf p tg) (tg.body.drop 5) s := by
  rw [dispatch, hk]; rfl

/-- A discharge telegram addressed to the part at the cell port is taken (R45). -/
theorem takeDischarge_cell (op : State → State) (s : State) : takeDischarge .cell .addressed op s = complete (op s) := rfl

/-- A discharge telegram by another path is discarded (R45). -/
theorem takeDischarge_other (h : p = .plant ∨ by_ = .classified) (op : State → State) (s : State) :
    takeDischarge p by_ op s = bump .dischargeDiscarded s := by
  rcases h with rfl | rfl <;> simp [takeDischarge, discardDischarge]

end

/-- The last tests of R174 pass a telegram of a known kind with its kind's length. -/
theorem consumable_of_length {tg : Telegram} {n : Nat} (hk : fixedLength tg.kind = some (some n)) (hlen : tg.body.length = n) :
    tg.consumable = true := by
  simp [Telegram.consumable, hk, hlen]

/-! ### The classification table (R179) -/

theorem classify_none {p : Port} {f : Frame} {tg : Telegram} (h : ∀ i : Fin 32, s.tables.classify[i].matches p tg = false) :
    classify p f tg s = forwardTo p.other f s := by
  have hnone : s.classEntry p tg = none := List.find?_eq_none.mpr fun i _ => by simpa using h i
  simp [classify, hnone]

/-- The matching entry of the lowest index applies. -/
theorem classify_some {p : Port} {f : Frame} {tg : Telegram} {i : Fin 32} (h : s.tables.classify[i].matches p tg = true)
    (hfirst : ∀ j < i, s.tables.classify[j].matches p tg = false) :
    classify p f tg s = applyAction s.tables.classify[i].action p f tg (bump (.hits i) s) := by
  have hsome : s.classEntry p tg = some i := by
    rw [State.classEntry, List.find?_eq_some_iff_getElem]
    refine ⟨h, i.val, by simp, by simp, fun j hj => ?_⟩
    have hlow := hfirst ⟨j, by omega⟩ hj
    simpa using hlow
  simp [classify, hsome]

end Sys2Proof.Machine

namespace Sys2Proof.Proofs

open Sys2Proof.Machine

/-- Settles O7. A good frame at an UP port is heard and then handled (`exec_frameReceived_up`); of another type it is forwarded in both modes. -/
theorem badAndOtherFrames : Obligations.BadAndOtherFrames := by
  unfold Obligations.BadAndOtherFrames
  refine ⟨fun p ok f s hbad => ?_, fun p f s hmin hmax hup hs => ⟨_, exec_frameReceived_up hmin hmax hup hs, ?_, ?_, ?_, ?_⟩⟩
  · refine ⟨bump (.badFrames p) s, ?_, onlyGrew_bump _ rfl, rfl⟩
    rw [exec_frameReceived, opFrameReceived, badFrame_eq_true hbad]
    rfl
  · intro hm htype hroom
    rw [handleFrame_otherType htype, forwardTo_room (by simpa using hroom)]
    exact ⟨by simp [enqueue_other_port], by simp [enqueue_port], ((heard_grew p s).bump (by simp)).same (by simp),
      ((heard_onlyPorts p s).bump _).enqueue _ _⟩
  · intro hm htype hroom
    rw [handleFrame_otherType htype, forwardTo_full (by simpa using hroom)]
    exact ⟨by simp, by simp, ((heard_grew p s).bump (by simp)).bump (by simp), ((heard_onlyPorts p s).bump _).bump _⟩
  · intro hm htype hnode
    rw [handleFrame_loading (by simpa using hm), loadingFrame_own htype (by simpa using hnode)]
    exact ⟨by simp, by simp, (heard_grew p s).bump (by simp), (heard_onlyPorts p s).bump _⟩
  · intro hm hother hroom
    by_cases htype : f.etherType = 0x9A4C
    · have hnode : f.payload.head? ≠ some s.tables.node.node := hother.resolve_left (not_not_intro htype)
      rw [handleFrame_loading (by simpa using hm), loadingFrame_passed htype (by simpa using hnode), forwardTo_room (by simpa using hroom), if_pos htype]
      exact ⟨by simp [enqueue_other_port], by simp [enqueue_port], (heard_grew p s).same (by simp), (heard_onlyPorts p s).enqueue _ _⟩
    · rw [handleFrame_otherType htype, forwardTo_room (by simpa using hroom), if_neg htype]
      exact ⟨by simp [enqueue_other_port], by simp [enqueue_port], ((heard_grew p s).bump (by simp)).same (by simp),
        ((heard_onlyPorts p s).bump _).enqueue _ _⟩

/-- Settles O8. -/
theorem goodFramesAndPorts : Obligations.GoodFramesAndPorts := by
  unfold Obligations.GoodFramesAndPorts
  intro f s hmin hmax hs
  have hplant : s.plantPort.state = .down → exec (.frameReceived .plant true f) s =
      .next (handleFrame .plant f (complete (clearCause .link (bump (.portUp .plant) (s.heard .plant))))) := fun hdown => by
    rw [exec_frameReceived_good hmin hmax, goodFrame_down .plant hdown]
    rfl
  refine ⟨fun p hup => exec_frameReceived_up hmin hmax hup hs, fun hdown => ?_, hplant, fun hdown hsup htype => ?_⟩
  · have hup : goodFrame .cell s = bump (.portUp .cell) (s.heard .cell) := by rw [goodFrame_down .cell hdown]; rfl
    rw [exec_frameReceived_good hmin hmax, hup, complete_of_settled (bump_settled _ (heard_settled _ hs))]
  · have hclear : clearCause .link (bump (.portUp .plant) (s.heard .plant)) =
        (bump (.portUp .plant) (s.heard .plant)).setCauseFlag .link false := by
      unfold clearCause
      split
      · rename_i hlink; exact (setCauseFlag_self hlink).symm
      · rw [if_pos]
        have : (bump (.portUp .plant) (s.heard .plant)).belt.supervisor = true := hsup
        simpa [State.setCauseFlag, State.holdInForce] using .inl this
    have hup : (bump (.portUp .plant) (s.heard .plant)).settledLaw := bump_settled _ (heard_settled .plant hs)
    have hsettled : ((bump (.portUp .plant) (s.heard .plant)).setCauseFlag .link false).settledLaw := hup.congr rfl rfl
    refine ⟨_, hplant hdown, ?_⟩
    rw [hclear, complete_of_settled hsettled, handleFrame_otherType htype]
    refine ⟨forwardTo_other_port .plant f _, by simp [State.setCauseFlag, State.heard], by simp [State.setCauseFlag, State.heard],
      by simp [State.setCauseFlag, State.heard], by simp [State.setCauseFlag, State.heard], by simp [State.setCauseFlag, State.heard], ?_⟩
    have hflag : ((bump (.portUp .plant) (s.heard .plant)).setCauseFlag .link false).counter (.portUp .plant) =
      (bump (.portUp .plant) (s.heard .plant)).counter (.portUp .plant) := rfl
    rw [forwardTo_counter (by simp), counter_bump, if_neg (by simp), hflag, counter_bump, if_pos rfl, heard_grew, if_neg (by simp)]

/-- Settles O9. -/
theorem telegramsReachTheirBlocks : Obligations.TelegramsReachTheirBlocks := by
  unfold Obligations.TelegramsReachTheirBlocks
  intro p f tg s hf hm hup hs hparse hdst
  have hkind : ∀ {k : Byte} {n : Nat}, fixedLength k = some (some n) → tg.kind = k → tg.body.length = n →
      exec (.frameReceived p true f) s = .next (dispatch p .addressed tg (bump (.consumed p) (s.heard p))) := fun hfix hk hlen =>
    exec_consumed hf hm hup hs hparse hdst (consumable_of_length (hk ▸ hfix) hlen)
  have hoperate : ∀ op, operate op (bump (.consumed p) (s.heard p)) = complete (op (bump (.consumed p) (s.heard p))) :=
    operate_operating (by simpa using hm)
  refine ⟨?request, ?withdraw, ?massReport, ?belt, ?crusher, ?gate, ?filter⟩
  case request =>
    rintro rfl hk hlen
    rw [hkind rfl hk hlen, exec_dischargeRequest, hoperate, dispatch_request hk, takeDischarge_cell]
  case withdraw =>
    rintro rfl hk hlen
    rw [hkind rfl hk hlen, exec_dischargeWithdraw, hoperate, dispatch_withdraw hk, takeDischarge_cell]
  case massReport =>
    rintro rfl hk hlen
    rw [hkind rfl hk hlen, exec_dischargeEnd, hoperate, dispatch_end hk, takeDischarge_cell]
  case belt =>
    intro hk hlen hsrc hnode
    rw [hkind rfl hk hlen, exec_beltSample, hoperate, dispatch_belt hk, acceptFrom_own hsrc (by simpa using hnode)]
  case crusher =>
    intro hk hlen hsrc hnode
    rw [hkind rfl hk hlen, exec_crusherStatus, hoperate, dispatch_crusher hk, acceptFrom_own hsrc (by simpa using hnode)]
  case gate =>
    intro hk hlen hsrc hnode
    rw [hkind rfl hk hlen, exec_gateStatus, hoperate, dispatch_gate hk, acceptFrom_own hsrc (by simpa using hnode)]
  case filter =>
    intro hk hlen hsrc hnode
    rw [hkind rfl hk hlen, exec_filterSample, hoperate, dispatch_filter hk, acceptFrom_own hsrc (by simpa using hnode)]

/-- Settles O10. Both lists are the arms of `opManagement` and of `opReadState`. -/
theorem requestsReachTheirRows : Obligations.RequestsReachTheirRows := by
  unfold Obligations.RequestsReachTheirRows
  intro p f tg s hf hm hup hs hparse hdst hkind hlen r hr
  have hserved : exec (.frameReceived p true f) s =
      .next (opManagement (byteAt tg.body 1) r (tg.body.drop 5) (bump (.consumed p) (s.heard p))) := by
    rw [exec_consumed hf hm hup hs hparse hdst (consumable_of_length (hkind ▸ rfl) hlen), dispatch_management hkind, hr]
    rfl
  refine ⟨fun k row hrow hcommand => ?_, fun k row hrow hcommand harea => ?_⟩
  · rw [hserved, hcommand]
    simp only [List.mem_cons, Prod.mk.injEq, List.not_mem_nil, or_false] at hrow
    rcases hrow with ⟨rfl, rfl⟩ | ⟨rfl, rfl⟩ | ⟨rfl, rfl⟩ | ⟨rfl, rfl⟩ | ⟨rfl, rfl⟩ | ⟨rfl, rfl⟩ | ⟨rfl, rfl⟩ | ⟨rfl, rfl⟩ | ⟨rfl, rfl⟩ |
      ⟨rfl, rfl⟩ | ⟨rfl, rfl⟩ | ⟨rfl, rfl⟩ | ⟨rfl, rfl⟩ | ⟨rfl, rfl⟩ | ⟨rfl, rfl⟩ | ⟨rfl, rfl⟩ <;> rfl
  · have hread : opManagement (byteAt tg.body 1) r (tg.body.drop 5) (bump (.consumed p) (s.heard p)) =
        opReadState r (bump (.consumed p) (s.heard p)) := by rw [hcommand]; rfl
    rw [hserved, hread, opReadState, harea]
    simp only [List.mem_cons, Prod.mk.injEq, List.not_mem_nil, or_false] at hrow
    rcases hrow with ⟨rfl, rfl⟩ | ⟨rfl, rfl⟩ | ⟨rfl, rfl⟩ | ⟨rfl, rfl⟩ | ⟨rfl, rfl⟩ | ⟨rfl, rfl⟩ | ⟨rfl, rfl⟩ | ⟨rfl, rfl⟩ | ⟨rfl, rfl⟩ |
      ⟨rfl, rfl⟩ | ⟨rfl, rfl⟩ | ⟨rfl, rfl⟩ | ⟨rfl, rfl⟩ <;> rfl

/-- Settles O12. -/
theorem classifiedTelegrams : Obligations.ClassifiedTelegrams := by
  unfold Obligations.ClassifiedTelegrams
  intro p f tg s hf hm hup hs hparse hdst
  have hclassified : exec (.frameReceived p true f) s = .next (classify p f tg (s.heard p)) := by
    rw [exec_lineFrame hf hm hup hs, lineFrame_foreign hparse (by simpa using hdst)]
  refine ⟨fun hnone => ?_, fun i e he hvalid harrival hkind hsource hdest hfirst => ?_⟩
  · rw [hclassified, classify_none (fun i => by simpa using hnone i)]
  · have hmatch : s.tables.classify[i].matches p tg = true := by
      have hcovers : e.arrival.covers p = true := by
        rcases harrival with ha | ha
        · rw [ha]; rfl
        · exact ha
      simpa [ClassifyEntry.matches, he, hvalid, hcovers] using ⟨⟨hkind, hsource⟩, hdest⟩
    have happlied : exec (.frameReceived p true f) s = .next (applyAction e.action p f tg (bump (.hits i) (s.heard p))) := by
      rw [hclassified, classify_some (by simpa using hmatch) (fun j hj => by simpa using hfirst j hj)]
      simp [he]
    have hoperate : ∀ {u : State} (op : State → State), u.mode = .operating → Host.Outcome.next (operate op u) = (.next (complete (op u)) : Host.Outcome State Fault Refusal) :=
      fun op hu => by rw [operate_operating hu]
    refine ⟨fun ha => ?_, fun ha => ?_, fun ha => ?_, fun hk hlen hsrc hnode => ⟨fun ha => ?_, fun ha => ?_⟩,
      fun hk hlen => ⟨fun ha => ?_, fun ha => ?_⟩⟩
    · rw [happlied, ha]; rfl
    · rw [happlied, ha]; rfl
    · rw [happlied, ha, exec_coolantAllotment, hoperate _ (by simpa using hm)]; rfl
    · rw [happlied, ha, exec_beltSample, hoperate _ (by simpa using hm), applyAction, consume_consumable (consumable_of_length (hk ▸ rfl) hlen),
        dispatch_belt hk, acceptFrom_own hsrc (by simpa using hnode)]
    · rw [happlied, ha, exec_beltSample, hoperate _ (by simpa using hm), applyAction, consume_consumable (consumable_of_length (hk ▸ rfl) hlen),
        dispatch_belt hk, acceptFrom_own hsrc (by simpa using hnode)]
    · rw [happlied, ha, applyAction, consume_consumable (consumable_of_length (hk ▸ rfl) hlen), dispatch_request hk,
        takeDischarge_other (.inr rfl)]
    · rw [happlied, ha, applyAction, consume_consumable (consumable_of_length (hk ▸ rfl) hlen), dispatch_request hk,
        takeDischarge_other (.inr rfl)]

end Sys2Proof.Proofs
end

section
/-! SUPPORT. Telegrams and requests that end at the port (R174, R176, R177, R188). -/

namespace Sys2Proof.Machine

variable {s t : State}

/-- The twelve kinds of a fixed length, with it (R185). -/
def fixedKinds : List (Byte × Nat) :=
  [(0x10#8, 4), (0x11#8, 0), (0x12#8, 3), (0x18#8, 4), (0x20#8, 4), (0x21#8, 3), (0x22#8, 1), (0x23#8, 3), (0x28#8, 3), (0x30#8, 4),
   (0x40#8, 40), (0x48#8, 6)]

theorem fixedLength_of_mem {k : Byte} {n : Nat} (h : (k, n) ∈ fixedKinds) : fixedLength k = some (some n) := by
  have hall : ∀ kn ∈ fixedKinds, fixedLength kn.1 = some (some kn.2) := by decide
  exact hall _ h

theorem fixedLength_unknown {k : Byte}
    (h : k ∉ [0x10#8, 0x11#8, 0x12#8, 0x18#8, 0x20#8, 0x21#8, 0x22#8, 0x23#8, 0x28#8, 0x30#8, 0x40#8, 0x41#8, 0x48#8]) :
    fixedLength k = none := by
  have hall : ∀ n : Fin 256, BitVec.ofFin n ∉ [0x10#8, 0x11#8, 0x12#8, 0x18#8, 0x20#8, 0x21#8, 0x22#8, 0x23#8, 0x28#8, 0x30#8, 0x40#8,
      0x41#8, 0x48#8] → fixedLength (BitVec.ofFin n) = none := by decide +kernel
  exact hall k.toFin h

theorem not_consumable_of_length {tg : Telegram} {n : Nat} (hk : fixedLength tg.kind = some (some n)) (hlen : tg.body.length ≠ n) :
    tg.consumable = false := by
  simp [Telegram.consumable, hk, hlen]

theorem not_consumable_of_unknown {tg : Telegram} (hk : fixedLength tg.kind = none) : tg.consumable = false := by
  simp [Telegram.consumable, hk]

/-- A kind the part does not take is counted as unusable (R176). -/
theorem dispatch_unusable {p : Port} {by_ : Consumption} {tg : Telegram} (h : tg.kind ∈ [0x18#8, 0x28#8, 0x30#8, 0x48#8, 0x41#8]) :
    dispatch p by_ tg s = bump (.unusable p) s := by
  simp only [List.mem_cons, List.not_mem_nil, or_false] at h
  rcases h with h | h | h | h | h <;> (rw [dispatch, h]; rfl)

theorem foreignSample_rest (p : Port) (s : State) {c : Vector Word 200} {n : Notices} :
    { foreignSample p s with counters := c, notices := n } = { s with counters := c, notices := n } := by
  unfold foreignSample raiseFault captureFault
  repeat' split
  all_goals rfl

/-! ### Requests that are turned away (R176, R188) -/

theorem serveAlways_refused {r : Req} (hm : s.mode = .operating) (hp : s.permits r = false) (n : Nat) (body : State → State × Answer) :
    serveAlways n r body s = refuseCellSide n r s := by
  simp [serveAlways, hm, hp]

theorem serve_refused {r : Req} (hm : s.mode = .operating) (hp : s.permits r = false) (n : Nat) (body : State → State × Answer) :
    serve n r body s = refuseCellSide n r s := serveAlways_refused hm hp n _

theorem opWriteEntry_refused {r : Req} (hm : s.mode = .operating) (hp : s.permits r = false) (data : List Byte) :
    opWriteEntry r data s = refuseCellSide 3 r s := by
  unfold opWriteEntry
  split <;> exact serveAlways_refused hm hp _ _

theorem opReadState_refused {r : Req} (hm : s.mode = .operating) (hp : s.permits r = false) : opReadState r s = refuseCellSide 4 r s := by
  unfold opReadState
  split <;> exact serveAlways_refused hm hp _ _

/-- Whatever its command, a request that R176 does not pass is answered NOT_PERMITTED. -/
theorem opManagement_refused {r : Req} (hm : s.mode = .operating) (hp : s.permits r = false) (n : Byte) (data : List Byte) :
    opManagement n r data s = refuseCellSide n.toNat r s := by
  unfold opManagement
  split <;> rename_i hn
  case h_1 | h_2 => rw [hn]; exact serveAlways_refused hm hp _ _
  case h_3 => rw [hn]; exact opWriteEntry_refused hm hp data
  case h_4 => rw [hn]; exact opReadState_refused hm hp
  case h_18 => exact serveAlways_refused hm hp _ _
  all_goals rw [hn]; exact serve_refused hm hp _ _

theorem opManagement_unknown {n : Byte} (h : n = 0 ∨ 17 < n.toNat) (r : Req) (data : List Byte) (s : State) :
    opManagement n r data s = serveAlways n.toNat r (readOnly fun _ => .now .badCommand []) s := by
  have hn : n.toNat = 0 ∨ 17 < n.toNat := h.imp (fun e => by rw [e]; rfl) id
  unfold opManagement
  split
  case h_18 => rfl
  all_goals omega

theorem opReadState_unknown {r : Req} (h : 12 < r.selector.toNat) (s : State) :
    opReadState r s = serveAlways 4 r (readOnly fun _ => .now .badTable []) s := by
  unfold opReadState
  split
  case h_14 => rfl
  all_goals omega

end Sys2Proof.Machine

namespace Sys2Proof.Proofs

open Sys2Proof.Machine

/-- Settles O11. -/
theorem telegramsDiscarded : Obligations.TelegramsDiscarded := by
  unfold Obligations.TelegramsDiscarded
  refine ⟨fun p f s hf hm hup hs => ⟨_, exec_lineFrame hf hm hup hs, fun hnone => ?_, fun tg hparse hdst => ⟨?_, ?_, ?_⟩⟩,
    fun p f tg s hf hm hup hs hparse hdst hkind hsrc => ?_⟩
  · rw [lineFrame_malformed hnone]
    exact ⟨(heard_grew p s).bump (by simp), heard_rest p s⟩
  · intro hbad
    have hmalformed : tg.consumable = false := by
      rcases hbad with hunknown | ⟨k, n, hmem, rfl, hlen⟩
      · exact not_consumable_of_unknown (fixedLength_unknown hunknown)
      · exact not_consumable_of_length (fixedLength_of_mem hmem) hlen
    rw [lineFrame_addressed hparse (by simpa using hdst), consume_malformed hmalformed]
    exact ⟨(heard_grew p s).bump (by simp), heard_rest p s⟩
  · intro hkind
    have hconsumable : tg.consumable = true := by
      rcases hkind with hfix | hreply
      · have hmem : (tg.kind, tg.body.length) ∈ fixedKinds := by
          simp only [List.mem_cons, List.not_mem_nil, or_false] at hfix
          rcases hfix with h | h | h | h <;> rw [h] <;> decide
        exact consumable_of_length (fixedLength_of_mem hmem) rfl
      · rw [Telegram.consumable, hreply]
        rfl
    have hunusable : tg.kind ∈ [0x18#8, 0x28#8, 0x30#8, 0x48#8, 0x41#8] := by
      rcases hkind with hfix | hreply
      · simp only [List.mem_cons, List.not_mem_nil, or_false, Prod.mk.injEq] at hfix
        rcases hfix with h | h | h | h <;> simp [h.1]
      · simp [hreply]
    rw [lineFrame_addressed hparse (by simpa using hdst), consume_consumable hconsumable, dispatch_unusable hunusable]
    exact ⟨((heard_grew p s).bump (by simp)).bump (by simp), heard_rest p s⟩
  · rintro rfl hkind
    have hdiscarded : lineFrame .plant f (s.heard .plant) = bump .dischargeDiscarded (bump (.consumed .plant) (s.heard .plant)) := by
      simp only [List.mem_cons, List.not_mem_nil, or_false, Prod.mk.injEq] at hkind
      rw [lineFrame_addressed hparse (by simpa using hdst)]
      rcases hkind with ⟨hk, hlen⟩ | ⟨hk, hlen⟩ | ⟨hk, hlen⟩
      · rw [consume_consumable (consumable_of_length (hk ▸ rfl) hlen), dispatch_request hk, takeDischarge_other (.inl rfl)]
      · rw [consume_consumable (consumable_of_length (hk ▸ rfl) hlen), dispatch_withdraw hk, takeDischarge_other (.inl rfl)]
      · rw [consume_consumable (consumable_of_length (hk ▸ rfl) hlen), dispatch_end hk, takeDischarge_other (.inl rfl)]
    rw [hdiscarded]
    exact ⟨((heard_grew .plant s).bump (by simp)).bump (by simp), heard_rest .plant s⟩
  · have hforeign : exec (.frameReceived p true f) s = .next (foreignSample p (bump (.consumed p) (s.heard p))) := by
      simp only [List.mem_cons, List.not_mem_nil, or_false, Prod.mk.injEq] at hkind
      rcases hkind with ⟨hk, hlen⟩ | ⟨hk, hlen⟩ | ⟨hk, hlen⟩ | ⟨hk, hlen⟩
      · rw [exec_consumed hf hm hup hs hparse hdst (consumable_of_length (hk ▸ rfl) hlen), dispatch_belt hk,
          acceptFrom_foreign (by simpa [hk] using hsrc)]
      · rw [exec_consumed hf hm hup hs hparse hdst (consumable_of_length (hk ▸ rfl) hlen), dispatch_crusher hk,
          acceptFrom_foreign (by simpa [hk] using hsrc)]
      · rw [exec_consumed hf hm hup hs hparse hdst (consumable_of_length (hk ▸ rfl) hlen), dispatch_gate hk,
          acceptFrom_foreign (by simpa [hk] using hsrc)]
      · rw [exec_consumed hf hm hup hs hparse hdst (consumable_of_length (hk ▸ rfl) hlen), dispatch_filter hk,
          acceptFrom_foreign (by simpa [hk] using hsrc)]
    refine ⟨_, hforeign, (foreignSample_rest p _).trans (by cases p <;> exact heard_rest _ s), ?_⟩
    exact raiseFault_faulted .foreignSample _ _ _ (((heard_grew p s).bump (by simp)).bump (by simp)) (by simp) (by simp) (by simp)
      (by simp) (by simp) (by simp)

/-- Settles O13. -/
theorem requestsTurnedAway : Obligations.RequestsTurnedAway := by
  unfold Obligations.RequestsTurnedAway
  intro p f tg s hf hm hup hs hroom hparse hdst hkind hlen r hr
  have hport : r.port = p := by rw [hr]
  have hserved : exec (.frameReceived p true f) s =
      .next (opManagement (byteAt tg.body 1) r (tg.body.drop 5) (bump (.consumed p) (s.heard p))) := by
    rw [exec_consumed hf hm hup hs hparse hdst (consumable_of_length (hkind ▸ rfl) hlen), dispatch_management hkind, hr]
    rfl
  have hgrew : s.onlyGrew (bump (.consumed p) (s.heard p)) [.goodFrames p, .consumed p] := (heard_grew p s).bump (by simp)
  have hready : (p = .plant ∨ s.tables.node.cellSide = true) → (bump (.consumed p) (s.heard p)).readyFor r := fun hpermit =>
    ⟨by simpa using hm, by simpa [State.permits, hport] using hpermit, bump_settled _ (heard_settled p hs), by simpa [hport] using hroom⟩
  have hrefused : ∀ (n : Nat) (st : Status), st ≠ .ok → (p = .plant ∨ s.tables.node.cellSide = true) →
      ∃ t, .next (serveAlways n r (readOnly fun _ => .now st []) (bump (.consumed p) (s.heard p))) =
          (.next t : Host.Outcome State Fault Refusal) ∧
        t.port p = { state := .up s.now, queue := (s.port p).queue ++ [s.replyFrame r n st []] } ∧ t.port p.other = s.port p.other ∧
        s.onlyGrew t [.goodFrames p, .consumed p, .requestsServed, .requestsRefused] ∧
        { t with cellPort := s.cellPort, plantPort := s.plantPort, counters := s.counters } = s := by
    intro n st hst hpermit
    have hframe : (bump (.consumed p) (s.heard p)).replyFrame r n st [] = s.replyFrame r n st [] := by simp [State.replyFrame]
    refine ⟨_, rfl, ?_⟩
    rw [serveAlways_ready (hready hpermit) rfl (bump_settled _ (heard_settled p hs)) rfl, hframe, hport]
    refine ⟨by simp [enqueue_port], by simp [enqueue_other], ?_, (((heard_onlyPorts p s).bump _).enqueue _ _).countServed _⟩
    refine (countServed_grew st (hgrew.same (by simp)) (by simp) (by simp)).reorder fun c => ?_
    simp [servedCounters, hst]
    tauto
  refine ⟨?cellSide, ?badCommand, ?badTable⟩
  case cellSide =>
    rintro rfl hoff
    have hpermit : (bump (.consumed .cell) (s.heard .cell)).permits r = false := by simp [State.permits, hport, hoff]
    refine ⟨_, hserved, ?_⟩
    rw [opManagement_refused (by simpa using hm) hpermit, refuseCellSide, reply, hport, placeFrom_room (by simpa using hroom)]
    exact ⟨by simp [State.replyFrame, State.heard, enqueue], (hgrew.same (by simp)).bump (by simp), by simp [State.heard, enqueue]⟩
  case badCommand =>
    intro hpermit hcommand
    rw [hserved, opManagement_unknown hcommand]
    exact hrefused _ .badCommand (by simp) hpermit
  case badTable =>
    intro hpermit hcommand harea
    have hread : opManagement (byteAt tg.body 1) r (tg.body.drop 5) (bump (.consumed p) (s.heard p)) =
        opReadState r (bump (.consumed p) (s.heard p)) := by rw [hcommand]; rfl
    rw [hserved, hread, opReadState_unknown harea]
    exact hrefused 4 .badTable (by simp) hpermit

end Sys2Proof.Proofs
end

section
/-! SUPPORT. The resets and the cause flags (R160, R193, R198), the tick with its expiries, and the ends of a transmission and of a silence (R171, R181). -/

namespace Sys2Proof.Machine

variable {s t : State}

/-! ### The tick -/

theorem insertRanked_perm (r : Nat) (i : Instr) (l : List (Nat × Instr)) : ((insertRanked r i l).map Prod.snd).Perm (i :: l.map Prod.snd) := by
  induction l with
  | nil => exact .refl _
  | cons x rest ih =>
    obtain ⟨q, j⟩ := x
    unfold insertRanked
    split
    · exact (ih.cons j).trans (.swap i j _)
    · exact .refl _

theorem rankAll_perm (draw k : Nat) (l : List Instr) : ((rankAll draw k l).map Prod.snd).Perm l := by
  induction l generalizing k with
  | nil => exact .refl _
  | cons i rest ih => exact (insertRanked_perm _ i _).trans ((ih (k + 1)).cons i)

/-- The order of the expiries is a permutation, whatever the ranks (assumption 2). -/
theorem orderDue_perm (draw : Nat) (l : List Instr) : (orderDue draw l).Perm l := by
  unfold orderDue
  split
  · exact .refl _
  · exact .refl _
  · exact rankAll_perm draw 0 _

theorem mem_of_due {p : Prop} [Decidable p] {i j : Instr} : i ∈ (if p then [j] else []) ↔ p ∧ i = j := by
  split <;> simp_all

@[simp] theorem mem_dueSilence {i : Instr} {p : Port} : i ∈ dueSilence p s ↔ s.silenceDue p = true ∧ i = .silenceTimeout p := mem_of_due
@[simp] theorem mem_dueOverride {i : Instr} : i ∈ dueOverride s ↔ s.overrideDue = true ∧ i = .overrideSecond := mem_of_due
@[simp] theorem mem_dueGate {i : Instr} : i ∈ dueGate s ↔ s.gateDue = true ∧ i = .gateTimeout := mem_of_due
@[simp] theorem mem_dueStart {i : Instr} : i ∈ dueStart s ↔ s.startDue = true ∧ i = .startTimerExpiry := mem_of_due
@[simp] theorem mem_dueIdle {i : Instr} : i ∈ dueIdle s ↔ s.idleDue = true ∧ i = .idleTimerExpiry := mem_of_due
@[simp] theorem mem_dueHold {i : Instr} : i ∈ dueHold s ↔ s.holdDue = true ∧ i = .stepHoldExpiry := mem_of_due
@[simp] theorem mem_dueCoalesce {i : Instr} : i ∈ dueCoalesce s ↔ s.oldestAge = some s.tables.coalesceAge ∧ i = .coalesceAgeLimit := mem_of_due

@[simp] theorem mem_dueUrgent {i : Instr} : i ∈ dueUrgent s ↔ ∃ c, s.urgentDue c = true ∧ .requestUrgent c = i := by
  simp [dueUrgent, cellList]

@[simp] theorem mem_dueExpiry {i : Instr} : i ∈ dueExpiry s ↔ ∃ c, s.expiryDue c = true ∧ .requestExpiry c = i := by
  simp [dueExpiry, cellList]

theorem mem_drumList (d : DrumNo) : d ∈ drumList := by revert d; decide

theorem mem_duePhase {i : Instr} {d : DrumNo} : i ∈ duePhase s d ↔
    (i = .flushTimeEnd d ∧ ∃ e, (s.drum d).state = .flushing e ∧ s.reached e = true) ∨
    (i = .settleTimeEnd d ∧ ∃ e, (s.drum d).state = .settling e ∧ s.reached e = true) := by
  unfold duePhase
  split
  · rename_i e hstate
    simp [hstate, and_comm]
  · rename_i e hstate
    simp [hstate, and_comm]
  · rename_i hflushing hsettling
    have hnone : (∀ e, (s.drum d).state ≠ .flushing e) ∧ ∀ e, (s.drum d).state ≠ .settling e := ⟨hflushing, hsettling⟩
    simp [hnone.1, hnone.2]

@[simp] theorem mem_dueDrums {i : Instr} : i ∈ dueDrums s ↔
    (∃ d, s.waitDue d = true ∧ .flushWaitLimit d = i) ∨
    (∃ d, i = .flushTimeEnd d ∧ ∃ e, (s.drum d).state = .flushing e ∧ s.reached e = true) ∨
    ∃ d, i = .settleTimeEnd d ∧ ∃ e, (s.drum d).state = .settling e ∧ s.reached e = true := by
  simp only [dueDrums, List.mem_append, List.mem_map, List.mem_filter, List.mem_flatMap, mem_duePhase, mem_drumList, true_and,
    exists_or]

/-- Every expiry that a millisecond can bring. -/
def everyExpiry : List Instr :=
  [.silenceTimeout .cell] ++ [.silenceTimeout .plant] ++ cellList.map .requestUrgent ++ cellList.map .requestExpiry ++ [.overrideSecond] ++
    [.gateTimeout] ++ [.startTimerExpiry] ++ [.idleTimerExpiry] ++
    (drumList.map .flushWaitLimit ++ drumList.flatMap fun d => [.flushTimeEnd d, .settleTimeEnd d]) ++ [.stepHoldExpiry] ++ [.coalesceAgeLimit]

theorem everyExpiry_nodup : everyExpiry.Nodup := by decide +kernel

theorem due_sublist {p : Prop} [Decidable p] (i : Instr) : (if p then [i] else []).Sublist [i] := by
  split
  · exact .refl _
  · exact List.nil_sublist _

theorem duePhase_sublist (s : State) (d : DrumNo) : (duePhase s d).Sublist [.flushTimeEnd d, .settleTimeEnd d] := by
  unfold duePhase
  split
  · exact (due_sublist _).trans (by simp)
  · exact (due_sublist _).trans (by simp)
  · exact List.nil_sublist _

theorem expiriesDue_sublist (s : State) : (expiriesDue s).Sublist everyExpiry := by
  have hdrums : (dueDrums s).Sublist (drumList.map .flushWaitLimit ++ drumList.flatMap fun d => [.flushTimeEnd d, .settleTimeEnd d]) :=
    (List.filter_sublist.map _).append (List.Sublist.flatMap_right _ fun d _ => duePhase_sublist s d)
  exact ((((((((((due_sublist _).append (due_sublist _)).append (List.filter_sublist.map _)).append (List.filter_sublist.map _)).append
    (due_sublist _)).append (due_sublist _)).append (due_sublist _)).append (due_sublist _)).append hdrums).append
    (due_sublist _)).append (due_sublist _)

/-- What is due depends neither on the free values nor on what waits. -/
theorem expiriesDue_queued (u : State) (d : Nat) (w : List Instr) : expiriesDue { u with draws := d, pending := w } = expiriesDue u := rfl

theorem expiriesDue_tick (s : State) : expiriesDue (tick s) = expiriesDue s.nextMs := expiriesDue_queued s.nextMs _ _

theorem expiriesDue_nodup (s : State) : (expiriesDue s).Nodup := everyExpiry_nodup.sublist (expiriesDue_sublist s)

/-! ### Cause flags -/

/-- Placing the reply and counting write the ports and the counters alone, as an equation for the whole state. -/
theorem countServed_enqueue_form (st : Status) (p : Port) (f : Frame) (t : State) :
    ∃ a b k, countServed st (enqueue p f t) = { t with cellPort := a, plantPort := b, counters := k } :=
  let v := countServed st (enqueue p f t)
  ⟨v.cellPort, v.plantPort, v.counters, congrArg (fun u : State =>
    { u with cellPort := v.cellPort, plantPort := v.plantPort, counters := v.counters }) (countServed_enqueue_rest st p f t)⟩

/-- Where the cause flags are watched no edit writes one. -/
theorem Edit.causes_eq {w : Watch} (e : Edit w s t) (hw : w.causes) : t.causes = s.causes := by
  cases e with
  | quiet h => exact congrArg EditView.causes h
  | mark n h => exact absurd hw h
  | enqueue p f _ => simp [State.causes]
  | dequeue p _ => simp [State.causes]
  | hand m setpoint _ => simp [State.causes]
  | issue => simp [State.causes]
  | unload tg => rfl
  | discard => rfl
  | drum d r _ => rfl
  | flush d r _ => rfl
  | window c q l _ => rfl
  | release l => rfl
  | load _ => rfl
  | shift _ => rfl
  | clear => rfl
  | retable new _ _ => rfl
  | rebuild new _ => rfl

theorem Edits.causes_eq (h : Edits ⟨False, True⟩ s t) : t.causes = s.causes :=
  h.keeps (P := fun u => u.causes = s.causes) (fun e hs => (e.causes_eq trivial).trans hs) rfl

/-- Completing a request writes no cause flag. -/
theorem finishRequest_causes (node : Byte) (n : Nat) (r : Req) (a : Answer) (s : State) : (finishRequest node n r a s).causes = s.causes :=
  Edits.causes_eq (finishRequest_edits node n r a .refl)

theorem opReloadComplete_causes (ack : Bool) (s : State) : (opReloadComplete ack s).causes = s.causes :=
  Edits.causes_eq (opReloadComplete_edits ack (fun h => h.elim) .refl)

theorem restartLine_causes (s : State) : (restartLine s).causes = (s.notices.causePowerOn, s.notices.causePin, true) := by
  have hblocks := Edits.causes_eq (restartBlocks_edits (s := s) .refl)
  simp only [State.causes, Prod.mk.injEq] at hblocks
  obtain ⟨hpower, hpin, -⟩ := hblocks
  simp only [restartLine, markRestart, State.causes, hpower, hpin]

theorem restartBody_causes (r : Req) (h : s.activity = .idle) :
    (restartBody r s).1.causes = (s.notices.causePowerOn, s.notices.causePin, true) := by
  have hset : ∀ (u : State) (a : Activity), (u.setActivity a).causes = u.causes := fun _ _ => rfl
  have hbump : ∀ u : State, (bump .restarts u).causes = u.causes := fun _ => rfl
  unfold restartBody
  rw [h]
  dsimp only
  split
  · rw [hset, restartLine_causes]
  · rw [hbump, restartLine_causes]

/-! ### Resets -/

/-- A reset's state is the reset state but for its cause flags, the EEPROM, the free values drawn and the waiting commands. -/
theorem exec_reset {c : Instr} (h : c = .powerOn ∨ c = .pinReset) (s : State) :
    ∃ n m d, exec c s = .next { State.reset with notices := n, eeprom := m, draws := d, pending := s.pending } ∧
      (n.captured = none ∧ n.furtherMajor = false ∧ n.furtherMinor = false) ∧
      (s.activity.isReloading = true ∨ s.activity = .idle → m = s.eeprom) := by
  have hkept : s.activity.isReloading = true ∨ s.activity = .idle → (endSaveByReset s).eeprom = s.eeprom := fun hact => by
    unfold endSaveByReset
    split
    · rename_i r page hsaving
      rw [hsaving] at hact
      rcases hact with hact | hact <;> cases hact
    · rfl
  have hqueue := endSaveByReset_pending s
  rcases h with rfl | rfl
  · exact ⟨_, (endSaveByReset s).eeprom, (endSaveByReset s).draws, by rw [exec_powerOn, ← hqueue]; rfl, ⟨rfl, rfl, rfl⟩, hkept⟩
  · refine ⟨_, (endSaveByReset s).eeprom, (endSaveByReset s).draws, by rw [exec_pinReset, ← hqueue]; rfl, ⟨rfl, rfl, rfl⟩, hkept⟩

/-! ### Transmission and silence (R171, R181) -/

theorem opFrameTransmitted_empty {p : Port} (h : (s.port p).queue = []) : opFrameTransmitted p s = s := by
  simp [opFrameTransmitted, h]

theorem opFrameTransmitted_cell {f : Frame} {rest : List Frame} (h : s.cellPort.queue = f :: rest) :
    opFrameTransmitted .cell s = dequeue .cell rest s := by
  simp [opFrameTransmitted, h]

theorem opFrameTransmitted_plant {f : Frame} {rest : List Frame} (h : s.plantPort.queue = f :: rest) :
    opFrameTransmitted .plant s = unloadTest (dequeue .plant rest s) := by
  simp [opFrameTransmitted, h]

/-- With no entry there is nothing to unload (R166). -/
theorem unloadTest_of_nil (h : s.coalescer.entries = []) : unloadTest s = s := by
  have honce : ∀ n, unloadLoop n s = s := fun n => by
    cases n <;> simp [unloadLoop, unloadOnce, State.unloadCalled, h]
  exact honce _

/-- An UP port's silence timer: due at the silence time, not before (R171). -/
theorem silenceDue_up {p : Port} {g : Word} (h : (s.port p).state = .up g) : s.silenceDue p = decide (s.tables.silence p ≤ s.since g) := by
  simp [State.silenceDue, h]

theorem silenceDue_down {p : Port} (h : (s.port p).state = .down) : s.silenceDue p = false := by
  simp [State.silenceDue, h]

/-- A port that becomes DOWN, before the plant port sets LINK. -/
def droppedPort (p : Port) (s : State) : State := raisePlain (downSource p) (bump (.portDown p) (s.setPortState p .down))

end Sys2Proof.Machine

namespace Sys2Proof.Proofs

open Sys2Proof.Machine

/-- Settles O2. The queue is a permutation of a sublist of the 68 expiries there are, each listed under its own condition. -/
theorem tickQueuesExpiries : Obligations.TickQueuesExpiries := by
  unfold Obligations.TickQueuesExpiries
  intro s hempty
  have hstep : step s = .next (tick s) := by unfold step; rw [hempty]
  have hperm : (tick s).pending.Perm (expiriesDue s.nextMs) := orderDue_perm _ _
  have hmem : ∀ i, i ∈ (tick s).pending ↔ i ∈ expiriesDue s.nextMs := fun i => hperm.mem_iff
  refine ⟨tick s, hstep, rfl, ?rest, hperm, hperm.nodup_iff.mpr (expiriesDue_nodup _), ?_⟩
  case rest =>
    rw [← hempty]
    rfl
  simp only [hmem, ← expiriesDue_tick]
  generalize tick s = t
  simp only [expiriesDue, List.mem_append, mem_dueSilence, mem_dueUrgent, mem_dueExpiry, mem_dueOverride, mem_dueGate, mem_dueStart,
    mem_dueIdle, mem_dueDrums, mem_dueHold, mem_dueCoalesce]
  refine ⟨fun p => ?_, ?_, ?_, ?_, ?_, ?_, ?_, ?_, ?_, ?_, ?_, ?_⟩
  · cases p <;> simp
  all_goals simp
/-- Settles O4. -/
theorem resetValues : Obligations.ResetValues := by
  unfold Obligations.ResetValues
  intro s c hc
  obtain ⟨n, m, d, hexec, ⟨hcaptured, hmajor, hminor⟩, hkept⟩ := exec_reset hc s
  refine ⟨_, hexec, rfl, rfl, rfl, rfl, rfl, rfl, rfl, ?lots, ?requests, rfl, rfl, rfl, rfl, rfl, rfl, rfl, rfl, rfl, rfl, rfl, rfl, rfl, rfl,
    rfl, rfl, rfl, rfl, rfl, ?drums, rfl, rfl, rfl, ?allotments, rfl, rfl, rfl, rfl, ?waiting, ?router, hcaptured, hmajor, hminor, rfl,
    ?counters, ⟨rfl, rfl⟩, rfl, hkept⟩
  case lots => simp [State.reset]
  case requests => simp [State.reset, State.request]
  case drums => simp [State.reset, State.drum]
  case allotments => simp [State.reset]
  case waiting => simp [State.reset]
  case router => simp [State.reset]
  case counters => simp [State.reset, State.counter]

/-- Settles O5. -/
theorem causeFlags : Obligations.CauseFlags := by
  unfold Obligations.CauseFlags
  refine ⟨fun s => ⟨_, rfl, rfl⟩, fun s => ⟨_, rfl, rfl⟩, fun r s hready hidle => ⟨_, rfl, ?restart⟩,
    fun ack s => ⟨_, rfl, opReloadComplete_causes ack s⟩, fun r s hready ha => ⟨_, rfl, ?clear⟩, fun r s hready => ⟨_, rfl, ?read⟩⟩
  case restart =>
    rw [opRestartLine, serve_served hready.1 hready.2.1 (by rw [hidle]; rfl), finishRequest_causes, restartBody_causes r hidle]
  case clear =>
    obtain ⟨-, -, hsettled, -⟩ := id hready
    have hbody : clearCausesBody s = ((clearCausesBody s).1, .now .ok []) := rfl
    rw [opClearCauses, serve_ready hready ha hbody (hsettled.congr rfl rfl) rfl]
    obtain ⟨a, b, k, hform⟩ := countServed_enqueue_form .ok r.port (s.replyFrame r 15 .ok []) (clearCausesBody s).1
    refine ⟨?_, answered_countServed (onlyGrew_same rfl) rfl rfl (by simp) (by simp), ?_, ?_, ?_, ?_⟩
    all_goals rw [hform]; rfl
  case read => exact serveAlways_onlyAnswered hready rfl

/-- Settles O15. -/
theorem portsAndQueues : Obligations.PortsAndQueues := by
  unfold Obligations.PortsAndQueues
  refine ⟨⟨fun p s hnone => ?_, fun s f rest hq => ?_, fun s f rest hq => ?_⟩, fun p s g hup => ⟨fun hdue => ?_, fun hearly hs => ?_⟩,
    fun p s hdown hs => ?_⟩
  · rw [exec_frameTransmitted, opFrameTransmitted_empty hnone]
  · rw [exec_frameTransmitted, opFrameTransmitted_cell hq]
    exact ⟨_, rfl, rfl, onlyGrew_bump _ rfl, rfl⟩
  · rw [exec_frameTransmitted, opFrameTransmitted_plant hq]
    exact ⟨_, rfl, rfl, onlyGrew_bump _ rfl, rfl, fun hnone => unloadTest_of_nil hnone⟩
  · refine ⟨droppedPort p s, ?_, ?_, ?_, ?_, ?_, ?_⟩
    · rw [exec_silenceTimeout, opSilenceTimeout, silenceDue_up hup, if_pos (by simpa using hdue)]
      cases p <;> rfl
    · cases p <;> rfl
    · cases p <;> rfl
    · exact (onlyGrew_bump _ (by cases p <;> rfl)).same rfl
    · cases p <;> rfl
    · cases p <;> rfl
  · rw [exec_silenceTimeout, opSilenceTimeout, silenceDue_up hup, if_neg (by simpa using hearly), complete_of_settled hs]
  · rw [exec_silenceTimeout, opSilenceTimeout, silenceDue_down hdown, if_neg (by simp), complete_of_settled hs]

end Sys2Proof.Proofs
end

section
/-! SUPPORT. Table writes: what is refused in its place, and what a taken entry leaves (R187, R189), with the writes that change nothing but their
entry. -/

namespace Sys2Proof.Machine

variable {s t : State} {r : Req} {n : Nat} {row : Instr} {body : Fin n → State → Option (State × Status)}

/-! ### The checks of R189 in their order -/

theorem asIndex_of_val {k x : Nat} {i : Fin k} (h : i.val = x) : asIndex k x = some i := by
  subst h
  exact dif_pos i.isLt

theorem writeTable_some {i : Fin n} {st : Status} (hi : asIndex n r.index.toNat = some i) (h : s.activity = .idle)
    (hbody : body i s = some (t, st)) : writeTable n r body s = (t, .now st []) := by
  simp [writeTable, hi, h, hbody]

/-! ### Writes of any table -/

theorem write_inUse {i : Fin n} (hready : s.readyFor r) (h : s.activity = .idle) (hi : i.val = r.index.toNat)
    (hexec : exec row s = .next (serveAlways writeCode r (writeTable n r body) s)) (hbody : body i s = some (s, .inUse)) :
    ∃ t, exec row s = .next t ∧ s.onlyAnswered t r 3 .inUse [] :=
  ⟨_, hexec, serveAlways_onlyAnswered hready (writeTable_some (asIndex_of_val hi) h hbody)⟩

/-- A write that only replaces its entry: the tables are the new ones, the reply is placed, and nothing else changes. -/
theorem write_plain {i : Fin n} {new : Tables} (hready : s.readyFor r) (h : s.activity = .idle) (hi : i.val = r.index.toNat)
    (hexec : exec row s = .next (serveAlways writeCode r (writeTable n r body) s)) (hbody : body i s = some (s.setTables new, .ok)) :
    ∃ t, exec row s = .next t ∧ t.tables = new ∧ s.answered t r 3 .ok [] [] ∧
      { t with tables := s.tables, cellPort := s.cellPort, plantPort := s.plantPort, counters := s.counters } = s := by
  obtain ⟨-, -, hsettled, -⟩ := id hready
  refine ⟨_, hexec, ?_⟩
  rw [serveAlways_ready hready (writeTable_some (asIndex_of_val hi) h hbody) (hsettled.congr rfl rfl) rfl]
  obtain ⟨a, b, k, hform⟩ := countServed_enqueue_form .ok r.port (s.replyFrame r writeCode .ok []) (s.setTables new)
  refine ⟨?_, answered_countServed (onlyGrew_same rfl) rfl rfl (by simp) (by simp), ?_⟩
  · rw [hform]
    rfl
  · rw [hform]
    rfl

/-! ### The checks of a CELL entry against the table and the cell (R44) -/

theorem nodeTaken_iff {i : CellNo} {node : Byte} :
    s.nodeTaken i node = true ↔ ∃ j : CellNo, j ≠ i ∧ node ≠ 0 ∧ s.tables.cell[j].node = node := by
  simp [State.nodeTaken, cellList, and_assoc]

theorem cellInUse_iff {c : CellNo} : s.cellInUse c = true ↔ ¬(s.request c = none ∧ s.loadingLot c = none) := by
  simp [State.cellInUse, Option.isSome_iff_ne_none, -ne_eq]
  tauto

/-! ### The end test of an ACTION entry -/

/-- A part in OPERATING with the default tables. -/
def operatingReset : State := { State.reset with mode := .operating }

/-- A request of the plant port for entry 0 of a table. -/
def firstEntryRequest : Req := { port := .plant, node := 200, tag := 7, selector := 9, index := 0, count := 0 }

/-- An ACTION entry whose fields are all in their ranges but for the end test, 3. -/
def strayEndTest : RawAction :=
  { target := 0, modeA := 1, setpointA := 300, holdA := 1000, presentB := 0, modeB := 0, setpointB := 0, holdB := 0, repeats := 1,
    endTest := 3, link := 255, notifyAtEnd := 0 }

theorem checkAction_strayEndTest :
    checkAction strayEndTest = some { target := .belt, stepA := { mode := .run, setpoint := 300, hold := 1000 },
                                      stepB := .absent 1 0 0, repeats := 1, endTest := .none, link := none, notifyAtEnd := false } := by
  decide

theorem operatingReset_ready : operatingReset.readyFor firstEntryRequest := ⟨rfl, rfl, ⟨rfl, rfl⟩, by decide⟩

/-- The write of the stray end test is taken and answered OK. -/
theorem strayEndTest_taken : ∃ t, exec (.writeAction firstEntryRequest strayEndTest) operatingReset = .next t ∧
    operatingReset.answered t firstEntryRequest 3 .ok [] [] := by
  obtain ⟨t, hexec, -, hok, -⟩ := write_plain (n := 32) (i := 0) operatingReset_ready rfl rfl
    (exec_writeAction firstEntryRequest strayEndTest operatingReset) (by rw [bodyAction, checkAction_strayEndTest]; rfl)
  exact ⟨t, hexec, hok⟩

end Sys2Proof.Machine

namespace Sys2Proof.Proofs

open Sys2Proof.Machine

/-- Settles O47. -/
theorem writeEntryIsItsTable : Obligations.WriteEntryIsItsTable := by
  unfold Obligations.WriteEntryIsItsTable
  refine fun r l s => ⟨fun k row hrow hk => ?_, fun hsel hready => ?_, fun i hsel hindex hready hidle v hv => ?_⟩
  · have hsel : r.selector.toNat = k % 256 := by rw [hk, BitVec.toNat_ofNat]
    simp only [List.mem_cons, List.not_mem_nil, or_false, Prod.mk.injEq] at hrow
    rw [exec_writeEntry, opWriteEntry, hsel]
    rcases hrow with ⟨rfl, rfl⟩ | ⟨rfl, rfl⟩ | ⟨rfl, rfl⟩ | ⟨rfl, rfl⟩ | ⟨rfl, rfl⟩ | ⟨rfl, rfl⟩ | ⟨rfl, rfl⟩ | ⟨rfl, rfl⟩ | ⟨rfl, rfl⟩ |
      ⟨rfl, rfl⟩ | ⟨rfl, rfl⟩ | ⟨rfl, rfl⟩ | ⟨rfl, rfl⟩ | ⟨rfl, rfl⟩
    all_goals rfl
  · have hunknown : opWriteEntry r l s = serveAlways writeCode r (readOnly fun _ => .now .badTable []) s := by
      unfold opWriteEntry
      split
      case h_15 => rfl
      all_goals omega
    refine ⟨_, exec_writeEntry r l s, ?_⟩
    rw [hunknown]
    exact serveAlways_onlyAnswered hready rfl
  · have hi : i.val = r.index.toNat := by
      rw [hindex, BitVec.toNat_ofNat]
      omega
    exact write_plain hready hidle hi (by rw [exec_writeEntry, opWriteEntry, hsel]; rfl) (by rw [bodyClassify, hv]; rfl)

/-- Settles O48. -/
theorem plainWrites : Obligations.PlainWrites := by
  unfold Obligations.PlainWrites
  refine fun r s hready hidle => ⟨fun i e v hi hv => ?_, fun i e v hi hv hnodes => ⟨fun hallowed => ?_, fun huse hchange => ?_⟩,
    fun e hindex henc hbelt hcrusher hgate hskid => ?_, fun i e v hi hv => ?_, fun i e v hi hv => ?_, fun e v hindex hv => ?_⟩
  · exact write_plain hready hidle hi (exec_writeClassify r e s) (by rw [bodyClassify, hv]; rfl)
  · refine write_plain hready hidle hi (exec_writeCell r e s) ?_
    have hfree : s.nodeTaken i v.node = false := by
      refine Bool.eq_false_iff.mpr fun ht => ?_
      obtain ⟨j, hj, hz, he⟩ := nodeTaken_iff.mp ht
      exact hnodes j hj hz he
    have hnot : ¬(s.cellInUse i = true ∧ (v.dropPoint ≠ s.tables.cell[i].dropPoint ∨ v.node ≠ s.tables.cell[i].node ∨
        (s.tables.cell[i].enrolled = true ∧ v.enrolled = false))) := by
      rw [cellInUse_iff]
      rintro ⟨huse, hchange⟩
      obtain hidleCell | ⟨hdrop, hnode, henrolled⟩ := hallowed
      · exact huse hidleCell
      · rcases hchange with h | h | ⟨hold, hnew⟩
        · exact h hdrop
        · exact h hnode
        · exact Bool.false_ne_true (hnew.symm.trans (henrolled hold))
    rw [bodyCell, hv, Option.bind_some, hfree, if_neg (by simp), if_neg hnot]
    rfl
  · refine write_inUse hready hidle hi (exec_writeCell r e s) ?_
    have hfree : s.nodeTaken i v.node = false := by
      refine Bool.eq_false_iff.mpr fun ht => ?_
      obtain ⟨j, hj, hz, he⟩ := nodeTaken_iff.mp ht
      exact hnodes j hj hz he
    rw [bodyCell, hv, Option.bind_some, hfree, if_neg (by simp), if_pos ⟨cellInUse_iff.mpr huse, hchange⟩]
  · refine write_plain (i := 0) hready hidle (by simp [hindex]) (exec_writePlant r e s) ?_
    rw [bodyPlant, checkPlant, if_neg (fun h => by rcases h with h | h | h | h | h <;> contradiction)]
    rfl
  · exact write_plain hready hidle hi (exec_writeAction r e s) (by rw [bodyAction, hv]; rfl)
  · exact write_plain hready hidle hi (exec_writeEventroute r e s) (by rw [bodyEventroute, hv]; rfl)
  · exact write_plain (i := 0) hready hidle (by simp [hindex]) (exec_writeNode r e s) (by rw [bodyNode, hv]; rfl)

/-- Refutes O14: an ACTION entry with end test 3 is not answered BAD_VALUE but taken and answered OK, since the default case of
`EndTest.ofCode` gives the end test NONE instead of refusing the byte. -/
theorem not_requestsRefusedInPlace : ¬ Obligations.RequestsRefusedInPlace := by
  unfold Obligations.RequestsRefusedInPlace
  rintro ⟨-, hidle⟩
  obtain ⟨-, -, -, -, -, -, -, -, hvalues⟩ := hidle firstEntryRequest operatingReset operatingReset_ready rfl
  have hstray : 2 < strayEndTest.endTest.toNat := by decide
  obtain ⟨t, hexec, ⟨hrefused, -⟩, -⟩ := hvalues rfl (.writeAction firstEntryRequest strayEndTest) (by simp [hstray])
  obtain ⟨u, hexec', htaken, -⟩ := strayEndTest_taken
  obtain rfl : t = u := by simpa [hexec] using hexec'
  have hframes := List.append_cancel_left (hrefused.symm.trans htaken)
  exact absurd hframes (by decide)

end Sys2Proof.Proofs
end

section
/-! SUPPORT. The image (R184, R192): the bytes of an entry in its ranges give the entry back, a field's bytes stand at their own places, and the check word
makes the words sum to 0. -/

namespace Sys2Proof.Machine

variable {l : List Byte}

/-! ### Fields -/

theorem half_of_byte2 (n : Nat) :
    BitVec.ofNat 16 ((BitVec.ofNat 8 (n / 256)).toNat * 256 + (BitVec.ofNat 8 n).toNat) = BitVec.ofNat 16 n := by
  apply BitVec.eq_of_toNat_eq
  simp only [BitVec.toNat_ofNat]
  omega

theorem word_of_byte4 (n : Nat) :
    BitVec.ofNat 32 ((BitVec.ofNat 16 ((BitVec.ofNat 8 (n / 16777216)).toNat * 256 + (BitVec.ofNat 8 (n / 65536)).toNat)).toNat * 65536 +
      (BitVec.ofNat 16 ((BitVec.ofNat 8 (n / 256)).toNat * 256 + (BitVec.ofNat 8 n).toNat)).toNat) = BitVec.ofNat 32 n := by
  apply BitVec.eq_of_toNat_eq
  simp only [BitVec.toNat_ofNat]
  omega

theorem toNat_byte {n : Nat} (h : n < 256) : (BitVec.ofNat 8 n).toNat = n := by simp [Nat.mod_eq_of_lt h]

theorem toNat_half {n : Nat} (h : n < 65536) : (BitVec.ofNat 16 n).toNat = n := by simp [Nat.mod_eq_of_lt h]

theorem toNat_word {n : Nat} (h : n < 4294967296) : (BitVec.ofNat 32 n).toNat = n := by simp [Nat.mod_eq_of_lt h]

theorem half_ne_zero {n : Nat} (h : n < 65536) (hpos : 1 ≤ n) : BitVec.ofNat 16 n ≠ 0 := fun e => by
  have := toNat_half h
  rw [e] at this
  simp at this
  omega

theorem asFlag_flag (b : Bool) : asFlag (if b then 1 else 0) = some b := by cases b <;> rfl

theorem Arrival.ofCode_code (a : Arrival) : Arrival.ofCode (BitVec.ofNat 8 a.code) = some a := by cases a <;> rfl

theorem Action.ofCode_code (a : Action) : Action.ofCode (BitVec.ofNat 8 a.code) = some a := by cases a <;> rfl

theorem EndTest.ofCode_code (e : EndTest) : EndTest.ofCode (BitVec.ofNat 8 e.code) = some e := by cases e <;> rfl

theorem Mode.ofCode_code (m : Mode) : Mode.ofCode (BitVec.ofNat 8 m.code) = some m := by cases m <;> rfl

theorem Target.ofCode_code (t : Target) : Target.ofCode (BitVec.ofNat 8 t.code) = some t := by
  cases t with
  | belt | crusher | gate => rfl
  | drum d => fin_cases d <;> rfl

theorem asOptional_absentOr {n : Nat} (hn : n ≤ 255) (o : Option (Fin n)) : asOptional n (BitVec.ofNat 8 (absentOr o)) = some o := by
  cases o with
  | none => rfl
  | some i =>
    have hlt : i.val < 255 := Nat.lt_of_lt_of_le i.isLt hn
    have hval : (BitVec.ofNat 8 i.val).toNat = i.val := toNat_byte (by omega)
    have hne : BitVec.ofNat 8 i.val ≠ 255 := fun e => by
      rw [e] at hval
      have : (255 : Byte).toNat = 255 := rfl
      omega
    rw [asOptional, absentOr, if_neg hne, hval, asIndex_of_val rfl]
    rfl

/-! ### Entries -/

theorem checkClassify_bytes {e : ClassifyEntry} (h : e.inRange) (l : List Byte) : checkClassify (RawClassify.ofBytes (e.bytes ++ l)) = some e := by
  have hraw : RawClassify.ofBytes (e.bytes ++ l) =
      { valid := if e.valid then 1 else 0, arrival := BitVec.ofNat 8 e.arrival.code, kindAny := if e.kindAny then 1 else 0, kind := e.kind,
        sourceAny := if e.sourceAny then 1 else 0, source := e.source, destAny := if e.destAny then 1 else 0, dest := e.dest,
        action := BitVec.ofNat 8 e.action.code } := rfl
  have hclamp : ¬(e.action = .clamp ∧ (e.kindAny = true ∨ e.kind ≠ 0x28)) := by
    rintro ⟨haction, hkind⟩
    obtain ⟨hany, hkey⟩ := h haction
    simp [hany, hkey] at hkind
  simp only [checkClassify, hraw, asFlag_flag, Arrival.ofCode_code, Action.ofCode_code, Option.bind_eq_bind, Option.bind_some, if_neg hclamp]

theorem checkCell_bytes {p : Nat} {e : CellEntry} (h : e.inRange p) (hp : p ≤ 256) (l : List Byte) :
    checkCell p (RawCell.ofBytes (e.bytes ++ l)) = some e := by
  obtain ⟨hlow, hhigh, hnode, hzero, hshare⟩ := h
  have hraw : RawCell.ofBytes (e.bytes ++ l) =
      { node := e.node, enrolled := if e.enrolled then 1 else 0, dropPoint := BitVec.ofNat 8 e.dropPoint, share := BitVec.ofNat 8 e.share } := rfl
  have hdrop : ¬(e.dropPoint < 17 ∨ e.dropPoint + 1 > p) := by omega
  have henrolled : ¬(e.enrolled = true ∧ e.node = 0) := fun ⟨he, hz⟩ => hzero he hz
  simp only [checkCell, hraw, asFlag_flag, Option.bind_eq_bind, Option.bind_some, toNat_byte (show e.dropPoint < 256 by omega),
    toNat_byte (show e.share < 256 by omega), if_neg hdrop, if_neg hnode, if_neg henrolled]

theorem checkClass_bytes {e : ClassEntry} (h : e.inRange) (l : List Byte) : checkClass (RawClass.ofBytes (e.bytes ++ l)) = some e := by
  have hfines : e.fines ≤ 1023 := h
  have hraw : RawClass.ofBytes (e.bytes ++ l) =
      { enabled := if e.enabled then 1 else 0, route := BitVec.ofNat 8 e.route.val, mode := BitVec.ofNat 8 e.mode.code,
        fines := BitVec.ofNat 16 ((BitVec.ofNat 8 (e.fines / 256)).toNat * 256 + (BitVec.ofNat 8 e.fines).toNat) } := rfl
  have hmode : asFlag (BitVec.ofNat 8 e.mode.code) = some (decide (e.mode = .crush)) := by cases e.mode <;> rfl
  have hcrush : (if decide (e.mode = .crush) = true then CrushMode.crush else .bypass) = e.mode := by cases e.mode <;> rfl
  rw [half_of_byte2] at hraw
  simp only [checkClass, hraw, asFlag_flag, hmode, Option.bind_eq_bind, Option.bind_some, toNat_byte (show e.route.val < 256 by omega),
    asIndex_of_val rfl, toNat_half (show e.fines < 65536 by omega), if_neg (show ¬ e.fines > 1023 by omega), hcrush]

theorem checkPlant_bytes {e : PlantEntry} (h : e.inRange) (l : List Byte) : checkPlant (RawPlant.ofBytes (e.bytes ++ l)) = some e := by
  obtain ⟨hencoder, hbelt, hcrusher, hgate, hskid⟩ := h
  exact if_neg (fun hany => by rcases hany with h | h | h | h | h <;> contradiction)

theorem checkBelt_bytes {e : BeltEntry} (h : e.inRange) (l : List Byte) : checkBelt (RawBelt.ofBytes (e.bytes ++ l)) = some e := by
  obtain ⟨h1, h2, h3, h4, h5, h6, h7, h8, h9, h10, h11⟩ := h
  have hraw : RawBelt.ofBytes (e.bytes ++ l) =
      { length := BitVec.ofNat 16 e.length, cpp := BitVec.ofNat 16 e.cpp, mpa := BitVec.ofNat 16 e.mpa, gap := BitVec.ofNat 8 e.gap,
        ageLimit := BitVec.ofNat 8 e.ageLimit, threshold := BitVec.ofNat 8 e.threshold,
        priority := BitVec.ofNat 8 (absentOr e.priority) } := by
    rw [← half_of_byte2 e.length, ← half_of_byte2 e.cpp, ← half_of_byte2 e.mpa]
    rfl
  have hpriority : ¬((BitVec.ofNat 8 (absentOr e.priority)).toNat > 23 ∧ (BitVec.ofNat 8 (absentOr e.priority)).toNat < 255) ∧
      asIndex 24 (BitVec.ofNat 8 (absentOr e.priority)).toNat = e.priority := by
    cases hp : e.priority with
    | none => exact ⟨by decide, rfl⟩
    | some c =>
      have hval : (BitVec.ofNat 8 c.val).toNat = c.val := toNat_byte (by omega)
      rw [absentOr, hval]
      exact ⟨by omega, asIndex_of_val rfl⟩
  have hrange : ¬(e.length < 32 ∨ e.length > 256 ∨ e.cpp < 16 ∨ e.cpp > 4095 ∨ BitVec.ofNat 16 e.mpa = 0 ∨ e.gap < 1 ∨ e.gap > 15 ∨
      e.ageLimit < 1 ∨ e.ageLimit > 120 ∨ e.threshold > 120 ∨
      ((BitVec.ofNat 8 (absentOr e.priority)).toNat > 23 ∧ (BitVec.ofNat 8 (absentOr e.priority)).toNat < 255)) := by
    have hmpa := half_ne_zero (n := e.mpa) (by omega) h5
    have hpri := hpriority.1
    simp only [hmpa, hpri, false_or, or_false]
    omega
  simp only [checkBelt, hraw, toNat_half (show e.length < 65536 by omega), toNat_half (show e.cpp < 65536 by omega),
    toNat_half (show e.mpa < 65536 by omega), toNat_byte (show e.gap < 256 by omega), toNat_byte (show e.ageLimit < 256 by omega),
    toNat_byte (show e.threshold < 256 by omega), hpriority.2, if_neg hrange]

theorem takenProfile_bytes {e : ProfileEntry} (h : e.inRange) (l : List Byte) : takenProfile (RawProfile.ofBytes (e.bytes ++ l)) = e := by
  obtain ⟨hprimary, hoverriding⟩ := h
  have hraw : RawProfile.ofBytes (e.bytes ++ l) = { primary := BitVec.ofNat 16 e.primary, overriding := BitVec.ofNat 16 e.overriding } := by
    rw [← half_of_byte2 e.primary, ← half_of_byte2 e.overriding]
    rfl
  simp only [takenProfile, hraw, toNat_half (show e.primary < 65536 by omega), toNat_half (show e.overriding < 65536 by omega),
    Nat.min_eq_left hprimary, Nat.min_eq_left hoverriding]

theorem checkCrusherImage_bytes {e : CrusherEntry} (h : e.inRange) (l : List Byte) :
    checkCrusherImage (RawCrusher.ofBytes (e.bytes ++ l)) = some e := by
  obtain ⟨hdelay, hspeed, h1, h2, h3, h4, h5, h6, h7, h8, h9, h10, h11, h12⟩ := h
  have hraw : RawCrusher.ofBytes (e.bytes ++ l) =
      { startMode := BitVec.ofNat 8 e.startMode.code, startDelay := BitVec.ofNat 16 e.startDelay, speed := BitVec.ofNat 8 e.speed,
        jamThreshold := BitVec.ofNat 16 e.jamThreshold, jamCount := BitVec.ofNat 8 e.jamCount, clearLevel := BitVec.ofNat 16 e.clearLevel,
        idle := BitVec.ofNat 16 e.idle, window := BitVec.ofNat 8 e.window, margin := BitVec.ofNat 8 e.margin,
        limit := BitVec.ofNat 16 e.limit } := by
    rw [← half_of_byte2 e.startDelay, ← half_of_byte2 e.jamThreshold, ← half_of_byte2 e.clearLevel, ← half_of_byte2 e.idle,
      ← half_of_byte2 e.limit]
    rfl
  have hmode : asFlag (BitVec.ofNat 8 e.startMode.code) = some (decide (e.startMode = .delay)) := by cases e.startMode <;> rfl
  have hstart : (if decide (e.startMode = .delay) = true then StartMode.delay else .confirm) = e.startMode := by cases e.startMode <;> rfl
  have hstops : ¬(BitVec.ofNat 16 e.startDelay ≠ 128 ∧ BitVec.ofNat 16 e.startDelay ≠ 256 ∧ BitVec.ofNat 16 e.startDelay ≠ 512) := by
    rcases hdelay with h | h | h <;> simp [h]
  have hrange : ¬(BitVec.ofNat 16 e.jamThreshold = 0 ∨ e.jamCount < 1 ∨ e.jamCount > 15 ∨ e.idle > 600 ∨ e.window < 1 ∨
      e.window > 32 ∨ e.margin < 1 ∨ e.margin > 15 ∨ BitVec.ofNat 16 e.limit = 0 ∨ e.margin > e.window) := by
    have hjam := half_ne_zero (n := e.jamThreshold) (by omega) h1
    have hlimit := half_ne_zero (n := e.limit) (by omega) h11
    simp only [hjam, hlimit, false_or]
    omega
  have hdelayLt : e.startDelay < 65536 := by omega
  simp only [checkCrusherImage, checkCrusher, hraw, toNat_byte (show e.speed < 256 by omega), if_neg (show ¬ 100 < e.speed by omega), hmode,
    Option.bind_eq_bind, Option.bind_some, if_neg hstops, toNat_half hdelayLt, toNat_half (show e.jamThreshold < 65536 by omega),
    toNat_byte (show e.jamCount < 256 by omega), toNat_half (show e.clearLevel < 65536 by omega),
    toNat_half (show e.idle < 65536 by omega), toNat_byte (show e.window < 256 by omega), toNat_byte (show e.margin < 256 by omega),
    toNat_half (show e.limit < 65536 by omega), if_neg hrange, hstart, Nat.min_eq_left hspeed]

theorem checkDrum_bytes {e : DrumEntry} (h : e.inRange) (l : List Byte) : checkDrum (RawDrum.ofBytes (e.bytes ++ l)) = some e := by
  obtain ⟨h1, h2, h3, h4, h5, h6, h7, h8, h9⟩ := h
  have hraw : RawDrum.ofBytes (e.bytes ++ l) =
      { enabled := if e.enabled then 1 else 0, flow := BitVec.ofNat 16 e.flow, dpLimit := BitVec.ofNat 16 e.dpLimit,
        threshold := BitVec.ofNat 32 e.threshold, flush := BitVec.ofNat 8 e.flush, settle := BitVec.ofNat 8 e.settle } := by
    rw [← half_of_byte2 e.flow, ← half_of_byte2 e.dpLimit, ← word_of_byte4 e.threshold]
    rfl
  have hthreshold : BitVec.ofNat 32 e.threshold ≠ 0 := fun hz => by
    have hval : (BitVec.ofNat 32 e.threshold).toNat = e.threshold := toNat_word (by omega)
    rw [hz] at hval
    simp at hval
    omega
  have hrange : ¬(e.flow > 4000 ∨ BitVec.ofNat 16 e.dpLimit = 0 ∨ BitVec.ofNat 32 e.threshold = 0 ∨ e.threshold > 16777215 ∨
      e.flush < 1 ∨ e.flush > 120 ∨ e.settle < 1 ∨ e.settle > 120) := by
    have hdp := half_ne_zero (n := e.dpLimit) (by omega) h2
    simp only [hdp, hthreshold, false_or]
    omega
  simp only [checkDrum, hraw, asFlag_flag, Option.bind_eq_bind, Option.bind_some, toNat_half (show e.flow < 65536 by omega),
    toNat_half (show e.dpLimit < 65536 by omega), toNat_word (show e.threshold < 4294967296 by omega),
    toNat_byte (show e.flush < 256 by omega), toNat_byte (show e.settle < 256 by omega), if_neg hrange]

theorem checkFilter_bytes {e : FilterEntry} (h : e.inRange) (l : List Byte) : checkFilter (RawFilter.ofBytes (e.bytes ++ l)) = some e := by
  obtain ⟨h1, h2, h3⟩ := h
  have hraw : RawFilter.ofBytes (e.bytes ++ l) = { minOnline := BitVec.ofNat 8 e.minOnline, waitLimit := BitVec.ofNat 16 e.waitLimit } := by
    rw [← half_of_byte2 e.waitLimit]
    rfl
  simp only [checkFilter, hraw, toNat_byte (show e.minOnline < 256 by omega), toNat_half (show e.waitLimit < 65536 by omega),
    if_neg (show ¬(e.minOnline > 3 ∨ e.waitLimit < 10 ∨ e.waitLimit > 600) by omega)]

/-- A step in its ranges passes its checks and is stored as it is (R138). -/
theorem checkStep_inRange_bytes {t : Target} {st : StepEntry} (h : st.inRange t) :
    checkStep t (BitVec.ofNat 8 st.mode.code) (BitVec.ofNat 16 st.setpoint) (BitVec.ofNat 16 st.hold) = some st := by
  obtain ⟨hpos, hlong, htarget⟩ := h
  have hhold : ¬(BitVec.ofNat 16 st.hold = 0 ∨ st.hold > 60000) := by
    have hzero := half_ne_zero (n := st.hold) (by omega) hpos
    simp only [hzero, false_or]
    omega
  have hfields : st.setpoint < 65536 ∧ stepMode t (BitVec.ofNat 8 st.mode.code) = some st.mode ∧ ¬(t = .gate ∧ st.setpoint > 7) ∧
      stepSetpoint t st.setpoint = st.setpoint := by
    cases t with
    | belt =>
      obtain ⟨hmode, hsetpoint⟩ := htarget
      exact ⟨by omega, by rw [hmode]; rfl, by simp, Nat.min_eq_left hsetpoint⟩
    | crusher =>
      obtain ⟨hmode, hsetpoint⟩ := htarget
      exact ⟨by omega, by rw [stepMode, Mode.ofCode_code, Option.filter_some, if_pos (by simpa using hmode)], by simp, Nat.min_eq_left hsetpoint⟩
    | gate =>
      obtain ⟨hmode, hsetpoint⟩ := htarget
      exact ⟨by omega, by rw [hmode]; rfl, by omega, rfl⟩
    | drum d =>
      obtain ⟨hmode, hsetpoint⟩ := htarget
      exact ⟨by omega, by rw [stepMode, Mode.ofCode_code, Option.filter_some, if_pos (by simpa using hmode)], by simp, hsetpoint.symm⟩
  obtain ⟨hlt, hmode, hgate, hsame⟩ := hfields
  simp only [checkStep, hmode, Option.bind_eq_bind, Option.bind_some, toNat_half hlt, toNat_half (show st.hold < 65536 by omega), hsame,
    if_neg hgate, if_neg hhold]

/-- An absent step B in the form its target stores is stored as it is. -/
theorem absentStep_inRange_self {t : Target} {m : Byte} {setpoint hold : Half} (h : (StepB.absent m setpoint hold).inRange t) :
    absentStep t m setpoint hold = .absent m setpoint hold := by
  cases t with
  | belt =>
    obtain ⟨rfl, hsetpoint⟩ := h
    simp [absentStep, stepSetpoint, Nat.min_eq_left hsetpoint]
  | crusher =>
    have hsetpoint : setpoint.toNat ≤ 100 := h
    simp [absentStep, stepSetpoint, Nat.min_eq_left hsetpoint]
  | gate => simp [absentStep, stepSetpoint]
  | drum d =>
    obtain rfl : setpoint = 0 := h
    rfl

theorem checkAction_bytes {e : Descriptor} (h : e.inRange) (l : List Byte) : checkAction (RawAction.ofBytes (e.bytes ++ l)) = some e := by
  obtain ⟨hstepA, hstepB, hend⟩ := h
  have hdp : ¬(e.endTest = .dpLow ∧ e.target.isDrum = false) := fun ⟨hlow, hdrum⟩ => by
    obtain ⟨d, hd⟩ := hend hlow
    rw [hd] at hdrum
    cases hdrum
  obtain ⟨target, stepA, stepB, repeats, endTest, link, notify⟩ := e
  cases stepB with
  | present st =>
    have hraw : RawAction.ofBytes (Descriptor.bytes ⟨target, stepA, .present st, repeats, endTest, link, notify⟩ ++ l) =
        { target := BitVec.ofNat 8 target.code, modeA := BitVec.ofNat 8 stepA.mode.code, setpointA := BitVec.ofNat 16 stepA.setpoint,
          holdA := BitVec.ofNat 16 stepA.hold, presentB := 1, modeB := BitVec.ofNat 8 st.mode.code,
          setpointB := BitVec.ofNat 16 st.setpoint, holdB := BitVec.ofNat 16 st.hold, repeats := repeats,
          endTest := BitVec.ofNat 8 endTest.code, link := BitVec.ofNat 8 (absentOr link), notifyAtEnd := if notify then 1 else 0 } := by
      rw [← half_of_byte2 stepA.setpoint, ← half_of_byte2 stepA.hold, ← half_of_byte2 st.setpoint, ← half_of_byte2 st.hold]
      rfl
    simp only [checkAction, hraw, Target.ofCode_code, checkStep_inRange_bytes hstepA, checkStep_inRange_bytes hstepB,
      show asFlag 1 = some true from rfl, EndTest.ofCode_code, asOptional_absentOr (show 32 ≤ 255 by decide), asFlag_flag,
      Option.bind_eq_bind, Option.bind_some, if_true, Option.map_some, if_neg hdp]
  | absent m setpoint hold =>
    have hraw : RawAction.ofBytes (Descriptor.bytes ⟨target, stepA, .absent m setpoint hold, repeats, endTest, link, notify⟩ ++ l) =
        { target := BitVec.ofNat 8 target.code, modeA := BitVec.ofNat 8 stepA.mode.code, setpointA := BitVec.ofNat 16 stepA.setpoint,
          holdA := BitVec.ofNat 16 stepA.hold, presentB := 0, modeB := m,
          setpointB := BitVec.ofNat 16 setpoint.toNat, holdB := BitVec.ofNat 16 hold.toNat, repeats := repeats,
          endTest := BitVec.ofNat 8 endTest.code, link := BitVec.ofNat 8 (absentOr link), notifyAtEnd := if notify then 1 else 0 } := by
      rw [← half_of_byte2 stepA.setpoint, ← half_of_byte2 stepA.hold, ← half_of_byte2 setpoint.toNat, ← half_of_byte2 hold.toNat]
      rfl
    simp only [checkAction, hraw, Target.ofCode_code, checkStep_inRange_bytes hstepA, BitVec.ofNat_toNat, BitVec.setWidth_eq,
      absentStep_inRange_self hstepB, show asFlag 0 = some false from rfl, EndTest.ofCode_code,
      asOptional_absentOr (show 32 ≤ 255 by decide), asFlag_flag, Option.bind_eq_bind, Option.bind_some, Bool.false_eq_true, if_false,
      if_neg hdp]

theorem checkRoute_bytes {e : RouteEntry} (h : e.inRange) (l : List Byte) : checkRoute (RawRoute.ofBytes (e.bytes ++ l)) = some e := by
  have hraw : RawRoute.ofBytes (e.bytes ++ l) =
      { notify := if e.notify then 1 else 0, program := BitVec.ofNat 8 (absentOr e.program), notifyAfter := if e.notifyAfter then 1 else 0,
        urgent := if e.urgent then 1 else 0, overriding := if e.overriding then 1 else 0 } := rfl
  have hafter : ¬(e.notifyAfter = true ∧ (e.notify = false ∨ e.program = none)) := by
    rintro ⟨ha, hcase⟩
    obtain ⟨hnotify, hprogram⟩ := h ha
    simp [hnotify, hprogram] at hcase
  simp only [checkRoute, hraw, asFlag_flag, asOptional_absentOr (show 32 ≤ 255 by decide), Option.bind_eq_bind, Option.bind_some, if_neg hafter]

theorem checkPort_bytes {ms : Nat} (h : 20 ≤ ms ∧ ms ≤ 2000) (l : List Byte) : checkPort (RawPort.ofBytes (byte2 ms ++ l)) = some ms := by
  have hraw : RawPort.ofBytes (byte2 ms ++ l) = { silence := BitVec.ofNat 16 ms } := by
    rw [← half_of_byte2 ms]
    rfl
  simp only [checkPort, hraw, toNat_half (show ms < 65536 by omega), if_neg (show ¬(ms < 20 ∨ ms > 2000) by omega)]

theorem checkCoalesce_bytes {ms : Nat} (h : 1 ≤ ms ∧ ms ≤ 15) (l : List Byte) :
    checkCoalesce (RawCoalesce.ofBytes (byte1 ms ++ l)) = some ms := by
  have hraw : RawCoalesce.ofBytes (byte1 ms ++ l) = { ageLimit := BitVec.ofNat 8 ms } := rfl
  simp only [checkCoalesce, hraw, toNat_byte (show ms < 256 by omega), if_neg (show ¬(ms < 1 ∨ ms > 15) by omega)]

theorem checkNode_bytes {e : NodeEntry} (h : e.inRange) (l : List Byte) : checkNode (RawNode.ofBytes (e.bytes ++ l)) = some e := by
  obtain ⟨hzero, hbroadcast, hsupervisor⟩ := h
  have hraw : RawNode.ofBytes (e.bytes ++ l) =
      { node := e.node, supervisor := e.supervisor, suppressMinor := if e.suppressMinor then 1 else 0,
        cellSide := if e.cellSide then 1 else 0, reload := if e.reload then 1 else 0 } := rfl
  simp only [checkNode, hraw, asFlag_flag, Option.bind_eq_bind, Option.bind_some,
    if_neg (show ¬(e.node = 0 ∨ e.node = 255 ∨ e.supervisor = 255) by tauto)]

end Sys2Proof.Machine
end

section
/-! SUPPORT. The image as a whole (R192) and the save's pages (R195). -/

namespace Sys2Proof.Machine

variable {s t : State}

/-! ### Lengths -/

theorem length_flatMap_const {α β : Type} {f : α → List β} {k : Nat} (hf : ∀ x, (f x).length = k) (l : List α) :
    (l.flatMap f).length = l.length * k := by
  induction l with
  | nil => simp
  | cons x rest ih => simp [ih, hf, Nat.succ_mul, Nat.add_comm]

theorem ClassifyEntry.length_bytes (e : ClassifyEntry) : e.bytes.length = 9 := rfl
theorem CellEntry.length_bytes (e : CellEntry) : e.bytes.length = 4 := rfl
theorem ClassEntry.length_bytes (e : ClassEntry) : e.bytes.length = 5 := rfl
theorem DrumEntry.length_bytes (e : DrumEntry) : e.bytes.length = 11 := rfl
theorem RouteEntry.length_bytes (e : RouteEntry) : e.bytes.length = 5 := rfl
theorem Descriptor.length_bytes (d : Descriptor) : d.bytes.length = 16 := by
  obtain ⟨target, stepA, stepB, repeats, endTest, link, notify⟩ := d
  cases stepB <;> rfl

theorem Tables.length_bytes (tb : Tables) : tb.bytes.length = 1107 := by
  simp only [Tables.bytes, List.length_append, length_flatMap_const ClassifyEntry.length_bytes, length_flatMap_const CellEntry.length_bytes,
    length_flatMap_const ClassEntry.length_bytes, length_flatMap_const DrumEntry.length_bytes, length_flatMap_const RouteEntry.length_bytes,
    length_flatMap_const Descriptor.length_bytes, Vector.length_toList]
  rfl

theorem length_imageBody (tb : Tables) : (imageBody tb).length = 1110 := by
  simp [imageBody, byte2, Tables.length_bytes]

theorem length_imageBytes (tb : Tables) : (imageBytes tb).length = 1112 := by
  simp [imageBytes, length_imageBody, byte2]

/-! ### The check word -/

/-- The word sum of an even number of bytes with one word more. -/
theorem wordSum_append_word (hi lo : Byte) : ∀ {l : List Byte}, l.length % 2 = 0 →
    wordSum (l ++ [hi, lo]) = wordSum l + BitVec.ofNat 16 (hi.toNat * 256 + lo.toNat)
  | [], _ => by simp [wordSum]
  | [a], h => by simp at h
  | a :: b :: rest, h => by
    have hrest : rest.length % 2 = 0 := by
      simp only [List.length_cons] at h
      omega
    rw [List.cons_append, List.cons_append, wordSum, wordSum, wordSum_append_word hi lo hrest, BitVec.add_assoc]

theorem wordSum_imageBytes (tb : Tables) : wordSum (imageBytes tb) = 0 := by
  have heven : (imageBody tb).length % 2 = 0 := by rw [length_imageBody]
  rw [imageBytes, byte2, wordSum_append_word _ _ heven, half_of_byte2, BitVec.ofNat_toNat, BitVec.setWidth_eq]
  simp

/-! ### The sections of the image and their entries -/

/-- The bytes behind the next section. -/
theorem drop_next {l pre rest : List Byte} {a c : Nat} (h : l.drop a = pre ++ rest) (hc : c = a + pre.length) : l.drop c = rest := by
  rw [hc, ← List.drop_drop, h, List.drop_left]

/-- The i-th of a section's entries. -/
theorem piece_flatMap {α : Type} {f : α → List Byte} {k : Nat} (hf : ∀ x, (f x).length = k) (rest : List Byte) :
    ∀ (l : List α) (i : Nat) (hi : i < l.length), piece k (l.flatMap f ++ rest) i = f l[i]
  | x :: xs, 0, _ => by simp [piece, List.take_left' (hf x)]
  | x :: xs, i + 1, hi => by
    have htail := piece_flatMap hf rest xs i (Nat.lt_of_succ_lt_succ hi)
    have hdrop : (f x ++ (xs.flatMap f ++ rest)).drop ((i + 1) * k) = (xs.flatMap f ++ rest).drop (i * k) := by
      rw [Nat.succ_mul, Nat.add_comm, ← List.drop_drop, List.drop_left' (hf x)]
    rw [piece] at htail ⊢
    rw [List.flatMap_cons, List.append_assoc, hdrop, htail]
    rfl

theorem piece_section {α : Type} {f : α → List Byte} {n k : Nat} {l rest : List Byte} {v : Vector α n} (hf : ∀ x, (f x).length = k)
    (hl : l = v.toList.flatMap f ++ rest) (i : Fin n) : piece k l i = f v[i] := by
  rw [hl, piece_flatMap hf rest _ i.val (by simp)]
  simp

/-- A section of valid entries is taken as it is. -/
theorem allValid_some {α : Type} {n : Nat} (fallback : α) {f : Fin n → Option α} {v : Vector α n} (h : ∀ i : Fin n, f i = some v[i]) :
    allValid fallback (Vector.ofFn f) = some v := by
  have hall : (Vector.ofFn f).toList.all Option.isSome = true := by
    simp only [List.all_eq_true, Vector.mem_toList_iff, Vector.mem_ofFn]
    rintro _ ⟨i, rfl⟩
    rw [h i]
    rfl
  have hval : ((Vector.ofFn f).map fun o => o.getD fallback) = v := by
    ext i hi
    have := h ⟨i, hi⟩
    simp only [Fin.getElem_fin] at this
    simp [this]
  rw [allValid, if_pos hall, hval]

/-- The entry bytes of tables in their ranges give the tables back. -/
theorem Tables.ofBytes_bytes {tb : Tables} (h : tb.inRange) : Tables.ofBytes tb.bytes = some tb := by
  obtain ⟨hclassify, hcell, hnodes, hcls, hplant, hbelt, hprofile, hcrusher, hdrum, hfilter, haction, hroute, hsilenceCell, hsilencePlant,
    hage, hnode⟩ := h
  have h0 : tb.bytes = tb.classify.toList.flatMap ClassifyEntry.bytes ++ (tb.cell.toList.flatMap CellEntry.bytes ++
      (tb.cls.toList.flatMap ClassEntry.bytes ++ (tb.plant.bytes ++ (tb.belt.bytes ++ (tb.profile.bytes ++ (tb.crusher.bytes ++
        (tb.drum.toList.flatMap DrumEntry.bytes ++ (tb.filter.bytes ++ (tb.action.toList.flatMap Descriptor.bytes ++
          (tb.route.toList.flatMap RouteEntry.bytes ++ (byte2 tb.silenceCell ++ (byte2 tb.silencePlant ++
            (byte1 tb.coalesceAge ++ (tb.node.bytes ++ [])))))))))))))) := by
    simp only [Tables.bytes, List.append_assoc, List.append_nil]
  have hcell0 := drop_next (l := tb.bytes) (a := 0) (c := 288) h0 (by rw [length_flatMap_const ClassifyEntry.length_bytes, Vector.length_toList])
  have hcls0 := drop_next (c := 384) hcell0 (by rw [length_flatMap_const CellEntry.length_bytes, Vector.length_toList])
  have hplant0 := drop_next (c := 424) hcls0 (by rw [length_flatMap_const ClassEntry.length_bytes, Vector.length_toList])
  have hbelt0 := drop_next (c := 429) hplant0 rfl
  have hprofile0 := drop_next (c := 439) hbelt0 rfl
  have hcrusher0 := drop_next (c := 443) hprofile0 rfl
  have hdrum0 := drop_next (c := 458) hcrusher0 rfl
  have hfilter0 := drop_next (c := 502) hdrum0 (by rw [length_flatMap_const DrumEntry.length_bytes, Vector.length_toList])
  have haction0 := drop_next (c := 505) hfilter0 rfl
  have hroute0 := drop_next (c := 1017) haction0 (by rw [length_flatMap_const Descriptor.length_bytes, Vector.length_toList])
  have hcellPort0 := drop_next (c := 1097) hroute0 (by rw [length_flatMap_const RouteEntry.length_bytes, Vector.length_toList])
  have hplantPort0 := drop_next (c := 1099) hcellPort0 rfl
  have hage0 := drop_next (c := 1101) hplantPort0 rfl
  have hnode0 := drop_next (c := 1102) hage0 rfl
  have hlength : tb.belt.length ≤ 256 := hbelt.2.1
  have hclassify1 : ∀ i : Fin 32, checkClassify (RawClassify.ofBytes (piece 9 tb.bytes i)) = some tb.classify[i] := fun i => by
    rw [piece_section ClassifyEntry.length_bytes h0 i, ← List.append_nil (tb.classify[i].bytes), checkClassify_bytes (hclassify i)]
  have hcell1 : ∀ i : Fin 24, checkCell tb.belt.length (RawCell.ofBytes (piece 4 (tb.bytes.drop 288) i)) = some tb.cell[i] := fun i => by
    rw [piece_section CellEntry.length_bytes hcell0 i, ← List.append_nil (tb.cell[i].bytes), checkCell_bytes (hcell i) hlength]
  have hcls1 : ∀ i : Fin 8, checkClass (RawClass.ofBytes (piece 5 (tb.bytes.drop 384) i)) = some tb.cls[i] := fun i => by
    rw [piece_section ClassEntry.length_bytes hcls0 i, ← List.append_nil (tb.cls[i].bytes), checkClass_bytes (hcls i)]
  have hdrum1 : ∀ i : Fin 4, checkDrum (RawDrum.ofBytes (piece 11 (tb.bytes.drop 458) i)) = some tb.drum[i] := fun i => by
    rw [piece_section DrumEntry.length_bytes hdrum0 i, ← List.append_nil (tb.drum[i].bytes), checkDrum_bytes (hdrum i)]
  have haction1 : ∀ i : Fin 32, checkAction (RawAction.ofBytes (piece 16 (tb.bytes.drop 505) i)) = some tb.action[i] := fun i => by
    rw [piece_section Descriptor.length_bytes haction0 i, ← List.append_nil (tb.action[i].bytes), checkAction_bytes (haction i)]
  have hroute1 : ∀ i : Fin 16, checkRoute (RawRoute.ofBytes (piece 5 (tb.bytes.drop 1017) i)) = some tb.route[i] := fun i => by
    rw [piece_section RouteEntry.length_bytes hroute0 i, ← List.append_nil (tb.route[i].bytes), checkRoute_bytes (hroute i)]
  simp only [Tables.ofBytes, hbelt0, checkBelt_bytes hbelt, Option.bind_eq_bind, Option.bind_some, allValid_some _ hclassify1,
    allValid_some _ hcell1, allValid_some _ hcls1, hplant0, checkPlant_bytes hplant, hcrusher0, checkCrusherImage_bytes hcrusher,
    allValid_some _ hdrum1, hfilter0, checkFilter_bytes hfilter, allValid_some _ haction1, allValid_some _ hroute1, hcellPort0,
    checkPort_bytes hsilenceCell, hplantPort0, checkPort_bytes hsilencePlant, hage0, checkCoalesce_bytes hage, hnode0, checkNode_bytes hnode,
    hprofile0, takenProfile_bytes hprofile, if_pos (nodesDistinct_iff.mpr hnodes)]

theorem halfAt_byte2 (n : Nat) (l : List Byte) : halfAt (byte2 n ++ l) 0 = BitVec.ofNat 16 n := half_of_byte2 n

theorem decodeImage_imageBytes {tb : Tables} (h : tb.inRange) : decodeImage (imageBytes tb) = some tb := by
  have hentries : ((imageBytes tb).drop 2).take 1107 = tb.bytes := by
    have hbody : (imageBytes tb).drop 2 = tb.bytes ++ ([0] ++ byte2 (0 - wordSum (imageBody tb)).toNat) := by
      simp [imageBytes, imageBody, byte2]
    rw [hbody, List.take_left' tb.length_bytes]
  have hcount : halfAt (imageBytes tb) 0 = BitVec.ofNat 16 imageWords := by
    rw [imageBytes, imageBody, List.append_assoc, List.append_assoc, halfAt_byte2]
  rw [decodeImage, hcount, if_neg (not_not.mpr rfl), wordSum_imageBytes, if_neg (not_not.mpr rfl), hentries, Tables.ofBytes_bytes h]

/-- An EEPROM that holds a byte list is read as that list. -/
theorem Memory.readList_eq {m : Memory} {l : List Byte} (h : ∀ a < l.length, m.read a = l.getD a 0) : m.readList 0 l.length = l := by
  refine List.ext_getElem? fun i => ?_
  rw [Memory.readList_getElem?]
  split
  · rename_i hi
    rw [Nat.zero_add, h i hi, List.getElem?_eq_getElem hi]
    simp [hi]
  · rw [List.getElem?_eq_none (by omega)]

/-! ### The save (R195) -/

/-- A page of the image written: its own bytes at its addresses, and every other byte as before. -/
theorem read_writePage (tb : Tables) {page : Nat} {m : Memory} (hm : m.wf = true) (a : Nat) :
    (writePage tb page m).read a =
      if page * 16 ≤ a ∧ a < page * 16 + 16 ∧ a < 1112 then (imageBytes tb).getD a 0 else m.read a := by
  have hlen : (((imageBytes tb).drop (page * 16)).take 16).length = min 16 (1112 - page * 16) := by simp [length_imageBytes]
  rw [writePage, Memory.read_writeList hm]
  simp only [pageSize, hlen]
  by_cases hin : page * 16 ≤ a ∧ a < page * 16 + 16 ∧ a < 1112
  · rw [if_pos hin, if_pos (by omega)]
    obtain ⟨k, rfl⟩ : ∃ k, a = page * 16 + k := ⟨a - page * 16, by omega⟩
    have hk : k < 16 := by omega
    simp [hk]
  · rw [if_neg hin, if_neg (by omega)]

/-- A torn page keeps every byte outside its addresses. -/
theorem read_tearPage (draw : Nat) {page a : Nat} {m : Memory} (hm : m.wf = true) (h : a < page * 16 ∨ page * 16 + 16 ≤ a ∨ 1112 ≤ a) :
    (tearPage draw page m).read a = m.read a := by
  rw [tearPage, Memory.read_writeList hm]
  have hlen : (tornBytes draw page).length = min 16 (1112 - page * 16) := by simp [tornBytes, pageSize, imageLength]
  exact if_neg (by simp only [pageSize, hlen]; omega)

@[simp] theorem setActivity_port (s : State) (a : Activity) (p : Port) : (s.setActivity a).port p = s.port p := by cases p <;> rfl

/-- The end of a save with room for its reply. -/
theorem endSave_room {r : Req} (st : Status) (h : s.hasRoom r.port = true) :
    endSave r st s = if st = .ok then bump .savesCompleted (enqueue r.port (s.replyFrame r 17 st []) (s.setActivity .idle))
      else bump .requestsRefused (bump .savesFailed (enqueue r.port (s.replyFrame r 17 st []) (s.setActivity .idle))) := by
  have hroom : (s.setActivity .idle).hasRoom r.port = true := by simpa [State.hasRoom] using h
  simp only [endSave, reply, placeFrom_room hroom]
  rfl

end Sys2Proof.Machine

namespace Sys2Proof.Proofs

open Sys2Proof.Machine

/-- Settles O60. -/
theorem imageRoundTrip : Obligations.ImageRoundTrip := by
  unfold Obligations.ImageRoundTrip
  refine fun tb htb => ⟨length_imageBytes tb, wordSum_imageBytes tb, decodeImage_imageBytes htb, fun m hm => ?_⟩
  have hread : m.readList 0 imageLength = imageBytes tb := by
    have := Memory.readList_eq (m := m) (l := imageBytes tb) (by rw [length_imageBytes]; exact hm)
    rwa [length_imageBytes] at this
  rw [readImage, if_pos rfl, hread, decodeImage_imageBytes htb]

/-- Settles O52. -/
theorem saveImage : Obligations.SaveImage := by
  unfold Obligations.SaveImage
  refine ⟨fun r s hready hidle => ?taken, fun r page s hsaving hpage hm => ⟨?written, fun hroom => ?failed⟩, fun ack s hnot => ?other⟩
  case taken =>
    obtain ⟨hmode, hpermits, hsettled, hroom⟩ := hready
    have hbody : saveBody r s = (s.setActivity (.saving r 0), .later) := by rw [saveBody, hidle]
    have hreload : s.activity.isReloading = false := by rw [hidle]; rfl
    have hserved : opSaveImage r s = bump .requestsServed (s.setActivity (.saving r 0)) := by
      rw [opSaveImage, serve_served hmode hpermits hreload, hbody, finishRequest]
      rw [routeAll_of_nil (s := s.setActivity (.saving r 0)) hsettled.1, unloadIfHanded_of_not (by simpa using hsettled.2)]
    rw [exec_saveImage, hserved]
    exact ⟨_, rfl, rfl, onlyGrew_bump _ rfl, rfl⟩
  case written =>
    have hwritten : opSavePageWritten true s = if page + 1 < pageCount
        then ({ s with eeprom := writePage s.tables page s.eeprom } : State).setActivity (.saving r (page + 1))
        else endSave r .ok { s with eeprom := writePage s.tables page s.eeprom } := by
      rw [opSavePageWritten, hsaving]
      rfl
    by_cases hlast : page < 69
    · rw [if_pos (by rw [pageCount]; omega)] at hwritten
      rw [exec_savePageWritten, hwritten]
      exact ⟨_, rfl, rfl, read_writePage s.tables hm, fun _ => ⟨rfl, rfl⟩, fun h => by omega⟩
    · rw [if_neg (by rw [pageCount]; omega)] at hwritten
      rw [exec_savePageWritten, hwritten]
      refine ⟨_, rfl, by simp, fun a => by rw [← read_writePage s.tables hm a]; simp, fun h => by omega, fun _ hroom => ?_⟩
      rw [endSave_room (s := { s with eeprom := writePage s.tables page s.eeprom }) .ok hroom, if_pos rfl]
      refine ⟨by simp [State.setActivity], by rw [bump_port, enqueue_queue]; rfl, onlyGrew_bump _ (by simp),
        by rw [bump_port, enqueue_other]; rfl, ?_⟩
      cases r.port <;> rfl
  case failed =>
    have hfailed : opSavePageWritten false s = endSave r .saveFailed (tearFlight page s) := by
      rw [opSavePageWritten, hsaving]
      rfl
    rw [exec_savePageWritten, hfailed, endSave_room (s := tearFlight page s) .saveFailed hroom, if_neg (by simp)]
    refine ⟨_, rfl, by simp [State.setActivity], fun a ha => by simpa [tearFlight, State.setActivity] using read_tearPage s.draws hm ha,
      by rw [bump_port, bump_port, enqueue_queue]; rfl, ?_, by rw [bump_port, bump_port, enqueue_other]; rfl, by simp [State.setActivity, tearFlight]⟩
    exact (onlyGrew_bump _ (by simp)).bump (by simp)
  case other =>
    rw [exec_savePageWritten, opSavePageWritten]
    split
    · rename_i r page hsaving
      exact absurd hsaving (hnot r page)
    · rfl

end Sys2Proof.Proofs
end

section
/-! SUPPORT. Requests, orders, reports and shares (R28 to R36, R44 to R54). -/

namespace Sys2Proof.Machine

variable {s t : State}

/-! ### Orders in a cell queue with room -/

theorem sendOrder_room (h : s.hasRoom .cell = true) (o : Order) (node : Byte) (lot : Option LotNo) (length : Nat) (reason : Option Reason) :
    sendOrder o node lot length reason s = enqueue .cell (s.orderFrame o node lot length reason) s := by
  rw [sendOrder, placeOwn, placeFrom_room h]
  rfl

theorem refuse_room (h : s.hasRoom .cell = true) (reason : Reason) (node : Byte) :
    refuse reason node s = enqueue .cell (s.orderFrame .refuse node none 0 (some reason)) (bump (.refusals reason) s) := by
  rw [refuse, sendOrder_room (by simpa using h)]
  rfl

/-- A refusal places its order and counts itself, and that is all. -/
theorem refuse_rest (h : s.hasRoom .cell = true) (reason : Reason) (node : Byte) :
    { refuse reason node s with cellPort := s.cellPort, counters := s.counters } = s := by
  rw [refuse_room h]
  rfl

theorem refuse_cellPort (h : s.hasRoom .cell = true) (reason : Reason) (node : Byte) :
    (refuse reason node s).cellPort =
      { s.cellPort with queue := s.cellPort.queue ++ [s.orderFrame .refuse node none 0 (some reason)] } := by
  rw [refuse_room h]
  rfl

theorem refuse_grew (h : s.hasRoom .cell = true) (reason : Reason) (node : Byte) : s.onlyGrew (refuse reason node s) [.refusals reason] := by
  rw [refuse_room h]
  exact (onlyGrew_bump _ rfl).same rfl

/-! ### The tests of a request (R46) -/

theorem cellOf_node {node : Byte} {c : CellNo} (h : s.cellOf node = some c) : node ≠ 0 ∧ s.tables.cell[c].node = node := by
  unfold State.cellOf at h
  split at h
  · cases h
  · rename_i hne
    exact ⟨hne, by simpa using List.find?_some h⟩

theorem loadingLot_isSome_iff {c : CellNo} : (s.loadingLot c).isSome = true ↔ ∃ l : LotNo, s.lots[l].loadsFor c := by
  rw [Option.isSome_iff_ne_none, ne_eq, loadingLot_eq_none_iff]
  push Not
  rfl

theorem testRequest_notEnrolled {node cls len : Byte}
    (h : node = 0 ∨ ∀ c : CellNo, s.tables.cell[c].node = node → s.tables.cell[c].enrolled = false) :
    s.testRequest node cls len = .error .notEnrolled := by
  unfold State.testRequest
  split
  · rfl
  · rename_i c hcell
    obtain ⟨hne, hnode⟩ := cellOf_node hcell
    have hfalse : s.tables.cell[c].enrolled = false := h.elim (absurd · hne) fun hall => hall c hnode
    rw [if_pos hfalse]

theorem testRequest_classDisabled {node cls len : Byte} {c : CellNo} (hcell : s.cellOf node = some c)
    (henrolled : s.tables.cell[c].enrolled = true)
    (h : 7 < cls.toNat ∨ ∃ k : ClassNo, k.val = cls.toNat ∧ s.tables.cls[k].enabled = false) :
    s.testRequest node cls len = .error .classDisabled := by
  unfold State.testRequest
  simp only [hcell, henrolled, Bool.true_eq_false, if_false]
  rcases h with h | ⟨k, hk, hdisabled⟩
  · have hnone : asIndex 8 cls.toNat = none := dif_neg (by omega)
    rw [hnone]
  · rw [asIndex_of_val hk]
    simp only [hdisabled, if_true]

theorem testRequest_badLength {node cls len : Byte} {c : CellNo} {k : ClassNo} (hcell : s.cellOf node = some c)
    (henrolled : s.tables.cell[c].enrolled = true) (hk : k.val = cls.toNat) (henabled : s.tables.cls[k].enabled = true)
    (h : len = 0 ∨ 16 < len.toNat ∨ s.tables.belt.length < s.tables.cell[c].dropPoint + len.toNat) :
    s.testRequest node cls len = .error .badLength := by
  unfold State.testRequest
  simp only [hcell, henrolled, asIndex_of_val hk, henabled, Bool.true_eq_false, if_false]
  exact if_pos h

theorem testRequest_busy {node cls len : Byte} {c : CellNo} {k : ClassNo} (hcell : s.cellOf node = some c)
    (henrolled : s.tables.cell[c].enrolled = true) (hk : k.val = cls.toNat) (henabled : s.tables.cls[k].enabled = true)
    (hpos : 1 ≤ len.toNat) (hmax : len.toNat ≤ 16) (hfits : s.tables.cell[c].dropPoint + len.toNat ≤ s.tables.belt.length)
    (hload : (s.loadingLot c).isSome = true) : s.testRequest node cls len = .error .busy := by
  have hlen : ¬(len = 0 ∨ 16 < len.toNat ∨ s.tables.belt.length < s.dropPoint c + len.toNat) := by
    have hne : len ≠ 0 := by
      rintro rfl
      exact absurd hpos (by decide)
    simp only [hne, false_or, State.dropPoint]
    omega
  unfold State.testRequest
  simp only [hcell, henrolled, asIndex_of_val hk, henabled, Bool.true_eq_false, if_false, if_neg hlen, hload, if_true]

/-! ### Ages (R52 to R54) -/

theorem ageReached_iff {q : Request} {seconds : Nat} : s.ageReached q seconds = true ↔ seconds * 1000 ≤ (s.now - q.arrival).toNat :=
  decide_eq_true_iff

theorem urgentDue_iff {c : CellNo} {q : Request} (h : s.request c = some q) : s.urgentDue c = true ↔
    q.urgent = false ∧ s.tables.belt.threshold ≠ 0 ∧ s.tables.belt.threshold < s.tables.belt.ageLimit ∧
      s.tables.belt.threshold * 1000 ≤ (s.now - q.arrival).toNat := by
  simp only [State.urgentDue, h, ageReached_iff, Bool.and_eq_true, Bool.not_eq_true', decide_eq_true_eq, and_assoc]

theorem expiryDue_iff {c : CellNo} {q : Request} (h : s.request c = some q) :
    s.expiryDue c = true ↔ s.tables.belt.ageLimit * 1000 ≤ (s.now - q.arrival).toNat := by
  simp only [State.expiryDue, h, ageReached_iff]

/-! ### Mass reports (R32 to R34) -/

theorem classifyReport_known {node lot : Byte} {c : CellNo} {l : LotNo} (hcell : s.cellOf node = some c) (hl : l.val = lot.toNat) :
    s.classifyReport node lot = classifyRecord c l s.lots[l] := by
  simp only [State.classifyReport, hcell, asIndex_of_val hl]

/-- Taken for late, a report is counted and raises LATE_MASS. -/
theorem opDischargeEnd_late {node lot : Byte} {l : LotNo} (h : s.classifyReport node lot = .late l) (mass : Half) :
    opDischargeEnd node lot mass s = raiseFault .lateMass (some l) (s.cellOf node) none (bump .lateReports s) := by
  simp only [opDischargeEnd, h]

theorem opDischargeEnd_stray {node lot : Byte} (h : s.classifyReport node lot = .stray) (mass : Half) :
    opDischargeEnd node lot mass s = raiseFault .strayReport (asIndex 64 lot.toNat) (s.cellOf node) none (bump .strayReports s) := by
  simp only [opDischargeEnd, h]

/-- A fault touches the fault record and the counters alone. -/
theorem raiseFault_rest (k : FaultKind) (l : Option LotNo) (c : Option CellNo) (d : Option Detail) (s : State) :
    { raiseFault k l c d s with notices := s.notices, counters := s.counters } = s := by
  unfold raiseFault captureFault
  repeat' split
  all_goals rfl

theorem raiseFault_settled (k : FaultKind) (l : Option LotNo) (c : Option CellNo) (d : Option Detail) (h : s.settledLaw) :
    (raiseFault k l c d s).settledLaw := h.congr (by simp) (by simp)

/-- A report that is late or stray changes the fault record and the counters alone, and its fault stands there. -/
theorem report_faulted {k : FaultKind} {count : Counter} (lot : Option LotNo) (cell : Option CellNo) (hk : .raised k ≠ count)
    (hc : .faultsCaptured ≠ count) (hs : .faultsSuppressed ≠ count) :
    { raiseFault k lot cell none (bump count s) with notices := s.notices, counters := s.counters } = s ∧
      s.faulted (raiseFault k lot cell none (bump count s)) k lot cell none [count] := by
  refine ⟨?_, raiseFault_faulted k lot cell none (onlyGrew_bump _ rfl) (by simp) (by simp) (by simp) (by simpa) (by simpa) (by simpa)⟩
  exact congrArg (fun u : State => { u with notices := s.notices, counters := s.counters }) (raiseFault_rest k lot cell none (bump count s))

/-! ### Shares (R35, R36) -/

/-- After `i` deliveries of a lot that has not come to its last pitch, `i` shares are credited. -/
theorem afterDelivery_iterate {a : ActiveLot} (hdelivered : a.delivered = 0) (hcredited : a.credited = 0) {i : Nat} (hi : i < a.length) :
    (ActiveLot.afterDelivery^[i] a).delivered = i ∧ (ActiveLot.afterDelivery^[i] a).credited = i * a.share ∧
      (ActiveLot.afterDelivery^[i] a).length = a.length ∧ (ActiveLot.afterDelivery^[i] a).mass = a.mass := by
  induction i with
  | zero => simp [hdelivered, hcredited]
  | succ i ih =>
    obtain ⟨hd, hc, hl, hm⟩ := ih (by omega)
    rw [Function.iterate_succ_apply']
    generalize ActiveLot.afterDelivery^[i] a = b at hd hc hl hm
    have hshare : b.credit = a.share := by
      rw [ActiveLot.credit, if_pos (by omega), ActiveLot.share, ActiveLot.share, hm, hl]
    simp only [ActiveLot.afterDelivery, hd, hc, hl, hm, hshare, and_self, and_true, true_and]
    rw [Nat.succ_mul]

/-- The credit of the i-th pitch: the share, or for the last one what is left of the mass. -/
theorem credit_iterate {a : ActiveLot} (hdelivered : a.delivered = 0) (hcredited : a.credited = 0) {i : Nat} (hi : i < a.length) :
    (ActiveLot.afterDelivery^[i] a).credit = if i + 1 < a.length then a.share else a.mass - i * a.share := by
  obtain ⟨hd, hc, hl, hm⟩ := afterDelivery_iterate hdelivered hcredited hi
  rw [ActiveLot.credit, hd, hc, hl, hm]
  simp only [ActiveLot.share, hl, hm]

end Sys2Proof.Machine

namespace Sys2Proof.Proofs

open Sys2Proof.Machine

/-- Settles O24: every pitch but the last is credited the share, and the last one what `length - 1` shares leave of the mass. -/
theorem lotCreditsSumToMass : Obligations.LotCreditsSumToMass := by
  unfold Obligations.LotCreditsSumToMass
  intro a hdelivered hcredited hpos
  refine ⟨?_, fun i hi => by rw [credit_iterate hdelivered hcredited (by omega), if_pos hi, ActiveLot.share]⟩
  obtain ⟨n, hn⟩ : ∃ n, a.length = n + 1 := ⟨a.length - 1, by omega⟩
  have hshares : (List.range n).map (fun i => (ActiveLot.afterDelivery^[i] a).credit) = (List.range n).map fun _ => a.share :=
    List.map_congr_left fun i hi => by
      have hlt : i < n := List.mem_range.mp hi
      rw [credit_iterate hdelivered hcredited (by omega), if_pos (by omega)]
  have hle : n * a.share ≤ a.mass := calc
    n * a.share ≤ a.length * (a.mass / a.length) := Nat.mul_le_mul_right _ (by omega)
    _ ≤ a.mass := Nat.mul_div_le _ _
  rw [hn, List.range_succ, List.map_append, List.sum_append, hshares, List.map_singleton, List.sum_singleton,
    credit_iterate hdelivered hcredited (by omega), if_neg (by omega)]
  simp
  omega

/-- Settles O16. -/
theorem requestsRefused : Obligations.RequestsRefused := by
  unfold Obligations.RequestsRefused
  intro node cls len mass s hm hs hroom reason hwhy
  have htest : s.testRequest node cls len = .error reason := by
    rcases hwhy with ⟨rfl, h⟩ | ⟨c, hcell, henrolled, ⟨rfl, h⟩ | ⟨k, hk, henabled, ⟨rfl, h⟩ | ⟨rfl, hpos, hmax, hfits, l, a, hload⟩⟩⟩
    · exact testRequest_notEnrolled h
    · exact testRequest_classDisabled hcell henrolled h
    · exact testRequest_badLength hcell henrolled hk henabled h
    · exact testRequest_busy hcell henrolled hk henabled hpos hmax hfits (loadingLot_isSome_iff.mpr ⟨l, a, hload⟩)
  have hsettled : (refuse reason node s).settledLaw := by
    rw [refuse_room hroom]
    exact hs
  refine ⟨refuse reason node s, ?_, refuse_cellPort hroom _ _, refuse_grew hroom _ _, refuse_rest hroom _ _⟩
  rw [exec_dischargeRequest, operate_operating hm, opDischargeRequest, htest, complete_of_settled hsettled]

/-- Settles O18. -/
theorem requestAges : Obligations.RequestAges := by
  unfold Obligations.RequestAges
  refine ⟨fun c q s hq hs => ⟨fun hnot hzero hbelow hage => ?_, fun hnever => ?_⟩, fun c q s hq => ⟨fun hage hroom => ?_, fun hyoung hs => ?_⟩⟩
  · have hurgent : opRequestUrgent c s = bump .requestsUrgent (s.setRequest c (some { q with urgent := true })) := by
      rw [opRequestUrgent, if_pos ((urgentDue_iff hq).mpr ⟨hnot, hzero, hbelow, hage⟩), makeUrgent, hq]
    have hsettled : (s.setRequest c (some { q with urgent := true })).settledLaw := hs
    rw [exec_requestUrgent, hurgent, complete_of_settled (bump_settled _ hsettled)]
    exact ⟨_, rfl, by simp, fun d hd => by rw [bump_request, State.setRequest_other _ _ _ _ hd], rfl, onlyGrew_bump _ rfl, rfl⟩
  · have hnot : ¬ s.urgentDue c = true := fun hdue => by
      obtain ⟨hcalm, hzero, hbelow, hage⟩ := (urgentDue_iff hq).mp hdue
      rcases hnever with h | h | h | h
      · exact Bool.false_ne_true (hcalm.symm.trans h)
      · exact hzero h
      · omega
      · omega
    rw [exec_requestUrgent, opRequestUrgent, if_neg hnot, complete_of_settled hs]
  · refine ⟨expireRequest c s, by rw [exec_requestExpiry, opRequestExpiry, if_pos ((expiryDue_iff hq).mpr hage)], ?_⟩
    rw [expireRequest, refuse_room (s := s.setRequest c none) hroom]
    refine ⟨State.setRequest_same s c none, fun d hd => State.setRequest_other s c d none hd, rfl, rfl, rfl, ?_, rfl⟩
    exact State.onlyGrew.same (onlyGrew_bump (s := s) (t := s.setRequest c none) _ rfl) rfl
  · have hnot : ¬ s.expiryDue c = true := fun hdue => by
      have := (expiryDue_iff hq).mp hdue
      omega
    rw [exec_requestExpiry, opRequestExpiry, if_neg hnot, complete_of_settled hs]

/-- Settles O22. -/
theorem massReports : Obligations.MassReports := by
  unfold Obligations.MassReports
  refine fun node lot mass s hm hs => ⟨fun c l a hcell hl hlot hsame hstate => ?_, fun c l hcell hl hrecord => ?_, fun hwhy => ?_⟩
  · have haccepted : s.classifyReport node lot = .accepted l a := by
      have hnot : a.state ≠ .delivering := by rcases hstate with h | h <;> simp [h]
      rw [classifyReport_known hcell hl, hlot, classifyRecord, if_pos hsame, if_neg hnot]
    have hset : opDischargeEnd node lot mass s = bump .massAccepted (s.setLot l (.active { a with mass := mass.toNat })) := by
      simp only [opDischargeEnd, haccepted]
    have hsettled : (s.setLot l (.active { a with mass := mass.toNat })).settledLaw := hs
    rw [exec_dischargeEnd, operate_operating hm, hset, complete_of_settled (bump_settled _ hsettled)]
    exact ⟨_, rfl, rfl, onlyGrew_bump _ rfl, rfl⟩
  · have hlate : s.classifyReport node lot = .late l := by
      rw [classifyReport_known hcell hl]
      rcases hrecord with h | ⟨a, h, hsame, hstate⟩
      · rw [h, classifyRecord, if_pos rfl]
      · rw [h, classifyRecord, if_pos hsame, if_pos hstate]
    refine ⟨_, ?_, report_faulted (some l) (some c) (by simp) (by simp) (by simp)⟩
    rw [exec_dischargeEnd, operate_operating hm, opDischargeEnd_late hlate, hcell,
      complete_of_settled (raiseFault_settled _ _ _ _ (bump_settled _ hs))]
  · have hstray : s.classifyReport node lot = .stray := by
      rcases hwhy with h | h | ⟨c, l, hcell, hl, hrecord⟩
      · simp only [State.classifyReport, h]
      · have hnone : asIndex 64 lot.toNat = none := dif_neg (by omega)
        unfold State.classifyReport
        rw [hnone]
        split
        · contradiction
        · rfl
      · rw [classifyReport_known hcell hl]
        rcases hrecord with ⟨o, h, hother⟩ | ⟨a, h, hother⟩
        · rw [h, classifyRecord, if_neg hother]
        · rw [h, classifyRecord, if_neg hother]
    refine ⟨_, ?_, report_faulted (asIndex 64 lot.toNat) (s.cellOf node) (by simp) (by simp) (by simp)⟩
    rw [exec_dischargeEnd, operate_operating hm, opDischargeEnd_stray hstray,
      complete_of_settled (raiseFault_settled _ _ _ _ (bump_settled _ hs))]

end Sys2Proof.Proofs
end

section
/-! SUPPORT. The arbiter pass (R56 to R62): the sweep's order, feasibility, the grant; and the withdraw (R29 to R31, R50). -/

namespace Sys2Proof.Machine

variable {s t : State}

/-! ### Feasibility (R61) -/

theorem lowestFree_of_first {l : LotNo} {o : Option CellNo} (h : s.lots[l] = .free o) (hlow : ∀ m, m < l → ∃ a, s.lots[m] = .active a) :
    s.lowestFree = some l := by
  unfold State.lowestFree
  rw [List.find?_eq_some_iff_getElem]
  refine ⟨by rw [h], l.val, by simp, by simp, fun j hj => ?_⟩
  obtain ⟨a, ha⟩ := hlow ⟨j, by omega⟩ hj
  simp [ha]

theorem lowestFree_isSome_iff : s.lowestFree.isSome = true ↔ ∃ (l : LotNo) (o : Option CellNo), s.lots[l] = .free o := by
  unfold State.lowestFree
  rw [List.find?_isSome]
  constructor
  · rintro ⟨l, -, hl⟩
    split at hl
    · rename_i o ho
      exact ⟨l, o, ho⟩
    · cases hl
  · rintro ⟨l, o, ho⟩
    exact ⟨l, List.mem_finRange l, by rw [ho]⟩

theorem windowEmpty_iff {dp len : Nat} {m : List Pitch} :
    windowEmpty dp len m = true ↔ ∀ i, dp ≤ i → i < dp + len → m[i]? = some .empty := by
  rw [windowEmpty, decide_eq_true_iff, List.ext_getElem?_iff]
  constructor
  · intro h i hlow hhigh
    have := h (i - dp)
    rwa [List.getElem?_take_of_lt (by omega), List.getElem?_drop, List.getElem?_replicate_of_lt (by omega), Nat.add_sub_cancel' hlow] at this
  · intro h i
    by_cases hi : i < len
    · rw [List.getElem?_take_of_lt hi, List.getElem?_drop, List.getElem?_replicate_of_lt hi, h (dp + i) (by omega) (by omega)]
    · rw [List.getElem?_take_eq_none (by omega), List.getElem?_eq_none (by simp; omega)]

theorem guardClear_iff {dp len gap : Nat} {k : ClassNo} {m : List Pitch} : guardClear dp len gap k m = true ↔
    ∀ i p, dp ≤ i + gap → i < dp + len + gap → m[i]? = some p → p.cls = none ∨ p.cls = some k := by
  simp only [guardClear, List.all_eq_true, decide_eq_true_eq]
  constructor
  · intro h i p hlow hhigh hp
    refine h p (List.mem_of_getElem? (i := i - (dp - gap)) ?_)
    rw [List.getElem?_take_of_lt (by omega), List.getElem?_drop, ← hp]
    congr 1
    omega
  · intro h p hp
    obtain ⟨i, hi⟩ := List.getElem?_of_mem hp
    have hlt : i < min dp gap + len + gap := by
      by_contra hge
      rw [List.getElem?_take_eq_none (by omega)] at hi
      cases hi
    rw [List.getElem?_take_of_lt hlt, List.getElem?_drop] at hi
    exact h _ p (by omega) (by omega) hi

theorem feasible_iff {c : CellNo} {q : Request} : s.feasible c q = true ↔
    (∃ (l : LotNo) (o : Option CellNo), s.lots[l] = .free o) ∧
      (∀ i, s.dropPoint c ≤ i → i < s.dropPoint c + q.length → s.tracker.map[i]? = some .empty) ∧
      (∀ i p, s.dropPoint c ≤ i + s.tables.belt.gap → i < s.dropPoint c + q.length + s.tables.belt.gap → s.tracker.map[i]? = some p →
        p.cls = none ∨ p.cls = some q.cls) := by
  rw [State.feasible, Bool.and_eq_true, Bool.and_eq_true, lowestFree_isSome_iff, windowEmpty_iff, guardClear_iff, and_assoc]

/-- The map after a grant: the window RESERVED, every other pitch as before. -/
theorem getElem?_window {dp len : Nat} {l : LotNo} {k : ClassNo} {m : List Pitch} (hw : windowEmpty dp len m = true) (i : Nat) :
    (writeWindow dp len l k m)[i]? = if dp ≤ i ∧ i < dp + len then some (.reserved l k) else m[i]? := by
  by_cases hlen : len = 0
  · subst hlen
    rw [if_neg (by omega)]
    simp [writeWindow]
  have hdp : dp + len ≤ m.length := by
    have hlast := windowEmpty_iff.mp hw (dp + len - 1) (by omega) (by omega)
    obtain ⟨hlt, -⟩ := List.getElem?_eq_some_iff.mp hlast
    omega
  unfold writeWindow
  rw [List.append_assoc, List.getElem?_append, List.getElem?_append]
  simp only [List.length_take, List.length_replicate, Nat.min_eq_left (show dp ≤ m.length by omega)]
  split
  · rename_i hi
    rw [List.getElem?_take_of_lt hi, if_neg (by omega)]
  · split
    · rename_i hlo hhi
      rw [List.getElem?_replicate_of_lt hhi, if_pos (by omega)]
    · rw [List.getElem?_drop, if_neg (by omega)]
      congr 1
      omega

/-! ### The sweep's order (R58) -/

theorem sub_pointer (p k : CellNo) : p + 1 + k - p - 1 = k := by
  abel

theorem sweepOrder_nodup (pointer : CellNo) (priority : Option CellNo) : (sweepOrder pointer priority).Nodup := by
  refine List.Nodup.filter _ (List.Nodup.map (fun a b h => ?_) (List.nodup_finRange 24))
  have := congrArg (fun x => x - pointer - 1) h
  simpa only [sub_pointer] using this

theorem mem_sweepOrder {pointer : CellNo} {priority : Option CellNo} {c : CellNo} : c ∈ sweepOrder pointer priority ↔ priority ≠ some c := by
  have hall : c ∈ cellList.map fun k => pointer + 1 + k :=
    List.mem_map.mpr ⟨c - pointer - 1, List.mem_finRange _, by abel⟩
  simp [sweepOrder, hall]

theorem sweepOrder_ascending (pointer : CellNo) (priority : Option CellNo) :
    (sweepOrder pointer priority).Pairwise fun a b => a - pointer - 1 < b - pointer - 1 := by
  refine List.Pairwise.filter _ (List.pairwise_map.mpr ?_)
  simp only [sub_pointer]
  exact List.pairwise_lt_finRange 24

/-! ### Considerations (R59 to R62) -/

theorem considerCell_none {c : CellNo} (h : s.request c = none) : considerCell c s = s := by simp [considerCell, h]

theorem upstreamHeld_iff {c : CellNo} : s.upstreamHeld c = true ↔
    ∃ (d : CellNo) (o : Request), s.request d = some o ∧ o.urgent = true ∧ s.tables.cell[d].dropPoint < s.tables.cell[c].dropPoint := by
  simp only [State.upstreamHeld, List.any_eq_true, cellList, List.mem_finRange, true_and]
  refine exists_congr fun d => ?_
  split
  · rename_i q hq
    simp only [hq, Bool.and_eq_true, decide_eq_true_eq, Option.some.injEq, exists_eq_left']
    exact Iff.rfl
  · rename_i hq
    simp [hq]

theorem upstreamHeld_false {c : CellNo} (h : ∀ (d : CellNo) (o : Request), s.request d = some o → o.urgent = true →
    s.tables.cell[c].dropPoint ≤ s.tables.cell[d].dropPoint) : s.upstreamHeld c = false := by
  refine Bool.eq_false_iff.mpr fun hheld => ?_
  obtain ⟨d, o, hd, hurgent, hlt⟩ := upstreamHeld_iff.mp hheld
  have := h d o hd hurgent
  omega

variable {c : CellNo} {q : Request}

theorem considerCell_disabled (h : s.request c = some q) (hcls : s.tables.cls[q.cls].enabled = false) :
    considerCell c s = refuse .classDisabled (s.cellNode c) (s.setRequest c none) := by
  simp only [considerCell, h, considerRequest, hcls, if_true]

theorem considerCell_held (h : s.request c = some q) (hcls : s.tables.cls[q.cls].enabled = true) (hheld : s.upstreamHeld c = true) :
    considerCell c s = bump .upstreamSkips s := by
  simp only [considerCell, h, considerRequest, hcls, hheld, Bool.true_eq_false, if_false, if_true]

theorem considerCell_infeasible (h : s.request c = some q) (hcls : s.tables.cls[q.cls].enabled = true) (hheld : s.upstreamHeld c = false)
    (hfeasible : s.feasible c q = false) : considerCell c s = bump .notFeasible s := by
  simp only [considerCell, h, considerRequest, hcls, hheld, hfeasible, Bool.true_eq_false, Bool.false_eq_true, if_false, if_true]

theorem considerCell_grant {l : LotNo} (h : s.request c = some q) (hcls : s.tables.cls[q.cls].enabled = true)
    (hheld : s.upstreamHeld c = false) (hfeasible : s.feasible c q = true) (hfree : s.lowestFree = some l) :
    considerCell c s = grant c q l s := by
  simp only [considerCell, h, considerRequest, hcls, hheld, hfeasible, hfree, Bool.true_eq_false, Bool.false_eq_true, if_false]

/-! ### A grant (R62) -/

/-- A hand-over counts itself under three counters and leaves every other one. -/
theorem hand_counter {k : Counter} (hk : k ∉ [.commandsHanded, .commandsMerged, .entriesCreated]) (tg : Target) (m : Mode) (setpoint : Nat)
    (s : State) : (hand tg m setpoint s).counter k = s.counter k := by
  simp only [List.mem_cons, List.not_mem_nil, or_false, not_or] at hk
  obtain ⟨h1, h2, h3⟩ := hk
  unfold hand
  split
  · rw [counter_bump, if_neg (Ne.symm h1), counter_bump, if_neg (Ne.symm h2)]
    rfl
  · rw [counter_bump, if_neg (Ne.symm h1), counter_bump, if_neg (Ne.symm h3)]
    rfl

theorem startTravel_counter {k : Counter} (hk : k ∉ [.gateMoves, .commandsHanded, .commandsMerged, .entriesCreated]) (r : RouteNo)
    (s : State) : (startTravel r s).counter k = s.counter k := by
  obtain ⟨hmoves, hhand⟩ := List.ne_and_not_mem_of_not_mem_cons hk
  unfold startTravel
  split
  · rfl
  · rw [handMove, counter_bump, if_neg (Ne.symm hmoves), hand_counter hhand]
    rfl

theorem evalGate_counter {k : Counter} (hk : k ∉ [.gateMoves, .commandsHanded, .commandsMerged, .entriesCreated]) (s : State) :
    (evalGate s).counter k = s.counter k := by
  unfold evalGate
  split
  · rfl
  split
  · split
    · rfl
    · exact startTravel_counter hk _ _
  · split
    · rfl
    · exact startTravel_counter hk _ _

/-- The state of a grant when its START order is sent: the record opened, the window written, the gate target evaluated. -/
def opened (c : CellNo) (q : Request) (l : LotNo) (s : State) : State :=
  evalGate ((bump .lotsGranted (s.setLot l (grantedLot c q))).setMap (writeWindow (s.dropPoint c) q.length l q.cls s.tracker.map))

theorem opened_hasRoom (c : CellNo) (q : Request) (l : LotNo) (s : State) : (opened c q l s).hasRoom .cell = s.hasRoom .cell := by
  simp only [State.hasRoom, State.port_cell, opened, evalGate_cellPort]
  rfl

theorem grant_room {l : LotNo} (h : s.hasRoom .cell = true) :
    grant c q l s = { enqueue .cell (s.orderFrame .start s.tables.cell[c].node (some l) q.length none) (opened c q l s) with
      arbiter := { requests := s.arbiter.requests.set c none, pointer := c } } := by
  have hsent : sendOrder .start (s.tables.cell[c].node) (some l) q.length none (opened c q l s) =
      enqueue .cell (s.orderFrame .start s.tables.cell[c].node (some l) q.length none) (opened c q l s) := by
    rw [sendOrder_room (by rw [opened_hasRoom, h])]
    simp [State.orderFrame, opened]
  have hnode : (opened c q l s).cellNode c = s.tables.cell[c].node := by simp [State.cellNode, opened]
  have harbiter : (opened c q l s).arbiter = s.arbiter := by simp [opened, State.setLot, State.setMap]
  have hgrant : grant c q l s = State.setRequest
      { sendOrder .start ((opened c q l s).cellNode c) (some l) q.length none (opened c q l s) with
        arbiter := { (sendOrder .start ((opened c q l s).cellNode c) (some l) q.length none (opened c q l s)).arbiter with pointer := c } }
      c none := rfl
  rw [hgrant, hnode, hsent]
  simp [State.setRequest, harbiter]

theorem grant_lots {l : LotNo} (h : s.hasRoom .cell = true) : (grant c q l s).lots = s.lots.set l (grantedLot c q) := by
  rw [grant_room h]
  simp [opened, State.setMap, State.setLot]

theorem grant_map {l : LotNo} (h : s.hasRoom .cell = true) :
    (grant c q l s).tracker = { s.tracker with map := writeWindow (s.dropPoint c) q.length l q.cls s.tracker.map } := by
  rw [grant_room h]
  simp [opened, State.setMap, State.setLot]

theorem grant_cellPort {l : LotNo} (h : s.hasRoom .cell = true) : (grant c q l s).cellPort =
    { s.cellPort with queue := s.cellPort.queue ++ [s.orderFrame .start s.tables.cell[c].node (some l) q.length none] } := by
  rw [grant_room h]
  simp [enqueue, opened, State.setPort, State.port, State.setMap, State.setLot]

theorem grant_request {l : LotNo} : (grant c q l s).request c = none := State.setRequest_same _ _ _

theorem grant_request_other {l : LotNo} (h : s.hasRoom .cell = true) {d : CellNo} (hd : d ≠ c) : (grant c q l s).request d = s.request d := by
  rw [grant_room h]
  have hne : c.val ≠ d.val := fun e => hd (Fin.ext e.symm)
  simp [State.request, hne]

theorem grant_pointer {l : LotNo} : (grant c q l s).arbiter.pointer = c := rfl

theorem grant_notices {l : LotNo} (h : s.hasRoom .cell = true) : (grant c q l s).notices = s.notices := by
  rw [grant_room h]
  simp [opened, State.setMap, State.setLot]

theorem grant_lotsGranted {l : LotNo} (h : s.hasRoom .cell = true) :
    (grant c q l s).counter .lotsGranted = saturatingAdd (s.counter .lotsGranted) 1 := by
  have hcount : (opened c q l s).counter .lotsGranted = saturatingAdd (s.counter .lotsGranted) 1 := by
    rw [opened, evalGate_counter (by simp)]
    exact (counter_bump _ _ _).trans (if_pos rfl)
  rw [grant_room h]
  exact hcount

/-! ### A whole pass (R56 to R58) -/

theorem arbiterPass_held (h : s.belt.supervisor = true ∨ s.belt.crusher = true ∨ s.belt.link = true) : arbiterPass s = bump .passes s := by
  have hheld : (bump .passes s).holdInForce = true := by
    simp only [State.holdInForce, bump_belt]
    rcases h with h | h | h <;> simp [h]
  rw [arbiterPass]
  exact if_pos hheld

theorem arbiterPass_free (h1 : s.belt.supervisor = false) (h2 : s.belt.crusher = false) (h3 : s.belt.link = false) :
    arbiterPass s = sweepPass (bump .passes s) := by
  have hfree : (bump .passes s).holdInForce = false := by simp [State.holdInForce, h1, h2, h3]
  rw [arbiterPass]
  exact if_neg (by simp [hfree])

/-- Where no request but a cell's is pending, and the turn of that cell leaves none, a run of turns is that cell's turn. -/
theorem considerations_sole (c : CellNo) (l : List CellNo) (hl : l.Nodup) (s : State) (hother : ∀ d, d ≠ c → s.request d = none)
    (hdone : ∀ d, (considerCell c s).request d = none) :
    l.foldl (fun t d => considerCell d t) s = if c ∈ l then considerCell c s else s := by
  have hnone : ∀ (l : List CellNo) (u : State), (∀ d, u.request d = none) → l.foldl (fun t d => considerCell d t) u = u := by
    intro l
    induction l with
    | nil => intros; rfl
    | cons d rest ih => exact fun u hu => by rw [List.foldl_cons, considerCell_none (hu d), ih u hu]
  induction l with
  | nil => simp
  | cons d rest ih =>
    obtain ⟨hd, hrest⟩ := List.nodup_cons.mp hl
    rw [List.foldl_cons]
    by_cases hdc : d = c
    · subst hdc
      rw [hnone rest _ hdone, if_pos (by simp)]
    · rw [considerCell_none (hother d hdc), ih hrest]
      simp [Ne.symm hdc]

/-- A pass over a sole request is that request's consideration. -/
theorem sweepPass_sole (hother : ∀ d, d ≠ c → s.request d = none) (hdone : ∀ d, (considerCell c s).request d = none) :
    sweepPass s = considerCell c s := by
  have hnone : ∀ d, considerCell d (considerCell c s) = considerCell c s := fun d => considerCell_none (hdone d)
  have hsweep : ∀ l : List CellNo, l.foldl (fun t d => considerCell d t) (considerCell c s) = considerCell c s := fun l => by
    induction l with
    | nil => rfl
    | cons d rest ih => rw [List.foldl_cons, hnone, ih]
  unfold sweepPass
  cases hpriority : s.tables.belt.priority with
  | none =>
    simp only [hpriority]
    rw [considerations_sole c _ (sweepOrder_nodup _ _) s hother hdone, if_pos (mem_sweepOrder.mpr (by simp))]
  | some d =>
    by_cases hdc : d = c
    · subst hdc
      exact hsweep _
    · simp only [considerCell_none (hother d hdc), hpriority]
      rw [considerations_sole c _ (sweepOrder_nodup _ _) s hother hdone, if_pos (mem_sweepOrder.mpr (by simpa using hdc))]

/-! ### Withdraws (R29 to R31, R50) -/

theorem releaseLot_map (l : LotNo) (s : State) (i : Nat) :
    (releaseLot l s).tracker.map[i]? = (s.tracker.map[i]?).map (releasePitch l) := by
  simp only [releaseLot, evalGate_tracker, State.setMap, List.getElem?_map]

/-- The state of a withdraw from a loading lot when its STOP order has been sent. -/
def stopSent (l : LotNo) (a : ActiveLot) (s : State) : State :=
  enqueue .cell (s.orderFrame .stop s.tables.cell[a.cell].node (some l) 0 none) (releaseLot l s)

theorem withdrawLoading_room {l : LotNo} {a : ActiveLot} (h : s.hasRoom .cell = true) :
    withdrawLoading l a s = if a.loaded = 0 then freeWithdrawn l a (stopSent l a s) else sealShort l a (stopSent l a s) := by
  have hsent : sendLotOrder .stop l a.cell (releaseLot l s) = stopSent l a s := by
    have hroom : (releaseLot l s).hasRoom .cell = true := by
      simp only [State.hasRoom, State.port_cell, releaseLot, evalGate_cellPort]
      exact h
    rw [sendLotOrder, sendOrder_room hroom]
    simp [stopSent, State.orderFrame, State.cellNode, releaseLot]
  rw [withdrawLoading, hsent]

theorem stopSent_cellPort {l : LotNo} {a : ActiveLot} : (stopSent l a s).cellPort =
    { s.cellPort with queue := s.cellPort.queue ++ [s.orderFrame .stop s.tables.cell[a.cell].node (some l) 0 none] } := by
  simp [stopSent, enqueue, State.setPort, State.port, releaseLot, State.setMap]

theorem opDischargeWithdraw_requested {node : Byte} (hcell : s.cellOf node = some c) (h : s.request c = some q) :
    opDischargeWithdraw node s = arbiterPass (refuse .withdrawn node (s.setRequest c none)) := by
  simp only [opDischargeWithdraw, hcell, h]

theorem opDischargeWithdraw_reached {node : Byte} {l : LotNo} {a : ActiveLot} (hcell : s.cellOf node = some c) (h : s.request c = none)
    (hload : s.loadingLot c = some l) (ha : s.lots[l].loading? = some a) :
    opDischargeWithdraw node s = arbiterPass (withdrawLoading l a s) := by
  simp only [opDischargeWithdraw, hcell, h, hload, ha]

theorem opDischargeWithdraw_idle {node : Byte}
    (h : s.cellOf node = none ∨ ∃ c, s.cellOf node = some c ∧ s.request c = none ∧ s.loadingLot c = none) :
    opDischargeWithdraw node s = refuse .noRequest node s := by
  rcases h with h | ⟨c, hcell, hnone, hload⟩
  · simp only [opDischargeWithdraw, h]
  · simp only [opDischargeWithdraw, hcell, hnone, hload]

end Sys2Proof.Machine

namespace Sys2Proof.Proofs

open Sys2Proof.Machine

/-- Settles O19. -/
theorem passesAndWindows : Obligations.PassesAndWindows := by
  unfold Obligations.PassesAndWindows
  refine ⟨⟨fun s hheld => ?held, ?heldRequest⟩, fun pointer priority => ⟨sweepOrder_nodup _ _, fun c => mem_sweepOrder, sweepOrder_ascending _ _⟩,
    ⟨fun s h1 h2 h3 => ?whole, fun c s => considerCell_none, ?grant⟩, fun c q s => feasible_iff, fun c q s hq => ⟨fun hcls hheld => ?skipped,
      fun hcls hclear => ⟨fun hnot => ?infeasible, fun hfeasible => ?granted⟩, fun hcls hroom => ?disabled⟩⟩
  case held =>
    rw [arbiterPass_held hheld]
    exact ⟨onlyGrew_bump _ rfl, rfl⟩
  case heldRequest =>
    intro node cls len mass s c k hm hs hcell henrolled hclass henabled hpos hmax hfits hload hnone hheld
    have htest := testRequest_passed hcell henrolled hclass henabled hpos hmax hfits hload
    rw [exec_dischargeRequest_passed hm htest, placeRequest_of_none hnone, arbiterPass_held (by exact hheld),
      complete_of_settled (bump_settled _ (bump_settled _ (by exact hs)))]
    refine ⟨_, rfl, State.onlyGrew.bump (onlyGrew_bump _ rfl) (by simp), by simp, fun d hd => ?_, rfl, rfl⟩
    rw [bump_request, bump_request, State.setRequest_other _ _ _ _ hd]
  case whole =>
    refine ⟨bump .passes s, rfl, onlyGrew_bump _ rfl, fun hpriority => ?_, fun c hpriority => ⟨fun hnone => ?_, fun hsome => ?_⟩⟩
    · rw [arbiterPass_free h1 h2 h3]
      simp only [sweepPass, bump_tables, hpriority, bump_arbiter]
    · rw [arbiterPass_free h1 h2 h3]
      simp only [sweepPass, bump_tables, hpriority, considerCell_none (show (bump .passes s).request c = none by simpa using hnone),
        bump_arbiter]
    · rw [arbiterPass_free h1 h2 h3]
      simp only [sweepPass, bump_tables, considerCell_tables, hpriority]
  case grant =>
    intro c q l o s hq hcls hclear hfeasible hroom hfree hlow
    have hgrant := considerCell_grant hq hcls (upstreamHeld_false hclear) hfeasible (lowestFree_of_first hfree hlow)
    have hwindow : windowEmpty (s.dropPoint c) q.length s.tracker.map = true := windowEmpty_iff.mpr (feasible_iff.mp hfeasible).2.1
    rw [hgrant]
    refine ⟨grant_lots hroom, fun i => ?_, grant_cellPort hroom, grant_request, fun d hd => grant_request_other hroom hd, grant_pointer,
      grant_lotsGranted hroom⟩
    rw [grant_map hroom]
    exact getElem?_window hwindow i
  case skipped =>
    rw [considerCell_held hq hcls (upstreamHeld_iff.mpr hheld)]
    exact ⟨onlyGrew_bump _ rfl, rfl⟩
  case infeasible =>
    rw [considerCell_infeasible hq hcls (upstreamHeld_false hclear) hnot]
    exact ⟨onlyGrew_bump _ rfl, rfl⟩
  case granted =>
    obtain ⟨l, hl⟩ := Option.isSome_iff_exists.mp (lowestFree_isSome_iff.mpr (feasible_iff.mp hfeasible).1)
    rw [considerCell_grant hq hcls (upstreamHeld_false hclear) hfeasible hl]
    exact ⟨grant_request, grant_pointer⟩
  case disabled =>
    rw [considerCell_disabled hq hcls, refuse_room (s := s.setRequest c none) hroom]
    refine ⟨State.setRequest_same s c none, fun d hd => State.setRequest_other s c d none hd, rfl, ?_⟩
    exact State.onlyGrew.same (onlyGrew_bump (s := s) (t := s.setRequest c none) _ rfl) rfl

/-- Settles O20. -/
theorem soleRequestGranted : Obligations.SoleRequestGranted := by
  unfold Obligations.SoleRequestGranted
  intro node cls len mass s c k l o hm hs hroom h1 h2 h3 hcell henrolled hclass henabled hpos hmax hfits hload hnone hfree hlow hwindow hguard
  have htest := testRequest_passed hcell henrolled hclass henabled hpos hmax hfits hload
  obtain ⟨q, hq⟩ : ∃ q : Request, q = { cls := k, length := len.toNat, mass := mass.toNat, arrival := s.now, urgent := false } := ⟨_, rfl⟩
  obtain ⟨v, hv⟩ : ∃ v, v = bump .passes (bump .requestsAdded (s.setRequest c (some q))) := ⟨_, rfl⟩
  have hrest : { v with arbiter := s.arbiter, counters := s.counters } = s := by
    rw [hv]
    rfl
  have hrequest : v.request c = some q := by simp [hv]
  have hother : ∀ d, d ≠ c → v.request d = none := fun d hd => by
    rw [hv, bump_request, bump_request, State.setRequest_other _ _ _ _ hd, hnone]
  have hfeasible : v.feasible c q = true := by
    subst hv hq
    exact feasible_iff.mpr ⟨⟨l, o, hfree⟩, hwindow, hguard⟩
  have hclear : v.upstreamHeld c = false := upstreamHeld_false fun d p hd hurgent => by
    by_cases hdc : d = c
    · rw [hdc]
    · rw [hother d hdc] at hd
      cases hd
  have hgrant : considerCell c v = grant c q l v := by
    refine considerCell_grant hrequest ?_ hclear hfeasible (lowestFree_of_first (o := o) ?_ ?_)
    · rw [hv, hq]
      exact henabled
    · rw [hv]
      exact hfree
    · rw [hv]
      exact hlow
  have hroomV : v.hasRoom .cell = true := by
    rw [hv]
    exact hroom
  have hdone : ∀ d, (considerCell c v).request d = none := fun d => by
    rw [hgrant]
    by_cases hdc : d = c
    · rw [hdc]
      exact grant_request
    · rw [grant_request_other hroomV hdc, hother d hdc]
  have hpass : arbiterPass (placeRequest c k len.toNat mass.toNat s) = grant c q l v := by
    rw [placeRequest_of_none (hnone c), arbiterPass_free (by exact h1) (by exact h2) (by exact h3), ← hq, ← hv, sweepPass_sole hother hdone,
      hgrant]
  have hraised : (grant c q l v).raised = [] := by
    rw [grant_raised, hv]
    exact hs.1
  rw [exec_dischargeRequest_passed hm htest, hpass, complete_of_nil hraised]
  have hwindowV : windowEmpty (v.dropPoint c) q.length v.tracker.map = true := windowEmpty_iff.mpr (feasible_iff.mp hfeasible).2.1
  refine ⟨_, rfl, ?lots, fun i => ?map, ?cellPort, ?pointer, fun d => ?requests, ?last, ?acc, ?belt, ?filtration, ?engine, ?router,
    ?notices, ?tables⟩
  case lots =>
    rw [unloadIfHanded_lots, grant_lots hroomV, hv, hq]
    rfl
  case map =>
    rw [unloadIfHanded_tracker, grant_map hroomV]
    refine (getElem?_window hwindowV i).trans ?_
    rw [hv, hq]
    rfl
  case cellPort =>
    rw [unloadIfHanded_cellPort, grant_cellPort hroomV, hv, hq]
    rfl
  case pointer => rw [unloadIfHanded_arbiter, grant_pointer]
  case requests =>
    rw [State.request, unloadIfHanded_arbiter, ← hgrant]
    exact hdone d
  case last =>
    rw [unloadIfHanded_tracker, grant_last, hv]
    rfl
  case acc =>
    rw [unloadIfHanded_tracker, grant_acc, hv]
    rfl
  case belt =>
    rw [unloadIfHanded_belt, grant_belt, hv]
    rfl
  case filtration =>
    rw [unloadIfHanded_filtration, grant_filtration, hv]
    rfl
  case engine =>
    rw [unloadIfHanded_engine, grant_engine, hv]
    rfl
  case router =>
    rw [unloadIfHanded_router, grant_router, hv]
    rfl
  case notices =>
    rw [unloadIfHanded_notices, grant_notices hroomV, hv]
    rfl
  case tables =>
    rw [unloadIfHanded_tables, grant_tables, hv]
    rfl

/-- Settles O21. -/
theorem withdraws : Obligations.Withdraws := by
  unfold Obligations.Withdraws
  refine fun node s hm hroom => ⟨fun c q hcell hq => ?pending, fun c l a hcell hnone hload ha => ?loading, fun hs hidle => ?idle⟩
  case pending =>
    refine ⟨refuse .withdrawn node (s.setRequest c none), ?_⟩
    rw [exec_dischargeWithdraw, operate_operating hm, opDischargeWithdraw_requested hcell hq, refuse_room (s := s.setRequest c none) hroom]
    refine ⟨rfl, State.setRequest_same s c none, fun d hd => State.setRequest_other s c d none hd, rfl, rfl, ?_, rfl⟩
    exact State.onlyGrew.same (onlyGrew_bump (s := s) (t := s.setRequest c none) _ rfl) rfl
  case loading =>
    obtain ⟨b, hb, hcellB⟩ := loadsFor_iff.mp (loadsFor_of_loadingLot hload)
    obtain ⟨hlot, -⟩ := loading?_eq_some_iff.mp hb
    obtain rfl : a = b := by simpa [ha] using hlot
    subst hcellB
    refine ⟨withdrawLoading l a s, ?_⟩
    rw [exec_dischargeWithdraw, operate_operating hm, opDischargeWithdraw_reached hcell hnone hload hb, withdrawLoading_room hroom]
    have harbiter : (stopSent l a s).arbiter = s.arbiter := by simp [stopSent, releaseLot, State.setMap]
    have hlots : (stopSent l a s).lots = s.lots := by simp [stopSent, releaseLot, State.setMap]
    have htracker : (stopSent l a s).tracker = (releaseLot l s).tracker := by simp [stopSent]
    have hfiltration : (stopSent l a s).filtration = s.filtration := by simp [stopSent, releaseLot, State.setMap]
    have hpitch : ∀ i : Nat, (s.tracker.map[i]?).map (releasePitch l) = (s.tracker.map[i]?).map fun p =>
        match p with
        | .reserved m _ => if m = l then Pitch.empty else p
        | _ => p := fun i => by
      cases s.tracker.map[i]? with
      | none => rfl
      | some p => cases p <;> rfl
    by_cases hzero : a.loaded = 0
    · rw [if_pos hzero]
      refine ⟨rfl, harbiter, ?_, fun i => ?_, fun _ => ⟨?_, hfiltration⟩, fun h => absurd hzero h⟩
      · exact stopSent_cellPort
      · exact (congrArg (fun m : Tracker => m.map[i]?) htracker).trans ((releaseLot_map l s i).trans (hpitch i))
      · rw [← hlots]
        rfl
    · rw [if_neg hzero]
      refine ⟨rfl, ?_, ?_, fun i => ?_, fun h => absurd h hzero, fun _ => ?_⟩
      · rw [sealShort, creditFines_arbiter]
        exact harbiter
      · rw [sealShort, creditFines_cellPort]
        exact stopSent_cellPort
      · rw [sealShort, creditFines_tracker]
        exact (congrArg (fun m : Tracker => m.map[i]?) htracker).trans ((releaseLot_map l s i).trans (hpitch i))
      · rw [sealShort, creditFines_lots, ← hlots]
        rfl
  case idle =>
    have hsettled : (refuse .noRequest node s).settledLaw := by
      rw [refuse_room hroom]
      exact hs
    rw [exec_dischargeWithdraw, operate_operating hm, opDischargeWithdraw_idle hidle, complete_of_settled hsettled]
    exact ⟨_, rfl, refuse_cellPort hroom _ _, refuse_grew hroom _ _, refuse_rest hroom _ _⟩

end Sys2Proof.Proofs
end

section
/-! SUPPORT. The belt map's shifts with the crossings (R15, R17), the delivered pitches (R92 to R94) and the belt samples (R9 to R12). -/

namespace Sys2Proof.Machine

variable {s t : State}

/-! ### Counters that grow by amounts -/

theorem grewBy_bumpBy (c : Counter) (n : Nat) (h : t.counters = s.counters) : s.grewBy (bumpBy c n t) [(c, n)] := by
  intro d
  rw [counter_bumpBy, State.counter_of_counters c h, State.counter_of_counters d h]
  by_cases hcd : c = d
  · subst hcd
    simp
  · have hbeq : (d == c) = false := by simpa using Ne.symm hcd
    simp [List.lookup, hbeq, hcd]

theorem State.grewBy.bumpBy {cs : List (Counter × Nat)} (h : s.grewBy t cs) {c : Counter} (n : Nat) (hc : cs.lookup c = none) :
    s.grewBy (bumpBy c n t) (cs ++ [(c, n)]) := by
  intro d
  rw [counter_bumpBy, List.lookup_append]
  by_cases hcd : c = d
  · subst hcd
    rw [h c, hc]
    simp
  · have hbeq : (d == c) = false := by simpa using Ne.symm hcd
    rw [if_neg hcd, h d]
    cases cs.lookup d <;> simp [List.lookup, hbeq]

theorem State.grewBy.same {u : State} {cs : List (Counter × Nat)} (h : s.grewBy t cs) (e : u.counters = t.counters) : s.grewBy u cs := fun c => by
  rw [State.counter_of_counters c e, h c]

/-- The counters of a fault but those of its capture and its suppression: the list's and its own. -/
theorem State.faulted.counter {k : FaultKind} {lot : Option LotNo} {cell : Option CellNo} {detail : Option Detail} {cs : List Counter}
    (h : s.faulted t k lot cell detail cs) {c : Counter} (hcaptured : c ≠ .faultsCaptured) (hsuppressed : c ≠ .faultsSuppressed) :
    t.counter c = if c ∈ cs ++ [.raised k] then saturatingAdd (s.counter c) 1 else s.counter c := by
  unfold State.faulted at h
  split at h
  · simpa [hsuppressed] using h.2 c
  · split at h
    · simpa [hcaptured] using h.2 c
    · exact h.2 c

theorem raiseFault_counter {k : FaultKind} (lot : Option LotNo) (cell : Option CellNo) (detail : Option Detail) (s : State) {c : Counter}
    (hcaptured : c ≠ .faultsCaptured) (hsuppressed : c ≠ .faultsSuppressed) :
    (raiseFault k lot cell detail s).counter c = if c = .raised k then saturatingAdd (s.counter c) 1 else s.counter c := by
  have hfaulted : s.faulted (raiseFault k lot cell detail s) k lot cell detail [] :=
    raiseFault_faulted k lot cell detail (onlyGrew_refl s) rfl rfl rfl (by simp) (by simp) (by simp)
  simpa using hfaulted.counter hcaptured hsuppressed

/-! ### Crossings (R17) -/

theorem crossCell_loads {c : CellNo} {l : LotNo} {a : ActiveLot} {k : ClassNo} (hload : s.loadingLot c = some l)
    (ha : s.lots[l] = .active a) (hpitch : s.tracker.map[s.tables.cell[c].dropPoint - 1]? = some (.reserved l k)) :
    crossCell c s = pitchLoaded l a (s.setMap (s.tracker.map.set (s.tables.cell[c].dropPoint - 1) (.loaded l k))) := by
  obtain ⟨b, hb, -⟩ := loadsFor_iff.mp (loadsFor_of_loadingLot hload)
  obtain rfl : a = b := by simpa [ha] using (loading?_eq_some_iff.mp hb).1
  simp only [crossCell, hload, hb, loadPitch, hpitch, if_true]

theorem crossCell_idle {c : CellNo} (h : s.loadingLot c = none) : crossCell c s = s := by simp only [crossCell, h]

theorem crossings_idle (h : ∀ c, s.loadingLot c = none) : crossings s = s := by
  have hfold : ∀ l : List CellNo, l.foldl (fun t c => crossCell c t) s = s := fun l => by
    induction l with
    | nil => rfl
    | cons c rest ih => rw [List.foldl_cons, crossCell_idle (h c), ih]
  exact hfold _

/-! ### Delivered pitches (R92 to R94) -/

variable {l : LotNo} {k : ClassNo} {a : ActiveLot} {o : Option RouteNo}

/-- A pitch of a lot that stays: past its own route it is credited and delivered. -/
theorem deliverPitch_open (hgate : gateOutcome s.head.gate s.tables.cls[k].route = (o, false)) (hmore : a.delivered + 1 < a.length) :
    deliverPitch l k a s = testUncrushed l a k (creditRoute o a.credit (s.setLot l (.active a.afterDelivery))) := by
  have hopen : ¬ a.length ≤ a.delivered + 1 := by omega
  simp only [deliverPitch, hgate, Bool.or_false, Bool.false_eq_true, if_false, decide_eq_true_eq, hopen]

/-- The last pitch of a lot, past its own route: the lot completes. -/
theorem deliverPitch_last (hgate : gateOutcome s.head.gate s.tables.cls[k].route = (o, false)) (hlast : a.length ≤ a.delivered + 1) :
    deliverPitch l k a s = countCompletion a (testUncrushed l a k (creditRoute o a.credit (completeLot l a s))) := by
  simp only [deliverPitch, hgate, Bool.or_false, Bool.false_eq_true, if_false, decide_eq_true_eq, hlast, if_true]

/-- The record of a lot of which a pitch has gone astray. -/
def ActiveLot.contaminate (a : ActiveLot) : ActiveLot := { a with contaminated := true }

theorem deliverPitch_astray_open (hgate : gateOutcome s.head.gate s.tables.cls[k].route = (o, true)) (hmore : a.delivered + 1 < a.length) :
    deliverPitch l k a s = testUncrushed l a.contaminate k
      (creditRoute o a.contaminate.credit ((reportMisroute l a.contaminate s).setLot l (.active a.contaminate.afterDelivery))) := by
  have hopen : ¬ a.length ≤ a.delivered + 1 := by omega
  simp only [deliverPitch, hgate, Bool.or_true, if_true, decide_eq_true_eq, hopen, if_false]
  rfl

theorem deliverPitch_astray_last (hgate : gateOutcome s.head.gate s.tables.cls[k].route = (o, true)) (hlast : a.length ≤ a.delivered + 1) :
    deliverPitch l k a s = countCompletion a.contaminate (testUncrushed l a.contaminate k
      (creditRoute o a.contaminate.credit (completeLot l a.contaminate (reportMisroute l a.contaminate s)))) := by
  simp only [deliverPitch, hgate, Bool.or_true, if_true, decide_eq_true_eq, hlast]
  rfl

theorem testUncrushed_bypass (ht : t.tables = s.tables) (h : s.tables.cls[k].mode = .bypass) : testUncrushed l a k t = t := by
  simp only [testUncrushed, State.crushClass, ht, h, reduceCtorEq, decide_false, Bool.false_and, Bool.false_eq_true, if_false]

theorem testUncrushed_running {i : Word} (h : s.head.crusher = .running i) : testUncrushed l a k s = s := by
  simp only [testUncrushed, h, CrusherState.isRunning, Bool.not_true, Bool.and_false, Bool.false_eq_true, if_false]

theorem testUncrushed_raises (h : s.tables.cls[k].mode = .crush) (hcrusher : ∀ i, s.head.crusher ≠ .running i) :
    testUncrushed l a k s = raiseFault .uncrushedDelivery (some l) (some a.cell) none (bump .uncrushed s) := by
  have hnot : s.head.crusher.isRunning = false := by
    cases hc : s.head.crusher with
    | running i => exact absurd hc (hcrusher i)
    | off | starting _ _ | stalled | reversing | fault => rfl
  simp only [testUncrushed, State.crushClass, h, hnot, decide_true, Bool.not_false, Bool.and_self, if_true]

theorem takeDelivered_active (ha : s.lots[l] = .active a) : takeDelivered (.loaded l k) s = evalGate (deliverPitch l k a s) := by
  simp only [takeDelivered, ha]

theorem gateOutcome_own {g : GateState} {route r : RouteNo} (hg : g = .settled r) (hr : route = r) : gateOutcome g route = (some r, false) := by
  subst hg hr
  simp [gateOutcome]

theorem gateOutcome_other {g : GateState} {route r : RouteNo} (hg : g = .settled r) (hr : route ≠ r) : gateOutcome g route = (some r, true) := by
  subst hg
  simp [gateOutcome, Ne.symm hr]

/-- A misroute counts itself and raises its fault and its occurrence (R92). -/
theorem reportMisroute_counter (l : LotNo) (a : ActiveLot) (s : State) {c : Counter} (hcaptured : c ≠ .faultsCaptured)
    (hsuppressed : c ≠ .faultsSuppressed) : (reportMisroute l a s).counter c =
      if c = .misrouted ∨ c = .raised .misroute then saturatingAdd (s.counter c) 1 else s.counter c := by
  have hraise : ∀ (o : Occurrence) (d : Counter), (raise o s).counter d = s.counter d := fun _ _ => rfl
  rw [reportMisroute, counter_bump]
  by_cases hc : c = .misrouted
  · subst hc
    rw [if_pos rfl, if_pos (.inl rfl), raiseFault_counter _ _ _ _ (by simp) (by simp), if_neg (by simp), hraise]
  · rw [if_neg (Ne.symm hc), raiseFault_counter _ _ _ _ hcaptured hsuppressed, hraise]
    simp [hc]

theorem reportMisroute_rest (l : LotNo) (a : ActiveLot) (s : State) :
    { reportMisroute l a s with counters := s.counters, raised := s.raised, notices := s.notices } = s :=
  congrArg (fun u : State => { u with counters := s.counters, raised := s.raised, notices := s.notices })
    (raiseFault_rest .misroute (some l) (some a.cell) none
      (raise { source := Source.misroute, lot := some l, cell := some a.cell, drum := none } s))

theorem reportMisroute_raised (l : LotNo) (a : ActiveLot) (s : State) : (reportMisroute l a s).raised =
    s.raised ++ [{ source := 3, lot := some l, cell := some a.cell, drum := none }] := by
  rw [reportMisroute, bump_raised, raiseFault_raised]
  rfl

/-- Completing a lot writes its record, the counters and the occurrences; crediting and counting write counters. -/
theorem completeLot_form (l : LotNo) (a : ActiveLot) (o : Option RouteNo) (n : Nat) (c : Counter) (u : State) :
    ∃ r k q, bump c (creditRoute o n (completeLot l a u)) = { u with lots := r, counters := k, raised := q } := by
  cases o with
  | none => exact ⟨_, _, _, rfl⟩
  | some _ => exact ⟨_, _, _, rfl⟩

theorem completeLot_rest (l : LotNo) (a : ActiveLot) (o : Option RouteNo) (n : Nat) (c : Counter)
    (h : { t with counters := s.counters, raised := s.raised, notices := s.notices } = s) :
    { bump c (creditRoute o n (completeLot l a t)) with
      lots := s.lots, counters := s.counters, raised := s.raised, notices := s.notices } = s := by
  obtain ⟨r, k, q, hform⟩ := completeLot_form l a o n c t
  rw [hform]
  exact congrArg (fun v : State => { v with lots := s.lots, counters := s.counters, raised := s.raised, notices := s.notices }) h

theorem completeLot_counter (l : LotNo) (a : ActiveLot) (s : State) (c : Counter) :
    (completeLot l a s).counter c = if c = .lotsDelivered then saturatingAdd (s.counter c) 1 else s.counter c := by
  have hraise : ∀ (o : Occurrence) (u : State), (raise o u).counter c = u.counter c := fun _ _ => rfl
  have hset : ∀ r : Lot, (s.setLot l r).counter c = s.counter c := fun _ => rfl
  rw [completeLot, hraise, counter_bump, hset]
  by_cases hc : c = .lotsDelivered
  · subst hc
    rw [if_pos rfl, if_pos rfl]
    rfl
  · rw [if_neg (Ne.symm hc), if_neg hc]

/-! ### What a delivered pitch leaves in the lot table -/


/-- The delivered lot's record is FREE or DELIVERING. -/
theorem deliverPitch_lots (l : LotNo) (k : ClassNo) (a : ActiveLot) (s : State) :
    ∃ r, (deliverPitch l k a s).lots = s.lots.set l r ∧ ∀ c, ¬ r.loadsFor c := by
  have hdelivering : ∀ (b : ActiveLot) (c : CellNo), ¬ (Lot.active b.afterDelivery).loadsFor c := fun b c hb => by
    obtain ⟨hstate, -⟩ := Lot.loadsFor_active.mp hb
    cases hstate
  have hset : ∀ (u : State) (r : Lot), u.lots = s.lots → (u.setLot l r).lots = s.lots.set l r := fun u r hu => congrArg (·.set l r) hu
  obtain ⟨o, hout⟩ : ∃ o, gateOutcome s.head.gate s.tables.cls[k].route = o := ⟨_, rfl⟩
  obtain ⟨route, astray⟩ := o
  by_cases hlast : a.length ≤ a.delivered + 1
  · refine ⟨.free (some a.cell), ?_, Lot.not_loadsFor_free _⟩
    cases astray with
    | false =>
      rw [deliverPitch_last hout hlast, countCompletion_lots, testUncrushed_lots, creditRoute_lots]
      rfl
    | true =>
      rw [deliverPitch_astray_last hout hlast, countCompletion_lots, testUncrushed_lots, creditRoute_lots]
      exact hset _ _ (reportMisroute_lots l a.contaminate s)
  · cases astray with
    | false =>
      refine ⟨.active a.afterDelivery, ?_, hdelivering a⟩
      rw [deliverPitch_open hout (by omega), testUncrushed_lots, creditRoute_lots]
      rfl
    | true =>
      refine ⟨.active a.contaminate.afterDelivery, ?_, hdelivering a.contaminate⟩
      rw [deliverPitch_astray_open hout (by omega), testUncrushed_lots, creditRoute_lots]
      exact hset _ _ (reportMisroute_lots l a.contaminate s)

theorem takeDelivered_lots (p : Pitch) (s : State) :
    (takeDelivered p s).lots = s.lots ∨ ∃ (l : LotNo) (r : Lot), (takeDelivered p s).lots = s.lots.set l r ∧ ∀ c, ¬ r.loadsFor c := by
  cases p with
  | empty => exact .inl (evalGate_lots s)
  | reserved l k => exact .inl (evalGate_lots s)
  | loaded l k =>
    cases ha : s.lots[l] with
    | free o =>
      have hleft : takeDelivered (.loaded l k) s = evalGate s := by simp only [takeDelivered, ha]
      exact .inl (by rw [hleft, evalGate_lots])
    | active a =>
      obtain ⟨r, hr, hnot⟩ := deliverPitch_lots l k a s
      exact .inr ⟨l, r, by rw [takeDelivered_active ha, evalGate_lots, hr], hnot⟩

/-- A delivered pitch brings no lot into LOADING. -/
theorem takeDelivered_loadingLot {p : Pitch} {c : CellNo} (h : s.loadingLot c = none) : (takeDelivered p s).loadingLot c = none := by
  rw [loadingLot_eq_none_iff] at h ⊢
  rcases takeDelivered_lots p s with hlots | ⟨l, r, hlots, hnot⟩
  · rwa [hlots]
  · intro m
    rw [hlots]
    by_cases hlm : l = m
    · subst hlm
      simpa using hnot c
    · have hne : l.val ≠ m.val := fun e => hlm (Fin.ext e)
      simpa [hne] using h m

/-- With no lot in LOADING a shift is the hand-over of the pitch that leaves, on the moved map (R15). -/
theorem shiftPitch_idle {p : Pitch} {rest : List Pitch} (hmap : s.tracker.map = p :: rest) (h : ∀ c, s.loadingLot c = none) :
    shiftPitch s = takeDelivered p (bump .pitchesShifted (s.setMap (rest ++ [.empty]))) := by
  have hmoved : ∀ (c : CellNo) (m : List Pitch), (bump .pitchesShifted (s.setMap m)).loadingLot c = s.loadingLot c := fun _ _ => rfl
  simp only [shiftPitch, hmap]
  exact crossings_idle fun c => takeDelivered_loadingLot ((hmoved c _).trans (h c))

/-! ### Samples (R9 to R12) -/

theorem shiftPitches_iterate (n : Nat) (s : State) : shiftPitches n s = shiftPitch^[n] s := by
  induction n generalizing s with
  | zero => rfl
  | succ n ih => rw [shiftPitches, ih, Function.iterate_succ_apply]

theorem opBeltSample_first {count : Word} (h : s.tracker.last = none) : opBeltSample count s = firstSample count s := by
  simp only [opBeltSample, h]

theorem opBeltSample_implausible {count last : Word} (h : s.tracker.last = some last) (hfar : s.tables.belt.mpa < (count - last).toNat) :
    opBeltSample count s = rejectSample s := by
  simp only [opBeltSample, h, hfar, if_true]

theorem opBeltSample_plausible {count last : Word} (h : s.tracker.last = some last) (hnear : (count - last).toNat ≤ s.tables.belt.mpa) :
    opBeltSample count s = acceptSample count (count - last).toNat s := by
  simp only [opBeltSample, h, Nat.not_lt.mpr hnear, if_false]

end Sys2Proof.Machine

namespace Sys2Proof.Proofs

open Sys2Proof.Machine

/-- Settles O23. -/
theorem crossingAndShift : Obligations.CrossingAndShift := by
  unfold Obligations.CrossingAndShift
  refine ⟨fun c l a k s hload ha hpitch => ?_, fun p rest s hmap hidle => ?_⟩
  · rw [crossCell_loads hload ha hpitch]
    refine ⟨by rw [pitchLoaded_tracker]; rfl, fun hmore => ?_, fun hfull hroom => ?_⟩
    · rw [pitchLoaded, if_pos hmore]
      exact ⟨rfl, rfl⟩
    · obtain ⟨b, hb, hcell⟩ := loadsFor_iff.mp (loadsFor_of_loadingLot hload)
      obtain rfl : a = b := by simpa [ha] using (loading?_eq_some_iff.mp hb).1
      subst hcell
      rw [pitchLoaded, if_neg (by omega), sealFull, creditFines_lots, creditFines_cellPort, sendLotOrder, sendOrder_room (by exact hroom)]
      exact ⟨rfl, rfl⟩
  · rw [shiftPitch_idle hmap hidle]
    refine ⟨by rw [takeDelivered_tracker]; rfl, ?_⟩
    rintro rfl
    have hleaves : takeDelivered .empty (bump .pitchesShifted (s.setMap (rest ++ [.empty]))) =
        evalGate (bump .pitchesShifted (s.setMap (rest ++ [.empty]))) := rfl
    rw [hleaves]
    refine ⟨by rw [evalGate_lots]; rfl, by rw [evalGate_notices]; rfl, by rw [evalGate_raised]; rfl, ?_, fun r => ?_, ?_⟩
    · rw [evalGate_counter (by simp), counter_bump, if_pos rfl]
      rfl
    · rw [evalGate_counter (by simp), counter_bump, if_neg (by simp)]
      rfl
    · rw [evalGate_counter (by simp), counter_bump, if_neg (by simp)]
      rfl

/-- Settles O25. -/
theorem beltSamples : Obligations.BeltSamples := by
  unfold Obligations.BeltSamples
  refine fun count s hm => ⟨fun hnone => ?first, fun last hlast hfar => ?implausible, fun last hlast hnear => ?plausible⟩
  case first =>
    refine ⟨bump .samplesAccepted (s.setReference count s.tracker.acc), _, ?_, rfl, rfl, onlyGrew_bump _ rfl, rfl, ?_, ?_⟩
    · rw [exec_beltSample, operate_operating hm, opBeltSample_first hnone]
      rfl
    · rw [complete_last, arbiterPass_last, issueSetpoint_tracker, headReaction_last]
      rfl
    · rw [complete_acc, arbiterPass_acc, issueSetpoint_tracker, headReaction_acc]
      rfl
  case implausible =>
    refine ⟨rejectSample s, by rw [exec_beltSample, operate_operating hm, opBeltSample_implausible hlast hfar], ?_, ?_, ?_⟩
    · exact congrArg (fun u : State => { u with notices := s.notices, counters := s.counters, raised := s.raised })
        (raiseFault_rest .beltImplausible none none none (raisePlain Source.beltImplausible (bump .samplesImplausible s)))
    · rw [rejectSample, raiseFault_raised]
      rfl
    · exact raiseFault_faulted .beltImplausible none none none ((onlyGrew_bump _ rfl).same rfl) rfl rfl rfl (by simp) (by simp) (by simp)
  case plausible =>
    refine ⟨bump .samplesAccepted ((shiftPitches ((s.tracker.acc + (count - last).toNat) / s.tables.belt.cpp) s).setReference count
      ((s.tracker.acc + (count - last).toNat) % s.tables.belt.cpp)), _, ?_, rfl, ?_, ?_, fun hshort => ?_, fun n hn => ?_⟩
    · rw [exec_beltSample, operate_operating hm, opBeltSample_plausible hlast hnear]
      rfl
    · rw [complete_last, arbiterPass_last, issueSetpoint_tracker, headReaction_last]
      rfl
    · rw [complete_acc, arbiterPass_acc, issueSetpoint_tracker, headReaction_acc]
      rfl
    · rw [Nat.div_eq_of_lt hshort]
      exact ⟨onlyGrew_bump _ rfl, rfl, rfl⟩
    · rw [hn, shiftPitches_iterate]
      exact ⟨rfl, rfl, rfl, rfl⟩

/-- Settles O26. -/
theorem deliveredPitches : Obligations.DeliveredPitches := by
  unfold Obligations.DeliveredPitches
  refine ⟨fun l k a s ha hmode => ⟨fun r hgate hroute hmore => ?open_, fun r hgate hroute hlast hclean hcls => ?last,
    fun r hgate hroute hmore => ?astray, fun toward start taken hgate hlast => ?moving⟩, fun l k a r s ha hmode hgate hroute hmore => ?crush⟩
  case open_ =>
    have hout : gateOutcome s.head.gate s.tables.cls[k].route = (some r, false) := gateOutcome_own hgate hroute
    have hcredit : a.credit = a.mass / a.length := if_pos hmore
    refine ⟨deliverPitch l k a s, takeDelivered_active ha, ?_⟩
    rw [deliverPitch_open hout hmore, testUncrushed_bypass (by simp) hmode, ← hcredit]
    exact ⟨rfl, grewBy_bumpBy _ _ rfl, rfl⟩
  case last =>
    have hroute' : s.tables.cls[a.cls].route = r := hcls ▸ hroute
    have hout : gateOutcome s.head.gate s.tables.cls[k].route = (some r, false) := gateOutcome_own hgate hroute
    have hcredit : a.credit = a.mass - a.credited := if_neg (by omega)
    have hcompleted : s.grewBy (completeLot l a s) [(.lotsDelivered, 1)] := (grewBy_bumpBy (t := s.setLot l (.free (some a.cell))) _ 1 rfl).same rfl
    refine ⟨deliverPitch l k a s, takeDelivered_active ha, ?_⟩
    have hdelivered : deliverPitch l k a s = bump (.routeLots r) (bumpBy (.routeMass r) a.credit (completeLot l a s)) := by
      rw [deliverPitch_last hout hlast, testUncrushed_bypass (by simp) hmode, countCompletion, if_neg (by simp [hclean])]
      exact congrArg (fun q => bump (.routeLots q) (bumpBy (.routeMass r) a.credit (completeLot l a s))) hroute'
    rw [hdelivered, ← hcredit]
    refine ⟨rfl, rfl, (hcompleted.bumpBy a.credit (by simp)).bumpBy 1 (by simp), ?_⟩
    obtain ⟨lots, counters, raised, hform⟩ := completeLot_form l a (some r) a.credit (.routeLots r) s
    exact congrArg (fun u : State => { u with lots := s.lots, counters := s.counters, raised := s.raised }) hform
  case astray =>
    have hout := gateOutcome_other hgate hroute
    have hcredit : a.contaminate.credit = a.mass / a.length := if_pos hmore
    refine ⟨deliverPitch l k a s, takeDelivered_active ha, ?_⟩
    rw [deliverPitch_astray_open hout hmore, testUncrushed_bypass (by simp) hmode, hcredit]
    have hset : ∀ c, ((reportMisroute l a.contaminate s).setLot l (.active a.contaminate.afterDelivery)).counter c =
        (reportMisroute l a.contaminate s).counter c := fun _ => rfl
    refine ⟨?lots, ?raised, ?mass, ?misrouted, ?fault, ?rest⟩
    case lots =>
      rw [creditRoute_lots]
      rw [← hcredit]
      exact congrArg (·.set l (.active a.contaminate.afterDelivery)) (reportMisroute_lots l a.contaminate s)
    case raised => exact reportMisroute_raised l a.contaminate s
    case mass =>
      rw [creditRoute, counter_bumpBy, if_pos rfl, hset, reportMisroute_counter _ _ _ (by simp) (by simp), if_neg (by simp)]
    case misrouted =>
      rw [creditRoute, counter_bumpBy, if_neg (by simp), hset, reportMisroute_counter _ _ _ (by simp) (by simp), if_pos (by simp)]
    case fault =>
      rw [creditRoute, counter_bumpBy, if_neg (by simp), hset, reportMisroute_counter _ _ _ (by simp) (by simp), if_pos (by simp)]
    case rest =>
      exact congrArg (fun u : State => { u with lots := s.lots, counters := s.counters, raised := s.raised, notices := s.notices })
        (reportMisroute_rest l a.contaminate s)
  case moving =>
    have hout : gateOutcome s.head.gate s.tables.cls[k].route = (none, true) := by
      rw [hgate]
      rfl
    have hcredit : a.contaminate.credit = a.mass - a.credited := if_neg (Nat.not_lt.mpr hlast)
    refine ⟨deliverPitch l k a s, takeDelivered_active ha, ?_⟩
    rw [deliverPitch_astray_last hout hlast, testUncrushed_bypass (by simp) hmode, hcredit, countCompletion,
      if_pos (show a.contaminate.contaminated = true from rfl)]
    refine ⟨?lots, ?raised, ?unrouted, ?contaminated, ?misrouted, ?delivered, ?rest⟩
    case lots =>
      rw [bump_lots, creditRoute_lots]
      exact congrArg (·.set l (.free (some a.cell))) (reportMisroute_lots l a.contaminate s)
    case raised =>
      have hcompleted : (completeLot l a.contaminate (reportMisroute l a.contaminate s)).raised =
          (reportMisroute l a.contaminate s).raised ++ [{ source := 14, lot := some l, cell := some a.cell, drum := none }] := rfl
      rw [bump_raised, creditRoute, bumpBy_raised, hcompleted, reportMisroute_raised, List.append_assoc]
      rfl
    case unrouted =>
      rw [counter_bump, if_neg (by simp), creditRoute, counter_bumpBy, if_pos rfl, completeLot_counter, if_neg (by simp),
        reportMisroute_counter _ _ _ (by simp) (by simp), if_neg (by simp)]
    case contaminated =>
      rw [counter_bump, if_pos rfl, creditRoute, counter_bumpBy, if_neg (by simp), completeLot_counter, if_neg (by simp),
        reportMisroute_counter _ _ _ (by simp) (by simp), if_neg (by simp)]
    case misrouted =>
      rw [counter_bump, if_neg (by simp), creditRoute, counter_bumpBy, if_neg (by simp), completeLot_counter, if_neg (by simp),
        reportMisroute_counter _ _ _ (by simp) (by simp), if_pos (by simp)]
    case delivered =>
      rw [counter_bump, if_neg (by simp), creditRoute, counter_bumpBy, if_neg (by simp), completeLot_counter, if_pos rfl,
        reportMisroute_counter _ _ _ (by simp) (by simp), if_neg (by simp)]
    case rest => exact completeLot_rest l a.contaminate none _ .contaminated (reportMisroute_rest l a.contaminate s)
  case crush =>
    have hout := gateOutcome_own hgate hroute
    have hcredit : a.credit = a.mass / a.length := if_pos hmore
    refine ⟨deliverPitch l k a s, takeDelivered_active ha, ?_⟩
    have hdelivered : a.afterDelivery = { a with
        state := .delivering, delivered := a.delivered + 1, credited := a.credited + a.mass / a.length, massFinal := true } := by
      rw [← hcredit]
      rfl
    rw [deliverPitch_open hout hmore]
    refine ⟨?_, fun i hrunning => ?_, fun hstill => ?_⟩
    · rw [testUncrushed_lots, creditRoute_lots, hdelivered]
      rfl
    · rw [testUncrushed_running (by exact hrunning), hcredit]
      exact ⟨grewBy_bumpBy _ _ rfl, rfl⟩
    · have hcredited : ∀ c, c ≠ .routeMass r → (creditRoute (some r) a.credit (s.setLot l (.active a.afterDelivery))).counter c =
          s.counter c := fun c hc => by
        rw [creditRoute, counter_bumpBy, if_neg (Ne.symm hc)]
        rfl
      rw [testUncrushed_raises (by exact hmode) (by exact hstill)]
      refine ⟨?uncrushed, ?fault, ?raised, ?rest⟩
      case uncrushed =>
        rw [raiseFault_counter _ _ _ _ (by simp) (by simp), if_neg (by simp), counter_bump, if_pos rfl, hcredited _ (by simp)]
      case fault =>
        rw [raiseFault_counter _ _ _ _ (by simp) (by simp), if_pos rfl, counter_bump, if_neg (by simp), hcredited _ (by simp)]
      case raised =>
        rw [raiseFault_raised]
        rfl
      case rest =>
        exact congrArg (fun u : State => { u with lots := s.lots, counters := s.counters, notices := s.notices })
          (raiseFault_rest .uncrushedDelivery (some l) (some a.cell) none
            (bump .uncrushed (creditRoute (some r) a.credit (s.setLot l (.active a.afterDelivery)))))

end Sys2Proof.Proofs
end

section
/-! SUPPORT. The hold causes with their orders (R68 to R73), and the belt setpoint with the override (R76 to R81). -/

namespace Sys2Proof.Machine

variable {s t : State}

/-! ### Orders to the loading cells (R72, R73) -/

/-- The order to the cell of a lot, where the lot is in LOADING. -/
def State.loadingOrder (s : State) (o : Order) (l : LotNo) : Option Frame :=
  (s.lots[l].loading?).map fun a => s.orderFrame o s.tables.cell[a.cell].node (some l) 0 none

theorem loadingOrders_eq (s : State) (o : Order) : s.loadingOrders o = (List.finRange 64).filterMap (s.loadingOrder o) := by
  refine congrArg (List.filterMap · (List.finRange 64)) (funext fun l => ?_)
  unfold State.loadingOrder
  cases s.lots[l] with
  | free o => rfl
  | active a => by_cases h : a.state = .loading <;> simp [Lot.loading?, h]

theorem filterMap_loadingLots (s : State) (o : Order) : s.loadingLots.filterMap (s.loadingOrder o) = s.loadingOrders o := by
  rw [loadingOrders_eq, State.loadingLots, List.filterMap_filter]
  refine congrArg (List.filterMap · (List.finRange 64)) (funext fun l => ?_)
  unfold State.loadingOrder
  cases s.lots[l].loading? <;> simp

/-- The orders of a list of lots, in a cell queue with room for them: they stand there in order, and counters count them. -/
theorem orders_room (o : Order) (c : Counter) (l : List LotNo) (t : State) (hlots : t.lots = s.lots) (htables : t.tables = s.tables)
    (hroom : t.cellPort.queue.length + (l.filterMap (s.loadingOrder o)).length ≤ 32) :
    ∃ k, l.foldl (fun u n => orderLoading o c n u) t =
      { t with cellPort := { t.cellPort with queue := t.cellPort.queue ++ l.filterMap (s.loadingOrder o) }, counters := k } := by
  induction l generalizing t with
  | nil => exact ⟨t.counters, by simp⟩
  | cons n rest ih =>
    rw [List.foldl_cons]
    cases hload : s.lots[n].loading? with
    | none =>
      have hnone : s.loadingOrder o n = none := by
        rw [State.loadingOrder, hload]
        rfl
      have hskip : orderLoading o c n t = t := by
        have : t.lots[n].loading? = none := by rw [hlots, hload]
        simp only [orderLoading, this]
      rw [List.filterMap_cons_none hnone] at hroom ⊢
      rw [hskip]
      exact ih t hlots htables hroom
    | some a =>
      have hsome : s.loadingOrder o n = some (s.orderFrame o s.tables.cell[a.cell].node (some n) 0 none) := by
        rw [State.loadingOrder, hload]
        rfl
      rw [List.filterMap_cons_some hsome] at hroom ⊢
      rw [List.length_cons] at hroom
      have hsend : orderLoading o c n t =
          enqueue .cell (s.orderFrame o s.tables.cell[a.cell].node (some n) 0 none) (bump c t) := by
        have hlot : t.lots[n].loading? = some a := by rw [hlots, hload]
        have hfits : (bump c t).hasRoom .cell = true := by
          rw [hasRoom_bump, State.hasRoom, State.port_cell, decide_eq_true_eq, queueCapacity]
          omega
        simp only [orderLoading, hlot, sendLotOrder]
        rw [sendOrder_room hfits]
        simp only [State.orderFrame, State.cellNode, bump_tables, htables]
      rw [hsend]
      obtain ⟨k, hk⟩ := ih (enqueue .cell (s.orderFrame o s.tables.cell[a.cell].node (some n) 0 none) (bump c t)) (by simpa using hlots)
        (by simpa using htables) (by simp [enqueue]; omega)
      exact ⟨k, by rw [hk]; simp [enqueue, State.setPort, State.port, List.append_assoc]⟩

/-- The orders to every loading cell, in a cell queue with room for them (R72, R73). -/
theorem orderAllLoading_room {o : Order} (c : Counter) (hlots : t.lots = s.lots) (htables : t.tables = s.tables)
    (hroom : t.cellPort.queue.length + (s.loadingOrders o).length ≤ 32) :
    ∃ k, orderAllLoading o c t =
      { t with cellPort := { t.cellPort with queue := t.cellPort.queue ++ s.loadingOrders o }, counters := k } := by
  have hlist : t.loadingLots = s.loadingLots := by simp only [State.loadingLots, hlots]
  rw [orderAllLoading, hlist, ← filterMap_loadingLots]
  exact orders_room o c _ t hlots htables (by rw [filterMap_loadingLots]; exact hroom)

/-! ### Setting and clearing SUPERVISOR (R68) -/

/-- Under a hold, setting SUPERVISOR writes its flag and nothing else. -/
theorem setCause_held (h : s.holdInForce = true) : setCause .supervisor s = s.setCauseFlag .supervisor true := by
  unfold setCause
  split
  · rename_i hset
    exact (setCauseFlag_self hset).symm
  · rfl

/-- On a running line it sends HOLD to the loading cells and selects the setpoint again. -/
theorem setCause_running (h : s.holdInForce = false) : setCause .supervisor s =
    reselect (orderAllLoading .hold .holdOrders (bump .holdsBegun (s.setCauseFlag .supervisor true))) := by
  have hclear : ¬ s.causeInForce .supervisor = true := fun hset => by
    have hflag : s.belt.supervisor = true := hset
    simp [State.holdInForce, hflag] at h
  rw [setCause, if_neg hclear, if_neg (by simp [h])]

theorem clearCause_clear (h : s.belt.supervisor = false) : clearCause .supervisor s = s := if_pos h

theorem clearCause_held (hset : s.belt.supervisor = true) (h : s.belt.crusher = true ∨ s.belt.link = true) :
    clearCause .supervisor s = s.setCauseFlag .supervisor false := by
  have hcause : ¬ s.causeInForce .supervisor = false := by
    rw [show s.causeInForce .supervisor = true from hset]
    simp
  have hheld : (s.setCauseFlag .supervisor false).holdInForce = true := by
    simp only [State.holdInForce, State.setCauseFlag]
    rcases h with h | h <;> simp [h]
  rw [clearCause, if_neg hcause, if_pos hheld]

theorem clearCause_sole (hset : s.belt.supervisor = true) (hcrusher : s.belt.crusher = false) (hlink : s.belt.link = false) :
    clearCause .supervisor s =
      arbiterPass (reselect (orderAllLoading .resume .resumeOrders (s.setCauseFlag .supervisor false))) := by
  have hcause : ¬ s.causeInForce .supervisor = false := by
    rw [show s.causeInForce .supervisor = true from hset]
    simp
  have hfree : ¬ (s.setCauseFlag .supervisor false).holdInForce = true := by
    simp [State.holdInForce, State.setCauseFlag, hcrusher, hlink]
  rw [clearCause, if_neg hcause, if_neg hfree]

/-- A request that writes the belt's flags alone, and is answered. -/
theorem serve_belt {r : Req} {n : Nat} {body : State → State × Answer} {b : BeltUnit} {st : Status} (hready : s.readyFor r)
    (ha : s.activity.isReloading = false) (hbody : body s = ({ s with belt := b }, .now st [])) :
    s.answered (serve n r body s) r n st [] [] ∧ (serve n r body s).belt = b ∧
      { serve n r body s with belt := s.belt, cellPort := s.cellPort, plantPort := s.plantPort, counters := s.counters } = s := by
  obtain ⟨-, -, hsettled, -⟩ := id hready
  rw [serve_ready hready ha hbody (hsettled.congr rfl rfl) rfl]
  obtain ⟨p, q, k, hform⟩ := countServed_enqueue_form st r.port (s.replyFrame r n st []) ({ s with belt := b } : State)
  refine ⟨answered_countServed (onlyGrew_same rfl) rfl rfl (by simp) (by simp), ?_, ?_⟩
  · rw [hform]
  · rw [hform]

/-! ### The setpoint (R76 to R81) -/

theorem reselect_kept (h : s.selection.2 = s.belt.selected) : reselect s = s := if_pos h

theorem reselect_changed (h : s.selection.2 ≠ s.belt.selected) : reselect s = issueSetpoint s := if_neg h

theorem selection_program {v : Nat} (hfree : s.holdInForce = false) (h : s.belt.programSetpoint = some v) : s.selection.2 = v := by
  simp [State.selection, hfree, h]

theorem selection_override (hfree : s.holdInForce = false) (h : s.belt.programSetpoint = none) (hlatched : s.belt.latched = true) :
    s.selection.2 = s.tables.profile.overriding := by
  simp [State.selection, hfree, h, hlatched]

theorem selection_primary (hfree : s.holdInForce = false) (h : s.belt.programSetpoint = none) (hlatched : s.belt.latched = false) :
    s.selection.2 = s.tables.profile.primary := by
  simp [State.selection, hfree, h, hlatched]

theorem overrideDue_iff : s.overrideDue = true ↔ s.belt.latched = true ∧ 1000 ≤ (s.now - s.belt.secondStart).toNat := by
  rw [State.overrideDue, Bool.and_eq_true, decide_eq_true_iff]
  exact Iff.rfl

end Sys2Proof.Machine

namespace Sys2Proof.Proofs

open Sys2Proof.Machine

/-- Settles O27. -/
theorem haltAndRelease : Obligations.HaltAndRelease := by
  unfold Obligations.HaltAndRelease
  refine fun r s hready ha => ⟨fun hheld => ?held, fun hfree => ?running, fun hset hother => ?released, fun hset hcrusher hlink => ?resumed,
    fun hclear => ?clear⟩
  case held =>
    have hbody : haltBody s = ({ s with belt := { s.belt with supervisor := true } }, .now .ok []) := by
      rw [haltBody, setCause_held hheld]
      rfl
    exact ⟨_, exec_haltLine r s, serve_belt hready ha hbody⟩
  case running =>
    refine ⟨orderAllLoading .hold .holdOrders (bump .holdsBegun (s.setCauseFlag .supervisor true)), ?_, ?_, fun hroom => ?_⟩
    · rw [exec_haltLine, opHaltLine, serve_served hready.1 hready.2.1 ha, haltBody, setCause_running hfree]
      rfl
    · rw [orderAllLoading_belt]
      rfl
    · obtain ⟨k, hk⟩ := orderAllLoading_room (s := s) (t := bump .holdsBegun (s.setCauseFlag .supervisor true)) (o := .hold) .holdOrders
        rfl rfl hroom
      rw [hk]
      exact ⟨rfl, rfl⟩
  case released =>
    have hbody : releaseBody s = ({ s with belt := { s.belt with supervisor := false } }, .now .ok []) := by
      rw [releaseBody, clearCause_held hset hother]
      rfl
    exact ⟨_, exec_releaseLine r s, serve_belt hready ha hbody⟩
  case resumed =>
    refine ⟨orderAllLoading .resume .resumeOrders (s.setCauseFlag .supervisor false), ?_, ?_, fun hroom => ?_⟩
    · rw [exec_releaseLine, opReleaseLine, serve_served hready.1 hready.2.1 ha, releaseBody, clearCause_sole hset hcrusher hlink]
      rfl
    · rw [orderAllLoading_belt]
      rfl
    · obtain ⟨k, hk⟩ := orderAllLoading_room (s := s) (t := s.setCauseFlag .supervisor false) (o := .resume) .resumeOrders rfl rfl hroom
      rw [hk]
      exact ⟨rfl, rfl⟩
  case clear => exact ⟨_, exec_releaseLine r s, serve_onlyAnswered hready ha (by rw [releaseBody, clearCause_clear hclear]; rfl)⟩

/-- Settles O28. -/
theorem setpoints : Obligations.Setpoints := by
  unfold Obligations.Setpoints
  refine ⟨fun s => ⟨fun hheld => ?hold, fun h1 h2 h3 => ?free⟩, fun s => ⟨?belt, ?coalescer, ?count, reselect_kept, reselect_changed⟩,
    fun s => ⟨fun hlatched => if_pos hlatched, fun hunlatched => ?latch⟩, fun r s hready ha => ⟨fun hunlatched => ?unlatched, fun hlatched => ?latched⟩,
    fun s hlatched hsecond => ?second, fun s hnot => ?early⟩
  case hold =>
    have hforce : s.holdInForce = true := by
      rw [State.holdInForce]
      rcases hheld with h | h | h <;> simp [h]
    simp [State.selection, hforce]
  case free =>
    have hfree : s.holdInForce = false := by simp [State.holdInForce, h1, h2, h3]
    exact ⟨fun v => selection_program hfree, selection_override hfree, selection_primary hfree⟩
  case belt => simp [issueSetpoint]
  case coalescer =>
    unfold issueSetpoint hand
    split
    · rename_i hany
      rw [if_pos (by exact hany)]
      rfl
    · rename_i hany
      rw [if_neg (by exact hany)]
      rfl
  case count =>
    rw [issueSetpoint, hand_counter (by simp), counter_bump, if_pos rfl]
    rfl
  case latch =>
    refine ⟨bump .overridesLatched { s with belt := { s.belt with latched := true, seconds := 0, secondStart := s.now } }, ?_, rfl,
      onlyGrew_bump _ rfl, rfl⟩
    exact if_neg (by simp [hunlatched])
  case unlatched =>
    exact ⟨_, exec_releaseOverride r s, serve_onlyAnswered hready ha (by rw [releaseOverrideBody, releaseOverride, if_neg (by simp [hunlatched])]; rfl)⟩
  case latched =>
    rw [exec_releaseOverride, opReleaseOverride, serve_served hready.1 hready.2.1 ha, releaseOverrideBody, releaseOverride, if_pos hlatched]
    rfl
  case second => rw [exec_overrideSecond, opOverrideSecond, if_pos (overrideDue_iff.mpr ⟨hlatched, hsecond⟩)]
  case early =>
    refine (exec_overrideSecond s).trans (congrArg _ (if_neg fun hdue => ?_))
    obtain ⟨hlatched, hsecond⟩ := overrideDue_iff.mp hdue
    rcases hnot with h | h
    · exact Bool.false_ne_true (h.symm.trans hlatched)
    · omega

end Sys2Proof.Proofs
end

section
/-! SUPPORT. What a command handed to the coalescer leaves unchanged (R164), and the head gate by its state (Section 5.2). -/

namespace Sys2Proof.Machine

variable {s t : State}

/-! ### A command handed over -/

/-- A hand-over writes the coalescer, the handed mark and the counters, and nothing else. -/
theorem hand_form (tg : Target) (m : Mode) (v : Nat) (s : State) :
    ∃ k, hand tg m v s = { s with coalescer := (hand tg m v s).coalescer, handed := true, counters := k } := by
  unfold hand
  split <;> exact ⟨_, rfl⟩

@[simp] theorem hand_handed (tg : Target) (m : Mode) (v : Nat) (s : State) : (hand tg m v s).handed = true := by
  obtain ⟨k, hk⟩ := hand_form tg m v s
  rw [hk]

/-- The list after a hand-over depends on the list before it and on the time alone. -/
theorem hand_coalescer_of (tg : Target) (m : Mode) (v : Nat) (hlist : t.coalescer = s.coalescer) (hnow : t.now = s.now) :
    (hand tg m v t).coalescer = (hand tg m v s).coalescer := by
  unfold hand
  rw [hlist, hnow]
  split <;> rfl

/-- A change of the head's record alone leaves nothing for the completion. -/
theorem complete_head (h : s.settledLaw) (x : Head) : complete { s with head := x } = { s with head := x } := complete_of_settled h

/-! ### The gate's target and its travels (R88) -/

theorem gateTarget_of_empty (h : ∀ p ∈ s.tracker.map, p = .empty) : s.gateTarget = none := by
  have hnone : firstClass s.tracker.map = none := List.findSome?_eq_none_iff.mpr fun p hp => by rw [h p hp]; rfl
  rw [State.gateTarget, hnone]
  rfl

theorem gateTarget_of_first {i : Nat} {p : Pitch} {k : ClassNo} (hp : s.tracker.map[i]? = some p) (hk : p.cls = some k)
    (hbefore : ∀ j < i, s.tracker.map[j]? = some .empty) : s.gateTarget = some s.tables.cls[k].route := by
  obtain ⟨hi, hget⟩ := List.getElem?_eq_some_iff.mp hp
  have hfirst : firstClass s.tracker.map = some k := by
    refine List.findSome?_eq_some_iff.mpr ⟨s.tracker.map.take i, p, s.tracker.map.drop (i + 1), ?_, hk, fun q hq => ?_⟩
    · rw [← hget, ← List.drop_eq_getElem_cons hi, List.take_append_drop]
    · obtain ⟨j, hjq⟩ := List.mem_iff_getElem?.mp hq
      have hlt : j < i := lt_of_lt_of_le (List.getElem?_eq_some_iff.mp hjq).1 (List.length_take_le _ _)
      rw [List.getElem?_take_of_lt hlt, hbefore j hlt] at hjq
      rw [← Option.some.inj hjq]
      rfl
  rw [State.gateTarget, hfirst]
  rfl

/-- A new travel writes the gate state, and hands MOVE over unless a program holds the gate. -/
theorem startTravel_head (r : RouteNo) (s : State) :
    (startTravel r s).head = { s.head with gate := .moving (some r) s.now false } := by
  unfold startTravel
  split
  · rfl
  · simp only [handMove_head]
    rfl

theorem handMove_coalescer (r : RouteNo) (s : State) : (handMove r s).coalescer = (hand .gate .move r.val s).coalescer := rfl

theorem handMove_gateMoves (r : RouteNo) (s : State) : (handMove r s).counter .gateMoves = saturatingAdd (s.counter .gateMoves) 1 := by
  rw [handMove, counter_bump, if_pos rfl, hand_counter (by simp)]

theorem startTravel_held (h : s.holds .gate = true) (r : RouteNo) : startTravel r s = s.setGate (.moving (some r) s.now false) := if_pos h

theorem startTravel_free (h : s.holds .gate = false) (r : RouteNo) :
    startTravel r s = handMove r (s.setGate (.moving (some r) s.now false)) := if_neg (by simp [h])

theorem startTravel_coalescer (r : RouteNo) (s : State) :
    (startTravel r s).coalescer = (if s.holds .gate then s else hand .gate .move r.val s).coalescer := by
  unfold startTravel
  split
  · rfl
  · exact hand_coalescer_of _ _ _ rfl rfl

theorem handMove_form (r : RouteNo) (s : State) :
    ∃ c b k, handMove r s = { s with coalescer := c, handed := b, counters := k } := by
  obtain ⟨k, hk⟩ := hand_form .gate .move r.val s
  rw [handMove, hk]
  exact ⟨_, _, _, rfl⟩

theorem startTravel_form (r : RouteNo) (s : State) :
    ∃ h c b k, startTravel r s = { s with head := h, coalescer := c, handed := b, counters := k } := by
  unfold startTravel
  split
  · exact ⟨_, _, _, _, rfl⟩
  · obtain ⟨c, b, k, hk⟩ := handMove_form r (s.setGate (.moving (some r) s.now false))
    rw [hk]
    exact ⟨_, _, _, _, rfl⟩

theorem evalGate_kept {r : RouteNo} (ht : s.gateTarget = some r)
    (h : s.head.gate = .settled r ∨ ∃ start taken, s.head.gate = .moving (some r) start taken) : evalGate s = s := by
  rcases h with h | ⟨start, taken, h⟩ <;> simp [evalGate, ht, h]

theorem evalGate_travels {r : RouteNo} (ht : s.gateTarget = some r) (hs : s.head.gate ≠ .settled r)
    (hm : ∀ start taken, s.head.gate ≠ .moving (some r) start taken) : evalGate s = startTravel r s := by
  simp only [evalGate, ht]
  cases hg : s.head.gate with
  | settled r' => exact if_neg fun hr => hs (by rw [hg, hr])
  | moving toward start taken => exact if_neg fun hr => hm start taken (by rw [hg, hr])

/-! ### GATE STATUS by the gate state (R89) -/

theorem positionRoute_of_val {p : Byte} {g : RouteNo} (h : p.toNat = g.val) : positionRoute p = some g := asIndex_of_val h.symm

theorem positionRoute_ne {p : Byte} {g : RouteNo} (h : p.toNat ≠ g.val) : positionRoute p ≠ some g := by
  unfold positionRoute asIndex
  split
  · exact fun heq => h (congrArg Fin.val (Option.some.inj heq))
  · simp

theorem opGateStatus_invalid {p : Byte} (h : 7 < p.toNat ∧ p ≠ 15) : opGateStatus p s = bump .gateInvalid s := if_pos h

section
variable {p : Byte} {g : RouteNo} {start : Word} {taken : Bool}

theorem opGateStatus_arrived (hg : s.head.gate = .moving (some g) start taken) (hp : p.toNat = g.val) :
    opGateStatus p s = { s with head := { s.head with gate := .settled g, lastPosition := some p } } := by
  have hvalid : ¬ (7 < p.toNat ∧ p ≠ 15) := by omega
  simp only [opGateStatus, if_neg hvalid, hg, positionRoute_of_val hp, if_true, State.setGate]

theorem opGateStatus_underway (hvalid : p.toNat ≤ 7 ∨ p = 15) (hg : s.head.gate = .moving (some g) start taken) (hp : p.toNat ≠ g.val) :
    opGateStatus p s = { s with head := { s.head with lastPosition := some p } } := by
  have hvalid' : ¬ (7 < p.toNat ∧ p ≠ 15) := by rintro ⟨h, h'⟩; exact hvalid.elim (by omega) h'
  simp only [opGateStatus, if_neg hvalid', hg, if_neg (positionRoute_ne hp)]

theorem opGateStatus_found (hg : s.head.gate = .moving none start taken) (hp : p.toNat = g.val) :
    opGateStatus p s = { s with head := { s.head with gate := .settled g, lastPosition := some p } } := by
  have hvalid : ¬ (7 < p.toNat ∧ p ≠ 15) := by omega
  simp only [opGateStatus, if_neg hvalid, hg, positionRoute_of_val hp, State.setGate]

theorem opGateStatus_unknown (hg : s.head.gate = .moving none start taken) :
    opGateStatus 15 s = { s with head := { s.head with lastPosition := some 15 } } := by
  have hnone : positionRoute 15 = none := by decide
  have hvalid : ¬ (7 < (15 : Byte).toNat ∧ (15 : Byte) ≠ 15) := fun h => h.2 rfl
  simp only [opGateStatus, if_neg hvalid, hg, hnone]

theorem opGateStatus_stays (hg : s.head.gate = .settled g) (hp : p.toNat = g.val) :
    opGateStatus p s = { s with head := { s.head with lastPosition := some p } } := by
  have hvalid : ¬ (7 < p.toNat ∧ p ≠ 15) := by omega
  simp only [opGateStatus, if_neg hvalid, hg, positionRoute_of_val hp, if_true]

theorem opGateStatus_lost (hvalid : p.toNat ≤ 7 ∨ p = 15) (hg : s.head.gate = .settled g) (hp : p.toNat ≠ g.val) :
    opGateStatus p s = losePosition g { s with head := { s.head with lastPosition := some p } } := by
  have hvalid' : ¬ (7 < p.toNat ∧ p ≠ 15) := by rintro ⟨h, h'⟩; exact hvalid.elim (by omega) h'
  simp only [opGateStatus, if_neg hvalid', hg, if_neg (positionRoute_ne hp)]

theorem losePosition_rest (g : RouteNo) (s : State) : { losePosition g s with
    head := s.head, coalescer := s.coalescer, counters := s.counters, handed := s.handed } = s := by
  obtain ⟨h, c, b, k, hform⟩ := startTravel_form (s.gateTarget.getD g) s
  rw [losePosition, hform]
  rfl

end

/-! ### A travel that lasts 3,000 ms (R90) -/

/-- The fault and the event of a travel that has lasted too long, its timeout taken. -/
def travelExpired (g : RouteNo) (start : Word) (s : State) : State :=
  raiseFault .gateTimeout none none none (raisePlain Source.gateTimeout (s.setGate (.moving (some g) start true)))

theorem opGateTimeout_expires {g : RouteNo} {start : Word} (hg : s.head.gate = .moving (some g) start false)
    (hheld : s.holds .gate = false) (hage : 3000 ≤ (s.now - start).toNat) :
    opGateTimeout s = bump .gateTimeouts (handMove g (travelExpired g start s)) := by
  have hdue : ¬ (s.holds .gate = true ∨ s.since start < travelLimit) := by
    rw [hheld]
    exact fun h => h.elim Bool.false_ne_true (Nat.not_lt.mpr hage)
  simp only [opGateTimeout, hg, if_neg hdue]
  rfl

theorem opGateTimeout_kept {g : RouteNo} {start : Word} {taken : Bool} (hg : s.head.gate = .moving (some g) start taken)
    (h : taken = true ∨ s.holds .gate = true ∨ (s.now - start).toNat < 3000) : opGateTimeout s = s := by
  cases taken with
  | true => simp only [opGateTimeout, hg]
  | false =>
    have hkept : s.holds .gate = true ∨ s.since start < travelLimit := h.resolve_left Bool.false_ne_true
    simp only [opGateTimeout, hg, if_pos hkept]

theorem travelExpired_rest (g : RouteNo) (start : Word) (s : State) : { travelExpired g start s with
    head := s.head, counters := s.counters, notices := s.notices, raised := s.raised } = s :=
  congrArg (fun u : State => { u with head := s.head, counters := s.counters, raised := s.raised })
    (raiseFault_rest .gateTimeout none none none (raisePlain Source.gateTimeout (s.setGate (.moving (some g) start true))))

theorem travelExpired_timeout_rest (g : RouteNo) (start : Word) (s : State) :
    { bump .gateTimeouts (handMove g (travelExpired g start s)) with head := s.head, coalescer := s.coalescer, counters := s.counters, notices := s.notices, raised := s.raised, handed := s.handed } = s := by
  obtain ⟨c, b, k, hform⟩ := handMove_form g (travelExpired g start s)
  have hrest := travelExpired_rest g start s
  have hcoalescer : (travelExpired g start s).coalescer = s.coalescer := by simp [travelExpired]
  have hhanded : (travelExpired g start s).handed = s.handed := by simp [travelExpired]
  rw [hform, ← hcoalescer, ← hhanded]
  exact hrest

end Sys2Proof.Machine

namespace Sys2Proof.Proofs

open Sys2Proof.Machine

/-- Settles O29. -/
theorem gateStatuses : Obligations.GateStatuses := by
  unfold Obligations.GateStatuses
  intro p s hmode hsettled
  rw [exec_gateStatus, operate_operating hmode]
  refine ⟨fun hinvalid => ?invalid, fun g start taken hg => ⟨fun hp => ?arrived, fun hvalid hp => ?underway⟩,
    fun start taken hg => ⟨fun g hp => ?found, fun hp => ?unknown⟩, fun g hg => ⟨fun hp => ?stays, fun hvalid hp => ?lost⟩⟩
  case invalid =>
    rw [opGateStatus_invalid hinvalid, complete_of_settled (bump_settled _ hsettled)]
    exact ⟨_, rfl, onlyGrew_bump _ rfl, rfl⟩
  case arrived => rw [opGateStatus_arrived hg hp, complete_head hsettled]
  case underway => rw [opGateStatus_underway hvalid hg hp, complete_head hsettled]
  case found => rw [opGateStatus_found hg hp, complete_head hsettled]
  case unknown => rw [hp, opGateStatus_unknown hg, complete_head hsettled]
  case stays => rw [opGateStatus_stays hg hp, complete_head hsettled]
  case lost =>
    obtain ⟨hraised, -⟩ := hsettled
    rw [opGateStatus_lost hvalid hg hp]
    let u : State := { s with head := { s.head with lastPosition := some p } }
    refine ⟨losePosition g u, rfl, ?_, ?_, ?_, fun hheld => ?_, fun hfree => ?_, ?_⟩
    · exact startTravel_head (u.gateTarget.getD g) u
    · exact (startTravel_raised (u.gateTarget.getD g) u).trans hraised
    · rw [losePosition, counter_bump, if_pos rfl, startTravel_counter (by simp)]
      rfl
    · rw [losePosition, startTravel_held (by exact hheld)]
      exact ⟨rfl, onlyGrew_bump _ rfl⟩
    · rw [losePosition, startTravel_free (by exact hfree)]
      refine ⟨hand_coalescer_of _ _ _ rfl rfl, ?_⟩
      rw [counter_bump, if_neg (by simp), handMove_gateMoves]
      rfl
    · exact congrArg (fun v : State => { v with head := s.head }) (losePosition_rest g u)

/-- Settles O30. -/
theorem gateTargets : Obligations.GateTargets := by
  unfold Obligations.GateTargets
  refine ⟨fun s => ⟨fun hempty => ?empty, fun i p k hp hk hbefore => ?first⟩, fun g start taken s hg => ⟨fun htaken hheld hage => ?expires,
    fun h hsettled => ?kept⟩⟩
  case empty =>
    have hnone := gateTarget_of_empty hempty
    exact ⟨hnone, by simp only [evalGate, hnone]⟩
  case first =>
    have ht := gateTarget_of_first hp hk hbefore
    refine ⟨ht, fun h => evalGate_kept ht (.inl h), fun start taken h => evalGate_kept ht (.inr ⟨start, taken, h⟩), fun hs hm => ?_⟩
    rw [evalGate_travels ht hs hm]
    exact ⟨startTravel_head _ _, startTravel_coalescer _ _⟩
  case expires =>
    subst htaken
    rw [exec_gateTimeout, opGateTimeout_expires hg hheld hage]
    refine ⟨_, rfl, ?_, ?_, ?_, ?_, ?_, ?_, ?_, travelExpired_timeout_rest g start s⟩
    · simp only [bump_head, handMove_head, travelExpired, raiseFault_head, raisePlain_head]
      rfl
    · simp only [bump_raised, handMove_raised, travelExpired, raiseFault_raised]
      rfl
    · exact hand_coalescer_of _ _ _ (by simp [travelExpired]) (by simp [travelExpired])
    · rw [bump_handed]
      exact hand_handed _ _ _ _
    · rw [counter_bump, if_pos rfl, handMove, counter_bump, if_neg (by simp), hand_counter (by simp), travelExpired,
        raiseFault_counter _ _ _ _ (by simp) (by simp), if_neg (by simp)]
      rfl
    · rw [counter_bump, if_neg (by simp), handMove_gateMoves, travelExpired, raiseFault_counter _ _ _ _ (by simp) (by simp), if_neg (by simp)]
      rfl
    · rw [counter_bump, if_neg (by simp), handMove, counter_bump, if_neg (by simp), hand_counter (by simp), travelExpired,
        raiseFault_counter _ _ _ _ (by simp) (by simp), if_pos rfl]
      rfl
  case kept => rw [exec_gateTimeout, opGateTimeout_kept hg h, complete_of_settled hsettled]

end Sys2Proof.Proofs
end

section
/-! SUPPORT. What a reaction of the line (a pass, an order to the cells, a change of the hold causes, the interlock) leaves alone: the head but for
the gate, the waiting commands but for the belt and the gate, and every counter but those of its own parts. -/

namespace Sys2Proof.Machine

variable {s t u : State} {ks : List Counter}

/-- The counters that passes, orders, hold causes and gate travels write. -/
def Counter.isReaction : Counter → Bool
  | .passes | .upstreamSkips | .notFeasible | .lotsGranted | .refusals _ => true
  | .raised .ownTelegramLost | .faultsCaptured | .faultsSuppressed | .ownLost _ => true
  | .gateMoves | .commandsHanded | .commandsMerged | .entriesCreated => true
  | .holdsBegun | .holdOrders | .resumeOrders | .setpointsIssued => true
  | _ => false

/-- What a reaction leaves as it was; `ks` are counters that it may write besides. -/
structure Reacted (ks : List Counter) (s t : State) : Prop where
  head : { t.head with gate := s.head.gate } = s.head
  entries : ∀ tg : Target, tg ≠ .belt → tg ≠ .gate →
    t.coalescer.entries.filter (fun e => e.target = tg) = s.coalescer.entries.filter (fun e => e.target = tg)
  counters : ∀ c : Counter, c.isReaction = false → c ∉ ks → t.counter c = s.counter c
  handed : s.handed = true → t.handed = true
  plant : t.plantPort = s.plantPort

/-! ### Chains of reactions -/

theorem Reacted.refl (s : State) : Reacted ks s s := ⟨rfl, fun _ _ _ => rfl, fun _ _ _ => rfl, id, rfl⟩

theorem Reacted.trans (h : Reacted ks s t) (h' : Reacted ks t u) : Reacted ks s u where
  head := calc
    { u.head with gate := s.head.gate } = { { u.head with gate := t.head.gate } with gate := s.head.gate } := rfl
    _ = { t.head with gate := s.head.gate } := by rw [h'.head]
    _ = s.head := h.head
  entries tg hb hg := (h'.entries tg hb hg).trans (h.entries tg hb hg)
  counters c hc hk := (h'.counters c hc hk).trans (h.counters c hc hk)
  handed hs := h'.handed (h.handed hs)
  plant := h'.plant.trans h.plant

/-- A step that writes none of what is watched. -/
theorem Reacted.quiet (h : Reacted ks s t) (hhead : u.head = t.head) (hentries : u.coalescer = t.coalescer) (hcounters : u.counters = t.counters)
    (hhanded : u.handed = t.handed) (hplant : u.plantPort = t.plantPort) : Reacted ks s u :=
  h.trans ⟨by rw [hhead], fun _ _ _ => by rw [hentries], fun c _ _ => by rw [State.counter, hcounters]; rfl, fun hs => hhanded.trans hs, hplant⟩

theorem Reacted.bumped (h : Reacted ks s t) {c : Counter} (hc : c.isReaction = true ∨ c ∈ ks) : Reacted ks s (bump c t) :=
  h.trans ⟨by simp, fun _ _ _ => by simp, fun k hk hks => by
    rw [counter_bump, if_neg]
    rintro rfl
    exact hc.elim (fun htrue => Bool.false_ne_true (hk.symm.trans htrue)) hks, fun hs => by simpa using hs, by simp⟩

theorem Reacted.foldl {α : Type} {f : State → α → State} (hf : ∀ (t : State) (a : α), Reacted ks s t → Reacted ks s (f t a)) (l : List α)
    (h : Reacted ks s t) : Reacted ks s (l.foldl f t) :=
  List.foldlRecOn l f h fun t h a _ => hf t a h

/-- The head but for its gate, field by field. -/
theorem Reacted.crusher_fields (h : Reacted ks s t) :
    t.head.crusher = s.head.crusher ∧ t.head.startMode = s.head.startMode ∧ t.head.jam = s.head.jam := by
  have hcrusher := congrArg Head.crusher h.head
  have hmode := congrArg Head.startMode h.head
  have hjam := congrArg Head.jam h.head
  exact ⟨hcrusher, hmode, hjam⟩

/-- The commands that wait for a target other than the belt and the gate. -/
theorem Reacted.mem_entries (h : Reacted ks s t) {e : Entry} (hb : e.target ≠ .belt) (hg : e.target ≠ .gate) :
    e ∈ t.coalescer.entries ↔ e ∈ s.coalescer.entries := by
  have hmem := congrArg (fun l => e ∈ l) (h.entries e.target hb hg)
  simpa using hmem

/-! ### Orders -/

theorem Reacted.order (h : Reacted ks s t) (o : Order) (node : Byte) (lot : Option LotNo) (n : Nat) (r : Option Reason) :
    Reacted ks s (sendOrder o node lot n r t) := by
  rw [sendOrder, placeOwn]
  cases hroom : t.hasRoom .cell with
  | true =>
    rw [placeFrom_room hroom]
    exact h.quiet rfl rfl rfl rfl rfl
  | false =>
    rw [placeFrom_full hroom]
    refine h.trans ⟨by simp, fun _ _ _ => by simp, fun c hc _ => ?_, fun hs => by simpa using hs, by simp⟩
    have hcaptured : c ≠ .faultsCaptured := by rintro rfl; cases hc
    have hsuppressed : c ≠ .faultsSuppressed := by rintro rfl; cases hc
    have hraised : c ≠ .raised .ownTelegramLost := by rintro rfl; cases hc
    have hlost : Counter.ownLost .cell ≠ c := by rintro rfl; cases hc
    rw [raiseFault_counter _ _ _ _ hcaptured hsuppressed, if_neg hraised, counter_bump, if_neg hlost]

theorem Reacted.refusal (h : Reacted ks s t) (r : Reason) (node : Byte) : Reacted ks s (refuse r node t) :=
  (h.bumped (.inl rfl)).order .refuse node none 0 (some r)

/-! ### Commands for the belt and the gate -/

/-- A hand-over to one target leaves the commands that wait for another. -/
theorem hand_filter {tg tg' : Target} (hne : tg' ≠ tg) (m : Mode) (v : Nat) (s : State) :
    (hand tg m v s).coalescer.entries.filter (fun e => e.target = tg') = s.coalescer.entries.filter (fun e => e.target = tg') := by
  unfold hand
  split
  · simp only [bump_coalescer, mergeEntry, List.filter_map]
    have hsame : (fun e : Entry => decide (e.target = tg')) ∘
        (fun e : Entry => if e.target = tg then { e with mode := m, setpoint := v, urgent := e.urgent || isUrgent m v } else e) =
        fun e => decide (e.target = tg') := by
      funext e
      by_cases he : e.target = tg <;> simp [he]
    rw [hsame]
    refine (List.map_congr_left fun e he => ?_).trans (List.map_id _)
    have htarget : e.target = tg' := by simpa using List.of_mem_filter he
    exact if_neg (by rw [htarget]; exact hne)
  · simp [Ne.symm hne]

theorem Reacted.handed_over (h : Reacted ks s t) {tg : Target} (htg : tg = .belt ∨ tg = .gate) (m : Mode) (v : Nat) :
    Reacted ks s (hand tg m v t) := by
  refine h.trans ⟨by simp, fun tg' hb hg => hand_filter ?_ m v t, fun c hc _ => hand_counter ?_ tg m v t, fun _ => hand_handed tg m v t, by simp⟩
  · rcases htg with rfl | rfl
    · exact hb
    · exact hg
  · simp only [List.mem_cons, List.not_mem_nil, or_false]
    rintro (rfl | rfl | rfl) <;> cases hc

theorem Reacted.issued (h : Reacted ks s t) : Reacted ks s (issueSetpoint t) :=
  ((h.quiet (u := { t with belt := { t.belt with selected := t.selection.2, issued := some t.selection.2 } }) rfl rfl rfl rfl rfl).bumped
    (.inl rfl)).handed_over (.inl rfl) .run t.selection.2

theorem Reacted.reselected (h : Reacted ks s t) : Reacted ks s (reselect t) := by
  unfold reselect
  split
  · exact h
  · exact h.issued

theorem Reacted.gateSet (h : Reacted ks s t) (g : GateState) : Reacted ks s (t.setGate g) :=
  h.trans ⟨rfl, fun _ _ _ => rfl, fun _ _ _ => rfl, id, rfl⟩

theorem Reacted.moved (h : Reacted ks s t) (r : RouteNo) : Reacted ks s (handMove r t) :=
  (h.handed_over (.inr rfl) .move r.val).bumped (.inl rfl)

theorem Reacted.travel (h : Reacted ks s t) (r : RouteNo) : Reacted ks s (startTravel r t) := by
  unfold startTravel
  split
  · exact h.gateSet _
  · exact (h.gateSet _).moved r

theorem Reacted.gateEvaluated (h : Reacted ks s t) : Reacted ks s (evalGate t) := by
  unfold evalGate
  split
  · exact h
  split
  · split
    · exact h
    · exact h.travel _
  · split
    · exact h
    · exact h.travel _

/-! ### Passes and hold causes -/

theorem Reacted.opened (h : Reacted ks s t) (c : CellNo) (q : Request) (l : LotNo) : Reacted ks s (opened c q l t) := by
  have hset : Reacted ks s (t.setLot l (grantedLot c q)) := h.quiet rfl rfl rfl rfl rfl
  have hbumped : Reacted ks s (bump .lotsGranted (t.setLot l (grantedLot c q))) := hset.bumped (.inl rfl)
  exact Reacted.gateEvaluated (hbumped.quiet rfl rfl rfl rfl rfl)

theorem Reacted.pointed (h : Reacted ks s t) (c : CellNo) :
    Reacted ks s (State.setRequest { t with arbiter := { t.arbiter with pointer := c } } c none) := h.quiet rfl rfl rfl rfl rfl

theorem Reacted.granted (h : Reacted ks s t) (c : CellNo) (q : Request) (l : LotNo) : Reacted ks s (grant c q l t) :=
  ((h.opened c q l).order .start ((Machine.opened c q l t).cellNode c) (some l) q.length none).pointed c

theorem Reacted.considered (h : Reacted ks s t) (c : CellNo) : Reacted ks s (considerCell c t) := by
  unfold considerCell considerRequest
  repeat' split
  · exact h
  · exact Reacted.refusal (h.quiet (u := t.setRequest c none) rfl rfl rfl rfl rfl) _ _
  · exact h.bumped (.inl rfl)
  · exact h.bumped (.inl rfl)
  · exact h.granted _ _ _
  · exact h

theorem Reacted.passed (h : Reacted ks s t) : Reacted ks s (arbiterPass t) := by
  unfold arbiterPass sweepPass
  dsimp only
  repeat' split
  · exact h.bumped (.inl rfl)
  · exact Reacted.foldl (fun _ c h => h.considered c) _ ((h.bumped (.inl rfl)).considered _)
  · exact Reacted.foldl (fun _ c h => h.considered c) _ (h.bumped (.inl rfl))

theorem Reacted.causeFlag (h : Reacted ks s t) (c : HoldCause) (b : Bool) : Reacted ks s (t.setCauseFlag c b) := by
  cases c <;> exact h.quiet rfl rfl rfl rfl rfl

theorem Reacted.ordersSent (h : Reacted ks s t) (o : Order) {c : Counter} (hc : c.isReaction = true) : Reacted ks s (orderAllLoading o c t) := by
  refine Reacted.foldl (fun u l hu => ?_) _ h
  unfold orderLoading
  split
  · exact (hu.bumped (.inl hc)).order _ _ _ _ _
  · exact hu

theorem Reacted.causeSet (h : Reacted ks s t) (c : HoldCause) : Reacted ks s (setCause c t) := by
  unfold setCause
  repeat' split
  · exact h
  · exact h.causeFlag c true
  · exact (((h.causeFlag c true).bumped (.inl rfl)).ordersSent .hold rfl).reselected

theorem Reacted.causeCleared (h : Reacted ks s t) (c : HoldCause) : Reacted ks s (clearCause c t) := by
  unfold clearCause
  repeat' split
  · exact h
  · exact h.causeFlag c false
  · exact ((h.causeFlag c false).ordersSent .resume rfl).reselected.passed

/-- The interlock writes the count of its own holds besides. -/
theorem Reacted.interlocked (h : Reacted ks s t) (hk : .interlockHolds ∈ ks) : Reacted ks s (interlock t) := by
  unfold interlock
  repeat' split
  · exact h
  · exact ((h.quiet (u := raise t.interlockOccurrence t) rfl rfl rfl rfl rfl).bumped (.inr hk)).causeSet .crusher
  · exact h.causeCleared .crusher

end Sys2Proof.Machine
end

section
/-! SUPPORT. The crusher state machine (Section 5.5) and the interlock (Section 5.6), branch by branch. -/

namespace Sys2Proof.Machine

variable {s t : State}

/-! ### Entry to FAULT (R99, R100, R102) and a crusher that is stopped -/

theorem crusherToFault_head (src : SourceNo) (s : State) : (crusherToFault src s).head = { s.head with crusher := .fault } := by
  simp [crusherToFault, handStop, State.setCrusher]

theorem crusherToFault_raised (src : SourceNo) (s : State) :
    (crusherToFault src s).raised = s.raised ++ [{ source := src, lot := none, cell := none, drum := none }] := by
  simp [crusherToFault, handStop, raisePlain, raise, State.setCrusher]

theorem handStop_coalescer {c : CrusherState} : (handStop (s.setCrusher c)).coalescer = (hand .crusher .stop 0 s).coalescer :=
  hand_coalescer_of _ _ _ rfl rfl

theorem crusherToFault_coalescer (src : SourceNo) (s : State) :
    (crusherToFault src s).coalescer = (hand .crusher .stop 0 s).coalescer := by
  rw [crusherToFault, raiseFault_coalescer, raisePlain_coalescer, handStop_coalescer]

theorem crusherToFault_handed (src : SourceNo) (s : State) : (crusherToFault src s).handed = true := by
  simp [crusherToFault, handStop]

theorem crusherToFault_counter {c : Counter} (hfault : c ∉ [.faultsCaptured, .faultsSuppressed])
    (hhand : c ∉ [.commandsHanded, .commandsMerged, .entriesCreated]) (src : SourceNo) (s : State) :
    (crusherToFault src s).counter c = if c = .raised .crusherFault then saturatingAdd (s.counter c) 1 else s.counter c := by
  simp only [List.mem_cons, List.not_mem_nil, or_false, not_or] at hfault
  have hstopped : (raisePlain src (handStop (s.setCrusher .fault))).counter c = s.counter c := hand_counter hhand _ _ _ _
  rw [crusherToFault, raiseFault_counter _ _ _ _ hfault.1 hfault.2, hstopped]

theorem handStop_rest (c : CrusherState) (s : State) :
    { handStop (s.setCrusher c) with head := s.head, coalescer := s.coalescer, handed := s.handed, counters := s.counters } = s := by
  obtain ⟨k, hk⟩ := hand_form .crusher .stop 0 (s.setCrusher c)
  rw [handStop, hk]
  rfl

theorem crusherToFault_rest (src : SourceNo) (s : State) : { crusherToFault src s with
    head := s.head, coalescer := s.coalescer, handed := s.handed, raised := s.raised, counters := s.counters, notices := s.notices } = s := by
  obtain ⟨k, hk⟩ := hand_form .crusher .stop 0 (s.setCrusher .fault)
  rw [crusherToFault, handStop, hk]
  exact congrArg (fun u : State => { u with head := s.head, coalescer := s.coalescer, handed := s.handed, raised := s.raised, counters := s.counters })
    (raiseFault_rest .crusherFault none none none (raisePlain src
      { s.setCrusher .fault with coalescer := (hand .crusher .stop 0 (s.setCrusher .fault)).coalescer, handed := true, counters := k }))

/-! ### Crush pitches (R85) -/

theorem crushPitch_iff {p : Pitch} : s.crushPitch p = true ↔ ∃ k, p.cls = some k ∧ s.tables.cls[k].mode = .crush := by
  unfold State.crushPitch
  cases p.cls with
  | none => simp
  | some k => simp only [State.crushClass, decide_eq_true_eq, Option.some.injEq, exists_eq_left']

theorem crushBelow_of {n i : Nat} {p : Pitch} {k : ClassNo} (hi : i < n) (hp : s.tracker.map[i]? = some p) (hk : p.cls = some k)
    (hmode : s.tables.cls[k].mode = .crush) : s.crushBelow n = true := by
  refine List.any_eq_true.mpr ⟨p, List.mem_iff_getElem?.mpr ⟨i, ?_⟩, crushPitch_iff.mpr ⟨k, hk, hmode⟩⟩
  rw [List.getElem?_take_of_lt hi, hp]

theorem crushBelow_bypass {n : Nat} (h : ∀ (i : Nat) (p : Pitch) (k : ClassNo), i < n → s.tracker.map[i]? = some p → p.cls = some k →
    s.tables.cls[k].mode = .bypass) : s.crushBelow n = false := by
  refine Bool.eq_false_iff.mpr fun hcrush => ?_
  obtain ⟨p, hp, hcp⟩ := List.any_eq_true.mp hcrush
  obtain ⟨i, hi⟩ := List.mem_iff_getElem?.mp hp
  obtain ⟨k, hk, hmode⟩ := crushPitch_iff.mp hcp
  have hin : i < n := lt_of_lt_of_le (List.getElem?_eq_some_iff.mp hi).1 (List.length_take_le _ _)
  rw [List.getElem?_take_of_lt hin] at hi
  exact absurd ((h i p k hin hi hk).symm.trans hmode) (by decide)

theorem isRunning_iff {c : CrusherState} : c.isRunning = true ↔ ∃ i, c = .running i := by cases c <;> simp [CrusherState.isRunning]

/-! ### The interlock (R105) -/

theorem interlock_stands (hc : s.interlockCondition = true) (hset : s.belt.crusher = true) : interlock s = s := by
  rw [interlock, if_pos hc, if_pos hset]

theorem interlock_sets (hc : s.interlockCondition = true) (hset : s.belt.crusher = false) :
    interlock s = setCause .crusher (bump .interlockHolds (raise s.interlockOccurrence s)) := by
  rw [interlock, if_pos hc, if_neg (by simp [hset])]

theorem interlock_clears (hc : s.interlockCondition = false) : interlock s = clearCause .crusher s := by
  rw [interlock, if_neg (by simp [hc])]

theorem reselect_crusherCause (s : State) : (reselect s).belt.crusher = s.belt.crusher := by
  unfold reselect
  split
  · rfl
  · simp [issueSetpoint]

theorem setCause_crusherCause (s : State) : (setCause .crusher s).belt.crusher = true := by
  unfold setCause
  repeat' split
  · rename_i hset
    exact hset
  · rfl
  · rw [reselect_crusherCause, orderAllLoading_belt]
    rfl

theorem clearCause_crusherCause (s : State) : (clearCause .crusher s).belt.crusher = false := by
  unfold clearCause
  repeat' split
  · rename_i hclear
    exact hclear
  · rfl
  · rw [arbiterPass_belt, reselect_crusherCause, orderAllLoading_belt]
    rfl

/-- Under another cause a change of the CRUSHER cause writes its flag alone. -/
theorem setCause_crusher_held (h : s.belt.supervisor = true ∨ s.belt.link = true) :
    setCause .crusher s = { s with belt := { s.belt with crusher := true } } := by
  have hheld : s.holdInForce = true := by
    rw [State.holdInForce]
    rcases h with h | h <;> simp [h]
  unfold setCause
  split
  · rename_i hset
    exact (setCauseFlag_self hset).symm
  · rfl

theorem clearCause_crusher_held (h : s.belt.supervisor = true ∨ s.belt.link = true) :
    clearCause .crusher s = { s with belt := { s.belt with crusher := false } } := by
  have hheld : (s.setCauseFlag .crusher false).holdInForce = true := by
    simp only [State.holdInForce, State.setCauseFlag]
    rcases h with h | h <;> simp [h]
  unfold clearCause
  split
  · rename_i hclear
    exact (setCauseFlag_self hclear).symm
  · rfl

/-- The occurrence of an interlock hold names the lowest-indexed crush pitch. -/
theorem interlockOccurrence_of_first {i : Nat} {p : Pitch} {k : ClassNo} (hp : s.tracker.map[i]? = some p) (hk : p.cls = some k)
    (hmode : s.tables.cls[k].mode = .crush)
    (hbefore : ∀ (j : Nat) (p' : Pitch) (k' : ClassNo), j < i → s.tracker.map[j]? = some p' → p'.cls = some k' →
      s.tables.cls[k'].mode = .bypass) :
    s.interlockOccurrence = { source := 5, lot := p.lot, cell := p.lot.bind s.lotCell, drum := none } := by
  obtain ⟨hi, hget⟩ := List.getElem?_eq_some_iff.mp hp
  have hfind : (s.tracker.map.find? fun p => s.crushPitch p) = some p := by
    refine List.find?_eq_some_iff_getElem.mpr ⟨crushPitch_iff.mpr ⟨k, hk, hmode⟩, i, hi, hget, fun j hj => ?_⟩
    refine Bool.not_eq_true' _ ▸ Bool.eq_false_iff.mpr fun hcrush => ?_
    obtain ⟨k', hk', hmode'⟩ := crushPitch_iff.mp hcrush
    exact absurd ((hbefore j _ k' hj (List.getElem?_eq_getElem _) hk').symm.trans hmode') (by decide)
  simp only [State.interlockOccurrence, hfind, Option.bind_some]
  rfl

/-! ### The approach load (R96) -/

theorem approach_summand (s : State) (i : Nat) : (if s.loadedCrush i then s.pitchMass i else 0) =
    match s.tracker.map[i]? with
    | some (.loaded l k) =>
      if s.tables.cls[k].mode = .crush then
        match s.lots[l] with
        | .active a =>
          if (s.tracker.map.drop (i + 1)).any (fun p => p.lot = some l) then a.mass / a.length
          else a.mass / a.length + a.mass % a.length
        | .free _ => 0
      else 0
    | _ => 0 := by
  cases hp : s.tracker.map[i]? with
  | none => simp [State.loadedCrush, hp]
  | some p =>
    cases p with
    | empty => simp [State.loadedCrush, hp]
    | reserved l k => simp [State.loadedCrush, hp]
    | loaded l k =>
      simp only [State.loadedCrush, State.pitchMass, hp, State.crushClass, decide_eq_true_eq]
      rfl

theorem computeApproach_quiet (h : s.approachNow ≤ s.tables.crusher.limit ∨ s.head.surge = true) :
    computeApproach s = { s with head := { s.head with approach := s.approachNow, surge := decide (s.tables.crusher.limit < s.approachNow) } } := by
  have hno : (decide (s.tables.crusher.limit < s.approachNow) && !s.head.surge) = false := by
    rcases h with h | h
    · simp [Nat.not_lt.mpr h]
    · simp [h]
  simp only [computeApproach, hno, Bool.false_eq_true, if_false]

theorem computeApproach_surge (h : s.tables.crusher.limit < s.approachNow) (hclear : s.head.surge = false) :
    computeApproach s = { bump .surges (raisePlain Source.surge s) with
      head := { s.head with approach := s.approachNow, surge := decide (s.tables.crusher.limit < s.approachNow) } } := by
  have hyes : (decide (s.tables.crusher.limit < s.approachNow) && !s.head.surge) = true := by simp [h, hclear]
  simp only [computeApproach, hyes, if_true]
  rfl

end Sys2Proof.Machine
end

section
/-! SUPPORT. The crusher's reports, timers and CLEAR_CRUSHER (Section 5.5), and the head's reaction to a completed sample (Section 5.7). -/

namespace Sys2Proof.Machine

variable {s t : State}

/-! ### CRUSHER STATUS (R97, R99, R100) -/

/-- The state with a status recorded. -/
def State.recorded (s : State) (current : Half) (confirm : Byte) : State :=
  { s with head := { s.head with current := current.toNat, confirm := decide (confirm ≠ 0) } }

section
variable {current : Half} {confirm : Byte} {since : Word} {limit : Nat}

theorem opCrusherStatus_confirmed (hc : s.head.crusher = .starting since limit) (h : s.head.startMode = .confirm ∧ confirm ≠ 0) :
    opCrusherStatus current confirm s = enterRunning (s.recorded current confirm) := by
  simp only [opCrusherStatus, State.recorded, hc, if_pos h]

theorem opCrusherStatus_starting (hc : s.head.crusher = .starting since limit) (h : ¬ (s.head.startMode = .confirm ∧ confirm ≠ 0)) :
    opCrusherStatus current confirm s = s.recorded current confirm := by
  simp only [opCrusherStatus, State.recorded, hc, if_neg h]

theorem opCrusherStatus_passive (hc : s.head.crusher = .off ∨ s.head.crusher = .stalled ∨ s.head.crusher = .reversing ∨ s.head.crusher = .fault) :
    opCrusherStatus current confirm s = s.recorded current confirm := by
  rcases hc with hc | hc | hc | hc <;> simp only [opCrusherStatus, State.recorded, hc]

theorem opCrusherStatus_trip (hc : s.head.crusher = .running since) (h : s.head.startMode = .confirm ∧ confirm = 0) :
    opCrusherStatus current confirm s =
      interlock (bump .crusherTrips (crusherToFault Source.crusherFault (s.recorded current confirm))) := by
  simp only [opCrusherStatus, State.recorded, hc, if_pos h]

theorem opCrusherStatus_running (hc : s.head.crusher = .running since) (h : ¬ (s.head.startMode = .confirm ∧ confirm = 0)) :
    opCrusherStatus current confirm s = testCurrent current.toNat (s.recorded current confirm) := by
  simp only [opCrusherStatus, State.recorded, hc, if_neg h]

end

/-- The state of a crusher that stalls: the STOP, the event and its count. -/
def stalled (s : State) : State := bump .crusherJams (raisePlain Source.crusherJam (handStop (s.setCrusher .stalled)))

/-- The state with the jam count of a status at or above the threshold. -/
def State.jammed (s : State) : State := { s with head := { s.head with jam := min (s.head.jam + 1) 15 } }

theorem testCurrent_clear {current : Nat} (h : current < s.tables.crusher.jamThreshold) :
    testCurrent current s = { s with head := { s.head with jam := 0 } } := if_pos h

theorem testCurrent_counted {current : Nat} (h : s.tables.crusher.jamThreshold ≤ current) (hcount : min (s.head.jam + 1) 15 < s.tables.crusher.jamCount) :
    testCurrent current s = s.jammed :=
  (if_neg (Nat.not_lt.mpr h)).trans (if_neg (Nat.not_le.mpr hcount))

theorem testCurrent_stalls {current : Nat} (h : s.tables.crusher.jamThreshold ≤ current) (hcount : s.tables.crusher.jamCount ≤ min (s.head.jam + 1) 15) :
    testCurrent current s = interlock (stalled s.jammed) :=
  (if_neg (Nat.not_lt.mpr h)).trans (if_pos hcount)

theorem stalled_head (s : State) : (stalled s).head = { s.head with crusher := .stalled } := by
  simp [stalled, handStop, State.setCrusher]

theorem stalled_coalescer (s : State) : (stalled s).coalescer = (hand .crusher .stop 0 s).coalescer := handStop_coalescer

theorem stalled_handed (s : State) : (stalled s).handed = true := by simp [stalled, handStop]

theorem stalled_raised (s : State) : (stalled s).raised = s.raised ++ [{ source := 0, lot := none, cell := none, drum := none }] := by
  simp [stalled, handStop, raisePlain, raise, Source.crusherJam]

theorem stalled_counter (s : State) : (stalled s).counter .crusherJams = saturatingAdd (s.counter .crusherJams) 1 := by
  rw [stalled, counter_bump, if_pos rfl]
  exact congrArg (saturatingAdd · 1) (hand_counter (by simp) _ _ _ _)

theorem stalled_rest (s : State) : { stalled s with
    head := s.head, coalescer := s.coalescer, handed := s.handed, raised := s.raised, counters := s.counters } = s :=
  congrArg (fun u : State => { u with raised := s.raised }) (handStop_rest .stalled s)

/-! ### Timers and CLEAR_CRUSHER (R99, R101, R103) -/

section
variable {since : Word} {limit : Nat}

theorem opStartTimerExpiry_early (hc : s.head.crusher = .starting since limit) (h : (s.now - since).toNat < limit) : opStartTimerExpiry s = s := by
  have hnot : s.since since < limit := h
  simp only [opStartTimerExpiry, hc, if_pos hnot]

theorem opStartTimerExpiry_delay (hc : s.head.crusher = .starting since limit) (h : limit ≤ (s.now - since).toNat) (hmode : s.head.startMode = .delay) :
    opStartTimerExpiry s = enterRunning s := by
  have hdue : ¬ s.since since < limit := Nat.not_lt.mpr h
  simp only [opStartTimerExpiry, hc, if_neg hdue, hmode]

theorem opStartTimerExpiry_confirm (hc : s.head.crusher = .starting since limit) (h : limit ≤ (s.now - since).toNat)
    (hmode : s.head.startMode = .confirm) :
    opStartTimerExpiry s = interlock (bump .startFailures (crusherToFault Source.crusherStartFail s)) := by
  have hdue : ¬ s.since since < limit := Nat.not_lt.mpr h
  simp only [opStartTimerExpiry, hc, if_neg hdue, hmode]

theorem idleDue_iff (hc : s.head.crusher = .running since) :
    s.idleDue = true ↔ s.tables.crusher.idle ≠ 0 ∧ s.tables.crusher.idle * 1000 ≤ (s.now - since).toNat := by
  simp only [State.idleDue, hc, Bool.and_eq_true, decide_eq_true_eq]
  exact Iff.rfl

end

/-- CLEAR_CRUSHER stops a crusher that is starting, stalled or in fault. -/
theorem clearCrusherBody_stops (h : s.head.crusher = .stalled ∨ s.head.crusher = .fault ∨ ∃ since limit, s.head.crusher = .starting since limit) :
    clearCrusherBody s = (interlock (stopCrusher s), .ok) := by
  rcases h with h | h | ⟨since, limit, h⟩ <;> simp only [clearCrusherBody, h]

theorem clearCrusherBody_idle (h : s.head.crusher = .off ∨ ∃ idle, s.head.crusher = .running idle) : clearCrusherBody s = (s, .ok) := by
  rcases h with h | ⟨idle, h⟩ <;> simp only [clearCrusherBody, h]

theorem stopCrusher_head (s : State) : (stopCrusher s).head = { s.head with crusher := .off, jam := 0 } := by simp [stopCrusher, handStop]

theorem stopCrusher_rest (s : State) :
    { stopCrusher s with head := s.head, coalescer := s.coalescer, handed := s.handed, counters := s.counters } = s := by
  obtain ⟨k, hk⟩ := hand_form .crusher .stop 0 { s with head := { s.head with crusher := .off, jam := 0 } }
  rw [stopCrusher, handStop, hk]

/-! ### A start and the head's reaction (R98, R106) -/

/-- The state of a crusher that starts, before the interlock follows. -/
def started (s : State) : State := bump .crusherStarts (hand .crusher .forward s.tables.crusher.speed
  { s with head := { s.head with startMode := s.tables.crusher.startMode, crusher := .starting s.now s.startLimit } })

theorem startCrusher_eq (s : State) : startCrusher s = interlock (started s) := rfl

/-- After a hand-over the target has an entry, and its entries carry the mode and the setpoint. -/
theorem hand_entry (tg : Target) (m : Mode) (v : Nat) (s : State) :
    ∃ e ∈ (hand tg m v s).coalescer.entries, e.target = tg ∧ e.mode = m ∧ e.setpoint = v := by
  unfold hand
  split
  · rename_i hany
    obtain ⟨e, he, htg⟩ := List.any_eq_true.mp hany
    have htarget : e.target = tg := by simpa using htg
    refine ⟨_, List.mem_map_of_mem he, ?_⟩
    simp [htarget]
  · exact ⟨_, List.mem_append_right _ (List.mem_singleton.mpr rfl), rfl, rfl, rfl⟩

theorem hand_entries (tg : Target) (m : Mode) (v : Nat) (s : State) {e : Entry} (he : e ∈ (hand tg m v s).coalescer.entries)
    (htarget : e.target = tg) : e.mode = m ∧ e.setpoint = v := by
  unfold hand at he
  split at he
  · obtain ⟨e', he', rfl⟩ := List.mem_map.mp he
    by_cases h : e'.target = tg
    · simp [h]
    · simp [h] at htarget
  · rename_i hnone
    rcases List.mem_append.mp he with he | he
    · exact absurd (List.any_eq_true.mpr ⟨e, he, by simpa using htarget⟩) hnone
    · rw [List.mem_singleton.mp he]
      exact ⟨rfl, rfl⟩

/-- The state when the crusher reacts to a completed sample: the gate evaluated and the approach load computed. -/
def approached (s : State) : State := computeApproach (evalGate s)

theorem headReaction_eq (s : State) : headReaction s = interlock (reactCrusher (approached s)) := rfl

theorem computeApproach_crusher (s : State) :
    (computeApproach s).head.crusher = s.head.crusher ∧ (computeApproach s).counter .crusherStarts = s.counter .crusherStarts := by
  unfold computeApproach
  dsimp only
  split
  · exact ⟨rfl, (counter_bump _ _ _).trans (if_neg (by simp))⟩
  · exact ⟨rfl, rfl⟩

theorem approached_crusher (s : State) : (approached s).head.crusher = s.head.crusher := by
  obtain ⟨hcrusher, -, -⟩ := ((Reacted.refl (ks := []) s).gateEvaluated).crusher_fields
  exact (computeApproach_crusher _).1.trans hcrusher

theorem approached_crusherStarts (s : State) : (approached s).counter .crusherStarts = s.counter .crusherStarts :=
  (computeApproach_crusher _).2.trans (evalGate_counter (by simp) s)

@[simp] theorem approached_tables (s : State) : (approached s).tables = s.tables := by simp [approached]

@[simp] theorem approached_now (s : State) : (approached s).now = s.now := by simp [approached]

theorem approached_crushBelow (s : State) (n : Nat) : (approached s).crushBelow n = s.crushBelow n := by
  simp only [State.crushBelow, State.crushPitch, State.crushClass, approached_tables]
  simp [approached]

theorem interlock_reacted (s : State) : Reacted [.interlockHolds] s (interlock s) := (Reacted.refl s).interlocked (by simp)

/-- The reaction of a crusher that does not start writes no crusher state after it. -/
theorem headReaction_crusher (s : State) : (headReaction s).head.crusher = (reactCrusher (approached s)).head.crusher :=
  (interlock_reacted _).crusher_fields.1

section
variable (hc : s.head.crusher = .off) (hbelow : s.crushBelow s.tables.crusher.window = true)
include hc hbelow

theorem headReaction_starts : Reacted [.interlockHolds] (started (approached s)) (headReaction s) := by
  have hreact : reactCrusher (approached s) = interlock (started (approached s)) := by
    simp only [reactCrusher, approached_crusher, hc, approached_crushBelow, approached_tables, hbelow, if_true]
    rfl
  rw [headReaction_eq, hreact]
  exact (interlock_reacted _).interlocked (by simp)

theorem headReaction_started : (headReaction s).head.startMode = s.tables.crusher.startMode ∧
    (headReaction s).head.crusher =
      .starting s.now (match s.tables.crusher.startMode with | .confirm => 2000 | .delay => s.tables.crusher.startDelay) := by
  obtain ⟨hcrusher, hmode, -⟩ := (headReaction_starts hc hbelow).crusher_fields
  have hhead : (started (approached s)).head = { (approached s).head with
      startMode := s.tables.crusher.startMode, crusher := .starting s.now (approached s).startLimit } := by simp [started]
  rw [hmode, hcrusher, hhead]
  refine ⟨rfl, ?_⟩
  simp only [State.startLimit, approached_tables]
  rfl

theorem headReaction_forward :
    (∃ e ∈ (headReaction s).coalescer.entries, e.target = .crusher) ∧
    (∀ e ∈ (headReaction s).coalescer.entries, e.target = .crusher → e.mode = .forward ∧ e.setpoint = s.tables.crusher.speed) := by
  have hreacted := headReaction_starts hc hbelow
  refine ⟨?_, fun e he htarget => ?_⟩
  · obtain ⟨e, he, htarget, -, -⟩ := hand_entry .crusher .forward (approached s).tables.crusher.speed
      { approached s with head := { (approached s).head with startMode := (approached s).tables.crusher.startMode, crusher := .starting (approached s).now (approached s).startLimit } }
    exact ⟨e, (hreacted.mem_entries (by simp [htarget]) (by simp [htarget])).mpr he, htarget⟩
  · have hstarted := (hreacted.mem_entries (by simp [htarget]) (by simp [htarget])).mp he
    have hentry := hand_entries .crusher .forward (approached s).tables.crusher.speed _ hstarted htarget
    rwa [approached_tables] at hentry

theorem headReaction_counts : (headReaction s).handed = true ∧
    (headReaction s).counter .crusherStarts = saturatingAdd (s.counter .crusherStarts) 1 := by
  have hreacted := headReaction_starts hc hbelow
  refine ⟨hreacted.handed (hand_handed _ _ _ _), ?_⟩
  rw [hreacted.counters _ rfl (by simp), started, counter_bump, if_pos rfl, hand_counter (by simp)]
  exact congrArg (saturatingAdd · 1) (approached_crusherStarts s)

end

theorem reactCrusher_off (hc : s.head.crusher = .off) (h : s.crushBelow s.tables.crusher.window = false) : reactCrusher s = s := by
  simp only [reactCrusher, hc, h, Bool.false_eq_true, if_false]

theorem reactCrusher_other (h : ∀ i, s.head.crusher ≠ .running i) (hoff : s.head.crusher ≠ .off) : reactCrusher s = s := by
  unfold reactCrusher
  split
  · rename_i hc
    exact absurd hc hoff
  · rename_i i hc
    exact absurd hc (h i)
  · rfl

theorem reactCrusher_running {i : Word} (hc : s.head.crusher = .running i) :
    (reactCrusher s).head.crusher = .running (if s.crushBelow s.tables.crusher.window then s.now else i) := by
  simp only [reactCrusher, hc]
  split
  · rfl
  · exact hc

end Sys2Proof.Machine

namespace Sys2Proof.Proofs

open Sys2Proof.Machine

/-- Settles O31. -/
theorem crusherStatuses : Obligations.CrusherStatuses := by
  unfold Obligations.CrusherStatuses
  intro current confirm s h hmode hsettled hh
  subst hh
  rw [exec_crusherStatus, operate_operating hmode]
  refine ⟨fun since limit hc => ⟨fun hstart hconfirm => ?confirmed, fun hnot => ?starting⟩, fun hc => ?passive, fun since hc =>
    ⟨fun hstart hconfirm => ?trip, fun hnot hlow => ?low, fun hnot hhigh hcount => ?counted, fun hnot hhigh hcount => ?stalls⟩⟩
  case confirmed =>
    rw [opCrusherStatus_confirmed hc ⟨hstart, hconfirm⟩]
    rfl
  case starting =>
    have hno : ¬ (s.head.startMode = .confirm ∧ confirm ≠ 0) := by
      rintro ⟨hm, hne⟩
      exact hnot.elim (fun hd => by rw [hd] at hm; cases hm) hne
    rw [opCrusherStatus_starting hc hno]
    exact congrArg _ (complete_head hsettled _)
  case passive =>
    rw [opCrusherStatus_passive hc]
    exact congrArg _ (complete_head hsettled _)
  case trip =>
    rw [opCrusherStatus_trip hc ⟨hstart, hconfirm⟩]
    refine ⟨_, rfl, crusherToFault_head _ _, ?_, crusherToFault_handed _ _, ?_, ?_, ?_, ?_⟩
    · exact (crusherToFault_coalescer _ _).trans (hand_coalescer_of _ _ _ rfl rfl)
    · refine (crusherToFault_raised _ _).trans ?_
      rw [show (s.recorded current confirm).raised = [] from hsettled.1]
      rfl
    · rw [counter_bump, if_pos rfl, crusherToFault_counter (by simp) (by simp), if_neg (by simp)]
      rfl
    · rw [counter_bump, if_neg (by simp), crusherToFault_counter (by simp) (by simp), if_pos rfl]
      rfl
    · exact congrArg (fun u : State => { u with head := s.head }) (crusherToFault_rest Source.crusherFault (s.recorded current confirm))
  all_goals
    have hno : ¬ (s.head.startMode = .confirm ∧ confirm = 0) := by
      rintro ⟨hm, hz⟩
      exact hnot.elim (fun hd => by rw [hd] at hm; cases hm) fun hne => hne hz
    rw [opCrusherStatus_running hc hno]
  case low =>
    rw [testCurrent_clear (by exact hlow)]
    exact congrArg _ (complete_head hsettled _)
  case counted =>
    rw [testCurrent_counted (by exact hhigh) (by exact hcount)]
    exact congrArg _ (complete_head hsettled _)
  case stalls =>
    rw [testCurrent_stalls (by exact hhigh) (by exact hcount)]
    refine ⟨_, rfl, stalled_head _, ?_, stalled_handed _, ?_, ?_, ?_⟩
    · exact (stalled_coalescer _).trans (hand_coalescer_of _ _ _ rfl rfl)
    · refine (stalled_raised _).trans ?_
      rw [show (s.recorded current confirm).jammed.raised = [] from hsettled.1]
      rfl
    · exact stalled_counter _
    · exact congrArg (fun u : State => { u with head := s.head }) (stalled_rest (s.recorded current confirm).jammed)

/-- Settles O32. -/
theorem crusherTimersAndClear : Obligations.CrusherTimersAndClear := by
  unfold Obligations.CrusherTimersAndClear
  refine ⟨⟨fun since limit s hc hsettled => ⟨fun h => ?early, fun h hmode => ?delay, fun h hmode => ?confirm⟩,
    fun since s hc hsettled => ⟨fun h => ?idleEarly, fun hidle hage => ⟨fun i p k hi hp hk hmode => ?idleAnew, fun hbypass => ?idleStops⟩⟩⟩,
    fun r s hready ha => ⟨fun hc => ?stops, fun hc => ?idle, fun hc => ?reversing⟩⟩
  case early => rw [exec_startTimerExpiry, opStartTimerExpiry_early hc h, complete_of_settled hsettled]
  case delay =>
    rw [exec_startTimerExpiry, opStartTimerExpiry_delay hc h hmode]
    rfl
  case confirm =>
    rw [exec_startTimerExpiry, opStartTimerExpiry_confirm hc h hmode]
    refine ⟨_, rfl, crusherToFault_head _ _, crusherToFault_coalescer _ _, ?_, ?_, ?_, ?_⟩
    · refine (crusherToFault_raised _ _).trans ?_
      rw [hsettled.1]
      rfl
    · rw [counter_bump, if_pos rfl, crusherToFault_counter (by simp) (by simp), if_neg (by simp)]
    · rw [counter_bump, if_neg (by simp), crusherToFault_counter (by simp) (by simp), if_pos rfl]
    · exact crusherToFault_rest Source.crusherStartFail s
  case idleEarly =>
    have hnot : ¬ s.idleDue = true := by
      rw [idleDue_iff hc]
      omega
    rw [exec_idleTimerExpiry, opIdleTimerExpiry, if_neg hnot, complete_of_settled hsettled]
  case idleAnew =>
    rw [exec_idleTimerExpiry, opIdleTimerExpiry, if_pos ((idleDue_iff hc).mpr ⟨hidle, hage⟩), idleExpired, if_pos (crushBelow_of hi hp hk hmode)]
    exact congrArg _ (complete_head hsettled _)
  case idleStops =>
    rw [exec_idleTimerExpiry, opIdleTimerExpiry, if_pos ((idleDue_iff hc).mpr ⟨hidle, hage⟩), idleExpired, crushBelow_bypass hbypass,
      if_neg Bool.false_ne_true]
    refine ⟨_, rfl, ?_, handStop_coalescer, ?_, handStop_rest .off s⟩
    · simp [crusherToOff, handStop, State.setCrusher]
    · rw [counter_bump, if_pos rfl]
      exact congrArg (saturatingAdd · 1) (hand_counter (by simp) _ _ _ _)
  case stops =>
    refine ⟨stopCrusher s, ?_, stopCrusher_head s, hand_coalescer_of _ _ _ rfl rfl, hand_handed _ _ _ _, stopCrusher_rest s⟩
    rw [exec_clearCrusher, opClearCrusher, serve_served hready.1 hready.2.1 ha, clearCrusherBody_stops hc]
    rfl
  case idle => exact ⟨_, exec_clearCrusher r s, serve_onlyAnswered hready ha (by rw [clearCrusherBody_idle hc]; rfl)⟩
  case reversing => exact ⟨_, exec_clearCrusher r s, serve_onlyAnswered hready ha (by simp only [clearCrusherBody, hc])⟩

/-- Settles O33. -/
theorem headReactions : Obligations.HeadReactions := by
  unfold Obligations.HeadReactions
  refine ⟨fun s => ⟨fun i p k hc hi hp hk hmode => headReaction_started hc (crushBelow_of hi hp hk hmode), fun hc hbypass => ?off,
      fun since limit hc => ?starting, fun hc => ?other⟩,
    fun s => ⟨fun i p k hc hi hp hk hmode => ?start, fun idle hc => ⟨fun i p k hi hp hk hmode => ?anew, fun hbypass => ?goes⟩⟩,
    fun s => ⟨fun i p k hc hi hp hk hmode => ?stands, fun hfree => ?clears⟩, fun s => ⟨?load, fun h => ?quiet, fun habove hclear => ?surge⟩⟩
  case off =>
    rw [headReaction_crusher, reactCrusher_off (by rw [approached_crusher, hc])
      (by rw [approached_crushBelow, approached_tables, crushBelow_bypass hbypass]), approached_crusher, hc]
  case starting =>
    rw [headReaction_crusher, reactCrusher_other (by simp [approached_crusher, hc]) (by simp [approached_crusher, hc]), approached_crusher, hc]
  case other =>
    have hnot : (∀ i, s.head.crusher ≠ .running i) ∧ s.head.crusher ≠ .off := by rcases hc with hc | hc | hc <;> simp [hc]
    rw [headReaction_crusher, reactCrusher_other (by simpa [approached_crusher] using hnot.1) (by simpa [approached_crusher] using hnot.2),
      approached_crusher]
  case start =>
    have hbelow := crushBelow_of hi hp hk hmode
    obtain ⟨hentry, hentries⟩ := headReaction_forward hc hbelow
    obtain ⟨hhanded, hcount⟩ := headReaction_counts hc hbelow
    exact ⟨hentry, hentries, hhanded, hcount⟩
  case anew =>
    rw [headReaction_crusher, reactCrusher_running ((approached_crusher s).trans hc), approached_crushBelow, approached_tables,
      crushBelow_of hi hp hk hmode, if_pos rfl, approached_now]
  case goes =>
    rw [headReaction_crusher, reactCrusher_running ((approached_crusher s).trans hc), approached_crushBelow, approached_tables,
      crushBelow_bypass hbypass, if_neg Bool.false_ne_true]
  case stands =>
    have hidle : s.head.crusher.isRunning = false := Bool.eq_false_iff.mpr fun h => by
      obtain ⟨idle, hidle⟩ := isRunning_iff.mp h
      exact hc idle hidle
    have hcond : s.interlockCondition = true := by simp [State.interlockCondition, crushBelow_of hi hp hk hmode, hidle]
    refine ⟨?_, interlock_stands hcond, fun hclear hbefore => ⟨?_, ?_, fun hheld => ?_⟩⟩
    · cases hset : s.belt.crusher with
      | true => rw [interlock_stands hcond hset, hset]
      | false => rw [interlock_sets hcond hset, setCause_crusherCause]
    · rw [interlock_sets hcond hclear, setCause_raised, interlockOccurrence_of_first hp hk hmode hbefore]
      rfl
    · rw [interlock_sets hcond hclear, ((Reacted.refl (ks := []) _).causeSet .crusher).counters _ rfl (by simp), counter_bump, if_pos rfl]
      rfl
    · rw [interlock_sets hcond hclear, setCause_crusher_held (by exact hheld)]
      rfl
  case clears =>
    have hcond : s.interlockCondition = false := by
      rcases hfree with ⟨idle, hidle⟩ | hbypass
      · simp [State.interlockCondition, hidle, CrusherState.isRunning]
      · simp [State.interlockCondition, crushBelow_bypass hbypass]
    rw [interlock_clears hcond]
    exact ⟨clearCause_crusherCause s, fun hclear => if_pos hclear, clearCause_crusher_held⟩
  case load =>
    have hhead : (computeApproach s).head =
        { s.head with approach := s.approachNow, surge := decide (s.tables.crusher.limit < s.approachNow) } := by
      unfold computeApproach
      dsimp only
      split <;> rfl
    rw [hhead]
    exact congrArg (fun n => { s.head with approach := n, surge := decide (s.tables.crusher.limit < s.approachNow) })
      (congrArg List.sum (List.map_congr_left fun i _ => approach_summand s i))
  case quiet =>
    rw [computeApproach_quiet h]
  case surge =>
    rw [computeApproach_surge habove hclear]
    exact ⟨rfl, onlyGrew_bump _ rfl, rfl⟩

end Sys2Proof.Proofs
end

section
/-! SUPPORT. A drum's change of state with its command (R110, R117), the count of filtering drums and the capacity (R116, R126, R127), and the
split of fines (R114, R115). -/

namespace Sys2Proof.Machine

variable {s t : State} {d : DrumNo}

theorem drumList_eq : drumList = List.finRange 4 := by decide

/-! ### A drum's change of state (R117) -/

theorem changeDrum_same {r : DrumRec} (h : (s.drum d).state.command = r.state.command) : changeDrum d r s = s.setDrum d r := if_pos h

theorem changeDrum_handed {r : DrumRec} (h : (s.drum d).state.command ≠ r.state.command) : changeDrum d r s = handDrum d (s.setDrum d r) := if_neg h

theorem changeDrum_filtration (d : DrumNo) (r : DrumRec) (s : State) : (changeDrum d r s).filtration = (s.setDrum d r).filtration := by
  unfold changeDrum
  split
  · rfl
  · exact handDrum_filtration d _

theorem changeDrum_drum (d e : DrumNo) (r : DrumRec) (s : State) : (changeDrum d r s).drum e = if e = d then r else s.drum e := by
  rw [← setDrum_drum d e r s, State.drum, State.drum, changeDrum_filtration]

/-- A hand-over for a drum writes the coalescer, the handed mark and the counters, unless a program holds the drum. -/
theorem handDrum_form (d : DrumNo) (s : State) : ∃ b k, handDrum d s =
    { s with coalescer := (if s.holds (.drum d) then s else hand (.drum d) (s.drum d).state.command 0 s).coalescer, handed := b, counters := k } := by
  unfold handDrum
  split
  · exact ⟨_, _, rfl⟩
  · obtain ⟨k, hk⟩ := hand_form (.drum d) (s.drum d).state.command 0 s
    exact ⟨true, _, congrArg (bump .drumCommands) hk⟩

theorem handDrum_counter {c : Counter} (hc : c ∉ [.drumCommands, .commandsHanded, .commandsMerged, .entriesCreated]) (d : DrumNo) (s : State) :
    (handDrum d s).counter c = s.counter c := by
  obtain ⟨hcommands, hhand⟩ := List.ne_and_not_mem_of_not_mem_cons hc
  unfold handDrum
  split
  · rfl
  · rw [counter_bump, if_neg (Ne.symm hcommands), hand_counter hhand]

/-- What a change of a drum's state that changes its command does besides. -/
theorem changeDrum_form {r : DrumRec} (h : (s.drum d).state.command ≠ r.state.command) : ∃ b k, changeDrum d r s =
    { s.setDrum d r with
      coalescer := (if s.holds (.drum d) then s else hand (.drum d) r.state.command 0 s).coalescer, handed := b, counters := k } := by
  obtain ⟨b, k, hform⟩ := handDrum_form d (s.setDrum d r)
  rw [changeDrum_handed h, hform, State.setDrum_same]
  refine ⟨b, k, ?_⟩
  have hlist : (if (s.setDrum d r).holds (.drum d) then s.setDrum d r else hand (.drum d) r.state.command 0 (s.setDrum d r)).coalescer =
      (if s.holds (.drum d) then s else hand (.drum d) r.state.command 0 s).coalescer := by
    rw [show (s.setDrum d r).holds (.drum d) = s.holds (.drum d) from rfl]
    split
    · rfl
    · exact hand_coalescer_of _ _ _ rfl rfl
  rw [hlist]

theorem changeDrum_coalescer {r : DrumRec} (h : (s.drum d).state.command ≠ r.state.command) :
    (changeDrum d r s).coalescer = (if s.holds (.drum d) then s else hand (.drum d) r.state.command 0 s).coalescer := by
  obtain ⟨b, k, hform⟩ := changeDrum_form h
  rw [hform]

theorem changeDrum_rest {r : DrumRec} (h : (s.drum d).state.command ≠ r.state.command) : { changeDrum d r s with
    filtration := s.filtration, coalescer := s.coalescer, handed := s.handed, counters := s.counters } = s := by
  obtain ⟨b, k, hform⟩ := changeDrum_form h
  rw [hform]
  rfl

theorem changeDrum_counter {c : Counter} (hc : c ∉ [.drumCommands, .commandsHanded, .commandsMerged, .entriesCreated]) (d : DrumNo) (r : DrumRec)
    (s : State) : (changeDrum d r s).counter c = s.counter c := by
  unfold changeDrum
  split
  · rfl
  · exact handDrum_counter hc d _

/-- Entry to FLUSH_WAIT from ONLINE or FLUSH_WAIT or SETTLING hands no command over. -/
theorem enterWait_run (h : (s.drum d).state.command = .run) : enterWait d s = s.setDrum d { s.drum d with state := .flushWait s.now } :=
  changeDrum_same h

theorem setDrum_twice (r r' : DrumRec) : (s.setDrum d r).setDrum d r' = s.setDrum d r' := by
  simp [State.setDrum]

/-! ### The filtering drums (R110, R116) -/

/-- How many drums other than one are filtering. -/
def State.othersFiltering (s : State) (d : DrumNo) : Nat := ((List.finRange 4).filter fun e => decide (e ≠ d) && (s.drum e).state.filtering).length

theorem finRange_only (d : DrumNo) : (List.finRange 4).filter (fun e => decide (e = d)) = [d] := by
  revert d
  decide

theorem filteringCount_split (s : State) (d : DrumNo) :
    s.filteringCount = s.othersFiltering d + if (s.drum d).state.filtering then 1 else 0 := by
  have hone : (List.finRange 4).filter (fun a => !decide (a ≠ d)) = [d] := by
    rw [← finRange_only d]
    congr 1
    funext a
    by_cases h : a = d <;> simp [h]
  rw [State.filteringCount, drumList_eq, List.countP_eq_countP_filter_add _ _ (fun e => decide (e ≠ d)), State.othersFiltering]
  simp only [hone, List.countP_eq_length_filter, List.filter_filter, Bool.and_comm, List.filter_cons, List.filter_nil]
  split <;> rfl

theorem othersFiltering_setDrum (r : DrumRec) : (s.setDrum d r).othersFiltering d = s.othersFiltering d := by
  unfold State.othersFiltering
  refine congrArg List.length (List.filter_congr fun e _ => ?_)
  by_cases h : e = d
  · simp [h]
  · rw [setDrum_drum, if_neg h]

theorem filteringCount_setDrum (d : DrumNo) (r : DrumRec) (s : State) :
    (s.setDrum d r).filteringCount = s.othersFiltering d + if r.state.filtering then 1 else 0 := by
  rw [filteringCount_split _ d, othersFiltering_setDrum, setDrum_drum, if_pos rfl]

theorem filteringCount_of (h : t.filtration = s.filtration) : t.filteringCount = s.filteringCount := by
  simp only [State.filteringCount, State.drum, h]

theorem afterCountChange_kept {old : Nat} (h : s.filteringCount = old) : afterCountChange old s = s := if_pos h

theorem afterCountChange_fell {old : Nat} (h : s.filteringCount < old) :
    afterCountChange old s = recomputeCapacity (cutResidue s.filteringCount s) := by
  rw [afterCountChange, if_neg (by omega), if_pos h]

theorem afterCountChange_rose {old : Nat} (h : old < s.filteringCount) : afterCountChange old s = recomputeCapacity s := by
  rw [afterCountChange, if_neg (by omega), if_neg (by omega)]

/-! ### Capacity against demand (R127) -/

theorem testCapacity_met (h : s.filtration.demand ≤ s.filtration.capacity) :
    testCapacity s = { s with filtration := { s.filtration with low := false } } := if_neg (Nat.not_lt.mpr h)

theorem testCapacity_low (h : s.filtration.capacity < s.filtration.demand) (hlow : s.filtration.low = true) : testCapacity s = s := by
  rw [testCapacity, if_pos h, if_pos hlow]

theorem testCapacity_falls (h : s.filtration.capacity < s.filtration.demand) (hlow : s.filtration.low = false) :
    testCapacity s = raisePlain Source.capacityLow (bump .capacityLow { s with filtration := { s.filtration with low := true } }) := by
  rw [testCapacity, if_pos h, if_neg (by simp [hlow])]

/-- Of the filtration the test writes the low mark alone; it counts under its own counter alone. -/
theorem testCapacity_filtration (s : State) : { (testCapacity s).filtration with low := s.filtration.low } = s.filtration := by
  unfold testCapacity
  repeat' split
  · rfl
  · rfl
  · rfl

theorem testCapacity_counter {c : Counter} (hc : c ≠ .capacityLow) (s : State) : (testCapacity s).counter c = s.counter c := by
  unfold testCapacity
  repeat' split
  · rfl
  · exact (counter_bump _ _ _).trans (if_neg (Ne.symm hc))
  · rfl

theorem testCapacity_raised (s : State) : (testCapacity s).raised = s.raised ++
    if s.filtration.capacity < s.filtration.demand ∧ s.filtration.low = false then [{ source := 9, lot := none, cell := none, drum := none }] else [] := by
  by_cases h : s.filtration.capacity < s.filtration.demand
  · cases hlow : s.filtration.low with
    | true => simp [testCapacity_low h hlow]
    | false =>
      rw [testCapacity_falls h hlow, if_pos ⟨h, rfl⟩]
      rfl
  · rw [testCapacity_met (Nat.not_lt.mp h), if_neg fun hlow => h hlow.1]
    simp

/-! ### FILTER SAMPLE (R118) -/

theorem opFilterSample_unknown {drum : Byte} (h : 3 < drum.toNat) (dp : Half) : opFilterSample drum dp s = bump .filterInvalid s := by
  have hnone : asIndex 4 drum.toNat = none := dif_neg (by omega)
  simp only [opFilterSample, hnone]

theorem opFilterSample_recorded {drum : Byte} {dp : Half} (hd : d.val = drum.toNat)
    (h : (s.drum d).state ≠ .online ∨ dp.toNat < s.tables.drum[d].dpLimit) :
    opFilterSample drum dp s = s.setDrum d { s.drum d with dp := dp.toNat } := by
  simp only [opFilterSample, asIndex_of_val hd]
  refine if_neg fun hhigh => ?_
  rw [State.setDrum_same] at hhigh
  exact h.elim (fun hne => hne hhigh.1) fun hlt => Nat.not_le.mpr hlt hhigh.2

theorem opFilterSample_high {drum : Byte} {dp : Half} (hd : d.val = drum.toNat) (h : (s.drum d).state = .online)
    (hhigh : s.tables.drum[d].dpLimit ≤ dp.toNat) :
    opFilterSample drum dp s = arbitrateFlush (enterWaitByDp d (s.setDrum d { s.drum d with dp := dp.toNat })) := by
  simp only [opFilterSample, asIndex_of_val hd]
  exact if_pos ⟨by rw [State.setDrum_same]; exact h, hhigh⟩

theorem enterWaitByDp_online (h : (s.drum d).state = .online) (dp : Nat) :
    enterWaitByDp d (s.setDrum d { s.drum d with dp := dp }) =
      bump .dpHigh (raiseDrum Source.drumDpHigh d (s.setDrum d { s.drum d with dp := dp, state := .flushWait s.now })) := by
  rw [enterWaitByDp, enterWait_run (by rw [State.setDrum_same, h]; rfl), State.setDrum_same, setDrum_twice]
  rfl

/-! ### The split of fines (R114, R115) -/

theorem addFines_drum (share : Nat) (d e : DrumNo) (s : State) : (addFines share d s).drum e =
    if e = d ∧ (s.drum e).state.filtering = true then { s.drum e with fines := min ((s.drum e).fines + share) 16777215 } else s.drum e := by
  unfold addFines
  by_cases hed : e = d
  · subst hed
    by_cases hf : (s.drum e).state.filtering = true
    · rw [if_pos hf, setDrum_drum, if_pos rfl, if_pos ⟨rfl, hf⟩]
      rfl
    · rw [if_neg hf, if_neg fun h => hf h.2]
  · split
    · rw [setDrum_drum, if_neg hed, if_neg fun h => hed h.1]
    · rw [if_neg fun h => hed h.1]

theorem addFines_form (share : Nat) (d : DrumNo) (s : State) :
    ∃ v, addFines share d s = { s with filtration := { s.filtration with drums := v } } := by
  unfold addFines
  split
  · exact ⟨_, rfl⟩
  · exact ⟨_, rfl⟩

/-- The share added along a list of drums: each filtering drum of it gains the share, and nothing but the drums is written. -/
theorem addAll_form (share : Nat) (l : List DrumNo) (s : State) :
    ∃ v, l.foldl (fun t d => addFines share d t) s = { s with filtration := { s.filtration with drums := v } } := by
  induction l generalizing s with
  | nil => exact ⟨_, rfl⟩
  | cons d l ih =>
    obtain ⟨v, hv⟩ := addFines_form share d s
    obtain ⟨w, hw⟩ := ih (addFines share d s)
    exact ⟨w, by rw [List.foldl_cons, hw, hv]⟩

theorem addAll_drum (share : Nat) {l : List DrumNo} (hl : l.Nodup) (e : DrumNo) (s : State) :
    (l.foldl (fun t d => addFines share d t) s).drum e =
      if e ∈ l ∧ (s.drum e).state.filtering = true then { s.drum e with fines := min ((s.drum e).fines + share) 16777215 } else s.drum e := by
  induction l generalizing s with
  | nil => simp
  | cons d l ih =>
    obtain ⟨hd, hl⟩ := List.nodup_cons.mp hl
    rw [List.foldl_cons, ih hl, addFines_drum]
    by_cases hed : e = d
    · subst hed
      by_cases hf : (s.drum e).state.filtering = true <;> simp [hf, hd]
    · simp [hed]

end Sys2Proof.Machine

namespace Sys2Proof.Proofs

open Sys2Proof.Machine

/-- Settles O34. -/
theorem filterSamples : Obligations.FilterSamples := by
  unfold Obligations.FilterSamples
  intro drum dp s hmode hsettled
  rw [exec_filterSample, operate_operating hmode]
  refine ⟨fun h => ?unknown, fun d hd => ⟨fun h => ?recorded, fun h hhigh => ?high⟩⟩
  case unknown =>
    rw [opFilterSample_unknown h, complete_of_settled (bump_settled _ hsettled)]
    exact ⟨_, rfl, onlyGrew_bump _ rfl, rfl⟩
  case recorded =>
    rw [opFilterSample_recorded hd h]
    exact congrArg _ (complete_of_settled hsettled)
  case high =>
    rw [opFilterSample_high hd h hhigh, enterWaitByDp_online h]
    refine ⟨_, rfl, rfl, ?_, onlyGrew_bump _ rfl, rfl⟩
    rw [bump_raised, raiseDrum, raise, State.setDrum_raised, hsettled.1]
    rfl

/-- Settles O36. -/
theorem finesCredit : Obligations.FinesCredit := by
  unfold Obligations.FinesCredit
  intro mass k s fines n hfines hn
  have hcount : s.filteringCount = n := by rw [hn, State.filteringCount, drumList_eq, List.countP_eq_length_filter]
  have hlot : lotFines mass s.tables.cls[k].fines = fines := hfines.symm
  have hcomputed : s.grewBy (bumpBy .finesComputed fines (bump .lotFines s)) [(.lotFines, 1), (.finesComputed, fines)] :=
    (grewBy_bumpBy .lotFines 1 rfl).bumpBy fines (by decide)
  refine ⟨fun hzero => ?none, fun hsome => ?split⟩
  case none =>
    have hcredit : creditFines mass k s = bumpBy .finesUnfiltered fines (bumpBy .finesComputed fines (bump .lotFines s)) := by
      rw [creditFines, hlot, hcount, if_pos hzero]
    rw [hcredit]
    exact ⟨hcomputed.bumpBy fines (by simp), rfl⟩
  case split =>
    let c : State := bumpBy .finesComputed fines (bump .lotFines s)
    let share := (fines + s.filtration.residue) / n
    obtain ⟨v, hv⟩ := addAll_form share drumList c
    have hdrum : ∀ d, v[d] = if (s.drum d).state.filtering = true then
        { s.drum d with fines := min ((s.drum d).fines + share) 16777215 } else s.drum d := fun d => by
      have hall := addAll_drum share (l := drumList) (by decide) d c
      have hmem : d ∈ drumList := by simp [drumList_eq]
      rw [hv] at hall
      simp only [hmem, true_and] at hall
      exact hall
    refine ⟨bumpBy .finesCredited (share * n) { c with filtration := { s.filtration with drums := v, residue := (fines + s.filtration.residue) % n } },
      ?_, fun d hd => ?_, fun d hd => ?_, rfl, State.grewBy.bumpBy (hcomputed.same rfl) _ (by simp), rfl⟩
    · rw [creditFines, hlot, hcount, if_neg hsome]
      exact congrArg (fun t : State => testFines (bumpBy .finesCredited (share * n)
        { t with filtration := { t.filtration with residue := (fines + s.filtration.residue) % n } })) hv
    · exact (hdrum d).trans (if_pos hd)
    · exact (hdrum d).trans (if_neg (by simp [hd]))

end Sys2Proof.Proofs
end

section
/-! SUPPORT. The flush arbitration (R120, R121), the ends of the drum phases (R122, R123), CLEAR_DRUM (R124) and the clamp of a coolant allotment
(R128, R129). -/

namespace Sys2Proof.Machine

variable {s t : State} {d : DrumNo}

/-! ### A request that writes blocks of its own and is answered -/

/-- A ready request whose body leaves the ports, the counters and the settled part alone. -/
theorem serve_written {r : Req} {n : Nat} {body : State → State × Answer} {st : Status} {data : List Byte} (hready : s.readyFor r)
    (ha : s.activity.isReloading = false) (hbody : body s = (t, .now st data)) (hcell : t.cellPort = s.cellPort)
    (hplant : t.plantPort = s.plantPort) (hcounters : t.counters = s.counters) (hraised : t.raised = s.raised) (hhanded : t.handed = s.handed) :
    s.answered (serve n r body s) r n st data [] ∧
      ∃ a b k, serve n r body s = { t with cellPort := a, plantPort := b, counters := k } := by
  obtain ⟨-, -, hsettled, -⟩ := id hready
  have hport : ∀ p, t.port p = s.port p := fun p => by cases p <;> assumption
  rw [serve_ready hready ha hbody (hsettled.congr hraised hhanded) (by rw [hport])]
  exact ⟨answered_countServed (onlyGrew_same hcounters) (hport _) (hport _) (by simp) (by simp), countServed_enqueue_form _ _ _ _⟩

/-! ### The flush arbitration (R120, R121) -/

theorem arbitrateFlush_busy {e : Word} (h : (s.drum d).state = .flushing e ∨ (s.drum d).state = .settling e) :
    arbitrateFlush s = bump .flushArbitrations s := by
  refine if_pos (List.any_eq_true.mpr ⟨d, by simp [drumList_eq], ?_⟩)
  show (s.drum d).state.busy = true
  rcases h with h | h <;> rw [h] <;> rfl

theorem arbitrateFlush_free (h : ∀ d, (s.drum d).state.busy = false) :
    arbitrateFlush s = considerFlush (flushOrder s.filtration.lastFlushed) (bump .flushArbitrations s) := by
  refine if_neg fun hany => ?_
  obtain ⟨d, -, hd⟩ := List.any_eq_true.mp hany
  exact Bool.false_ne_true ((h d).symm.trans hd)

theorem considerFlush_passed {before : List DrumNo} (h : ∀ e ∈ before, s.flushVerdict e = .passedOver) (l : List DrumNo) :
    considerFlush (before ++ l) s = considerFlush l s := by
  induction before with
  | nil => rfl
  | cons e before ih =>
    rw [List.cons_append, considerFlush, h e (by simp)]
    exact ih fun e' he' => h e' (by simp [he'])

/-- A drum that waits is one of the filtering drums, so min online is tested against the others. -/
theorem filteringCount_waiting {since : Word} (h : (s.drum d).state = .flushWait since) : s.filteringCount = s.othersFiltering d + 1 := by
  rw [filteringCount_split s d, h]
  rfl

theorem flushVerdict_granted {since : Word} (h : (s.drum d).state = .flushWait since) (hmin : s.tables.filter.minOnline ≤ s.othersFiltering d) :
    s.flushVerdict d = .granted := by
  simp only [State.flushVerdict, h, filteringCount_waiting h, Nat.add_sub_cancel, if_pos hmin]

theorem flushVerdict_forced {since : Word} (h : (s.drum d).state = .flushWait since) (hmin : ¬ s.tables.filter.minOnline ≤ s.othersFiltering d)
    (hwait : s.tables.filter.waitLimit * 1000 ≤ (s.now - since).toNat) : s.flushVerdict d = .forced := by
  have hlimit : s.tables.filter.waitLimit * 1000 ≤ s.since since := hwait
  simp only [State.flushVerdict, h, filteringCount_waiting h, Nat.add_sub_cancel, if_neg hmin, if_pos hlimit]

/-- The record of a drum whose flush begins. -/
def State.flushingDrum (s : State) (d : DrumNo) : DrumRec :=
  { s.drum d with state := .flushing (s.now + BitVec.ofNat 32 (s.tables.drum[d].flush * 1000)) }

/-- A drum has become FLUSHING, before the steps that follow the change of the count. -/
def flushBegun (d : DrumNo) (s : State) : State :=
  bump .flushesStarted { changeDrum d (s.flushingDrum d) s with
    filtration := { (changeDrum d (s.flushingDrum d) s).filtration with lastFlushed := d } }

theorem flushBegun_filtration (d : DrumNo) (s : State) : (flushBegun d s).filtration =
    { s.filtration with drums := s.filtration.drums.set d (s.flushingDrum d), lastFlushed := d } := by
  rw [flushBegun, bump_filtration, changeDrum_filtration]
  rfl

theorem flushBegun_drum (d e : DrumNo) (s : State) : (flushBegun d s).drum e = if e = d then s.flushingDrum d else s.drum e := by
  rw [← setDrum_drum d e _ s, State.drum, State.drum, flushBegun_filtration]
  rfl

section
variable {since : Word} (h : (s.drum d).state = .flushWait since)
include h

theorem grantFlush_eq : grantFlush d s = recomputeCapacity (cutResidue (s.othersFiltering d) (flushBegun d s)) := by
  have hcount : (flushBegun d s).filteringCount = s.othersFiltering d := by
    have hset : (flushBegun d s).filteringCount = (s.setDrum d (s.flushingDrum d)).filteringCount := by
      simp only [State.filteringCount, flushBegun_drum, setDrum_drum]
    rw [hset, filteringCount_setDrum]
    rfl
  have hfell : (flushBegun d s).filteringCount < s.filteringCount := by rw [hcount, filteringCount_waiting h]; omega
  have heq := afterCountChange_fell hfell
  rw [hcount] at heq
  exact heq

theorem flushBegun_coalescer : (flushBegun d s).coalescer = (if s.holds (.drum d) then s else hand (.drum d) .flush 0 s).coalescer :=
  changeDrum_coalescer (by rw [h]; simp [State.flushingDrum, DrumState.command])

end

theorem flushBegun_raised (d : DrumNo) (s : State) : (flushBegun d s).raised = s.raised := by rw [flushBegun, bump_raised, changeDrum_raised]

/-- The capacity that the filtering drums but one give. -/
def State.capacityWithout (s : State) (d : DrumNo) : Nat :=
  ((List.finRange 4).map fun e => if e ≠ d ∧ (s.drum e).state.filtering = true then s.tables.drum[e].flow else 0).sum

theorem capacityNow_flushBegun (d : DrumNo) (s : State) : (flushBegun d s).capacityNow = s.capacityWithout d := by
  have htables : (flushBegun d s).tables = s.tables := by simp [flushBegun]
  rw [State.capacityNow, State.capacityWithout, drumList_eq, htables]
  refine congrArg List.sum (List.map_congr_left fun e _ => ?_)
  rw [flushBegun_drum]
  by_cases hed : e = d
  · subst hed
    simp [State.flushingDrum, DrumState.filtering]
  · rw [if_neg hed]
    simp [hed]

theorem capacity_residue (n : Nat) (s : State) : (cutResidue n s).capacityNow = s.capacityNow := rfl

/-- What a grant leaves in the filtration, the coalescer, the occurrences and two counters. -/
theorem grantFlush_filtration {since : Word} (h : (s.drum d).state = .flushWait since) :
    { (grantFlush d s).filtration with low := s.filtration.low } = { s.filtration with
      drums := s.filtration.drums.set d (s.flushingDrum d), lastFlushed := d, residue := s.filtration.residue % max (s.othersFiltering d) 1, capacity := s.capacityWithout d } := by
  have hlow : (flushBegun d s).filtration.low = s.filtration.low := by rw [flushBegun_filtration]
  have htest := testCapacity_filtration { cutResidue (s.othersFiltering d) (flushBegun d s) with
    filtration := { (cutResidue (s.othersFiltering d) (flushBegun d s)).filtration with capacity := (cutResidue (s.othersFiltering d) (flushBegun d s)).capacityNow } }
  rw [grantFlush_eq h, ← hlow, recomputeCapacity]
  refine htest.trans ?_
  rw [capacity_residue, capacityNow_flushBegun]
  simp only [cutResidue, bumpBy_filtration, flushBegun_filtration]

theorem grantFlush_coalescer {since : Word} (h : (s.drum d).state = .flushWait since) :
    (grantFlush d s).coalescer = (if s.holds (.drum d) then s else hand (.drum d) .flush 0 s).coalescer := by
  rw [grantFlush_eq h, recomputeCapacity_coalescer, cutResidue_coalescer, flushBegun_coalescer h]

theorem grantFlush_counter {since : Word} (h : (s.drum d).state = .flushWait since) {c : Counter}
    (hc : c ∉ [.capacityLow, .finesUnfiltered, .drumCommands, .commandsHanded, .commandsMerged, .entriesCreated]) :
    (grantFlush d s).counter c = if c = .flushesStarted then saturatingAdd (s.counter c) 1 else s.counter c := by
  obtain ⟨hlow, hrest⟩ := List.ne_and_not_mem_of_not_mem_cons hc
  obtain ⟨hunfiltered, hhand⟩ := List.ne_and_not_mem_of_not_mem_cons hrest
  rw [grantFlush_eq h, recomputeCapacity, testCapacity_counter hlow]
  refine (counter_bumpBy .finesUnfiltered c _ _).trans ?_
  rw [if_neg (Ne.symm hunfiltered)]
  refine (counter_bump .flushesStarted c _).trans ?_
  have hchange := changeDrum_counter hhand d (s.flushingDrum d) s
  by_cases hstarted : c = .flushesStarted
  · subst hstarted
    rw [if_pos rfl, if_pos rfl]
    exact congrArg (saturatingAdd · 1) hchange
  · rw [if_neg (Ne.symm hstarted), if_neg hstarted]
    exact hchange

theorem grantFlush_raised {since : Word} (h : (s.drum d).state = .flushWait since) : (grantFlush d s).raised = s.raised ++
    if s.capacityWithout d < s.filtration.demand ∧ s.filtration.low = false then [{ source := 9, lot := none, cell := none, drum := none }] else [] := by
  rw [grantFlush_eq h, recomputeCapacity, testCapacity_raised, capacity_residue, capacityNow_flushBegun]
  simp only [flushBegun_raised, cutResidue, bumpBy_filtration, flushBegun_filtration]
  simp

end Sys2Proof.Machine

namespace Sys2Proof.Proofs

open Sys2Proof.Machine

/-- Settles O35. -/
theorem flushArbitration : Obligations.FlushArbitration := by
  unfold Obligations.FlushArbitration
  refine ⟨fun s => ⟨fun ⟨d, e, hbusy⟩ => ?busy, fun hfree => ⟨fun hpassed => ?passed,
    fun d before rest since others horder hbefore hd hothers hgrant => ?granted⟩⟩,
    fun s => ⟨testCapacity_met, testCapacity_low, fun h hlow => ?falls⟩⟩
  case busy =>
    rw [arbitrateFlush_busy hbusy]
    exact ⟨onlyGrew_bump _ rfl, rfl⟩
  case passed =>
    have hall := considerFlush_passed (s := bump .flushArbitrations s) (before := flushOrder s.filtration.lastFlushed) (fun e _ => hpassed e) []
    rw [List.append_nil] at hall
    rw [arbitrateFlush_free hfree, hall]
    exact ⟨onlyGrew_bump _ rfl, rfl⟩
  case granted =>
    have hcount : s.othersFiltering d = others := hothers.symm
    have hrun : arbitrateFlush s = considerFlush (d :: rest) (bump .flushArbitrations s) := by
      rw [arbitrateFlush_free hfree, show flushOrder s.filtration.lastFlushed = before ++ d :: rest from horder]
      exact considerFlush_passed (s := bump .flushArbitrations s) hbefore _
    obtain ⟨u, hu, hfiltration, hcoalescer, hforced, hstarted, hraised, hnow, htables, hholds⟩ : ∃ u, arbitrateFlush s = grantFlush d u ∧
        u.filtration = s.filtration ∧ u.coalescer = s.coalescer ∧
        u.counter .forcedFlushes = (if s.tables.filter.minOnline ≤ others then s.counter .forcedFlushes else saturatingAdd (s.counter .forcedFlushes) 1) ∧
        u.counter .flushesStarted = s.counter .flushesStarted ∧
        u.raised = s.raised ++ (if s.tables.filter.minOnline ≤ others then [] else [{ source := 10, lot := none, cell := none, drum := some d }]) ∧
        u.now = s.now ∧ u.tables = s.tables ∧ u.holds (.drum d) = s.holds (.drum d) := by
      by_cases hmin : s.tables.filter.minOnline ≤ others
      · refine ⟨bump .flushArbitrations s, ?_, rfl, rfl, ?_, ?_, ?_, rfl, rfl, rfl⟩
        · rw [hrun, considerFlush, flushVerdict_granted (s := bump .flushArbitrations s) hd (by rw [← hcount] at hmin; exact hmin)]
        · rw [if_pos hmin, counter_bump, if_neg (by simp)]
        · rw [counter_bump, if_neg (by simp)]
        · rw [if_pos hmin]
          simp
      · refine ⟨bump .forcedFlushes (raiseDrum Source.forcedFlush d (bump .flushArbitrations s)), ?_, rfl, rfl, ?_, ?_, ?_, rfl, rfl, rfl⟩
        · rw [hrun, considerFlush, flushVerdict_forced (s := bump .flushArbitrations s) hd (by rw [← hcount] at hmin; exact hmin)
            (hgrant.resolve_left hmin)]
        · rw [if_neg hmin, counter_bump, if_pos rfl]
          exact congrArg (saturatingAdd · 1) ((counter_bump _ _ _).trans (if_neg (by simp)))
        · rw [counter_bump, if_neg (by simp)]
          exact (counter_bump _ _ _).trans (if_neg (by simp))
        · rw [if_neg hmin]
          rfl
    have hdrum : ∀ e, u.drum e = s.drum e := fun e => by rw [State.drum, State.drum, hfiltration]
    have hwait : (u.drum d).state = .flushWait since := by rw [hdrum, hd]
    have hresult := grantFlush_filtration hwait
    have hflushing : u.flushingDrum d = { s.drum d with state := .flushing (s.now + BitVec.ofNat 32 (s.tables.drum[d].flush * 1000)) } := by
      rw [State.flushingDrum, hdrum, hnow, htables]
    have hwithout : u.capacityWithout d = s.capacityWithout d := by simp only [State.capacityWithout, hdrum, htables]
    have hsame : u.othersFiltering d = others := by rw [← hcount]; simp only [State.othersFiltering, hdrum]
    rw [hflushing, hwithout, hsame, hfiltration] at hresult
    have hcapacity : (grantFlush d u).filtration.capacity = s.capacityWithout d := congrArg Filtration.capacity hresult
    rw [hu]
    refine ⟨congrArg Filtration.drums hresult, congrArg Filtration.lastFlushed hresult, congrArg Filtration.residue hresult, hcapacity, ?_, ?_,
      ?_, ?_⟩
    · rw [grantFlush_coalescer hwait, hholds]
      split
      · exact hcoalescer
      · exact hand_coalescer_of _ _ _ hcoalescer hnow
    · rw [grantFlush_counter hwait (by simp), if_pos rfl, hstarted]
    · rw [grantFlush_counter hwait (by simp), if_neg (by simp), hforced]
    · rw [grantFlush_raised hwait, hraised, hcapacity, hwithout, hfiltration]
  case falls =>
    rw [testCapacity_falls h hlow]
    exact ⟨rfl, rfl, onlyGrew_bump _ rfl, rfl⟩

end Sys2Proof.Proofs
end

section
/-! SUPPORT. The ends of the drum phases (R122, R123), CLEAR_DRUM (R124) and the clamp of a coolant allotment (R128, R129). -/

namespace Sys2Proof.Machine

variable {s t : State} {d : DrumNo}

/-! ### The ends of the phases (R122, R123) -/

theorem opFlushTimeEnd_ends {e : Word} (h : (s.drum d).state = .flushing e) (hend : (s.now - e).toNat < 2147483648) :
    opFlushTimeEnd d s = changeDrum d { s.drum d with state := .settling (s.now + BitVec.ofNat 32 (s.tables.drum[d].settle * 1000)) } s := by
  have hreached : s.reached e = true := decide_eq_true hend
  simp only [opFlushTimeEnd, h, hreached, if_true]
  rfl

theorem opSettleTimeEnd_ends {e : Word} (h : (s.drum d).state = .settling e) (hend : (s.now - e).toNat < 2147483648) :
    opSettleTimeEnd d s =
      arbitrateFlush (afterCountChange s.filteringCount (settleOutcome d (s.setDrum d { s.drum d with fines := 0 }))) := by
  have hreached : s.reached e = true := decide_eq_true hend
  simp only [opSettleTimeEnd, h, hreached, if_true]

theorem settleOutcome_disabled (hen : s.tables.drum[d].enabled = false) : settleOutcome d s = changeDrum d { s.drum d with state := .offline } s :=
  if_pos hen

theorem settleOutcome_good (h : (s.drum d).state.command = .run) (hen : s.tables.drum[d].enabled = true) (hdp : (s.drum d).dp < s.tables.drum[d].dpLimit) :
    settleOutcome d s = bump .flushesGood (s.setDrum d { s.drum d with state := .online, failed := 0 }) := by
  rw [settleOutcome, if_neg fun hf => Bool.false_ne_true (hf.symm.trans hen), if_pos hdp, changeDrum_same (by exact h)]

/-- The failed count after a flush that has not lowered the pressure. -/
def flushFailed (d : DrumNo) (s : State) : State := bump .flushesFailed (s.setDrum d { s.drum d with failed := (s.drum d).failed + 1 })

theorem flushFailed_drum (d e : DrumNo) (s : State) :
    (flushFailed d s).drum e = if e = d then { s.drum d with failed := (s.drum d).failed + 1 } else s.drum e := setDrum_drum d e _ s

theorem settleOutcome_failed (h : (s.drum d).state.command = .run) (hen : s.tables.drum[d].enabled = true) (hdp : s.tables.drum[d].dpLimit ≤ (s.drum d).dp)
    (hcount : (s.drum d).failed + 1 < 3) : settleOutcome d s =
      bump .flushesFailed (s.setDrum d { s.drum d with state := .flushWait s.now, failed := (s.drum d).failed + 1 }) := by
  have hdrum : (flushFailed d s).drum d = { s.drum d with failed := (s.drum d).failed + 1 } := by rw [flushFailed_drum, if_pos rfl]
  have hlt : ((flushFailed d s).drum d).failed < 3 := by rw [hdrum]; exact hcount
  have hwait : enterWait d (flushFailed d s) = (flushFailed d s).setDrum d { (flushFailed d s).drum d with state := .flushWait s.now } :=
    enterWait_run (by rw [hdrum]; exact h)
  rw [settleOutcome, if_neg fun hf => Bool.false_ne_true (hf.symm.trans hen), if_neg (Nat.not_lt.mpr hdp)]
  refine (if_pos hlt).trans (hwait.trans ?_)
  rw [hdrum]
  exact congrArg (bump .flushesFailed) (setDrum_twice _ _)

theorem settleOutcome_fault (hen : s.tables.drum[d].enabled = true) (hdp : s.tables.drum[d].dpLimit ≤ (s.drum d).dp)
    (hcount : 3 ≤ (s.drum d).failed + 1) : settleOutcome d s = failDrum d (flushFailed d s) := by
  have hge : ¬ ((flushFailed d s).drum d).failed < 3 := by rw [flushFailed_drum, if_pos rfl]; exact Nat.not_lt.mpr hcount
  rw [settleOutcome, if_neg fun hf => Bool.false_ne_true (hf.symm.trans hen), if_neg (Nat.not_lt.mpr hdp)]
  exact if_neg hge

theorem failDrum_drum (d e : DrumNo) (s : State) : (failDrum d s).drum e = if e = d then { s.drum d with state := .fault } else s.drum e := by
  rw [← changeDrum_drum d e { s.drum d with state := .fault } s]
  simp [failDrum, State.drum, raiseDrum]

theorem failDrum_raised (d : DrumNo) (s : State) :
    (failDrum d s).raised = s.raised ++ [{ source := 8, lot := none, cell := none, drum := some d }] := by
  simp [failDrum, raiseDrum, raise, Source.drumFault]

theorem failDrum_coalescer (h : (s.drum d).state.command = .run) :
    (failDrum d s).coalescer = (if s.holds (.drum d) then s else hand (.drum d) .stop 0 s).coalescer := by
  rw [failDrum, bump_coalescer, raiseFault_coalescer]
  exact changeDrum_coalescer (by rw [h]; simp [DrumState.command])

theorem failDrum_counter {c : Counter} (hfault : c ∉ [.faultsCaptured, .faultsSuppressed])
    (hhand : c ∉ [.drumCommands, .commandsHanded, .commandsMerged, .entriesCreated]) (hraised : c ≠ .raised .drumFault) (d : DrumNo) (s : State) :
    (failDrum d s).counter c = if c = .drumFaults then saturatingAdd (s.counter c) 1 else s.counter c := by
  simp only [List.mem_cons, List.not_mem_nil, or_false, not_or] at hfault
  have hchange : (raiseDrum Source.drumFault d (changeDrum d { s.drum d with state := .fault } s)).counter c = s.counter c :=
    changeDrum_counter hhand d _ s
  rw [failDrum, counter_bump]
  by_cases hc : c = .drumFaults
  · subst hc
    rw [if_pos rfl, if_pos rfl, raiseFault_counter _ _ _ _ hfault.1 hfault.2, if_neg hraised, hchange]
  · rw [if_neg (Ne.symm hc), if_neg hc, raiseFault_counter _ _ _ _ hfault.1 hfault.2, if_neg hraised, hchange]

theorem failDrum_captured (h : s.notices.captured = none) (d : DrumNo) : (failDrum d s).notices.captured =
    some { kind := .drumFault, time := s.now, lot := none, cell := none, detail := some (.drum d) } := by
  rw [failDrum, bump_notices, raiseFault_offered (by simp [FaultKind.isMajor]), captureFault_empty (by simpa [raiseDrum] using h)]
  simp [raiseDrum]

theorem opFlushWaitLimit_reached {since : Word} (h : (s.drum d).state = .flushWait since)
    (hlimit : s.tables.filter.waitLimit * 1000 ≤ (s.now - since).toNat) : opFlushWaitLimit d s = arbitrateFlush s := by
  simp only [opFlushWaitLimit, h]
  exact if_pos hlimit

theorem opFlushWaitLimit_early {since : Word} (h : (s.drum d).state = .flushWait since)
    (hlimit : (s.now - since).toNat < s.tables.filter.waitLimit * 1000) : opFlushWaitLimit d s = s := by
  simp only [opFlushWaitLimit, h]
  exact if_neg (Nat.not_le.mpr hlimit)

/-! ### CLEAR_DRUM (R124) -/

theorem clearDrumBody_of {r : Req} (hd : d.val = r.index.toNat) : clearDrumBody r s = clearDrumState d s := by
  simp only [clearDrumBody, asIndex_of_val hd]

theorem clearDrumState_still (h : (s.drum d).state = .online ∨ (s.drum d).state = .offline) :
    clearDrumState d s = (s.setDrum d { s.drum d with fines := 0, failed := 0 }, .ok) := by
  rcases h with h | h <;> simp only [clearDrumState, h]

theorem clearDrumState_wait {since : Word} (h : (s.drum d).state = .flushWait since) :
    clearDrumState d s = (s.setDrum d { s.drum d with fines := 0, failed := 0, state := .online }, .ok) := by
  have hsame : changeDrum d { s.drum d with fines := 0, failed := 0, state := .online } s =
      s.setDrum d { s.drum d with fines := 0, failed := 0, state := .online } := changeDrum_same (by rw [h]; rfl)
  simp only [clearDrumState, h, hsame]

theorem clearDrumState_fault (h : (s.drum d).state = .fault) : clearDrumState d s = (arbitrateFlush (recomputeCapacity
    (changeDrum d { s.drum d with fines := 0, failed := 0, state := .online } s)), .ok) := by
  have hbefore : s.filteringCount = s.othersFiltering d := by rw [filteringCount_split s d, h]; rfl
  have hafter : (changeDrum d { s.drum d with fines := 0, failed := 0, state := .online } s).filteringCount = s.othersFiltering d + 1 := by
    rw [filteringCount_of (changeDrum_filtration d _ s), filteringCount_setDrum]
    rfl
  have hrose := afterCountChange_rose (s := changeDrum d { s.drum d with fines := 0, failed := 0, state := .online } s)
    (old := s.filteringCount) (by omega)
  simp only [clearDrumState, h, hrose]

theorem clearDrumState_running {e : Word} (h : (s.drum d).state = .flushing e ∨ (s.drum d).state = .settling e) :
    clearDrumState d s = (s, .now .inUse []) := by
  rcases h with h | h <;> simp only [clearDrumState, h]

/-! ### The clamp (R128, R129) -/

theorem opCoolantAllotment_of {p : Port} {f : Frame} {tg : Telegram} (hparse : Telegram.parse f.payload = some tg) (hkind : tg.kind = 0x28)
    (hlen : tg.body.length = 3) : opCoolantAllotment p f s = takeAllotment p f tg s := by
  simp only [opCoolantAllotment, hparse, hkind, hlen, and_self, if_true]

theorem takeAllotment_unknown {p : Port} {f : Frame} {tg : Telegram}
    (h : byteAt tg.body 0 = 0 ∨ byteAt tg.body 0 = 255 ∨ ∀ c : CellNo, s.tables.cell[c].node ≠ byteAt tg.body 0) :
    takeAllotment p f tg s = forwardTo p.other f (bump .allotmentsUnknown (bump .allotmentsSeen s)) := by
  have hnone : s.allotmentCell (byteAt tg.body 0) = none := by
    unfold State.allotmentCell
    split
    · rfl
    · rename_i h255
      rcases h with h | h | h
      · exact if_pos h
      · exact absurd h h255
      · unfold State.cellOf
        split
        · rfl
        · exact List.find?_eq_none.mpr fun c _ => by simpa using h c
  simp only [takeAllotment, hnone]

theorem takeAllotment_known {p : Port} {f : Frame} {tg : Telegram} {c : CellNo} (h255 : byteAt tg.body 0 ≠ 255)
    (hcell : s.cellOf (byteAt tg.body 0) = some c) :
    takeAllotment p f tg s = clampAllotment p f c (halfAt tg.body 1) (bump .allotmentsSeen s) := by
  have hsome : s.allotmentCell (byteAt tg.body 0) = some c := (if_neg h255).trans hcell
  simp only [takeAllotment, hsome]

/-- The allotment kept for a cell, with the demand that follows, before capacity is tested. -/
def allotted (c : CellNo) (flow : Nat) (s : State) : State :=
  { s with filtration := { s.filtration with allotments := s.filtration.allotments.set c flow, demand := (s.filtration.allotments.set c flow).toList.sum } }

theorem recordAllotment_eq (c : CellNo) (flow : Nat) (s : State) : recordAllotment c flow s = testCapacity (allotted c flow s) := rfl

theorem allotted_enqueue (c : CellNo) (flow : Nat) (p : Port) (f : Frame) (s : State) :
    (allotted c flow (enqueue p.other f s)).filtration = { s.filtration with
      allotments := s.filtration.allotments.set c flow, demand := (s.filtration.allotments.set c flow).toList.sum } ∧
    (allotted c flow (enqueue p.other f s)).port p = s.port p ∧
    (allotted c flow (enqueue p.other f s)).port p.other = { s.port p.other with queue := (s.port p.other).queue ++ [f] } ∧
    (allotted c flow (enqueue p.other f s)).counters = s.counters ∧
    { allotted c flow (enqueue p.other f s) with filtration := s.filtration, cellPort := s.cellPort, plantPort := s.plantPort } = s := by
  cases p <;> exact ⟨rfl, rfl, rfl, rfl, rfl⟩

/-- The state with an allotment seen, and counted as clamped where its flow passes the ceiling. -/
def clampCounted (c : CellNo) (flow : Half) (s : State) : State := if s.ceiling c < flow.toNat then bump .allotmentsClamped s else s

section
variable {c : CellNo} {flow : Half}

theorem clampCounted_above (h : s.ceiling c < flow.toNat) : clampCounted c flow s = bump .allotmentsClamped s := if_pos h

theorem clampCounted_within (h : ¬ s.ceiling c < flow.toNat) : clampCounted c flow s = s := if_neg h

theorem clampedFrame_above {f : Frame} (h : s.ceiling c < flow.toNat) : s.clampedFrame c flow f = withFlow (s.ceiling c) f := if_pos h

theorem clampedFrame_within {f : Frame} (h : ¬ s.ceiling c < flow.toNat) : s.clampedFrame c flow f = f := if_neg h

end

theorem clampAllotment_room {p : Port} {f : Frame} {c : CellNo} {flow : Half} (h : s.hasRoom p.other = true) : clampAllotment p f c flow s =
    testCapacity (allotted c (s.decidedFlow c flow) (enqueue p.other (s.clampedFrame c flow f) (clampCounted c flow s))) := by
  have hroom : (clampCounted c flow s).hasRoom p.other = true := by
    unfold clampCounted
    split
    · rw [hasRoom_bump, h]
    · exact h
  rw [clampAllotment, if_pos h, recordAllotment_eq]
  exact congrArg (fun u => testCapacity (allotted c (s.decidedFlow c flow) u)) (forwardTo_room hroom _)

theorem clampAllotment_full {p : Port} {f : Frame} {c : CellNo} {flow : Half} (h : s.hasRoom p.other = false) :
    clampAllotment p f c flow s = bump (.forwardDropped p.other) (clampCounted c flow s) := by
  have hroom : (clampCounted c flow s).hasRoom p.other = false := by
    unfold clampCounted
    split
    · rw [hasRoom_bump, h]
    · exact h
  rw [clampAllotment, if_neg (by simp [h])]
  exact forwardTo_full hroom _

end Sys2Proof.Machine

namespace Sys2Proof.Proofs

open Sys2Proof.Machine

/-- Settles O37. -/
theorem drumPhases : Obligations.DrumPhases := by
  unfold Obligations.DrumPhases
  refine ⟨fun d e s hend => ⟨fun hflushing => ?flush, fun hsettling => ?settle⟩, fun d since s hwait => ⟨fun hlimit => ?limit, fun hearly hsettled => ?early⟩⟩
  case flush =>
    have hcommand : (s.drum d).state.command ≠
        (DrumState.settling (s.now + BitVec.ofNat 32 (s.tables.drum[d].settle * 1000))).command := by rw [hflushing]; simp [DrumState.command]
    rw [exec_flushTimeEnd, opFlushTimeEnd_ends hflushing hend]
    refine ⟨_, rfl, changeDrum_filtration _ _ _, fun hheld => ?_, fun hfree => ⟨?_, ?_, changeDrum_rest hcommand⟩⟩
    · rw [changeDrum_handed hcommand, handDrum, if_pos (by exact hheld)]
      rfl
    · rw [changeDrum_coalescer hcommand, if_neg (by simp [hfree])]
      rfl
    · rw [changeDrum_handed hcommand, handDrum, if_neg (by exact Bool.eq_false_iff.mp hfree), bump_handed]
      exact hand_handed _ _ _ _
  case settle =>
    let v : State := s.setDrum d { s.drum d with fines := 0 }
    have hdrum : v.drum d = { s.drum d with fines := 0 } := State.setDrum_same _ _ _
    have hcommand : (v.drum d).state.command = .run := by rw [hdrum, hsettling]; rfl
    have hother : ∀ d', d' ≠ d → v.drum d' = s.drum d' := fun d' hne => State.setDrum_other _ _ _ _ hne
    rw [exec_settleTimeEnd, opSettleTimeEnd_ends hsettling hend]
    refine ⟨settleOutcome d v, rfl, fun hen => ?disabled, fun hen hdp => ?good, fun hen hdp hcount => ?failed, fun hen hdp hcount => ?fault,
      fun d' hne => ?other⟩
    case disabled =>
      rw [settleOutcome_disabled (s := v) hen]
      refine ⟨?_, ?_, changeDrum_raised _ _ _⟩
      · rw [changeDrum_drum, if_pos rfl, hdrum]
      · rw [changeDrum_coalescer (by rw [hcommand]; simp [DrumState.command]), show v.holds (.drum d) = s.holds (.drum d) from rfl]
        split
        · rfl
        · exact hand_coalescer_of _ _ _ rfl rfl
    case good =>
      rw [settleOutcome_good hcommand hen (by rw [hdrum]; exact hdp), hdrum, setDrum_twice]
      exact ⟨State.setDrum_same _ _ _, onlyGrew_bump _ rfl, rfl⟩
    case failed =>
      rw [settleOutcome_failed hcommand hen (by rw [hdrum]; exact hdp) (by rw [hdrum]; exact hcount), hdrum, setDrum_twice]
      exact ⟨State.setDrum_same _ _ _, onlyGrew_bump _ rfl, rfl⟩
    case fault =>
      have hfailed : (flushFailed d v).drum d = { s.drum d with fines := 0, failed := (s.drum d).failed + 1 } := by
        rw [flushFailed_drum, if_pos rfl, hdrum]
      rw [settleOutcome_fault (s := v) hen (by rw [hdrum]; exact hdp) (by rw [hdrum]; exact hcount)]
      refine ⟨?_, failDrum_raised _ _, ?_, ?_, ?_, fun hempty => failDrum_captured (s := flushFailed d v) hempty d⟩
      · rw [failDrum_drum, if_pos rfl, hfailed]
      · rw [failDrum_coalescer (by rw [hfailed, hsettling]; rfl), show (flushFailed d v).holds (.drum d) = s.holds (.drum d) from rfl]
        split
        · rfl
        · exact hand_coalescer_of _ _ _ rfl rfl
      · rw [failDrum_counter (by simp) (by simp) (by simp), if_pos rfl, flushFailed, counter_bump, if_neg (by simp)]
        rfl
      · rw [failDrum_counter (by simp) (by simp) (by simp), if_neg (by simp), flushFailed, counter_bump, if_pos rfl]
        rfl
    case other =>
      rw [← hother d' hne]
      unfold settleOutcome
      dsimp only
      repeat' split
      · rw [changeDrum_drum, if_neg hne]
      · exact (changeDrum_drum _ _ _ _).trans (if_neg hne)
      · rw [enterWait, changeDrum_drum, if_neg hne]
        exact (setDrum_drum _ _ _ _).trans (if_neg hne)
      · rw [failDrum_drum, if_neg hne]
        exact (setDrum_drum _ _ _ _).trans (if_neg hne)
  case limit => rw [exec_flushWaitLimit, opFlushWaitLimit_reached hwait hlimit]
  case early => rw [exec_flushWaitLimit, opFlushWaitLimit_early hwait hearly, complete_of_settled hsettled]

/-- Settles O38. -/
theorem clearDrum : Obligations.ClearDrum := by
  unfold Obligations.ClearDrum
  refine fun r s hready ha => ⟨fun hlarge => ?large, fun d hd => ⟨fun h => ?still, fun since h => ?wait, fun h => ?fault, fun e h => ?running⟩⟩
  case large =>
    have hnone : asIndex 4 r.index.toNat = none := dif_neg (by omega)
    exact ⟨_, exec_clearDrum r s, serve_onlyAnswered hready ha (by simp only [clearDrumBody, hnone])⟩
  case still =>
    obtain ⟨hanswered, a, b, k, hform⟩ := serve_written (n := 11) hready ha ((clearDrumBody_of hd).trans (clearDrumState_still h)) rfl rfl rfl rfl rfl
    exact ⟨_, exec_clearDrum r s, hanswered, congrArg State.filtration hform, congrArg (fun u : State =>
      { u with filtration := s.filtration, cellPort := s.cellPort, plantPort := s.plantPort, counters := s.counters }) hform⟩
  case wait =>
    obtain ⟨hanswered, a, b, k, hform⟩ := serve_written (n := 11) hready ha ((clearDrumBody_of hd).trans (clearDrumState_wait h)) rfl rfl rfl rfl rfl
    exact ⟨_, exec_clearDrum r s, hanswered, congrArg State.filtration hform, congrArg (fun u : State =>
      { u with filtration := s.filtration, cellPort := s.cellPort, plantPort := s.plantPort, counters := s.counters }) hform⟩
  case fault =>
    have hcommand : (s.drum d).state.command ≠ DrumState.online.command := by rw [h]; simp [DrumState.command]
    refine ⟨changeDrum d { s.drum d with fines := 0, failed := 0, state := .online } s, ?_, changeDrum_filtration _ _ _,
      changeDrum_coalescer hcommand, changeDrum_rest hcommand⟩
    rw [exec_clearDrum, opClearDrum, serve_served hready.1 hready.2.1 ha, clearDrumBody_of hd, clearDrumState_fault h]
    rfl
  case running => exact ⟨_, exec_clearDrum r s, serve_onlyAnswered hready ha ((clearDrumBody_of hd).trans (clearDrumState_running h))⟩

/-- Settles O39. -/
theorem coolantClamp : Obligations.CoolantClamp := by
  unfold Obligations.CoolantClamp
  intro p f tg s hmode hsettled hparse hkind hlen
  rw [exec_coolantAllotment, operate_operating hmode, opCoolantAllotment_of hparse hkind hlen]
  refine ⟨fun hunknown hroom => ?unknown, fun c flow ceiling h255 hcell hflow hceiling => ?known⟩
  case unknown =>
    rw [takeAllotment_unknown hunknown, forwardTo_room (by simpa using hroom), complete_of_settled (by exact State.settledLaw.congr hsettled (by simp) (by simp))]
    refine ⟨_, rfl, ?_, ?_, ?_, ?_⟩
    · cases p <;> rfl
    · cases p <;> rfl
    · exact ((onlyGrew_bump (s := s) .allotmentsSeen rfl).bump (by simp)).same (by cases p <;> rfl)
    · cases p <;> rfl
  case known =>
    subst hflow hceiling
    rw [takeAllotment_known h255 hcell]
    refine ⟨fun hroom => ?room, fun hfull => ?full⟩
    case room =>
      rw [clampAllotment_room (by simpa using hroom)]
      obtain ⟨hfiltration, hport, hother, hcounters, hrest⟩ := allotted_enqueue c ((bump .allotmentsSeen s).decidedFlow c (halfAt tg.body 1)) p
        ((bump .allotmentsSeen s).clampedFrame c (halfAt tg.body 1) f) (clampCounted c (halfAt tg.body 1) (bump .allotmentsSeen s))
      by_cases hclamp : s.ceiling c < (halfAt tg.body 1).toNat
      · rw [clampCounted_above (s := bump .allotmentsSeen s) hclamp, clampedFrame_above (s := bump .allotmentsSeen s) hclamp] at *
        exact ⟨_, rfl, hfiltration, by rw [hport, bump_port, bump_port], fun hle => absurd hclamp (Nat.not_lt.mpr hle),
          fun _ => ⟨by rw [hother, bump_port, bump_port]; rfl, ((onlyGrew_bump (s := s) .allotmentsSeen rfl).bump (by simp)).same hcounters⟩,
          congrArg (fun u : State => { u with counters := s.counters }) hrest⟩
      · rw [clampCounted_within (s := bump .allotmentsSeen s) hclamp, clampedFrame_within (s := bump .allotmentsSeen s) hclamp] at *
        exact ⟨_, rfl, hfiltration, by rw [hport, bump_port],
          fun _ => ⟨by rw [hother, bump_port], (onlyGrew_bump (s := s) .allotmentsSeen rfl).same hcounters⟩, fun hlt => absurd hlt hclamp,
          congrArg (fun u : State => { u with counters := s.counters }) hrest⟩
    case full =>
      rw [clampAllotment_full (by simpa using hfull)]
      by_cases hclamp : s.ceiling c < (halfAt tg.body 1).toNat
      · rw [clampCounted_above (s := bump .allotmentsSeen s) hclamp, complete_of_settled (bump_settled _ (bump_settled _ (bump_settled _ hsettled))),
          if_pos (by exact hclamp)]
        refine ⟨_, rfl, State.onlyGrew.reorder (((onlyGrew_bump (s := s) .allotmentsSeen rfl).bump (k := .allotmentsClamped) (by simp)).bump
          (k := .forwardDropped p.other) (by simp)) fun k => ?_, rfl⟩
        simp [or_comm, or_left_comm]
      · rw [clampCounted_within (s := bump .allotmentsSeen s) hclamp, complete_of_settled (bump_settled _ (bump_settled _ hsettled)),
          if_neg (by exact hclamp)]
        exact ⟨_, rfl, (onlyGrew_bump (s := s) .allotmentsSeen rfl).bump (by simp), rfl⟩

end Sys2Proof.Proofs
end

section
/-! SUPPORT. The clearing commands (R137, R159 to R161), and the coalescer's test (R164 to R167). -/

namespace Sys2Proof.Machine

variable {s t : State}

/-! ### The clearing commands -/

theorem ackBody_one {r : Req} {i : SourceNo} (hi : i.val = r.index.toNat) : ackBody r s = (acknowledge i s, .ok) := by
  have hne : r.index ≠ 255 := by
    intro h
    rw [h] at hi
    exact absurd i.isLt (by rw [hi]; decide)
  simp only [ackBody, if_neg hne, asIndex_of_val hi]

theorem ackBody_all {r : Req} (h : r.index = 255) : ackBody r s = (clearRouter s, .ok) := if_pos h

theorem ackBody_large {r : Req} (h : 15 < r.index.toNat) (hne : r.index ≠ 255) : ackBody r s = (s, .now .badIndex []) := by
  have hnone : asIndex 16 r.index.toNat = none := dif_neg (by omega)
  simp only [ackBody, if_neg hne, hnone]

theorem cleared_counter (c : Counter) : ({ s with counters := Vector.replicate 200 0 } : State).counter c = 0 := by
  simp [State.counter]

/-! ### The list after a hand-over (R164) -/

theorem hand_new {tg : Target} {m : Mode} {v : Nat} (h : ∀ e ∈ s.coalescer.entries, e.target ≠ tg) : hand tg m v s =
    bump .commandsHanded (bump .entriesCreated { s with
      coalescer := { s.coalescer with entries := s.coalescer.entries ++ [{ target := tg, mode := m, setpoint := v, created := s.now, urgent := isUrgent m v }] }, handed := true }) := by
  have hnone : (s.coalescer.entries.any fun e => e.target = tg) = false := by simpa using h
  simp only [hand, hnone, Bool.false_eq_true, if_false]

theorem hand_merged {tg : Target} {m : Mode} {v : Nat} {e : Entry} (he : e ∈ s.coalescer.entries) (htg : e.target = tg) : hand tg m v s =
    bump .commandsHanded (bump .commandsMerged
      { s with coalescer := { s.coalescer with entries := mergeEntry tg m v s.coalescer.entries }, handed := true }) := by
  have hany : (s.coalescer.entries.any fun e => e.target = tg) = true := List.any_eq_true.mpr ⟨e, he, by simpa using htg⟩
  simp only [hand, hany, if_true]

theorem mergeEntry_other {tg : Target} {m : Mode} {v : Nat} {l : List Entry} (h : ∀ e ∈ l, e.target ≠ tg) : mergeEntry tg m v l = l :=
  (List.map_congr_left fun e he => if_neg (h e he)).trans (List.map_id _)

theorem mergeEntry_split {tg : Target} {m : Mode} {v : Nat} {before rest : List Entry} {e : Entry} (htg : e.target = tg)
    (h : ∀ x ∈ before ++ rest, x.target ≠ tg) : mergeEntry tg m v (before ++ e :: rest) =
      before ++ { e with mode := m, setpoint := v, urgent := e.urgent || isUrgent m v } :: rest := by
  have hbefore := mergeEntry_other (m := m) (v := v) (tg := tg) (l := before) fun x hx => h x (by simp [hx])
  have hrest := mergeEntry_other (m := m) (v := v) (tg := tg) (l := rest) fun x hx => h x (by simp [hx])
  unfold mergeEntry at *
  rw [List.map_append, List.map_cons, hbefore, hrest, if_pos htg]

/-! ### The entry an unload takes (R165) -/

theorem unloadCalled_empty (h : s.coalescer.entries = []) : s.unloadCalled = none := by simp only [State.unloadCalled, h]

theorem unloadCalled_urgent {before rest : List Entry} {e : Entry} (h : s.coalescer.entries = before ++ e :: rest)
    (hbefore : ∀ x ∈ before, x.urgent = false) (he : e.urgent = true) : s.unloadCalled = some (e, .unloadsUrgent) := by
  have hfind : (before ++ e :: rest).find? (fun e => e.urgent) = some e := by
    rw [List.find?_append, List.find?_eq_none.mpr fun x hx => by simp [hbefore x hx]]
    simp [he]
  unfold State.unloadCalled
  rw [h]
  cases hlist : before ++ e :: rest with
  | nil => simp at hlist
  | cons oldest more =>
    rw [hlist] at hfind
    simp only [hfind]

theorem find_urgent_none {l : List Entry} (hnone : ∀ x ∈ l, x.urgent = false) : l.find? (fun e => e.urgent) = none :=
  List.find?_eq_none.mpr fun x hx => by simp [hnone x hx]

section
variable {e : Entry} {rest : List Entry} (h : s.coalescer.entries = e :: rest) (hnone : ∀ x ∈ e :: rest, x.urgent = false)
include h hnone

theorem unloadCalled_count (hrest : rest ≠ []) : s.unloadCalled = some (e, .unloadsByCount) := by
  simp only [State.unloadCalled, h, find_urgent_none hnone, if_pos hrest]

theorem unloadCalled_age (hrest : rest = []) (hage : s.tables.coalesceAge ≤ (s.now - e.created).toNat) :
    s.unloadCalled = some (e, .unloadsByAge) := by
  have hdue : s.tables.coalesceAge ≤ s.since e.created := hage
  simp only [State.unloadCalled, h, find_urgent_none hnone, if_neg (not_not.mpr hrest), if_pos hdue]

theorem unloadCalled_young (hrest : rest = []) (hage : (s.now - e.created).toNat < s.tables.coalesceAge) : s.unloadCalled = none := by
  have hnot : ¬ s.tables.coalesceAge ≤ s.since e.created := Nat.not_le.mpr hage
  simp only [State.unloadCalled, h, find_urgent_none hnone, if_neg (not_not.mpr hrest), if_neg hnot]

end

theorem unloadCalled_mem {e : Entry} {c : Counter} (h : s.unloadCalled = some (e, c)) : e ∈ s.coalescer.entries := by
  unfold State.unloadCalled at h
  split at h
  · cases h
  · rename_i oldest rest hlist
    rw [hlist]
    split at h
    · rename_i e' hfind
      cases h
      exact List.mem_of_find?_eq_some hfind
    · split at h
      · cases h
        exact List.mem_cons_self
      · split at h
        · cases h
          exact List.mem_cons_self
        · cases h

/-! ### One turn of the test, by its cases (R165 to R167) -/

/-- What the test writes: entries of the list leave, frames enter the plant queue, and counters count. -/
structure Unloading (s t : State) : Prop where
  entries : ∀ e ∈ t.coalescer.entries, e ∈ s.coalescer.entries
  frames : ∃ fs, t.plantPort = { s.plantPort with queue := s.plantPort.queue ++ fs }
  rest : { t with coalescer := s.coalescer, plantPort := s.plantPort, counters := s.counters } = s

theorem Unloading.refl (s : State) : Unloading s s := ⟨fun _ => id, ⟨[], by simp⟩, rfl⟩

theorem Unloading.trans {u : State} (h : Unloading s t) (h' : Unloading t u) : Unloading s u where
  entries e he := h.entries e (h'.entries e he)
  frames := by
    obtain ⟨fs, hfs⟩ := h.frames
    obtain ⟨gs, hgs⟩ := h'.frames
    exact ⟨fs ++ gs, by rw [hgs, hfs]; simp⟩
  rest := (congrArg (fun v : State => { v with coalescer := s.coalescer, plantPort := s.plantPort, counters := s.counters }) h'.rest).trans h.rest

section
variable {e : Entry} {c : Counter}

theorem unloadOnce_none (h : s.unloadCalled = none) : unloadOnce s = (s, false) := by simp only [unloadOnce, h]

theorem unloadOnce_unaddressed (h : s.unloadCalled = some (e, c)) (hnode : s.driveNode e.target = 0) :
    unloadOnce s = (bump .commandsUnaddressed (removeEntry e.target s), true) := by
  simp only [unloadOnce, h, if_pos hnode]

theorem removeEntry_hasRoom (tg : Target) (s : State) (p : Port) : (removeEntry tg s).hasRoom p = s.hasRoom p := by cases p <;> rfl

theorem unloadOnce_sent (h : s.unloadCalled = some (e, c)) (hnode : s.driveNode e.target ≠ 0) (hroom : s.hasRoom .plant = true) :
    unloadOnce s =
      (bump c (bump .commandsSent (enqueue .plant (s.driveFrame e.target e.mode e.setpoint) (removeEntry e.target s))), true) := by
  have hplace : placeOwn .plant (s.driveNode e.target) 0x30 (driveBody e) (removeEntry e.target s) =
      enqueue .plant (s.driveFrame e.target e.mode e.setpoint) (removeEntry e.target s) :=
    placeFrom_room (by rw [removeEntry_hasRoom, hroom]) _ _ _ _
  simp only [unloadOnce, h, if_neg hnode, hroom, if_true, hplace]

theorem unloadOnce_waiting (h : s.unloadCalled = some (e, c)) (hnode : s.driveNode e.target ≠ 0) (hfull : s.hasRoom .plant = false)
    (hwaiting : s.coalescer.waiting = true) : unloadOnce s = (s, false) := by
  simp only [unloadOnce, h, if_neg hnode, hfull, Bool.false_eq_true, if_false, hwaiting, if_true]

theorem unloadOnce_waits (h : s.unloadCalled = some (e, c)) (hnode : s.driveNode e.target ≠ 0) (hfull : s.hasRoom .plant = false)
    (hwaiting : s.coalescer.waiting = false) :
    unloadOnce s = (bump .unloadWaits { s with coalescer := { s.coalescer with waiting := true } }, false) := by
  simp only [unloadOnce, h, if_neg hnode, hfull, Bool.false_eq_true, if_false, hwaiting]

end

theorem removeEntry_unloading (tg : Target) (s : State) : Unloading s (removeEntry tg s) :=
  ⟨fun e he => List.mem_of_mem_filter he, ⟨[], by simp [removeEntry]⟩, rfl⟩

theorem removeEntry_length {e : Entry} (he : e ∈ s.coalescer.entries) :
    (removeEntry e.target s).coalescer.entries.length < s.coalescer.entries.length := by
  refine List.length_filter_lt_length_iff_exists.mpr ⟨e, he, by simp⟩

theorem bump_unloading (c : Counter) (s : State) : Unloading s (bump c s) := ⟨fun _ => id, ⟨[], by simp⟩, rfl⟩

theorem enqueue_unloading (f : Frame) (s : State) : Unloading s (enqueue .plant f s) := ⟨fun _ => id, ⟨[f], rfl⟩, rfl⟩

/-- A turn either goes on with a shorter list, or ends the test with nothing called for or with the queue full and the flag set. -/
theorem unloadOnce_turn (s : State) : Unloading s (unloadOnce s).1 ∧
    ((unloadOnce s).2 = true → (unloadOnce s).1.coalescer.entries.length < s.coalescer.entries.length) ∧
    ((unloadOnce s).2 = false → (unloadOnce s).1.unloadCalled = none ∨
      ((unloadOnce s).1.hasRoom .plant = false ∧ (unloadOnce s).1.coalescer.waiting = true)) := by
  cases hcalled : s.unloadCalled with
  | none =>
    rw [unloadOnce_none hcalled]
    exact ⟨Unloading.refl s, fun h => (by cases h), fun _ => .inl hcalled⟩
  | some called =>
    obtain ⟨e, c⟩ := called
    have hmem := unloadCalled_mem hcalled
    by_cases hnode : s.driveNode e.target = 0
    · rw [unloadOnce_unaddressed hcalled hnode]
      exact ⟨(removeEntry_unloading _ s).trans (bump_unloading _ _), fun _ => removeEntry_length hmem, fun h => by cases h⟩
    · cases hroom : s.hasRoom .plant with
      | true =>
        rw [unloadOnce_sent hcalled hnode hroom]
        exact ⟨(((removeEntry_unloading _ s).trans (enqueue_unloading _ _)).trans (bump_unloading _ _)).trans (bump_unloading _ _),
          fun _ => removeEntry_length hmem, fun h => by cases h⟩
      | false =>
        cases hwaiting : s.coalescer.waiting with
        | true =>
          rw [unloadOnce_waiting hcalled hnode hroom hwaiting]
          exact ⟨Unloading.refl s, fun h => (by cases h), fun _ => .inr ⟨hroom, hwaiting⟩⟩
        | false =>
          rw [unloadOnce_waits hcalled hnode hroom hwaiting]
          exact ⟨⟨fun _ => id, ⟨[], by simp⟩, rfl⟩, fun h => (by cases h), fun _ => .inr ⟨hroom, rfl⟩⟩

theorem unloadLoop_goes {n : Nat} (h : (unloadOnce s).2 = true) : unloadLoop (n + 1) s = unloadLoop n (unloadOnce s).1 := if_pos h

theorem unloadLoop_ends {n : Nat} (h : (unloadOnce s).2 = false) : unloadLoop (n + 1) s = (unloadOnce s).1 := if_neg (by simp [h])

/-- With more turns than entries the test ends of itself. -/
theorem unloadLoop_end (n : Nat) (s : State) (hn : s.coalescer.entries.length < n) : Unloading s (unloadLoop n s) ∧
    ((unloadLoop n s).unloadCalled = none ∨ ((unloadLoop n s).hasRoom .plant = false ∧ (unloadLoop n s).coalescer.waiting = true)) := by
  induction n generalizing s with
  | zero => omega
  | succ n ih =>
    obtain ⟨hturn, hgoes, hends⟩ := unloadOnce_turn s
    cases hmore : (unloadOnce s).2 with
    | true =>
      have hshorter := hgoes hmore
      obtain ⟨hrest, hend⟩ := ih (unloadOnce s).1 (by omega)
      rw [unloadLoop_goes hmore]
      exact ⟨hturn.trans hrest, hend⟩
    | false =>
      rw [unloadLoop_ends hmore]
      exact ⟨hturn, hends hmore⟩

/-! ### A single entry at the age limit (R166) -/

section
variable {e : Entry} (hone : s.coalescer = { entries := [e], waiting := false })
include hone

theorem unloadTest_single : unloadTest s = unloadLoop 2 s := by rw [unloadTest, hone]; rfl

theorem removeEntry_single : removeEntry e.target s = { s with coalescer := { entries := [], waiting := false } } := by
  simp [removeEntry, hone]

theorem oldestAge_single : s.oldestAge = some (s.now - e.created).toNat := by simp only [State.oldestAge, hone]; rfl

theorem opCoalesceAgeLimit_early (h : (s.now - e.created).toNat < s.tables.coalesceAge) : opCoalesceAgeLimit s = s := by
  simp only [opCoalesceAgeLimit, oldestAge_single hone, if_neg (Nat.not_le.mpr h)]

theorem opCoalesceAgeLimit_due (h : s.tables.coalesceAge ≤ (s.now - e.created).toNat) : opCoalesceAgeLimit s = unloadLoop 2 s := by
  simp only [opCoalesceAgeLimit, oldestAge_single hone, if_pos h, unloadTest_single hone]

end

end Sys2Proof.Machine

namespace Sys2Proof.Proofs

open Sys2Proof.Machine

/-- Settles O44. -/
theorem clearingCommands : Obligations.ClearingCommands := by
  unfold Obligations.ClearingCommands
  refine ⟨fun r s hready ha => ⟨fun i hi => ?one, fun h255 => ?all, fun hlarge hne => ?large⟩,
    fun r s hready ha => ⟨?fault, ?counters⟩, fun k lot cell detail s => ⟨by cases k <;> decide, ?faulted, raiseFault_rest k lot cell detail s⟩,
    fun c d n s => ⟨?grown, fun hne => ?other, rfl⟩⟩
  case one =>
    obtain ⟨hanswered, a, b, k, hform⟩ := serve_written (n := 8) hready ha (ackBody_one hi) rfl rfl rfl rfl rfl
    exact ⟨_, exec_ackEvent r s, hanswered, congrArg State.router hform, congrArg (fun u : State =>
      { u with router := s.router, cellPort := s.cellPort, plantPort := s.plantPort, counters := s.counters }) hform⟩
  case all =>
    obtain ⟨hanswered, a, b, k, hform⟩ := serve_written (n := 8) hready ha (ackBody_all h255) rfl rfl rfl rfl rfl
    refine ⟨_, exec_ackEvent r s, hanswered, fun i => ?_, congrArg (fun u : State =>
      { u with router := s.router, cellPort := s.cellPort, plantPort := s.plantPort, counters := s.counters }) hform⟩
    have hrouter : (opAckEvent r s).router = (clearRouter s).router := (congrArg State.router hform :)
    rw [hrouter]
    simp [clearRouter]
  case large => exact ⟨_, exec_ackEvent r s, serve_onlyAnswered hready ha (ackBody_large hlarge hne)⟩
  case fault =>
    obtain ⟨hanswered, a, b, k, hform⟩ := serve_written (n := 9) hready ha (show clearFaultBody s = (_, .ok) from rfl) rfl rfl rfl rfl rfl
    exact ⟨_, exec_clearFault r s, hanswered, congrArg State.notices hform, congrArg (fun u : State =>
      { u with notices := s.notices, cellPort := s.cellPort, plantPort := s.plantPort, counters := s.counters }) hform⟩
  case counters =>
    let z : State := { s with counters := Vector.replicate 200 0 }
    obtain ⟨-, -, hsettled, -⟩ := id hready
    have hserve := serve_ready (n := 14) hready ha (show clearCountersBody s = (z, .now .ok []) from rfl) (hsettled.congr rfl rfl) (by cases r.port <;> rfl)
    rw [exec_clearCounters, opClearCounters, hserve]
    refine ⟨_, rfl, fun c => ?_, ?_, ?_, ?_⟩
    · rw [countServed, if_pos rfl, counter_bump, enqueue_counter, enqueue_counter, cleared_counter, cleared_counter]
      by_cases hc : c = .requestsServed
      · subst hc; rfl
      · rw [if_neg (Ne.symm hc), if_neg hc]
    · rw [countServed_port, enqueue_queue]
      cases r.port <;> rfl
    · rw [countServed_port, enqueue_other]
      cases r.port <;> rfl
    · exact congrArg (fun u : State => { u with counters := s.counters }) (countServed_enqueue_rest .ok r.port (s.replyFrame r 14 .ok []) z)
  case faulted => exact raiseFault_faulted k lot cell detail (onlyGrew_refl s) rfl rfl rfl (by simp) (by simp) (by simp)
  case grown => rw [counter_bumpBy, if_pos rfl, saturatingAdd_toNat]
  case other => rw [counter_bumpBy, if_neg (Ne.symm hne)]

/-- Settles O45. -/
theorem driveCommands : Obligations.DriveCommands := by
  unfold Obligations.DriveCommands
  refine ⟨fun tg m sp urgent s hurgent => ⟨fun hnew => ?new, fun before rest e hlist htg hother => ?merged, hand_handed _ _ _ _, ?rest⟩,
    fun s => ⟨unloadCalled_empty, fun before rest e => unloadCalled_urgent, fun e rest hlist hnone =>
      ⟨unloadCalled_count hlist hnone, unloadCalled_age hlist hnone, unloadCalled_young hlist hnone⟩⟩,
    fun s => ?test, fun e s hone hurgent => ⟨fun hage => ?early, fun hage => ⟨fun hnode hroom => ?sent, fun hnode => ?unaddressed,
      fun hnode hfull => ?waits⟩⟩⟩
  case new =>
    subst hurgent
    rw [hand_new hnew]
    exact ⟨rfl, ((onlyGrew_bump (s := s) .entriesCreated rfl).bump (by simp)).reorder fun c => by simp [or_comm]⟩
  case merged =>
    subst hurgent
    rw [hand_merged (e := e) (by simp [hlist]) htg, hlist, mergeEntry_split htg hother]
    exact ⟨rfl, ((onlyGrew_bump (s := s) .commandsMerged rfl).bump (by simp)).reorder fun c => by simp [or_comm]⟩
  case rest =>
    obtain ⟨k, hk⟩ := hand_form tg m sp s
    rw [hk]
  case test =>
    obtain ⟨hunloading, hend⟩ := unloadLoop_end (s.coalescer.entries.length + 1) s (Nat.lt_succ_self _)
    exact ⟨hend, hunloading.entries, hunloading.frames, hunloading.rest⟩
  case early => rw [exec_coalesceAgeLimit, opCoalesceAgeLimit_early hone hage]
  all_goals
    have hlist : s.coalescer.entries = [e] := by rw [hone]
    have hcalled := unloadCalled_age hlist (by simpa using hurgent) rfl hage
    have hempty : ∀ u : State, u.coalescer.entries = [] → unloadLoop 1 u = u := fun u hu => by
      have hnone := unloadOnce_none (unloadCalled_empty hu)
      rw [unloadLoop_ends (by rw [hnone]), hnone]
    rw [exec_coalesceAgeLimit, opCoalesceAgeLimit_due hone hage]
  case sent =>
    have honce := unloadOnce_sent hcalled hnode hroom
    rw [removeEntry_single hone] at honce
    rw [unloadLoop_goes (by rw [honce]), honce, hempty _ rfl]
    exact ⟨_, rfl, rfl, rfl, ((onlyGrew_bump (s := s) .commandsSent rfl).bump (by simp)).reorder fun c => by simp [or_comm], rfl⟩
  case unaddressed =>
    have honce := unloadOnce_unaddressed hcalled hnode
    rw [removeEntry_single hone] at honce
    rw [unloadLoop_goes (by rw [honce]), honce, hempty _ rfl]
    exact ⟨_, rfl, rfl, onlyGrew_bump _ rfl, rfl⟩
  case waits =>
    have honce := unloadOnce_waits hcalled hnode hfull (by rw [hone])
    rw [unloadLoop_ends (by rw [honce]), honce]
    exact ⟨_, rfl, by rw [bump_coalescer, hone], onlyGrew_bump _ rfl, rfl⟩

end Sys2Proof.Proofs
end

section
/-! SUPPORT. The start of a descriptor and of a chain (R139, R141, R145): what the engine holds afterwards, and what each target's owner does. -/

namespace Sys2Proof.Machine

variable {s t : State}

/-! ### Taking hold of a target (R140) -/

/-- The held targets of a chain that has taken hold of one more. -/
def Chain.holding (c : Chain) (tg : Target) : List Target := if c.held.contains tg then c.held else c.held ++ [tg]

theorem takeHold_engine {c : Chain} (hc : s.engine.chain = some c) (tg : Target) :
    (takeHold tg s).engine = { s.engine with chain := some { c with held := c.holding tg } } := by
  simp only [takeHold, hc, Chain.holding]
  split
  · rw [← hc]
  · rw [ownerHeld_engine]
    rfl

theorem takeHold_again {c : Chain} (hc : s.engine.chain = some c) {tg : Target} (h : c.held.contains tg = true) : takeHold tg s = s := by
  simp only [takeHold, hc, h, if_true]

theorem takeHold_first {c : Chain} (hc : s.engine.chain = some c) {tg : Target} (h : c.held.contains tg = false) :
    takeHold tg s = ownerHeld tg (s.setChain (some { c with held := c.held ++ [tg] })) := by
  simp only [takeHold, hc, h, Bool.false_eq_true, if_false]

/-! ### A descriptor starts (R139) -/

/-- The record of a chain whose descriptor `i` starts. -/
def Chain.running (c : Chain) (i : ActionNo) (s : State) : Chain :=
  { c with desc := s.tables.action[i], index := i, started := c.started + 1, repetition := 1, inB := false,
           holdEnd := s.now + BitVec.ofNat 32 s.tables.action[i].stepA.hold, held := c.holding s.tables.action[i].target }

/-- The state in which the descriptor is latched, before its target is taken hold of. -/
def latched (i : ActionNo) (c : Chain) (s : State) : State :=
  bump .descriptorsStarted (s.setChain (some { c with desc := s.tables.action[i], index := i, started := c.started + 1 }))

theorem latched_chain (i : ActionNo) (c : Chain) (s : State) :
    (latched i c s).engine.chain = some { c with desc := s.tables.action[i], index := i, started := c.started + 1 } := rfl

/-- The target held, then step A: that is all a descriptor's start is. -/
theorem startDescriptor_eq (i : ActionNo) (c : Chain) (s : State) : startDescriptor i c s =
    issueStep s.tables.action[i].target s.tables.action[i].stepA
      (bump .stepsIssued ((takeHold s.tables.action[i].target (latched i c s)).setChain (some (c.running i s)))) := by
  have hengine := takeHold_engine (latched_chain i c s) s.tables.action[i].target
  have hnow : (takeHold s.tables.action[i].target (latched i c s)).now = s.now := by simp [latched]
  have hstart : startDescriptor i c s = beginDescriptor (takeHold s.tables.action[i].target (latched i c s)) := rfl
  rw [hstart]
  simp only [beginDescriptor, hengine, startRepetition, startStep, State.after, hnow]
  rfl

theorem startDescriptor_engine (i : ActionNo) (c : Chain) (s : State) :
    (startDescriptor i c s).engine = { s.engine with chain := some (c.running i s) } := by
  rw [startDescriptor_eq, issueStep_engine, bump_engine, State.setChain]
  dsimp only
  rw [takeHold_engine (latched_chain i c s)]
  rfl

/-! ### A chain starts (R139, R145) -/

/-- The record of a chain that starts with descriptor `i`. -/
def freshChain (i : ActionNo) (src : Option SourceNo) (tr : Trigger) (s : State) : Chain :=
  { source := src, trigger := tr, desc := s.tables.action[i], index := i, started := 1, repetition := 1, inB := false,
    holdEnd := s.now + BitVec.ofNat 32 s.tables.action[i].stepA.hold, held := [s.tables.action[i].target] }

theorem startChain_engine (i : ActionNo) (src : Option SourceNo) (tr : Trigger) (s : State) :
    (startChain i src tr s).engine = { s.engine with chain := some (freshChain i src tr s) } := startDescriptor_engine i _ _

/-- The state in which a chain has started and counted its step A, whose target's owner has nothing to do. -/
def chainBegun (i : ActionNo) (src : Option SourceNo) (tr : Trigger) (s : State) : State :=
  bump .stepsIssued ((bump .descriptorsStarted (bump .chainsStarted s)).setChain (some (freshChain i src tr s)))

/-- A descriptor of a target whose owner does nothing at the hold. -/
theorem startDescriptor_plain {i : ActionNo} (h : s.tables.action[i].target = .belt ∨ ∃ d, s.tables.action[i].target = .drum d) (c : Chain) :
    startDescriptor i c s = issueStep s.tables.action[i].target s.tables.action[i].stepA
      (bump .stepsIssued ((bump .descriptorsStarted s).setChain (some (c.running i s)))) := by
  have howner : ∀ u, ownerHeld s.tables.action[i].target u = u := fun u => by rcases h with h | ⟨d, h⟩ <;> rw [h] <;> rfl
  rw [startDescriptor_eq]
  cases hheld : c.held.contains s.tables.action[i].target with
  | true => rw [takeHold_again (latched_chain i c s) hheld]; rfl
  | false => rw [takeHold_first (latched_chain i c s) hheld, howner]; rfl

theorem startChain_plain {i : ActionNo} (h : s.tables.action[i].target = .belt ∨ ∃ d, s.tables.action[i].target = .drum d) (src : Option SourceNo)
    (tr : Trigger) : startChain i src tr s = issueStep s.tables.action[i].target s.tables.action[i].stepA (chainBegun i src tr s) :=
  startDescriptor_plain (s := bump .chainsStarted s) h _

theorem gateHeld_setChain (c : Option Chain) (s : State) : gateHeld (s.setChain c) = (gateHeld s).setChain c := by
  simp only [gateHeld, State.setChain_head]
  split <;> rfl

theorem gateHeld_bump (c : Counter) (s : State) : gateHeld (bump c s) = bump c (gateHeld s) := by
  simp only [gateHeld, bump_head]
  split <;> rfl

/-- A descriptor of the gate, which its chain does not hold yet, takes the timeout of a travel in progress. -/
theorem startDescriptor_gate {i : ActionNo} {c : Chain} (h : s.tables.action[i].target = .gate) (hheld : c.held.contains .gate = false) :
    startDescriptor i c s = hand .gate s.tables.action[i].stepA.mode s.tables.action[i].stepA.setpoint
      (bump .stepsIssued ((bump .descriptorsStarted (gateHeld s)).setChain (some (c.running i s)))) := by
  rw [startDescriptor_eq, h, takeHold_first (latched_chain i c s) hheld, latched]
  simp only [ownerHeld, gateHeld_setChain, gateHeld_bump]
  rfl

theorem startChain_gate {i : ActionNo} (h : s.tables.action[i].target = .gate) (src : Option SourceNo) (tr : Trigger) :
    startChain i src tr s =
      hand .gate s.tables.action[i].stepA.mode s.tables.action[i].stepA.setpoint (chainBegun i src tr (gateHeld s)) := by
  have hchain : freshChain i src tr (gateHeld s) = freshChain i src tr s := by simp only [freshChain, gateHeld_tables, gateHeld_now]
  rw [chainBegun, hchain, ← gateHeld_bump]
  exact startDescriptor_gate (s := bump .chainsStarted s) h rfl

/-- The head with the timeout of a travel in progress taken. -/
theorem gateHeld_head (s : State) : (gateHeld s).head = { s.head with gate := match s.head.gate with
    | .moving (some r) start _ => .moving (some r) start true
    | g => g } := by
  cases hg : s.head.gate with
  | settled r =>
    have hsame : gateHeld s = s := by simp only [gateHeld, hg]
    show (gateHeld s).head = { s.head with gate := .settled r }
    rw [hsame, ← hg]
  | moving toward start taken =>
    cases toward with
    | none =>
      have hsame : gateHeld s = s := by simp only [gateHeld, hg]
      show (gateHeld s).head = { s.head with gate := .moving none start taken }
      rw [hsame, ← hg]
    | some r =>
      have htaken : gateHeld s = s.setGate (.moving (some r) start true) := by simp only [gateHeld, hg]
      show (gateHeld s).head = { s.head with gate := .moving (some r) start true }
      rw [htaken]
      rfl

theorem gateHeld_rest (s : State) : { gateHeld s with head := s.head } = s := by
  unfold gateHeld
  split <;> rfl

/-- A descriptor of the crusher, which its chain does not hold yet, makes it REVERSING, evaluates the interlock and hands its step over. -/
theorem startDescriptor_crusher {i : ActionNo} {c : Chain} (h : s.tables.action[i].target = .crusher) (hheld : c.held.contains .crusher = false) :
    ∃ u v, startDescriptor i c s =
        hand .crusher s.tables.action[i].stepA.mode s.tables.action[i].stepA.setpoint (bump .stepsIssued (v.setChain (some (c.running i s)))) ∧
      Reacted [.interlockHolds] u v ∧ u.head = { s.head with crusher := .reversing } ∧
      (∀ k, k ≠ .descriptorsStarted → u.counter k = s.counter k) := by
  have heq := startDescriptor_eq i c s
  rw [h, takeHold_first (latched_chain i c s) hheld] at heq
  exact ⟨_, _, heq, interlock_reacted _, rfl, fun k hk => (counter_bump .descriptorsStarted k s).trans (if_neg (Ne.symm hk))⟩

theorem startChain_crusher {i : ActionNo} (h : s.tables.action[i].target = .crusher) (src : Option SourceNo) (tr : Trigger) :
    ∃ u v, startChain i src tr s = hand .crusher s.tables.action[i].stepA.mode s.tables.action[i].stepA.setpoint (bump .stepsIssued (v.setChain (some (freshChain i src tr s)))) ∧
      Reacted [.interlockHolds] u v ∧ u.head = { s.head with crusher := .reversing } ∧
      (∀ k, k ≠ .descriptorsStarted → u.counter k = (bump .chainsStarted s).counter k) :=
  startDescriptor_crusher (s := bump .chainsStarted s) h rfl

/-! ### Steps (R141) -/

theorem issueStep_hand {tg : Target} (h : tg ≠ .belt) (st : StepEntry) (s : State) : issueStep tg st s = hand tg st.mode st.setpoint s := by
  cases tg with
  | belt => exact absurd rfl h
  | crusher => rfl
  | gate => rfl
  | drum d => rfl

theorem issueStep_belt (st : StepEntry) (s : State) :
    issueStep .belt st s = issueSetpoint { s with belt := { s.belt with programSetpoint := some (min st.setpoint 1000) } } := rfl

theorem issueSetpoint_belt (s : State) :
    (issueSetpoint s).belt = { s.belt with selected := s.selection.2, issued := some s.selection.2 } := by simp [issueSetpoint]

theorem issueSetpoint_coalescer_of (hlist : t.coalescer = s.coalescer) (hnow : t.now = s.now) :
    (issueSetpoint t).coalescer = (hand .belt .run t.selection.2 s).coalescer := hand_coalescer_of _ _ _ hlist hnow

theorem issueSetpoint_form (s : State) : ∃ b c h k, issueSetpoint s = { s with belt := b, coalescer := c, handed := h, counters := k } := by
  obtain ⟨k, hk⟩ := hand_form .belt .run s.selection.2
    (bump .setpointsIssued { s with belt := { s.belt with selected := s.selection.2, issued := some s.selection.2 } })
  rw [issueSetpoint, hk]
  exact ⟨_, _, _, _, rfl⟩

theorem selection_of_program {v : Nat} (h : s.belt.programSetpoint = some v) :
    s.selection.2 = if s.belt.supervisor || s.belt.crusher || s.belt.link then 0 else v := by
  cases hheld : s.holdInForce with
  | true =>
    rw [selection_hold hheld]
    exact (if_pos hheld).symm
  | false =>
    rw [selection_program hheld h]
    exact (if_neg (Bool.eq_false_iff.mp hheld)).symm

/-- A BELT step: the program setpoint, and the setpoint that the selection then gives, issued. -/
theorem issueStep_belt_result (st : StepEntry) (hbelt : t.belt = s.belt) (hlist : t.coalescer = s.coalescer) (hnow : t.now = s.now) {sp : Nat}
    (hsp : sp = if s.belt.supervisor || s.belt.crusher || s.belt.link then 0 else min st.setpoint 1000) :
    (issueStep .belt st t).belt = { s.belt with programSetpoint := some (min st.setpoint 1000), selected := sp, issued := some sp } ∧
      (issueStep .belt st t).coalescer = (hand .belt .run sp s).coalescer := by
  let u : State := { t with belt := { s.belt with programSetpoint := some (min st.setpoint 1000) } }
  have hselection : u.selection.2 = sp := (selection_of_program rfl).trans hsp.symm
  have hissue : issueStep .belt st t = issueSetpoint u := by rw [issueStep_belt, hbelt]
  rw [hissue, ← hselection]
  exact ⟨issueSetpoint_belt u, issueSetpoint_coalescer_of hlist hnow⟩

theorem issueStep_belt_form (st : StepEntry) (s : State) :
    ∃ b c h k, issueStep .belt st s = { s with belt := b, coalescer := c, handed := h, counters := k } := by
  obtain ⟨b, c, h, k, hform⟩ := issueSetpoint_form { s with belt := { s.belt with programSetpoint := some (min st.setpoint 1000) } }
  exact ⟨b, c, h, k, hform⟩

theorem chainBegun_counter {k : Counter} (hk : k ∉ [.chainsStarted, .descriptorsStarted, .stepsIssued]) (i : ActionNo) (src : Option SourceNo)
    (tr : Trigger) (s : State) : (chainBegun i src tr s).counter k = s.counter k := by
  simp only [List.mem_cons, List.not_mem_nil, or_false, not_or] at hk
  rw [chainBegun, counter_bump, if_neg (Ne.symm hk.2.2)]
  refine (counter_bump .descriptorsStarted k _).trans ((if_neg (Ne.symm hk.2.1)).trans ?_)
  exact (counter_bump .chainsStarted k s).trans (if_neg (Ne.symm hk.1))

@[simp] theorem chainBegun_coalescer (i : ActionNo) (src : Option SourceNo) (tr : Trigger) (s : State) :
    (chainBegun i src tr s).coalescer = s.coalescer := by simp [chainBegun]

@[simp] theorem chainBegun_head (i : ActionNo) (src : Option SourceNo) (tr : Trigger) (s : State) :
    (chainBegun i src tr s).head = s.head := by simp [chainBegun]

@[simp] theorem chainBegun_now (i : ActionNo) (src : Option SourceNo) (tr : Trigger) (s : State) :
    (chainBegun i src tr s).now = s.now := by simp [chainBegun]

theorem chainBegun_rest (i : ActionNo) (src : Option SourceNo) (tr : Trigger) (s : State) :
    { chainBegun i src tr s with engine := s.engine, counters := s.counters } = s := by simp [chainBegun]

theorem startChain_gate_rest {i : ActionNo} (h : s.tables.action[i].target = .gate) (src : Option SourceNo) (tr : Trigger) :
    { startChain i src tr s with
      engine := s.engine, head := s.head, coalescer := s.coalescer, handed := s.handed, counters := s.counters } = s := by
  obtain ⟨k, hform⟩ := hand_form .gate s.tables.action[i].stepA.mode s.tables.action[i].stepA.setpoint (chainBegun i src tr (gateHeld s))
  rw [startChain_gate h, hform]
  simp [chainBegun]

theorem startChain_drum {i : ActionNo} {d : DrumNo} (h : s.tables.action[i].target = .drum d) (src : Option SourceNo) (tr : Trigger) :
    startChain i src tr s =
      hand (.drum d) s.tables.action[i].stepA.mode s.tables.action[i].stepA.setpoint (chainBegun i src tr s) := by
  rw [startChain_plain (.inr ⟨d, h⟩), h, issueStep_hand (by simp)]

theorem startChain_drum_coalescer {i : ActionNo} {d : DrumNo} (h : s.tables.action[i].target = .drum d) (src : Option SourceNo) (tr : Trigger) :
    (startChain i src tr s).coalescer =
      (hand (.drum d) s.tables.action[i].stepA.mode s.tables.action[i].stepA.setpoint s).coalescer := by
  rw [startChain_drum h]
  exact hand_coalescer_of _ _ _ (chainBegun_coalescer i src tr s) (chainBegun_now i src tr s)

theorem startChain_drum_rest {i : ActionNo} {d : DrumNo} (h : s.tables.action[i].target = .drum d) (src : Option SourceNo) (tr : Trigger) :
    { startChain i src tr s with engine := s.engine, coalescer := s.coalescer, handed := s.handed, counters := s.counters } = s := by
  obtain ⟨k, hform⟩ := hand_form (.drum d) s.tables.action[i].stepA.mode s.tables.action[i].stepA.setpoint (chainBegun i src tr s)
  rw [startChain_drum h, hform]
  simp [chainBegun]

/-! ### The expiry of a hold (R141) -/

section
variable {c : Chain} (hc : s.engine.chain = some c)
include hc

theorem opStepHoldExpiry_early (h : s.reached c.holdEnd = false) : opStepHoldExpiry s = s := by
  simp only [opStepHoldExpiry, hc, h, Bool.false_eq_true, if_false]

theorem opStepHoldExpiry_due (h : s.reached c.holdEnd = true) : opStepHoldExpiry s = stepExpired c s := by
  simp only [opStepHoldExpiry, hc, h, if_true]

end

/-- After step B, or after step A of a descriptor without one, the repetition ends. -/
theorem stepExpired_ends {c : Chain} (h : c.inB = true ∨ ∃ m sp hd, c.desc.stepB = .absent m sp hd) : stepExpired c s = endRepetition c s := by
  unfold stepExpired
  split
  · rename_i hA hB
    rcases h with h | ⟨m, sp, hd, h⟩
    · exact absurd (h.symm.trans hA) (by simp)
    · exact absurd (h.symm.trans hB) (by simp)
  · rfl

theorem startStep_engine (c : Chain) (inB : Bool) (st : StepEntry) (s : State) : (startStep c inB st s).engine =
    { s.engine with chain := some { c with inB := inB, holdEnd := s.now + BitVec.ofNat 32 st.hold } } := by
  rw [startStep, issueStep_engine]
  rfl

theorem startStep_programSetpoint {c : Chain} (h : c.desc.target = .belt) (inB : Bool) (st : StepEntry) :
    (startStep c inB st s).belt.programSetpoint = some (min st.setpoint 1000) := by
  rw [startStep, h, issueStep_belt, issueSetpoint_belt]

theorem startStep_hands {c : Chain} (h : c.desc.target ≠ .belt) (inB : Bool) (st : StepEntry) :
    (startStep c inB st s).coalescer = (hand c.desc.target st.mode st.setpoint s).coalescer ∧
      { startStep c inB st s with engine := s.engine, coalescer := s.coalescer, handed := s.handed, counters := s.counters } = s := by
  rw [startStep, issueStep_hand h]
  obtain ⟨k, hk⟩ := hand_form c.desc.target st.mode st.setpoint
    (bump .stepsIssued (s.setChain (some { c with inB := inB, holdEnd := s.after st.hold })))
  refine ⟨hand_coalescer_of _ _ _ rfl rfl, ?_⟩
  rw [hk]
  rfl

/-- Two counters of a list of growths may stand in either order. -/
theorem State.grewBy.swap {l : List (Counter × Nat)} {a b : Counter × Nat} (h : s.grewBy t (l ++ [a, b])) (hne : a.1 ≠ b.1) :
    s.grewBy t (l ++ [b, a]) := fun c => by
  have hlookup : (l ++ [b, a]).lookup c = (l ++ [a, b]).lookup c := by
    obtain ⟨a, n⟩ := a
    obtain ⟨b, m⟩ := b
    simp only [List.lookup_append]
    congr 1
    by_cases ha : c = a
    · subst ha
      have hb : (c == b) = false := beq_eq_false_iff_ne.mpr hne
      simp only [List.lookup, hb, beq_self_eq_true]
    · have ha' : (c == a) = false := beq_eq_false_iff_ne.mpr ha
      cases hb : (c == b) <;> simp only [List.lookup, ha', hb]
  rw [hlookup]
  exact h c

end Sys2Proof.Machine

namespace Sys2Proof.Proofs

open Sys2Proof.Machine

/-- Settles O40. -/
theorem programStarts : Obligations.ProgramStarts := by
  unfold Obligations.ProgramStarts
  refine fun r s hready ha => ⟨fun hlarge => ?large, fun hindex hbusy => ?busy, fun i hi hfree => ?starts⟩
  case large =>
    have hnone : asIndex 32 r.index.toNat = none := dif_neg (by omega)
    exact ⟨_, exec_startProgram r s, serve_onlyAnswered hready ha (by simp only [startProgramBody, hnone])⟩
  case busy =>
    obtain ⟨c, hc⟩ := Option.ne_none_iff_exists'.mp hbusy
    have hsome : asIndex 32 r.index.toNat = some ⟨r.index.toNat, by omega⟩ := dif_pos (by omega)
    exact ⟨_, exec_startProgram r s, serve_onlyAnswered hready ha (by simp only [startProgramBody, hsome, hc])⟩
  case starts =>
    have hbody : startProgramBody r s = (startChain i none noTrigger s, .ok) := by simp only [startProgramBody, asIndex_of_val hi, hfree]
    refine ⟨startChain i none noTrigger s, ?_, startChain_engine i none noTrigger s, fun sp htarget hsp => ?belt, fun htarget => ?crusher,
      fun htarget => ?gate, fun d htarget => ?drum⟩
    · rw [exec_startProgram, opStartProgram, serve_served hready.1 hready.2.1 ha, hbody]
      rfl
    case belt =>
      rw [startChain_plain (.inl htarget), htarget]
      obtain ⟨hbelt, hlist⟩ := issueStep_belt_result s.tables.action[i].stepA (t := chainBegun i none noTrigger s) (s := s) rfl rfl rfl hsp
      obtain ⟨b, c, h, k, hform⟩ := issueStep_belt_form s.tables.action[i].stepA (chainBegun i none noTrigger s)
      refine ⟨hbelt, hlist, ?_⟩
      rw [hform]
      exact chainBegun_rest i none noTrigger s
    case crusher =>
      obtain ⟨u, v, heq, hreacted, hhead, -⟩ := startChain_crusher htarget none noTrigger
      rw [heq]
      obtain ⟨e, he, htg, -, -⟩ := hand_entry .crusher s.tables.action[i].stepA.mode s.tables.action[i].stepA.setpoint
        (bump .stepsIssued (v.setChain (some (freshChain i none noTrigger s))))
      refine ⟨?_, ⟨e, he, htg⟩, fun e he htg => hand_entries _ _ _ _ he htg⟩
      rw [hand_head]
      exact hreacted.crusher_fields.1.trans (by rw [hhead])
    case gate =>
      refine ⟨?_, ?_, ?_, startChain_gate_rest htarget none noTrigger⟩
      all_goals rw [startChain_gate htarget]
      · rw [hand_head, chainBegun_head]
        exact gateHeld_head s
      · exact hand_coalescer_of _ _ _ (by rw [chainBegun_coalescer, gateHeld_coalescer]) (by rw [chainBegun_now, gateHeld_now])
      · rw [hand_counter (by simp), chainBegun_counter (by simp), State.counter, State.counter, gateHeld_counters]
    case drum =>
      refine ⟨startChain_drum_coalescer htarget none noTrigger, ?_, startChain_drum_rest htarget none noTrigger⟩
      rw [startChain_drum htarget]
      have hbegun : s.grewBy (chainBegun i none noTrigger s) [(.chainsStarted, 1), (.descriptorsStarted, 1), (.stepsIssued, 1)] :=
        State.grewBy.bumpBy (State.grewBy.same ((grewBy_bumpBy .chainsStarted 1 rfl).bumpBy 1 (by decide)) rfl) 1 (by decide)
      by_cases hany : (s.coalescer.entries.any fun e => e.target = .drum d) = true
      · obtain ⟨e, he, htg⟩ := List.any_eq_true.mp hany
        rw [if_pos hany, hand_merged (s := chainBegun i none noTrigger s) he (by simpa using htg)]
        exact State.grewBy.swap (l := [(.chainsStarted, 1), (.descriptorsStarted, 1), (.stepsIssued, 1)])
          ((State.grewBy.bumpBy (hbegun.same rfl) 1 (by decide)).bumpBy 1 (by decide)) (by simp)
      · rw [if_neg hany, hand_new (s := chainBegun i none noTrigger s) (by simpa using hany)]
        exact State.grewBy.swap (l := [(.chainsStarted, 1), (.descriptorsStarted, 1), (.stepsIssued, 1)])
          ((State.grewBy.bumpBy (hbegun.same rfl) 1 (by decide)).bumpBy 1 (by decide)) (by simp)

/-- Settles O41. -/
theorem programSteps : Obligations.ProgramSteps := by
  unfold Obligations.ProgramSteps
  refine fun c s hc => ⟨fun hearly hsettled => ?early, fun st hdue hA hB => ?stepB, fun hdue hlast htest hmore => ?again⟩
  case early =>
    have hnot : s.reached c.holdEnd = false := decide_eq_false (Nat.not_lt.mpr hearly)
    rw [exec_stepHoldExpiry, opStepHoldExpiry_early hc hnot, complete_of_settled hsettled]
  case stepB =>
    have hstep : stepExpired c s = startStep c true st s := by simp only [stepExpired, hA, hB]
    rw [exec_stepHoldExpiry, opStepHoldExpiry_due hc (decide_eq_true hdue), hstep]
    exact ⟨_, rfl, startStep_engine c true st s, fun hbelt => startStep_programSetpoint hbelt true st, fun hne => startStep_hands hne true st⟩
  case again =>
    have hrepeat : endRepetition c s = startStep { c with repetition := c.repetition + 1 } false c.desc.stepA s := by
      rw [endRepetition, if_neg (by simp [htest]), if_pos (by exact hmore)]
      rfl
    rw [exec_stepHoldExpiry, opStepHoldExpiry_due hc (decide_eq_true hdue), stepExpired_ends hlast, hrepeat]
    exact ⟨_, rfl, startStep_engine _ false _ s, fun hbelt => startStep_programSetpoint (c := { c with repetition := c.repetition + 1 }) hbelt false _,
      fun hne => startStep_hands (c := { c with repetition := c.repetition + 1 }) hne false _⟩

end Sys2Proof.Proofs
end

section
/-! SUPPORT. An occurrence taken by the router (R135, R136), the pending triggers (R148, R149) and a LINE NOTICE (R153, R154). -/

namespace Sys2Proof.Machine

variable {s t : State}

/-! ### A LINE NOTICE (R153, R154) -/

section
variable (src : Option SourceNo) (count : Nat) (outcome : Option ChainOutcome) (tr : Trigger)

theorem sendNotice_unaddressed (h : s.tables.node.supervisor = 0) : sendNotice src count outcome tr s = bump .noticesUnaddressed s := if_pos h

theorem sendNotice_room (h : s.tables.node.supervisor ≠ 0) (hroom : s.hasRoom .plant = true) : sendNotice src count outcome tr s =
    bump .noticesQueued (enqueue .plant
      (ownFrame s.tables.node.node s.tables.node.supervisor 0x48 (noticeBody src count outcome tr)) s) := by
  rw [sendNotice, if_neg h, if_pos hroom, placeOwn, placeFrom_room hroom]

theorem sendNotice_full (h : s.tables.node.supervisor ≠ 0) (hfull : s.hasRoom .plant = false) : sendNotice src count outcome tr s =
    raiseFault .ownTelegramLost none none (some (.port .plant)) (bump (.ownLost .plant) s) := by
  rw [sendNotice, if_neg h, if_neg (by simp [hfull]), placeOwn, placeFrom_full hfull]

end

/-! ### Triggers (R148, R149) -/

theorem trigger_free (h : s.engine.chain = none) (i : SourceNo) (p : ActionNo) (tr : Trigger) : trigger i p tr s = startChain p (some i) tr s := by
  simp only [trigger, h]

theorem trigger_pends (h : s.engine.chain ≠ none) {i : SourceNo} (hw : s.engine.waiting[i] = none) (p : ActionNo) (tr : Trigger) :
    trigger i p tr s = bump .triggersPended { s with engine := { s.engine with waiting := s.engine.waiting.set i (some tr) } } := by
  obtain ⟨c, hc⟩ := Option.ne_none_iff_exists'.mp h
  simp only [trigger, hc, hw]

theorem trigger_absorbed (h : s.engine.chain ≠ none) {i : SourceNo} (hw : s.engine.waiting[i] ≠ none) (p : ActionNo) (tr : Trigger) :
    trigger i p tr s = bump .triggersAbsorbed s := by
  obtain ⟨c, hc⟩ := Option.ne_none_iff_exists'.mp h
  obtain ⟨w, hw⟩ := Option.ne_none_iff_exists'.mp hw
  simp only [trigger, hc, hw]

/-- A chain that does not take hold of the crusher raises nothing. -/
theorem startChain_raised {i : ActionNo} (h : s.tables.action[i].target ≠ .crusher) (src : Option SourceNo) (tr : Trigger) :
    (startChain i src tr s).raised = s.raised := by
  cases htarget : s.tables.action[i].target with
  | belt => rw [startChain_plain (.inl htarget), issueStep_raised]; rfl
  | crusher => exact absurd htarget h
  | gate => rw [startChain_gate htarget, hand_raised]; simp [chainBegun]
  | drum d => rw [startChain_drum htarget, hand_raised]; rfl

theorem trigger_raised (i : SourceNo) {p : ActionNo} (tr : Trigger) (h : s.engine.chain ≠ none ∨ s.tables.action[p].target ≠ .crusher) :
    (trigger i p tr s).raised = s.raised := by
  by_cases hc : s.engine.chain = none
  · rw [trigger_free hc]
    exact startChain_raised (h.resolve_left fun hne => hne hc) _ _
  · by_cases hw : s.engine.waiting[i] = none
    · rw [trigger_pends hc hw]; rfl
    · rw [trigger_absorbed hc hw]; rfl

theorem issueSetpoint_chainsStarted (s : State) : (issueSetpoint s).counter .chainsStarted = s.counter .chainsStarted := by
  rw [issueSetpoint, hand_counter (by simp), counter_bump, if_neg (by simp)]
  rfl

/-- Whatever its target's owner does, a started chain is counted once. -/
theorem startChain_counted (i : ActionNo) (src : Option SourceNo) (tr : Trigger) (s : State) :
    (startChain i src tr s).counter .chainsStarted = saturatingAdd (s.counter .chainsStarted) 1 := by
  have hbegun : ∀ u, (chainBegun i src tr u).counter .chainsStarted = saturatingAdd (u.counter .chainsStarted) 1 := fun u => by
    rw [chainBegun, counter_bump, if_neg (by simp)]
    exact (counter_bump .descriptorsStarted .chainsStarted _).trans ((if_neg (by simp)).trans
      ((counter_bump .chainsStarted .chainsStarted u).trans (if_pos rfl)))
  cases htarget : s.tables.action[i].target with
  | belt =>
    rw [startChain_plain (.inl htarget), htarget, issueStep_belt, issueSetpoint_chainsStarted]
    exact hbegun s
  | crusher =>
    obtain ⟨u, v, heq, hreacted, -, hcounter⟩ := startChain_crusher htarget src tr
    rw [heq, hand_counter (by simp), counter_bump, if_neg (by simp)]
    refine (hreacted.counters .chainsStarted rfl (by simp)).trans ((hcounter _ (by simp)).trans ?_)
    rw [counter_bump, if_pos rfl]
  | gate =>
    rw [startChain_gate htarget, hand_counter (by simp), hbegun, State.counter, State.counter, gateHeld_counters]
  | drum d => rw [startChain_drum htarget, hand_counter (by simp), hbegun]

theorem nextTrigger_urgent {i : SourceNo} {tr : Trigger} (hw : s.engine.waiting[i] = some tr) (hu : s.tables.route[i].urgent = true)
    (hlow : ∀ j < i, s.engine.waiting[j] ≠ none → s.tables.route[j].urgent = false) : s.nextTrigger = some i := by
  have hfind : (sourceList.find? fun i => s.engine.waiting[i].isSome && s.tables.route[i].urgent) = some i := by
    refine List.find?_eq_some_iff_getElem.mpr ⟨by rw [hw, hu]; rfl, i.val, by simp [sourceList], by simp [sourceList], fun j hj => ?_⟩
    have hlt : (sourceList[j]'(by simp [sourceList]; omega)) < i := by simp [sourceList, Fin.lt_def, hj]
    generalize hk : sourceList[j]'(by simp [sourceList]; omega) = k at hlt ⊢
    cases hwk : s.engine.waiting[k] with
    | none => rfl
    | some w => rw [hlow k hlt (by simp [hwk])]; rfl
  simp only [State.nextTrigger, hfind]

theorem nextTrigger_lowest {i : SourceNo} {tr : Trigger} (hw : s.engine.waiting[i] = some tr)
    (hcalm : ∀ j : SourceNo, s.engine.waiting[j] ≠ none → s.tables.route[j].urgent = false)
    (hlow : ∀ j < i, s.engine.waiting[j] = none) : s.nextTrigger = some i := by
  have hurgent : (sourceList.find? fun i => s.engine.waiting[i].isSome && s.tables.route[i].urgent) = none := by
    refine List.find?_eq_none.mpr fun j _ => ?_
    cases hwj : s.engine.waiting[j] with
    | none => simp
    | some w => rw [hcalm j (by simp [hwj])]; simp
  have hfind : (sourceList.find? fun i => s.engine.waiting[i].isSome) = some i := by
    refine List.find?_eq_some_iff_getElem.mpr ⟨by rw [hw]; rfl, i.val, by simp [sourceList], by simp [sourceList], fun j hj => ?_⟩
    have hlt : (sourceList[j]'(by simp [sourceList]; omega)) < i := by simp [sourceList, Fin.lt_def, hj]
    rw [hlow _ hlt]
    rfl
  simp only [State.nextTrigger, hurgent, hfind]

/-! ### One occurrence (R135, R136) -/

theorem takeOccurrences_of_nil (n : Nat) (h : s.raised = []) : takeOccurrences n s = s := by
  cases n with
  | zero => rfl
  | succ n => simp only [takeOccurrences, h]

theorem routeAll_single {o : Occurrence} (h : s.raised = [o]) (hdone : (takeOccurrence o { s with raised := [] }).raised = []) :
    routeAll s = takeOccurrence o { s with raised := [] } := by
  rw [routeAll, h]
  simp only [List.length_singleton, takeOccurrences, h]
  exact takeOccurrences_of_nil 1 hdone

theorem noticeRoute_silent {o : Occurrence} {wasSet : Bool} (h : s.tables.route[o.source].notify = false ∨ s.tables.route[o.source].notifyAfter = true ∨ wasSet = true)
    (count : Nat) : noticeRoute o wasSet count s = s := by
  refine if_neg ?_
  simp only [Bool.and_eq_true, Bool.not_eq_true', not_and, Bool.not_eq_false]
  rintro ⟨hnotify, hafter⟩
  rcases h with h | h | h
  · exact absurd (h.symm.trans hnotify) Bool.false_ne_true
  · exact absurd (hafter.symm.trans h) Bool.false_ne_true
  · exact h

theorem noticeRoute_sends {o : Occurrence} {wasSet : Bool} (hnotify : s.tables.route[o.source].notify = true)
    (hafter : s.tables.route[o.source].notifyAfter = false) (hclear : wasSet = false) (count : Nat) : noticeRoute o wasSet count s =
      sendNotice (some o.source) count none { lot := o.lot, cell := o.cell, drum := o.drum } s := by
  refine if_pos ?_
  rw [hnotify, hafter, hclear]
  rfl

/-- The occurrence counted and flagged. -/
def occurred (o : Occurrence) (s : State) : State := countOccurrence o.source { s with raised := [] }

/-- The occurrence's override, where its route latches one. -/
def overridden (o : Occurrence) (s : State) : State := if s.tables.route[o.source].overriding = true then latchOverride (occurred o s) else occurred o s

theorem overridden_fields (o : Occurrence) (s : State) : (overridden o s).tables = s.tables ∧ (overridden o s).raised = [] ∧
    (overridden o s).engine = s.engine := by
  unfold overridden
  split
  · exact ⟨by rw [latchOverride_tables]; rfl, by rw [latchOverride_raised]; rfl, by rw [latchOverride_engine]; rfl⟩
  · exact ⟨rfl, rfl, rfl⟩

/-- A single occurrence that raises no other: the steps of R136 in their order. -/
theorem routeAll_operating {o : Occurrence} (h : s.raised = [o]) (hmode : s.mode = .operating)
    (hquiet : (triggerRoute o (overridden o s)).raised = []) : routeAll s =
      noticeRoute o s.router.flags[o.source] (min (s.router.counts[o.source] + 1) 255) (triggerRoute o (overridden o s)) := by
  have htake : takeOccurrence o { s with raised := [] } =
      noticeRoute o s.router.flags[o.source] (min (s.router.counts[o.source] + 1) 255) (triggerRoute o (overridden o s)) :=
    if_neg (by rw [hmode]; simp)
  rw [routeAll_single h, htake]
  rw [htake, noticeRoute_raised, hquiet]

end Sys2Proof.Machine

namespace Sys2Proof.Proofs

open Sys2Proof.Machine

/-- Settles O43. -/
theorem occurrencesAndNotices : Obligations.OccurrencesAndNotices := by
  unfold Obligations.OccurrencesAndNotices
  refine ⟨fun o s hraised => ⟨fun hmode => ?loading, fun hmode hnone => ?plain⟩,
    ⟨fun o s hraised hmode => ?routed, fun i p tr s hfree => ?free⟩,
    ⟨fun i tr s hw => ⟨nextTrigger_urgent hw, nextTrigger_lowest hw⟩, fun i p tr s hbusy => ⟨fun hw => ?pends, fun hw => ?absorbed⟩⟩,
    fun src count outcome tr s => ⟨fun hzero => ?unaddressed, fun hnode hroom => ?placed, fun hnode hfull => ?lost⟩⟩
  case loading =>
    have htake : takeOccurrence o { s with raised := [] } = { s with raised := [] } := if_pos hmode
    rw [routeAll_single hraised (by rw [htake]), htake]
  case plain =>
    obtain ⟨htables, hempty, -⟩ := overridden_fields o s
    have htrigger : triggerRoute o (overridden o s) = overridden o s := by simp only [triggerRoute, htables, hnone]
    have hroute := routeAll_operating hraised hmode (by rw [htrigger, hempty])
    rw [htrigger] at hroute
    refine ⟨occurred o s, rfl, onlyGrew_bump _ rfl, rfl, rfl, fun hover hquiet => ?_, fun hnot => ⟨fun hnotify hafter hclear => ?_, fun hsilent => ?_⟩⟩
    · rw [hroute, noticeRoute_silent (.inl (by rw [htables]; exact hquiet)), overridden, if_pos hover]
    · rw [hroute, noticeRoute_sends (by rw [htables]; exact hnotify) (by rw [htables]; exact hafter) hclear, overridden,
        if_neg (by rw [hnot]; exact Bool.false_ne_true)]
    · rw [hroute, noticeRoute_silent (by rw [htables]; exact hsilent), overridden, if_neg (by rw [hnot]; exact Bool.false_ne_true)]
  case routed =>
    obtain ⟨htables, hempty, hengine⟩ := overridden_fields o s
    refine ⟨occurred o s, overridden o s, rfl, onlyGrew_bump _ rfl, ?_, rfl, rfl, fun hnone => ?_, fun p w hp hw hquiet => ?_⟩
    · rw [← hraised]
      rfl
    · have htrigger : triggerRoute o (overridden o s) = overridden o s := by simp only [triggerRoute, htables, hnone]
      have hroute := routeAll_operating hraised hmode (by rw [htrigger, hempty])
      rw [htrigger] at hroute
      rw [hroute]
      exact ⟨fun hnotify hafter hclear => noticeRoute_sends (by rw [htables]; exact hnotify) (by rw [htables]; exact hafter) hclear _,
        fun hsilent => noticeRoute_silent (by rw [htables]; exact hsilent) _⟩
    · have htrigger : triggerRoute o (overridden o s) = w := by simp only [triggerRoute, htables, hp, hw]
      have hwtables : w.tables = s.tables := by rw [hw, trigger_tables, htables]
      have hwempty : w.raised = [] := by
        rw [hw, trigger_raised _ _ (by rw [hengine, htables]; exact hquiet), hempty]
      have hroute := routeAll_operating hraised hmode (by rw [htrigger, hwempty])
      rw [htrigger] at hroute
      rw [hroute]
      exact ⟨fun hnotify hafter hclear => noticeRoute_sends (by rw [hwtables]; exact hnotify) (by rw [hwtables]; exact hafter) hclear _,
        fun hsilent => noticeRoute_silent (by rw [hwtables]; exact hsilent) _⟩
  case free =>
    rw [trigger_free hfree]
    exact ⟨startChain_engine p (some i) tr s, startChain_counted p (some i) tr s, fun d htarget =>
      ⟨startChain_drum_coalescer htarget (some i) tr, startChain_drum_rest htarget (some i) tr⟩⟩
  case pends =>
    rw [trigger_pends hbusy hw]
    exact ⟨rfl, onlyGrew_bump _ rfl, rfl⟩
  case absorbed =>
    rw [trigger_absorbed hbusy hw]
    exact ⟨onlyGrew_bump _ rfl, rfl⟩
  case unaddressed =>
    rw [sendNotice_unaddressed src count outcome tr hzero]
    exact ⟨onlyGrew_bump _ rfl, rfl⟩
  case placed =>
    rw [sendNotice_room src count outcome tr hnode hroom]
    exact ⟨rfl, onlyGrew_bump _ rfl, rfl⟩
  case lost =>
    rw [sendNotice_full src count outcome tr hnode hfull]
    refine ⟨raiseFault_faulted _ _ _ _ (onlyGrew_bump _ rfl) rfl rfl rfl (by simp) (by simp) (by simp), ?_⟩
    exact congrArg (fun u : State => { u with counters := s.counters })
      (raiseFault_rest .ownTelegramLost none none (some (.port .plant)) (bump (.ownLost .plant) s))

end Sys2Proof.Proofs
end

section
/-! SUPPORT. The release of a chain's targets (R144, step 2): what each owner writes, and what the release of the others leaves of it. -/

namespace Sys2Proof.Machine

variable {s t u : State} {ts : List Target}

/-! ### What the owners of the belt, the gate and the drums write at a release -/

/-- The counters of a command that an owner hands over again. -/
def Counter.isReissue : Counter → Bool
  | .gateMoves | .setpointsIssued | .drumCommands | .commandsHanded | .commandsMerged | .entriesCreated => true
  | _ => false

/-- What the release of targets among `ts` leaves as it was; the engine is said elsewhere. -/
structure Reissued (ts : List Target) (s t : State) : Prop where
  belt : .belt ∉ ts → t.belt = s.belt
  head : { t.head with gate := s.head.gate } = s.head
  gate : .gate ∉ ts → t.head = s.head
  entries : ∀ tg ∉ ts, t.coalescer.entries.filter (fun e => e.target = tg) = s.coalescer.entries.filter (fun e => e.target = tg)
  counters : ∀ k : Counter, k.isReissue = false → t.counter k = s.counter k
  setpoints : .belt ∉ ts → t.counter .setpointsIssued = s.counter .setpointsIssued
  moves : .gate ∉ ts → t.counter .gateMoves = s.counter .gateMoves
  rest : { t with engine := s.engine, belt := s.belt, head := s.head, coalescer := s.coalescer, counters := s.counters, handed := s.handed } = s

/-- A step that writes the engine alone. -/
theorem Reissued.of_engine (h : { t with engine := s.engine } = s) : Reissued ts s t := by
  obtain ⟨e, rfl⟩ : ∃ e, t = { s with engine := e } := ⟨t.engine, by rw [← h]⟩
  exact ⟨fun _ => rfl, rfl, fun _ => rfl, fun _ _ => rfl, fun _ _ => rfl, fun _ => rfl, fun _ => rfl, rfl⟩

theorem Reissued.refl (s : State) : Reissued ts s s := .of_engine rfl

theorem Reissued.trans (h : Reissued ts s t) (h' : Reissued ts t u) : Reissued ts s u where
  belt hb := (h'.belt hb).trans (h.belt hb)
  head := calc
    { u.head with gate := s.head.gate } = { { u.head with gate := t.head.gate } with gate := s.head.gate } := rfl
    _ = { t.head with gate := s.head.gate } := by rw [h'.head]
    _ = s.head := h.head
  gate hg := (h'.gate hg).trans (h.gate hg)
  entries tg htg := (h'.entries tg htg).trans (h.entries tg htg)
  counters k hk := (h'.counters k hk).trans (h.counters k hk)
  setpoints hb := (h'.setpoints hb).trans (h.setpoints hb)
  moves hg := (h'.moves hg).trans (h.moves hg)
  rest := (congrArg (fun w : State => { w with
    engine := s.engine, belt := s.belt, head := s.head, coalescer := s.coalescer, counters := s.counters, handed := s.handed }) h'.rest).trans h.rest

theorem Reissued.mono {l : List Target} (h : Reissued l s t) (hsub : ∀ tg ∈ l, tg ∈ ts) : Reissued ts s t where
  belt hb := h.belt fun hl => hb (hsub _ hl)
  head := h.head
  gate hg := h.gate fun hl => hg (hsub _ hl)
  entries tg htg := h.entries tg fun hl => htg (hsub _ hl)
  counters := h.counters
  setpoints hb := h.setpoints fun hl => hb (hsub _ hl)
  moves hg := h.moves fun hl => hg (hsub _ hl)
  rest := h.rest

theorem Reissued.tables (h : Reissued ts s t) : t.tables = s.tables := by simpa using congrArg State.tables h.rest
theorem Reissued.now (h : Reissued ts s t) : t.now = s.now := by simpa using congrArg State.now h.rest
theorem Reissued.tracker (h : Reissued ts s t) : t.tracker = s.tracker := by simpa using congrArg State.tracker h.rest
theorem Reissued.filtration (h : Reissued ts s t) : t.filtration = s.filtration := by simpa using congrArg State.filtration h.rest
theorem Reissued.raised (h : Reissued ts s t) : t.raised = s.raised := by simpa using congrArg State.raised h.rest
theorem Reissued.plant (h : Reissued ts s t) : t.plantPort = s.plantPort := by simpa using congrArg State.plantPort h.rest

theorem Reissued.gateTarget (h : Reissued ts s t) : t.gateTarget = s.gateTarget := by
  simp only [State.gateTarget, h.tracker, h.tables]

theorem Reissued.crusher_fields (h : Reissued ts s t) : t.head.crusher = s.head.crusher ∧ t.head.startMode = s.head.startMode :=
  by
  have hcrusher := congrArg Head.crusher h.head
  have hmode := congrArg Head.startMode h.head
  exact ⟨hcrusher, hmode⟩

theorem Reissued.mem_entries (h : Reissued ts s t) {e : Entry} (he : e.target ∉ ts) : e ∈ t.coalescer.entries ↔ e ∈ s.coalescer.entries := by
  have hmem := congrArg (fun l => e ∈ l) (h.entries e.target he)
  simpa using hmem

/-! ### The three owners -/

/-- The belt speed unit's record after the release of BELT. -/
theorem beltReleased_belt (s : State) : (beltReleased s).belt = { s.belt with
    programSetpoint := none, selected := ({ s with belt := { s.belt with programSetpoint := none } } : State).selection.2,
    issued := some ({ s with belt := { s.belt with programSetpoint := none } } : State).selection.2 } := issueSetpoint_belt _

theorem issueSetpoint_counter {k : Counter} (hk : k ∉ [.commandsHanded, .commandsMerged, .entriesCreated]) (s : State) :
    (issueSetpoint s).counter k = if Counter.setpointsIssued = k then saturatingAdd (s.counter .setpointsIssued) 1 else s.counter k := by
  rw [issueSetpoint, hand_counter hk, counter_bump]
  rfl

theorem not_handed_of_not_reissue {k : Counter} (hk : k.isReissue = false) : k ∉ [.commandsHanded, .commandsMerged, .entriesCreated] := by
  simp only [List.mem_cons, List.not_mem_nil, or_false]
  rintro (rfl | rfl | rfl) <;> cases hk

theorem beltReleased_reissued (s : State) : Reissued [.belt] s (beltReleased s) where
  belt hb := absurd (List.mem_singleton.mpr rfl) hb
  head := by simp [beltReleased, issueSetpoint]
  gate _ := by simp [beltReleased, issueSetpoint]
  entries tg htg := hand_filter (by simpa using htg) _ _ _
  counters k hk := by
    rw [beltReleased, issueSetpoint_counter (not_handed_of_not_reissue hk), if_neg (by rintro rfl; cases hk)]
    rfl
  setpoints hb := absurd (List.mem_singleton.mpr rfl) hb
  moves _ := by
    rw [beltReleased, issueSetpoint_counter (by simp), if_neg (by simp)]
    rfl
  rest := by
    obtain ⟨b, c, h, k, hform⟩ := issueSetpoint_form { s with belt := { s.belt with programSetpoint := none } }
    rw [beltReleased, hform]

theorem startTravel_reissued (r : RouteNo) (s : State) : Reissued [.gate] s (startTravel r s) where
  belt _ := by simp
  head := by rw [startTravel_head]
  gate hg := absurd (List.mem_singleton.mpr rfl) hg
  entries tg htg := by
    rw [startTravel_coalescer]
    split
    · rfl
    · exact hand_filter (by simpa using htg) _ _ _
  counters k hk := startTravel_counter (by
    simp only [List.mem_cons, List.not_mem_nil, or_false]
    rintro (rfl | rfl | rfl | rfl) <;> cases hk) _ _
  setpoints _ := startTravel_counter (by simp) _ _
  moves hg := absurd (List.mem_singleton.mpr rfl) hg
  rest := by
    obtain ⟨h, c, b, k, hform⟩ := startTravel_form r s
    rw [hform]

theorem gateReleased_reissued (s : State) : Reissued [.gate] s (gateReleased s) := by
  unfold gateReleased
  split
  · exact startTravel_reissued _ s
  · exact startTravel_reissued _ s
  · exact startTravel_reissued _ s
  · exact .refl s

theorem handDrum_reissued (d : DrumNo) (s : State) : Reissued [.drum d] s (handDrum d s) where
  belt _ := by simp
  head := by simp
  gate _ := by simp
  entries tg htg := by
    unfold handDrum
    split
    · rfl
    · exact hand_filter (by simpa using htg) _ _ _
  counters k hk := handDrum_counter (by
    simp only [List.mem_cons, List.not_mem_nil, or_false]
    rintro (rfl | rfl | rfl | rfl) <;> cases hk) _ _
  setpoints _ := handDrum_counter (by simp) _ _
  moves _ := handDrum_counter (by simp) _ _
  rest := by
    obtain ⟨b, k, hform⟩ := handDrum_form d s
    rw [hform]

theorem ownerReleased_reissued (o : ChainOutcome) {tg : Target} (h : tg ≠ .crusher) (s : State) : Reissued [tg] s (ownerReleased o tg s) := by
  cases tg with
  | belt => exact beltReleased_reissued s
  | crusher => exact absurd rfl h
  | gate => exact gateReleased_reissued s
  | drum d => exact handDrum_reissued d s

/-! ### The releases in their order -/

theorem setChain_reissued (c : Option Chain) (s : State) : Reissued ts s (s.setChain c) := .of_engine rfl

section
variable {reissue : Target → State → State} (hengine : ∀ tg u, (reissue tg u).engine = u.engine)

theorem releaseTarget_held {c : Chain} (hc : s.engine.chain = some c) {tg : Target} (h : tg ∈ c.held) :
    releaseTarget reissue tg s = reissue tg (s.setChain (some { c with held := c.held.filter fun u => u ≠ tg })) := by
  simp only [releaseTarget, hc, List.contains_iff_mem, h, if_true]

theorem releaseTarget_free {c : Chain} (hc : s.engine.chain = some c) {tg : Target} (h : tg ∉ c.held) : releaseTarget reissue tg s = s := by
  simp only [releaseTarget, hc, List.contains_iff_mem, h, if_false]

/-- The targets still held after the release of those in `l`. -/
def Chain.without (c : Chain) (l : List Target) : Chain := { c with held := c.held.filter fun u => u ∉ l }

theorem Chain.without_cons (c : Chain) (tg : Target) (l : List Target) : (c.without [tg]).without l = c.without (tg :: l) := by
  simp only [Chain.without, List.filter_filter]
  congr 2
  funext u
  simp [Bool.and_comm]

include hengine in
theorem releaseTarget_engine {c : Chain} (hc : s.engine.chain = some c) (tg : Target) :
    (releaseTarget reissue tg s).engine = { s.engine with chain := some (c.without [tg]) } := by
  by_cases h : tg ∈ c.held
  · rw [releaseTarget_held hc h, hengine]
    simp [State.setChain, Chain.without]
  · have hkept : c.without [tg] = c := by
      simp only [Chain.without]
      rw [List.filter_eq_self.mpr fun u hu => by
        have hne : u ≠ tg := fun heq => h (heq ▸ hu)
        simpa using hne]
    rw [releaseTarget_free hc h, hkept, ← hc]

/-- The targets of a list released in its order. -/
def releaseEach (reissue : Target → State → State) (l : List Target) (s : State) : State := l.foldl (fun u tg => releaseTarget reissue tg u) s

theorem releaseAll_eq (reissue : Target → State → State) (s : State) : releaseAll reissue s = releaseEach reissue releaseOrder s := rfl

theorem releaseEach_append (reissue : Target → State → State) (l l' : List Target) (s : State) :
    releaseEach reissue (l ++ l') s = releaseEach reissue l' (releaseEach reissue l s) := List.foldl_append

include hengine in
theorem releaseEach_engine (l : List Target) {c : Chain} (hc : s.engine.chain = some c) :
    (releaseEach reissue l s).engine = { s.engine with chain := some (c.without l) } := by
  induction l generalizing s c with
  | nil =>
    have hkept : c.without [] = c := by simp [Chain.without]
    rw [hkept, ← hc]
    rfl
  | cons tg l ih =>
    have hstep := releaseTarget_engine hengine hc tg
    have hrest := ih (s := releaseTarget reissue tg s) (c := c.without [tg]) (by rw [hstep])
    rw [hstep, Chain.without_cons] at hrest
    exact hrest

variable (howner : ∀ tg u, tg ≠ .crusher → Reissued [tg] u (reissue tg u))
include hengine howner

theorem releaseEach_reissued {l : List Target} {c : Chain} (hc : s.engine.chain = some c) (hl : ∀ tg ∈ l, tg ∈ c.held → tg ≠ .crusher ∧ tg ∈ ts) :
    Reissued ts s (releaseEach reissue l s) := by
  induction l generalizing s c with
  | nil => exact .refl s
  | cons tg l ih =>
    have hstep := releaseTarget_engine hengine hc tg
    have hrest : Reissued ts (releaseTarget reissue tg s) (releaseEach reissue l (releaseTarget reissue tg s)) :=
      ih (c := c.without [tg]) (by rw [hstep]) fun tg' htg' hheld => hl tg' (List.mem_cons_of_mem _ htg') (List.mem_of_mem_filter hheld)
    refine Reissued.trans ?_ hrest
    by_cases h : tg ∈ c.held
    · obtain ⟨hne, hts⟩ := hl tg (List.mem_cons_self ..) h
      rw [releaseTarget_held hc h]
      exact (setChain_reissued _ s).trans ((howner tg _ hne).mono fun x hx => by rwa [List.mem_singleton.mp hx])
    · rw [releaseTarget_free hc h]
      exact .refl s

/-- One held target stands out of the releases: those before it and those after it leave it alone. -/
theorem releaseAll_split {tg : Target} {c : Chain} (hc : s.engine.chain = some c) (hheld : tg ∈ c.held) (hcrusher : tg = .crusher ∨ .crusher ∉ c.held) :
    ∃ u, u.holds tg = false ∧ Reissued (c.held.filter fun x => x ≠ tg) s u ∧
      Reissued (c.held.filter fun x => x ≠ tg) (reissue tg u) (releaseAll reissue s) := by
  obtain ⟨pre, post, horder, hpre, hpost⟩ : ∃ pre post, releaseOrder = pre ++ tg :: post ∧ tg ∉ pre ∧ tg ∉ post := by
    cases tg with
    | belt => exact ⟨[], _, rfl, by decide, by decide⟩
    | crusher => exact ⟨[.belt], _, rfl, by decide, by decide⟩
    | gate => exact ⟨[.belt, .crusher], _, rfl, by decide, by decide⟩
    | drum d =>
      match d with
      | 0 => exact ⟨[.belt, .crusher, .gate], _, rfl, by decide, by decide⟩
      | 1 => exact ⟨[.belt, .crusher, .gate, .drum 0], _, rfl, by decide, by decide⟩
      | 2 => exact ⟨[.belt, .crusher, .gate, .drum 0, .drum 1], _, rfl, by decide, by decide⟩
      | 3 => exact ⟨[.belt, .crusher, .gate, .drum 0, .drum 1, .drum 2], _, rfl, by decide, by decide⟩
  have hothers : ∀ x, x ≠ tg → x ∈ c.held → x ≠ .crusher ∧ x ∈ c.held.filter fun x => x ≠ tg := fun x hx hin =>
    ⟨fun heq => hcrusher.elim (fun htg => hx (heq.trans htg.symm)) (fun hnot => hnot (heq ▸ hin)), by simp [hin, hx]⟩
  have hbefore : (releaseEach reissue pre s).engine.chain = some (c.without pre) := by rw [releaseEach_engine hengine pre hc]
  have hstill : tg ∈ (c.without pre).held := by simp [Chain.without, hheld, hpre]
  have hat := releaseTarget_held (reissue := reissue) hbefore hstill
  have hfree : tg ∉ (c.without pre).held.filter fun u => u ≠ tg := by simp
  refine ⟨(releaseEach reissue pre s).setChain (some { c.without pre with held := (c.without pre).held.filter fun u => u ≠ tg }), ?_, ?_, ?_⟩
  · simp [State.holds, State.setChain]
  · exact (releaseEach_reissued hengine howner hc fun x hx => hothers x fun heq => hpre (heq ▸ hx)).trans (setChain_reissued _ _)
  · have hall : releaseAll reissue s = releaseEach reissue post (releaseTarget reissue tg (releaseEach reissue pre s)) := by
      rw [releaseAll_eq, horder, releaseEach_append]
      rfl
    rw [hall, ← hat]
    refine releaseEach_reissued hengine howner (c := (c.without pre).without [tg]) (by rw [releaseTarget_engine hengine hbefore]) fun x hx hin => ?_
    exact hothers x (fun heq => hpost (heq ▸ hx)) (List.mem_of_mem_filter (List.mem_of_mem_filter hin))

omit howner in
theorem releaseAll_engine {c : Chain} (hc : s.engine.chain = some c) :
    ∃ c', (releaseAll reissue s).engine = { s.engine with chain := some c' } := ⟨_, releaseEach_engine hengine releaseOrder hc⟩

/-- A chain that does not hold the crusher releases its targets, and nothing else. -/
theorem releaseAll_reissued {c : Chain} (hc : s.engine.chain = some c) (hcrusher : .crusher ∉ c.held) :
    Reissued c.held s (releaseAll reissue s) :=
  releaseEach_reissued hengine howner hc fun _ _ hin => ⟨fun heq => hcrusher (heq ▸ hin), hin⟩

end

end Sys2Proof.Machine
end

section
/-! SUPPORT. The end of a chain (R144): the state with every target released, the notice sent and the engine free, and the trigger it serves (R149). -/

namespace Sys2Proof.Machine

variable {s t u : State} {o : ChainOutcome} {c : Chain}

/-! ### The release of the crusher (R102) -/

theorem interlock_raised_more (s : State) : ∃ more, (interlock s).raised = s.raised ++ more := by
  unfold interlock
  split
  · split
    · exact ⟨[], (List.append_nil _).symm⟩
    · exact ⟨[s.interlockOccurrence], by simp [raise]⟩
  · exact ⟨[], by simp⟩

theorem crusherReleased_cleared (s : State) : crusherReleased .cleared s = interlock (started s) := rfl

theorem crusherReleased_failed (h : o ≠ .cleared) (s : State) : crusherReleased o s = interlock (crusherToFault 2 s) := by
  cases o with
  | cleared => exact absurd rfl h
  | exhausted => rfl
  | aborted => rfl

/-- The counters that the release of the crusher writes, besides those of the reactions. -/
def Counter.isCrusherRelease : Counter → Bool
  | .interlockHolds | .crusherStarts | .drumCommands | .raised .crusherFault => true
  | _ => false

theorem notReissue {k : Counter} (hk : k.isReaction = false) (hr : k.isCrusherRelease = false) : k.isReissue = false := by
  refine Bool.eq_false_iff.mpr fun hissue => ?_
  unfold Counter.isReissue at hissue
  split at hissue
  case h_3 => cases hr
  case h_7 => cases hissue
  all_goals cases hk

theorem crusherReleased_counter {k : Counter} (hk : k.isReaction = false) (hr : k.isCrusherRelease = false) (s : State) :
    (crusherReleased o s).counter k = s.counter k := by
  have hhand : k ∉ [.commandsHanded, .commandsMerged, .entriesCreated] := by
    simp only [List.mem_cons, List.not_mem_nil, or_false]
    rintro (rfl | rfl | rfl) <;> cases hk
  have hinterlock : k ∉ [Counter.interlockHolds] := by
    rw [List.mem_singleton]
    rintro rfl
    cases hr
  by_cases h : o = .cleared
  · rw [h, crusherReleased_cleared, (interlock_reacted _).counters k hk hinterlock, started, counter_bump, if_neg (by rintro rfl; cases hr),
      hand_counter hhand]
    rfl
  · have hfault : k ∉ [.faultsCaptured, .faultsSuppressed] := by
      simp only [List.mem_cons, List.not_mem_nil, or_false]
      rintro (rfl | rfl) <;> cases hk
    rw [crusherReleased_failed h, (interlock_reacted _).counters k hk hinterlock, crusherToFault_counter hfault hhand,
      if_neg (by rintro rfl; cases hr)]

theorem crusherReleased_plant (s : State) : (crusherReleased o s).plantPort = s.plantPort := by
  by_cases h : o = .cleared
  · rw [h, crusherReleased_cleared, (interlock_reacted _).plant]
    simp [started]
  · rw [crusherReleased_failed h, (interlock_reacted _).plant]
    simp [crusherToFault, handStop]

/-! ### All targets released -/

/-- The state in which the chain's outcome is recorded and its targets are released. -/
def chainReleased (o : ChainOutcome) (s : State) : State := releaseAll (ownerReleased o) (recordOutcome o s)

theorem chainReleased_tables (o : ChainOutcome) (s : State) : (chainReleased o s).tables = s.tables := by
  simp [chainReleased, recordOutcome]

theorem chainReleased_router (o : ChainOutcome) (s : State) : (chainReleased o s).router = s.router := by
  simp [chainReleased, recordOutcome]

theorem chainReleased_now (o : ChainOutcome) (s : State) : (chainReleased o s).now = s.now := by
  simp [chainReleased, recordOutcome]

theorem recordOutcome_chain (o : ChainOutcome) (s : State) : (recordOutcome o s).engine = { s.engine with lastOutcome := some o } := rfl

theorem ownerReleased_engine_all (tg : Target) (u : State) : (ownerReleased o tg u).engine = u.engine := ownerReleased_engine o tg u

section
variable (hc : s.engine.chain = some c)
include hc

theorem chainReleased_engine : ∃ c', (chainReleased o s).engine = { s.engine with chain := some c', lastOutcome := some o } := by
  obtain ⟨c', hc'⟩ := releaseAll_engine (reissue := ownerReleased o) (s := recordOutcome o s) ownerReleased_engine_all hc
  exact ⟨c', hc'⟩

/-- One held target stands out, as `releaseAll_split` says. -/
theorem chainReleased_split {tg : Target} (hheld : tg ∈ c.held) (hcrusher : tg = .crusher ∨ .crusher ∉ c.held) :
    ∃ u, u.holds tg = false ∧ Reissued (c.held.filter fun x => x ≠ tg) (recordOutcome o s) u ∧
      Reissued (c.held.filter fun x => x ≠ tg) (ownerReleased o tg u) (chainReleased o s) :=
  releaseAll_split (s := recordOutcome o s) ownerReleased_engine_all (fun _ u h => ownerReleased_reissued o h u) hc hheld hcrusher

theorem chainReleased_reissued (hcrusher : .crusher ∉ c.held) : Reissued c.held (recordOutcome o s) (chainReleased o s) :=
  releaseAll_reissued (s := recordOutcome o s) ownerReleased_engine_all (fun _ u h => ownerReleased_reissued o h u) hc hcrusher

theorem chainReleased_plant : (chainReleased o s).plantPort = s.plantPort := by
  by_cases h : .crusher ∈ c.held
  · obtain ⟨u, -, hbefore, hafter⟩ := chainReleased_split (o := o) hc h (.inl rfl)
    exact hafter.plant.trans ((crusherReleased_plant u).trans hbefore.plant)
  · exact (chainReleased_reissued (o := o) hc h).plant

theorem chainReleased_counter {k : Counter} (hk : k.isReaction = false) (hr : k.isCrusherRelease = false) :
    (chainReleased o s).counter k = (recordOutcome o s).counter k := by
  have hreissue : k.isReissue = false := notReissue hk hr
  by_cases h : .crusher ∈ c.held
  · obtain ⟨u, -, hbefore, hafter⟩ := chainReleased_split (o := o) hc h (.inl rfl)
    exact (hafter.counters k hreissue).trans ((crusherReleased_counter hk hr u).trans (hbefore.counters k hreissue))
  · exact (chainReleased_reissued (o := o) hc h).counters k hreissue

end

/-! ### The notice and the freed engine (R144, step 3) -/

/-- The ended chain: its targets released, its notice sent, the engine free; the pending triggers are not served yet. -/
def chainOver (o : ChainOutcome) (c : Chain) (s : State) : State := (endNotice o c (chainReleased o s)).setChain none

theorem endChain_eq (o : ChainOutcome) (c : Chain) (s : State) : endChain o c s = servePending 17 (chainOver o c s) := rfl

theorem sendNotice_counter {k : Counter} (hk : k.isReaction = false) (hn : k ∉ [.noticesQueued, .noticesUnaddressed]) (src : Option SourceNo) (count : Nat)
    (outcome : Option ChainOutcome) (tr : Trigger) (s : State) : (sendNotice src count outcome tr s).counter k = s.counter k := by
  simp only [List.mem_cons, List.not_mem_nil, or_false, not_or] at hn
  by_cases hnode : s.tables.node.supervisor = 0
  · rw [sendNotice_unaddressed _ _ _ _ hnode, counter_bump, if_neg (Ne.symm hn.2)]
  by_cases hroom : s.hasRoom .plant = true
  · rw [sendNotice_room _ _ _ _ hnode hroom, counter_bump, if_neg (Ne.symm hn.1), enqueue_counter]
  · rw [sendNotice_full _ _ _ _ hnode (Bool.eq_false_iff.mpr hroom), raiseFault_counter _ _ _ _ (by rintro rfl; cases hk) (by rintro rfl; cases hk),
      if_neg (by rintro rfl; cases hk), counter_bump, if_neg (by rintro rfl; cases hk)]

theorem endNotice_counter {k : Counter} (hk : k.isReaction = false) (hn : k ∉ [.noticesQueued, .noticesUnaddressed]) (s : State) :
    (endNotice o c s).counter k = s.counter k := by
  unfold endNotice
  split
  · exact sendNotice_counter hk hn _ _ _ _ _
  · rfl

theorem endNotified_iff : s.endNotified c = true ↔
    c.desc.notifyAtEnd = true ∨ ∃ i, c.source = some i ∧ s.tables.route[i].notify = true ∧ s.tables.route[i].notifyAfter = true := by
  unfold State.endNotified
  cases c.source with
  | none => simp
  | some i => simp

theorem endNotice_silent (hdesc : c.desc.notifyAtEnd = false)
    (hroute : ∀ i, c.source = some i → s.tables.route[i].notify = false ∨ s.tables.route[i].notifyAfter = false) : endNotice o c s = s := by
  refine if_neg fun hnotified => ?_
  rcases endNotified_iff.mp hnotified with h | ⟨i, hi, hnotify, hafter⟩
  · exact Bool.false_ne_true (hdesc.symm.trans h)
  · rcases hroute i hi with h | h
    · exact Bool.false_ne_true (h.symm.trans hnotify)
    · exact Bool.false_ne_true (h.symm.trans hafter)

theorem chainOver_tables (o : ChainOutcome) (c : Chain) (s : State) : (chainOver o c s).tables = s.tables :=
  (endNotice_tables o c _).trans (chainReleased_tables o s)

theorem chainOver_now (o : ChainOutcome) (c : Chain) (s : State) : (chainOver o c s).now = s.now :=
  (endNotice_now o c _).trans (chainReleased_now o s)

theorem chainOver_silent (hdesc : c.desc.notifyAtEnd = false)
    (hroute : ∀ i, c.source = some i → s.tables.route[i].notify = false ∨ s.tables.route[i].notifyAfter = false) :
    chainOver o c s = (chainReleased o s).setChain none := by
  rw [chainOver, endNotice_silent hdesc (by rw [chainReleased_tables]; exact hroute)]

section
variable (hc : s.engine.chain = some c)
include hc

theorem chainOver_engine (o : ChainOutcome) (c' : Chain) : (chainOver o c' s).engine = { s.engine with chain := none, lastOutcome := some o } := by
  obtain ⟨x, hx⟩ := chainReleased_engine (o := o) hc
  have hover : (chainOver o c' s).engine = { (endNotice o c' (chainReleased o s)).engine with chain := none } := rfl
  rw [hover, endNotice_engine, hx]

theorem chainOver_counter (o : ChainOutcome) (c' : Chain) {k : Counter} (hk : k.isReaction = false) (hr : k.isCrusherRelease = false)
    (hn : k ∉ [.noticesQueued, .noticesUnaddressed]) : (chainOver o c' s).counter k = (recordOutcome o s).counter k :=
  (endNotice_counter hk hn _).trans (chainReleased_counter hc hk hr)

end

/-! ### The trigger that the freed engine serves (R149) -/

theorem nextTrigger_congr (hwaiting : t.engine.waiting = s.engine.waiting) (htables : t.tables = s.tables) : t.nextTrigger = s.nextTrigger := by
  simp only [State.nextTrigger, hwaiting, htables]

theorem nextTrigger_none (h : ∀ i : SourceNo, s.engine.waiting[i] = none) : s.nextTrigger = none := by
  have hfind : ∀ p : SourceNo → Bool, (∀ i, p i = true → s.engine.waiting[i].isSome = true) → sourceList.find? p = none := fun p hp => by
    refine List.find?_eq_none.mpr fun i _ hi => ?_
    have hsome := hp i hi
    rw [h i] at hsome
    cases hsome
  simp only [State.nextTrigger, hfind _ fun i hi => (Bool.and_eq_true_iff.mp hi).1, hfind _ fun i hi => hi]

theorem nextTrigger_waits {i : SourceNo} (h : s.nextTrigger = some i) : ∃ tr, s.engine.waiting[i] = some tr := by
  refine Option.isSome_iff_exists.mp ?_
  unfold State.nextTrigger at h
  split at h
  · rename_i j hj
    cases h
    have hboth := List.find?_some hj
    exact (Bool.and_eq_true_iff.mp hboth).1
  · have hi := List.find?_some h
    exact hi

theorem servePending_none (n : Nat) (h : s.nextTrigger = none) : servePending n s = s := by
  cases n with
  | zero => rfl
  | succ n => simp only [servePending, h]

theorem servePending_starts {n : Nat} {i : SourceNo} {tr : Trigger} {p : ActionNo} (h : s.nextTrigger = some i) (hw : s.engine.waiting[i] = some tr)
    (hp : s.tables.route[i].program = some p) : servePending (n + 1) s = startChain p (some i) tr (dropTrigger i s) := by
  simp only [servePending, h, hw, hp]

theorem servePending_discards {n : Nat} {i : SourceNo} (h : s.nextTrigger = some i) (hp : s.tables.route[i].program = none) :
    servePending (n + 1) s = servePending n (bump .triggersDiscarded (dropTrigger i s)) := by
  obtain ⟨tr, hw⟩ := nextTrigger_waits h
  simp only [servePending, h, hw, hp]

/-- A started chain writes, of the counters outside the reactions, only its own. -/
theorem startChain_untouched {k : Counter} (hk : k.isReaction = false)
    (hown : k ∉ [.chainsStarted, .descriptorsStarted, .stepsIssued, .interlockHolds]) (i : ActionNo) (src : Option SourceNo) (tr : Trigger) (s : State) :
    (startChain i src tr s).counter k = s.counter k := by
  have hhand : k ∉ [.commandsHanded, .commandsMerged, .entriesCreated] := by
    simp only [List.mem_cons, List.not_mem_nil, or_false]
    rintro (rfl | rfl | rfl) <;> cases hk
  simp only [List.mem_cons, List.not_mem_nil, or_false, not_or] at hown
  obtain ⟨hchains, hdescriptors, hsteps, hholds⟩ := hown
  have hbegun : ∀ u, (chainBegun i src tr u).counter k = u.counter k := fun u => by
    rw [chainBegun, counter_bump, if_neg (Ne.symm hsteps)]
    exact (counter_bump .descriptorsStarted k _).trans ((if_neg (Ne.symm hdescriptors)).trans
      ((counter_bump .chainsStarted k u).trans (if_neg (Ne.symm hchains))))
  cases htarget : s.tables.action[i].target with
  | belt =>
    rw [startChain_plain (.inl htarget), htarget, issueStep_belt, issueSetpoint_counter hhand, if_neg (by rintro rfl; cases hk)]
    exact hbegun s
  | crusher =>
    obtain ⟨u, v, heq, hreacted, -, hcounter⟩ := startChain_crusher htarget src tr
    rw [heq, hand_counter hhand, counter_bump, if_neg (Ne.symm hsteps)]
    refine (hreacted.counters k hk (by simpa using hholds)).trans ((hcounter k hdescriptors).trans ?_)
    rw [counter_bump, if_neg (Ne.symm hchains)]
  | gate => rw [startChain_gate htarget, hand_counter hhand, hbegun, State.counter, State.counter, gateHeld_counters]
  | drum d => rw [startChain_drum htarget, hand_counter hhand, hbegun]

end Sys2Proof.Machine
end

section
/-! SUPPORT. How a chain ends (R142 to R144, R149): the ends of a repetition, and what each held target's owner hands over again. -/

namespace Sys2Proof.Machine

variable {s t u : State} {o : ChainOutcome} {c : Chain}

/-! ### The ends of a repetition (R142, R143) -/

theorem endTestPasses_of (h : (c.desc.endTest = .currentLow ∧ s.head.current < s.tables.crusher.clearLevel) ∨
    ∃ d : DrumNo, c.desc.target = .drum d ∧ c.desc.endTest = .dpLow ∧ (s.drum d).dp < s.tables.drum[d].dpLimit) :
    s.endTestPasses c.desc = true := by
  rcases h with ⟨htest, hlow⟩ | ⟨d, htarget, htest, hlow⟩
  · simp only [State.endTestPasses, htest, hlow, decide_true]
  · simp only [State.endTestPasses, htest, htarget, hlow, decide_true]

theorem endRepetition_cleared (h : s.endTestPasses c.desc = true) : endRepetition c s = endChain .cleared c s := if_pos h

theorem endRepetition_exhausts (htest : c.desc.endTest = .none) (h : c.desc.repetitions ≤ c.repetition) : endRepetition c s = exhaustDescriptor c s := by
  have hfails : s.endTestPasses c.desc = false := by simp only [State.endTestPasses, htest]
  rw [endRepetition, if_neg (by simp [hfails]), if_neg (Nat.not_lt.mpr h)]

theorem exhaustDescriptor_ends (h : c.desc.link = none) : exhaustDescriptor c s = endChain .exhausted c s := by
  simp only [exhaustDescriptor, h]

theorem exhaustDescriptor_links {i : ActionNo} (h : c.desc.link = some i) (hmore : c.started < 64) : exhaustDescriptor c s = startDescriptor i c s := by
  simp only [exhaustDescriptor, h]
  exact if_pos hmore

theorem exhaustDescriptor_limit {i : ActionNo} (h : c.desc.link = some i) (hlimit : 64 ≤ c.started) :
    exhaustDescriptor c s = endChain .exhausted c (bump .linkLimits (raiseFault .linkLimit none none none s)) := by
  simp only [exhaustDescriptor, h]
  exact if_neg (Nat.not_lt.mpr hlimit)

theorem recordOutcome_counter {k : Counter} (hk : k ≠ .chainsEnded o) (s : State) : (recordOutcome o s).counter k = s.counter k :=
  (counter_bump (.chainsEnded o) k _).trans (if_neg (Ne.symm hk))

theorem recordOutcome_counted (o : ChainOutcome) (s : State) :
    (recordOutcome o s).counter (.chainsEnded o) = saturatingAdd (s.counter (.chainsEnded o)) 1 := (counter_bump (.chainsEnded o) _ _).trans (if_pos rfl)

/-! ### The end with nothing pending -/

section
variable (hc : s.engine.chain = some c) (hnone : ∀ i : SourceNo, s.engine.waiting[i] = none)
include hc hnone

theorem endChain_idle (o : ChainOutcome) (c' : Chain) : endChain o c' s = chainOver o c' s := by
  refine (endChain_eq o c' s).trans (servePending_none 17 (nextTrigger_none fun i => ?_))
  rw [chainOver_engine hc]
  exact hnone i

theorem endChain_engine (o : ChainOutcome) (c' : Chain) : (endChain o c' s).engine = { s.engine with chain := none, lastOutcome := some o } := by
  rw [endChain_idle hc hnone, chainOver_engine hc]

theorem endChain_counted (o : ChainOutcome) (c' : Chain) :
    (endChain o c' s).counter (.chainsEnded o) = saturatingAdd (s.counter (.chainsEnded o)) 1 := by
  rw [endChain_idle hc hnone, chainOver_counter hc o c' rfl rfl (by simp), recordOutcome_counted]

theorem endChain_linkLimits (o : ChainOutcome) (c' : Chain) : (endChain o c' s).counter .linkLimits = s.counter .linkLimits := by
  rw [endChain_idle hc hnone, chainOver_counter hc o c' rfl rfl (by simp), recordOutcome_counter (by simp)]

theorem endChain_silent (hdesc : c.desc.notifyAtEnd = false)
    (hroute : ∀ i, c.source = some i → s.tables.route[i].notify = false ∨ s.tables.route[i].notifyAfter = false) (o : ChainOutcome) :
    endChain o c s = (chainReleased o s).setChain none := (endChain_idle hc hnone o c).trans (chainOver_silent hdesc hroute)

end

/-! ### The commands handed over again -/

/-- The selection of a belt that no program drives. -/
theorem selection_unprogrammed (h : s.belt.programSetpoint = none) : s.selection.2 =
    if s.belt.supervisor || s.belt.crusher || s.belt.link then 0
    else if s.belt.latched then s.tables.profile.overriding else s.tables.profile.primary := by
  simp only [State.selection, State.holdInForce, h]
  split
  · rfl
  · split <;> rfl

/-- A target that was not held keeps its commands. -/
theorem not_others {l : List Target} {tg : Target} : tg ∉ l.filter fun x => x ≠ tg := by simp

section
variable (hc : s.engine.chain = some c) (hcrusher : .crusher ∉ c.held)
include hc hcrusher

/-- The belt speed unit selects the setpoint without the program and issues it. -/
theorem chainReleased_belt (hheld : .belt ∈ c.held) (o : ChainOutcome) {v : Nat}
    (hv : v = if s.belt.supervisor || s.belt.crusher || s.belt.link then 0
      else if s.belt.latched then s.tables.profile.overriding else s.tables.profile.primary) :
    (chainReleased o s).belt = { s.belt with programSetpoint := none, selected := v, issued := some v } ∧
      (∃ e ∈ (chainReleased o s).coalescer.entries, e.target = .belt ∧ e.mode = .run ∧ e.setpoint = v) ∧
      (chainReleased o s).counter .setpointsIssued = saturatingAdd (s.counter .setpointsIssued) 1 := by
  obtain ⟨u, -, hbefore, hafter⟩ := chainReleased_split (o := o) hc hheld (.inr hcrusher)
  have hbelt : u.belt = s.belt := hbefore.belt not_others
  have hselect : ({ u with belt := { u.belt with programSetpoint := none } } : State).selection.2 = v := by
    have htables : u.tables = s.tables := hbefore.tables
    rw [selection_unprogrammed rfl, hv, hbelt, htables]
  refine ⟨?_, ?_, ?_⟩
  · rw [hafter.belt not_others, ownerReleased, beltReleased_belt, hselect, hbelt]
  · obtain ⟨e, he, htarget, hmode, hvalue⟩ := hand_entry .belt .run v (bump .setpointsIssued { u with belt := { u.belt with
      programSetpoint := none, selected := v, issued := some v } })
    refine ⟨e, (hafter.mem_entries (by rw [htarget]; exact not_others)).mpr ?_, htarget, hmode, hvalue⟩
    rw [ownerReleased, beltReleased, issueSetpoint, hselect]
    exact he
  · rw [hafter.setpoints not_others, ownerReleased, beltReleased, issueSetpoint_counter (by simp), if_pos rfl]
    exact congrArg (saturatingAdd · 1) ((hbefore.setpoints not_others).trans (recordOutcome_counter (by simp) s))

/-- The head controller travels to the target, or to its route or last target. -/
theorem chainReleased_gate (hheld : .gate ∈ c.held) (o : ChainOutcome) {r : RouteNo}
    (hr : s.gateTarget = some r ∨ (s.gateTarget = none ∧
      (s.head.gate = .settled r ∨ ∃ start taken, s.head.gate = .moving (some r) start taken))) :
    (chainReleased o s).head = { s.head with gate := .moving (some r) s.now false } ∧
      (∃ e ∈ (chainReleased o s).coalescer.entries, e.target = .gate ∧ e.mode = .move ∧ e.setpoint = r.val) ∧
      (chainReleased o s).counter .gateMoves = saturatingAdd (s.counter .gateMoves) 1 := by
  obtain ⟨u, hfree, hbefore, hafter⟩ := chainReleased_split (o := o) hc hheld (.inr hcrusher)
  have hhead : u.head = s.head := hbefore.gate not_others
  have hgate : u.gateTarget = s.gateTarget := hbefore.gateTarget
  have htravel : ownerReleased o .gate u = startTravel r u := by
    rw [ownerReleased]
    rcases hr with hr | ⟨hnone, hr | ⟨start, taken, hr⟩⟩
    · simp only [gateReleased, hgate, hr]
    · simp only [gateReleased, hgate, hnone, hhead, hr]
    · simp only [gateReleased, hgate, hnone, hhead, hr]
  rw [htravel] at hafter
  refine ⟨?_, ?_, ?_⟩
  · rw [hafter.gate not_others, startTravel_head, hhead, hbefore.now]
    rfl
  · obtain ⟨e, he, htarget, hmode, hvalue⟩ := hand_entry .gate .move r.val u
    refine ⟨e, (hafter.mem_entries (by rw [htarget]; exact not_others)).mpr ?_, htarget, hmode, hvalue⟩
    rw [startTravel_coalescer, if_neg (by simp [hfree])]
    exact he
  · rw [hafter.moves not_others, startTravel_free hfree, handMove_gateMoves]
    exact congrArg (saturatingAdd · 1) ((hbefore.moves not_others).trans (recordOutcome_counter (by simp) s))

/-- A gate without a target and without a last one stays as it is. -/
theorem chainReleased_gate_none (hheld : .gate ∈ c.held) (o : ChainOutcome) {start : Word} {taken : Bool} (hnone : s.gateTarget = none)
    (hg : s.head.gate = .moving none start taken) : (chainReleased o s).head = s.head := by
  obtain ⟨u, -, hbefore, hafter⟩ := chainReleased_split (o := o) hc hheld (.inr hcrusher)
  have hhead : u.head = s.head := hbefore.gate not_others
  have hgate : u.gateTarget = s.gateTarget := hbefore.gateTarget
  have hstays : ownerReleased o .gate u = u := by
    rw [ownerReleased]
    simp only [gateReleased, hgate, hnone, hhead, hg]
  rw [hafter.gate not_others, hstays, hhead]

/-- A drum receives the command of its state. -/
theorem chainReleased_drum {d : DrumNo} (hheld : .drum d ∈ c.held) (o : ChainOutcome) :
    ∃ e ∈ (chainReleased o s).coalescer.entries, e.target = .drum d ∧ e.setpoint = 0 ∧ e.mode = (s.drum d).state.command := by
  obtain ⟨u, hfree, hbefore, hafter⟩ := chainReleased_split (o := o) hc hheld (.inr hcrusher)
  have hdrum : u.drum d = s.drum d := by
    simp only [State.drum, hbefore.filtration]
    rfl
  obtain ⟨e, he, htarget, hmode, hvalue⟩ := hand_entry (.drum d) (u.drum d).state.command 0 u
  refine ⟨e, (hafter.mem_entries (by rw [htarget]; exact not_others)).mpr ?_, htarget, hvalue, hmode.trans (by rw [hdrum])⟩
  rw [ownerReleased, handDrum, if_neg (by simp [hfree])]
  exact he

end

/-! ### The release of the crusher: a new start after CLEARED, FAULT otherwise -/

section
variable (hc : s.engine.chain = some c) (hheld : .crusher ∈ c.held)
include hc hheld

theorem chainReleased_started :
    (chainReleased .cleared s).head.startMode = s.tables.crusher.startMode ∧
    (chainReleased .cleared s).head.crusher =
      .starting s.now (match s.tables.crusher.startMode with | .confirm => 2000 | .delay => s.tables.crusher.startDelay) ∧
    (∃ e ∈ (chainReleased .cleared s).coalescer.entries, e.target = .crusher) ∧
    (∀ e ∈ (chainReleased .cleared s).coalescer.entries, e.target = .crusher → e.mode = .forward ∧ e.setpoint = s.tables.crusher.speed) ∧
    (chainReleased .cleared s).counter .crusherStarts = saturatingAdd (s.counter .crusherStarts) 1 := by
  obtain ⟨u, -, hbefore, hafter⟩ := chainReleased_split (o := .cleared) hc hheld (.inl rfl)
  have hreacted : Reacted [.interlockHolds] (started u) (ownerReleased .cleared .crusher u) := interlock_reacted (started u)
  have htables : u.tables = s.tables := hbefore.tables
  have hhead : (started u).head = { u.head with startMode := s.tables.crusher.startMode, crusher := .starting s.now s.startLimit } := by
    have hnow : u.now = s.now := hbefore.now
    simp [started, State.startLimit, htables, hnow]
  have hlimit : s.startLimit = match s.tables.crusher.startMode with | .confirm => 2000 | .delay => s.tables.crusher.startDelay := by
    rw [State.startLimit]
    rfl
  obtain ⟨hcrusher, hmode⟩ := hafter.crusher_fields
  obtain ⟨hcrusher', hmode', -⟩ := hreacted.crusher_fields
  have hmem : ∀ e : Entry, e.target = .crusher → (e ∈ (chainReleased .cleared s).coalescer.entries ↔ e ∈ (started u).coalescer.entries) :=
    fun e he => (hafter.mem_entries (by rw [he]; exact not_others)).trans (hreacted.mem_entries (by simp [he]) (by simp [he]))
  refine ⟨by rw [hmode, hmode', hhead], by rw [hcrusher, hcrusher', hhead, ← hlimit], ?_, fun e he htarget => ?_, ?_⟩
  · obtain ⟨e, he, htarget, -⟩ := hand_entry .crusher .forward u.tables.crusher.speed
      { u with head := { u.head with startMode := u.tables.crusher.startMode, crusher := .starting u.now u.startLimit } }
    exact ⟨e, (hmem e htarget).mpr he, htarget⟩
  · have hentry := hand_entries .crusher .forward u.tables.crusher.speed _ ((hmem e htarget).mp he) htarget
    rwa [htables] at hentry
  · rw [hafter.counters _ rfl, hreacted.counters _ rfl (by simp), started, counter_bump, if_pos rfl, hand_counter (by simp)]
    have hsame : u.counter .crusherStarts = s.counter .crusherStarts := (hbefore.counters .crusherStarts rfl).trans
      (recordOutcome_counter (by simp) s)
    exact congrArg (saturatingAdd · 1) hsame

theorem chainReleased_failed (ho : o ≠ .cleared) :
    (chainReleased o s).head.crusher = .fault ∧
    (∃ e ∈ (chainReleased o s).coalescer.entries, e.target = .crusher) ∧
    (∀ e ∈ (chainReleased o s).coalescer.entries, e.target = .crusher → e.mode = .stop ∧ e.setpoint = 0) ∧
    (∃ more, (chainReleased o s).raised = s.raised ++ { source := 2, lot := none, cell := none, drum := none } :: more) ∧
    (chainReleased o s).counter (.raised .crusherFault) = saturatingAdd (s.counter (.raised .crusherFault)) 1 := by
  obtain ⟨u, -, hbefore, hafter⟩ := chainReleased_split (o := o) hc hheld (.inl rfl)
  have hreleased : ownerReleased o .crusher u = interlock (crusherToFault 2 u) := crusherReleased_failed ho u
  rw [hreleased] at hafter
  have hreacted := interlock_reacted (crusherToFault 2 u)
  have hmem : ∀ e : Entry, e.target = .crusher → (e ∈ (chainReleased o s).coalescer.entries ↔ e ∈ (crusherToFault 2 u).coalescer.entries) :=
    fun e he => (hafter.mem_entries (by rw [he]; exact not_others)).trans (hreacted.mem_entries (by simp [he]) (by simp [he]))
  rw [crusherToFault_coalescer] at hmem
  refine ⟨?_, ?_, fun e he htarget => hand_entries .crusher .stop 0 u ((hmem e htarget).mp he) htarget, ?_, ?_⟩
  · rw [hafter.crusher_fields.1, hreacted.crusher_fields.1, crusherToFault_head]
  · obtain ⟨e, he, htarget, -⟩ := hand_entry .crusher .stop 0 u
    exact ⟨e, (hmem e htarget).mpr he, htarget⟩
  · obtain ⟨more, hmore⟩ := interlock_raised_more (crusherToFault 2 u)
    refine ⟨more, ?_⟩
    have hraised : u.raised = s.raised := hbefore.raised
    rw [hafter.raised, hmore, crusherToFault_raised, hraised, List.append_assoc]
    rfl
  · rw [hafter.counters _ rfl, hreacted.counters _ rfl (by simp), crusherToFault_counter (by simp) (by simp), if_pos rfl]
    have hsame : u.counter (.raised .crusherFault) = s.counter (.raised .crusherFault) := (hbefore.counters (.raised .crusherFault) rfl).trans
      (recordOutcome_counter (by simp) s)
    exact congrArg (saturatingAdd · 1) hsame

end

end Sys2Proof.Machine
end

section
/-! SUPPORT. The notice of a chain's end (R144, step 3; R153) and the trigger served by the freed engine (R149). -/

namespace Sys2Proof.Machine

variable {s t u : State} {o : ChainOutcome} {c : Chain}

theorem noticeBody_outcome (src : Option SourceNo) (count : Nat) (o : ChainOutcome) (tr : Trigger) : noticeBody src count (some o) tr =
    [BitVec.ofNat 8 (match src with | some i => i.val | none => 255), BitVec.ofNat 8 count,
      (match o with | .cleared => 1 | .exhausted => 2 | .aborted => 3),
      BitVec.ofNat 8 (match tr.lot with | some l => l.val | none => 255),
      BitVec.ofNat 8 (match tr.cell with | some k => k.val | none => 255),
      BitVec.ofNat 8 (match tr.drum with | some d => d.val | none => 255)] := by
  have hsrc : absentOr src = match src with | some i => i.val | none => 255 := by cases src <;> rfl
  have hlot : absentOr tr.lot = match tr.lot with | some l => l.val | none => 255 := by cases tr.lot <;> rfl
  have hcell : absentOr tr.cell = match tr.cell with | some k => k.val | none => 255 := by cases tr.cell <;> rfl
  have hdrum : absentOr tr.drum = match tr.drum with | some d => d.val | none => 255 := by cases tr.drum <;> rfl
  rw [noticeBody, hsrc, hlot, hcell, hdrum]
  cases o <;> rfl

section
variable (hc : s.engine.chain = some c)
include hc

/-- The notice asked for stands in the plant queue, behind the frames that stood there. -/
theorem chainOver_notified (h : s.endNotified c = true) (hnode : s.tables.node.supervisor ≠ 0) (hroom : s.hasRoom .plant = true) (o : ChainOutcome) :
    (chainOver o c s).plantPort = { s.plantPort with queue := s.plantPort.queue ++
      [ownFrame s.tables.node.node s.tables.node.supervisor 0x48 (noticeBody c.source (s.noticeCount c.source) (some o) c.trigger)] } ∧
    (chainOver o c s).counter .noticesQueued = saturatingAdd (s.counter .noticesQueued) 1 := by
  have htables : (chainReleased o s).tables = s.tables := chainReleased_tables o s
  have hplant : (chainReleased o s).plantPort = s.plantPort := chainReleased_plant hc
  have hasked : (chainReleased o s).endNotified c = true := by
    simp only [State.endNotified, htables]
    exact h
  have hcount : (chainReleased o s).noticeCount c.source = s.noticeCount c.source := by
    simp only [State.noticeCount, chainReleased_router]
  have hspace : (chainReleased o s).hasRoom .plant = true := by
    rw [← hroom, State.hasRoom, State.port, hplant]
    rfl
  have hover : chainOver o c s = (bump .noticesQueued (enqueue .plant
      (ownFrame s.tables.node.node s.tables.node.supervisor 0x48 (noticeBody c.source (s.noticeCount c.source) (some o) c.trigger))
      (chainReleased o s))).setChain none := by
    rw [chainOver, endNotice, if_pos hasked, hcount, sendNotice_room _ _ _ _ (by rw [htables]; exact hnode) hspace, htables]
  have hqueued : (chainReleased o s).counter .noticesQueued = s.counter .noticesQueued :=
    (chainReleased_counter hc rfl rfl).trans (recordOutcome_counter (by simp) s)
  rw [hover, ← hplant, ← hqueued]
  exact ⟨rfl, (counter_bump .noticesQueued .noticesQueued _).trans (if_pos rfl)⟩

theorem chainOver_unnotified (hdesc : c.desc.notifyAtEnd = false)
    (hroute : ∀ i, c.source = some i → s.tables.route[i].notify = false ∨ s.tables.route[i].notifyAfter = false) (o : ChainOutcome) :
    (chainOver o c s).plantPort = s.plantPort ∧ (chainOver o c s).counter .noticesQueued = s.counter .noticesQueued := by
  rw [chainOver_silent hdesc hroute]
  exact ⟨chainReleased_plant hc, (chainReleased_counter hc rfl rfl).trans (recordOutcome_counter (by simp) s)⟩

/-! ### The trigger served -/

variable {i : SourceNo} (hnext : s.nextTrigger = some i)
include hnext

theorem chainOver_next (o : ChainOutcome) : (chainOver o c s).nextTrigger = some i :=
  (nextTrigger_congr (by rw [chainOver_engine hc]) (chainOver_tables o c s)).trans hnext

/-- The trigger that is next starts its route's present descriptor. -/
theorem endChain_serves (o : ChainOutcome) {tr : Trigger} {p : ActionNo} (hw : s.engine.waiting[i] = some tr) (hp : s.tables.route[i].program = some p) :
    (endChain o c s).engine = { s.engine with
      chain := some (freshChain p (some i) tr s), lastOutcome := some o, waiting := s.engine.waiting.set i none } ∧
    (endChain o c s).counter .chainsStarted = saturatingAdd (s.counter .chainsStarted) 1 := by
  have hengine := chainOver_engine hc o c
  have hserved : endChain o c s = startChain p (some i) tr (dropTrigger i (chainOver o c s)) :=
    (endChain_eq o c s).trans (servePending_starts (n := 16) (chainOver_next hc hnext o) (by rw [hengine]; exact hw)
      (by rw [chainOver_tables]; exact hp))
  have hfresh : freshChain p (some i) tr (dropTrigger i (chainOver o c s)) = freshChain p (some i) tr s := by
    have htables : (dropTrigger i (chainOver o c s)).tables = s.tables := chainOver_tables o c s
    have hnow : (dropTrigger i (chainOver o c s)).now = s.now := chainOver_now o c s
    simp only [freshChain, htables, hnow]
  refine ⟨?_, ?_⟩
  · rw [hserved, startChain_engine, hfresh, dropTrigger]
    dsimp only
    rw [hengine]
  · have hcounter : (dropTrigger i (chainOver o c s)).counter .chainsStarted = s.counter .chainsStarted :=
      (chainOver_counter hc o c rfl rfl (by simp)).trans (recordOutcome_counter (by simp) s)
    rw [hserved, startChain_counted, hcounter]

/-- The ended chain with a trigger discarded. -/
def chainOverWithout (i : SourceNo) (o : ChainOutcome) (c : Chain) (s : State) : State := bump .triggersDiscarded (dropTrigger i (chainOver o c s))

omit hnext in
theorem chainOverWithout_engine (o : ChainOutcome) :
    (chainOverWithout i o c s).engine = { s.engine with chain := none, lastOutcome := some o, waiting := s.engine.waiting.set i none } := by
  have hdropped : (chainOverWithout i o c s).engine =
      { (chainOver o c s).engine with waiting := (chainOver o c s).engine.waiting.set i none } := rfl
  rw [hdropped, chainOver_engine hc]

omit hnext in
theorem chainOverWithout_discarded (o : ChainOutcome) :
    (chainOverWithout i o c s).counter .triggersDiscarded = saturatingAdd (s.counter .triggersDiscarded) 1 := by
  have hcounter : (dropTrigger i (chainOver o c s)).counter .triggersDiscarded = s.counter .triggersDiscarded :=
    (chainOver_counter hc o c rfl rfl (by simp)).trans (recordOutcome_counter (by simp) s)
  rw [chainOverWithout, counter_bump, if_pos rfl, hcounter]

theorem endChain_discards (o : ChainOutcome) (hp : s.tables.route[i].program = none) : endChain o c s = servePending 16 (chainOverWithout i o c s) :=
  (endChain_eq o c s).trans (servePending_discards (n := 16) (chainOver_next hc hnext o) (by rw [chainOver_tables]; exact hp))

omit hnext in
theorem chainOverWithout_next (o : ChainOutcome) : (chainOverWithout i o c s).nextTrigger = (dropTrigger i s).nextTrigger :=
  nextTrigger_congr (by rw [chainOverWithout_engine hc]; rfl) (chainOver_tables o c s)

/-- With no other trigger pending, the discarded one is the last. -/
theorem endChain_discards_last (o : ChainOutcome) (hp : s.tables.route[i].program = none) (hlast : ∀ j, j ≠ i → s.engine.waiting[j] = none) :
    (endChain o c s).engine = { s.engine with chain := none, lastOutcome := some o, waiting := s.engine.waiting.set i none } ∧
    (endChain o c s).counter .triggersDiscarded = saturatingAdd (s.counter .triggersDiscarded) 1 := by
  have hempty : ∀ j : SourceNo, (chainOverWithout i o c s).engine.waiting[j] = none := fun j => by
    rw [chainOverWithout_engine hc]
    by_cases hj : j = i
    · rw [hj]
      simp
    · have hne : i.val ≠ j.val := fun heq => hj (Fin.ext heq.symm)
      have hwait := hlast j hj
      simpa [Vector.getElem_set_ne _ _ hne] using hwait
  rw [endChain_discards hc hnext o hp, servePending_none 16 (nextTrigger_none hempty)]
  exact ⟨chainOverWithout_engine hc o, chainOverWithout_discarded hc o⟩

/-- The trigger after a discarded one is served. -/
theorem endChain_discards_serves (o : ChainOutcome) (hp : s.tables.route[i].program = none) {j : SourceNo} {tr : Trigger} {p : ActionNo}
    (hj : (dropTrigger i s).nextTrigger = some j) (hw : s.engine.waiting[j] = some tr) (hpj : s.tables.route[j].program = some p) :
    (endChain o c s).engine = { s.engine with
      chain := some (freshChain p (some j) tr s), lastOutcome := some o, waiting := (s.engine.waiting.set i none).set j none } ∧
    (endChain o c s).counter .triggersDiscarded = saturatingAdd (s.counter .triggersDiscarded) 1 := by
  have hengine := chainOverWithout_engine (i := i) hc o
  have htables : (chainOverWithout i o c s).tables = s.tables := chainOver_tables o c s
  have hnow : (chainOverWithout i o c s).now = s.now := chainOver_now o c s
  have hne : i.val ≠ j.val := fun heq => by
    obtain ⟨x, hx⟩ := nextTrigger_waits hj
    have hij : i = j := Fin.ext heq
    subst hij
    simp [dropTrigger] at hx
  have hwait : (chainOverWithout i o c s).engine.waiting[j] = some tr := by
    rw [hengine]
    simpa [Vector.getElem_set_ne _ _ hne] using hw
  have hserved : endChain o c s = startChain p (some j) tr (dropTrigger j (chainOverWithout i o c s)) :=
    (endChain_discards hc hnext o hp).trans (servePending_starts (n := 15) ((chainOverWithout_next hc o).trans hj) hwait
      (by rw [htables]; exact hpj))
  have hfresh : freshChain p (some j) tr (dropTrigger j (chainOverWithout i o c s)) = freshChain p (some j) tr s := by
    have htables' : (dropTrigger j (chainOverWithout i o c s)).tables = s.tables := htables
    have hnow' : (dropTrigger j (chainOverWithout i o c s)).now = s.now := hnow
    simp only [freshChain, htables', hnow']
  refine ⟨?_, ?_⟩
  · rw [hserved, startChain_engine, hfresh, dropTrigger]
    dsimp only
    rw [hengine]
  · rw [hserved, startChain_untouched rfl (by simp)]
    exact chainOverWithout_discarded hc o

end

end Sys2Proof.Machine

namespace Sys2Proof.Proofs

open Sys2Proof.Machine

/-- Settles O42. -/
theorem chainEnds : Obligations.ChainEnds := by
  unfold Obligations.ChainEnds
  refine ⟨⟨fun c s hc hdue hlast hnone => ⟨fun htest => ?cleared, fun htest hmany hlink => ?exhausted, fun i htest hmany hlink hlimit => ?limit,
      fun i htest hmany hlink hmore => ?links⟩, fun r s hready ha => ⟨fun hfree => ?nothing, fun c hc hnone => ?aborted⟩⟩,
    fun o c s hc hnone hdesc hroute hcrusher => ?released, fun o c s hc hnone hdesc hroute hheld => ?crusher,
    fun o c s hc hnone => ⟨fun hasked hnode hroom => ?notified, fun hdesc hroute => ?unnotified⟩,
    fun o c i tr s hc hnext hw => ⟨fun p hp => endChain_serves hc hnext o hw hp,
      fun hp => ⟨fun hlast => endChain_discards_last hc hnext o hp hlast, fun j tj p hj hwj hpj => endChain_discards_serves hc hnext o hp hj hwj hpj⟩⟩⟩
  case cleared =>
    rw [exec_stepHoldExpiry, opStepHoldExpiry_due hc (decide_eq_true hdue), stepExpired_ends hlast, endRepetition_cleared (endTestPasses_of htest)]
    exact ⟨_, rfl, rfl, endChain_engine hc hnone .cleared c, endChain_counted hc hnone .cleared c⟩
  case exhausted =>
    rw [exec_stepHoldExpiry, opStepHoldExpiry_due hc (decide_eq_true hdue), stepExpired_ends hlast, endRepetition_exhausts htest hmany,
      exhaustDescriptor_ends hlink]
    exact ⟨_, rfl, rfl, endChain_engine hc hnone .exhausted c, endChain_counted hc hnone .exhausted c⟩
  case limit =>
    rw [exec_stepHoldExpiry, opStepHoldExpiry_due hc (decide_eq_true hdue), stepExpired_ends hlast, endRepetition_exhausts htest hmany,
      exhaustDescriptor_limit hlink hlimit]
    have hengine : (bump .linkLimits (raiseFault .linkLimit none none none s)).engine = s.engine := by simp
    have hcounter : (bump .linkLimits (raiseFault .linkLimit none none none s)).counter .linkLimits = saturatingAdd (s.counter .linkLimits) 1 := by
      rw [counter_bump, if_pos rfl, raiseFault_counter _ _ _ _ (by simp) (by simp), if_neg (by simp)]
    have hc' : (bump .linkLimits (raiseFault .linkLimit none none none s)).engine.chain = some c := by rw [hengine]; exact hc
    have hnone' : ∀ i : SourceNo, (bump .linkLimits (raiseFault .linkLimit none none none s)).engine.waiting[i] = none := by
      rw [hengine]
      exact hnone
    refine ⟨_, bump .linkLimits (raiseFault .linkLimit none none none s), rfl, rfl, ?_,
      (raiseFault_faulted _ _ _ _ (onlyGrew_refl s) rfl rfl rfl (by simp) (by simp) (by simp)).bump (by simp) (by simp) (by simp) (by simp), ?_, ?_⟩
    · exact congrArg (fun u : State => { u with counters := s.counters }) (raiseFault_rest .linkLimit none none none s)
    · rw [endChain_engine hc' hnone', hengine]
    · rw [endChain_linkLimits hc' hnone', hcounter]
  case links =>
    rw [exec_stepHoldExpiry, opStepHoldExpiry_due hc (decide_eq_true hdue), stepExpired_ends hlast, endRepetition_exhausts htest hmany,
      exhaustDescriptor_links hlink hmore]
    exact ⟨_, rfl, startDescriptor_engine i c s⟩
  case nothing =>
    rw [exec_abortProgram]
    exact ⟨_, rfl, serve_onlyAnswered hready ha (by simp only [abortProgramBody, hfree]; rfl)⟩
  case aborted =>
    have hbody : abortProgramBody s = (endChain .aborted c s, .ok) := by simp only [abortProgramBody, hc]
    obtain ⟨hmode, hpermits, -, -⟩ := hready
    rw [exec_abortProgram, opAbortProgram, serve, serveAlways_served hmode hpermits, if_neg (by simp [ha]), hbody]
    exact ⟨_, rfl, rfl, endChain_engine hc hnone .aborted c, endChain_counted hc hnone .aborted c⟩
  case released =>
    have hreissued := chainReleased_reissued (o := o) hc hcrusher
    refine ⟨endChain_engine hc hnone o c, ?_⟩
    have hcounted := endChain_counted hc hnone o c
    rw [endChain_silent hc hnone hdesc hroute] at hcounted ⊢
    refine ⟨hreissued.belt, fun v hheld hv => chainReleased_belt hc hcrusher hheld o hv, hreissued.gate,
      fun hheld => ⟨fun r hr => chainReleased_gate hc hcrusher hheld o hr, fun start taken htarget hg => chainReleased_gate_none hc hcrusher hheld o htarget hg⟩,
      fun d hheld => ?_, fun tg htg => hreissued.entries tg htg, hcounted, ?_⟩
    · obtain ⟨e, he, htarget, hvalue, hmode⟩ := chainReleased_drum hc hcrusher hheld o
      refine ⟨e, he, htarget, hvalue, hmode.trans ?_⟩
      cases (s.drum d).state <;> rfl
    · exact congrArg (fun u : State => { u with engine := s.engine, counters := s.counters }) hreissued.rest
  case crusher =>
    refine ⟨endChain_engine hc hnone o c, ?_⟩
    rw [endChain_silent hc hnone hdesc hroute]
    by_cases ho : o = .cleared
    · subst ho
      obtain ⟨hmode, hstate, hentry, hentries, hcounter⟩ := chainReleased_started hc hheld
      exact ⟨hentry, fun _ => ⟨hmode, hstate, hentries, hcounter⟩, fun hne => absurd rfl hne⟩
    · obtain ⟨hstate, hentry, hentries, hraised, hcounter⟩ := chainReleased_failed hc hheld ho
      exact ⟨hentry, fun heq => absurd heq ho, fun _ => ⟨hstate, hentries, hraised, hcounter⟩⟩
  case notified =>
    obtain ⟨hplant, hcounter⟩ := chainOver_notified hc (endNotified_iff.mpr hasked) hnode hroom o
    rw [endChain_idle hc hnone, hplant, hcounter, noticeBody_outcome]
    exact ⟨rfl, rfl⟩
  case unnotified =>
    rw [endChain_idle hc hnone]
    exact chainOver_unnotified hc hdesc hroute o

end Sys2Proof.Proofs
end

section
/-! SUPPORT. A DRUM write (R111, R112): the entry, the enabled flag, the retest against the new limits, and the arbitration. -/

namespace Sys2Proof.Machine

variable {s t : State} {d : DrumNo} {v : DrumEntry} {r : Req}

/-! ### A taken write and its reply -/

/-- A taken write is answered OK after the operation has completed. -/
theorem write_finishes {n : Nat} {row : Instr} {body : Fin n → State → Option (State × Status)} {i : Fin n} (hready : s.readyFor r)
    (h : s.activity = .idle) (hi : i.val = r.index.toNat) (hexec : exec row s = .next (serveAlways writeCode r (writeTable n r body) s))
    (hbody : body i s = some (t, .ok)) : exec row s = .next (finishRequest s.tables.node.node 3 r (.now .ok []) t) := by
  obtain ⟨hmode, hpermits, -, -⟩ := hready
  rw [hexec, serveAlways_served hmode hpermits, writeTable_some (asIndex_of_val hi) h hbody]
  rfl

/-- A taken write that leaves the ports, the counters and the settled part alone. -/
theorem write_answered {n : Nat} {row : Instr} {body : Fin n → State → Option (State × Status)} {i : Fin n} (hready : s.readyFor r)
    (h : s.activity = .idle) (hi : i.val = r.index.toNat) (hexec : exec row s = .next (serveAlways writeCode r (writeTable n r body) s))
    (hbody : body i s = some (t, .ok)) (hports : t.cellPort = s.cellPort ∧ t.plantPort = s.plantPort) (hcounters : t.counters = s.counters)
    (hsettled : t.raised = s.raised ∧ t.handed = s.handed) :
    ∃ a b k, exec row s = .next { t with cellPort := a, plantPort := b, counters := k } ∧
      s.answered { t with cellPort := a, plantPort := b, counters := k } r 3 .ok [] [] := by
  obtain ⟨-, -, hlaw, -⟩ := id hready
  have hport : ∀ p, t.port p = s.port p := fun p => by
    cases p
    · exact hports.1
    · exact hports.2
  have hserved := serveAlways_ready (n := writeCode) hready (writeTable_some (asIndex_of_val hi) h hbody) (hlaw.congr hsettled.1 hsettled.2) (by rw [hport])
  obtain ⟨a, b, k, hform⟩ := countServed_enqueue_form .ok r.port (s.replyFrame r writeCode .ok []) t
  refine ⟨a, b, k, by rw [hexec, hserved, hform], ?_⟩
  rw [← hform]
  exact answered_countServed (onlyGrew_same hcounters) (hport _) (hport _) (by simp) (by simp)

/-! ### The retest of a drum against its new limits (R112, step 3) -/

theorem retestDrum_other (h : (s.drum d).state ≠ .online) : retestDrum d s = s := if_neg h

theorem retestDrum_fines (h : (s.drum d).state = .online) (hf : s.tables.drum[d].threshold ≤ (s.drum d).fines) :
    retestDrum d s = s.setDrum d { s.drum d with state := .flushWait s.now } := by rw [retestDrum, if_pos h, if_pos hf]

theorem retestDrum_dp (h : (s.drum d).state = .online) (hf : (s.drum d).fines < s.tables.drum[d].threshold)
    (hdp : s.tables.drum[d].dpLimit ≤ (s.drum d).dp) :
    retestDrum d s = bump .dpHigh (raiseDrum Source.drumDpHigh d (s.setDrum d { s.drum d with state := .flushWait s.now })) := by
  rw [retestDrum, if_pos h, if_neg (Nat.not_le.mpr hf), if_pos hdp]

theorem retestDrum_met (h : (s.drum d).state = .online) (hf : (s.drum d).fines < s.tables.drum[d].threshold)
    (hdp : (s.drum d).dp < s.tables.drum[d].dpLimit) : retestDrum d s = s := by
  rw [retestDrum, if_pos h, if_neg (Nat.not_le.mpr hf), if_neg (Nat.not_le.mpr hdp)]

/-! ### Steps 2 to 4 of R112 -/

/-- The drum tested after the change of its enabled flag. -/
def drumTested (d : DrumNo) (old : DrumEntry) (s : State) : State :=
  retestDrum d (s.setDrum d (enableDrum old.enabled s.tables.drum[d].enabled (s.drum d)))

/-- What follows the drum's command: the capacity of a new flow, or the steps of R116. -/
def drumFollowed (d : DrumNo) (old : DrumEntry) (s t : State) : State :=
  if t.filteringCount = s.filteringCount then
    if (t.drum d).state.filtering ∧ old.flow ≠ s.tables.drum[d].flow then recomputeCapacity t else t
  else afterCountChange s.filteringCount t

theorem applyDrum_eq (d : DrumNo) (old : DrumEntry) (s : State) : applyDrum d old s = drumFollowed d old s
    (if (s.drum d).state.command = ((drumTested d old s).drum d).state.command then drumTested d old s else handDrum d (drumTested d old s)) := rfl

section
variable {old : DrumEntry} (htested : drumTested d old s = t)
include htested

/-- No command, no change of the count, and no new flow of a filtering drum: the test is all. -/
theorem applyDrum_quiet (hcommand : (s.drum d).state.command = (t.drum d).state.command) (hcount : t.filteringCount = s.filteringCount)
    (hflow : (t.drum d).state.filtering = true → old.flow = s.tables.drum[d].flow) : applyDrum d old s = t := by
  subst htested
  rw [applyDrum_eq, if_pos hcommand, drumFollowed, if_pos hcount, if_neg fun hboth => hboth.2 (hflow hboth.1)]

theorem applyDrum_flow (hcommand : (s.drum d).state.command = (t.drum d).state.command) (hcount : t.filteringCount = s.filteringCount)
    (hfiltering : (t.drum d).state.filtering = true) (hflow : old.flow ≠ s.tables.drum[d].flow) : applyDrum d old s = recomputeCapacity t := by
  subst htested
  rw [applyDrum_eq, if_pos hcommand, drumFollowed, if_pos hcount, if_pos ⟨hfiltering, hflow⟩]

/-- A drum that leaves or joins the filtering drums receives its command, and the steps of R116 follow. -/
theorem applyDrum_changed (hcommand : (s.drum d).state.command ≠ (t.drum d).state.command) (hcount : t.filteringCount ≠ s.filteringCount) :
    applyDrum d old s = afterCountChange s.filteringCount (handDrum d t) := by
  subst htested
  rw [applyDrum_eq, if_neg hcommand, drumFollowed, if_neg (by rwa [filteringCount_of (handDrum_filtration d _)])]

end

/-! ### Whether the arbitration runs (R112, step 5) -/

theorem needsArbitration_count (h : t.filteringCount ≠ s.filteringCount) : drumNeedsArbitration d s t = true := by
  simp [drumNeedsArbitration, h]

theorem needsArbitration_waits (hs : (s.drum d).state = .online) {since : Word} (ht : (t.drum d).state = .flushWait since) :
    drumNeedsArbitration d s t = true := by
  simp [drumNeedsArbitration, hs, ht]

theorem needsArbitration_none (hcount : t.filteringCount = s.filteringCount)
    (h : (t.drum d).state = (s.drum d).state ∨ (t.drum d).state.filtering = false) : drumNeedsArbitration d s t = false := by
  simp only [drumNeedsArbitration, hcount, ne_eq, not_true_eq_false, decide_false, Bool.false_or]
  split
  · rfl
  · rename_i hwait hnot
    rcases h with h | h
    · exact absurd (h.symm.trans hwait) (hnot _)
    · rw [hwait] at h
      cases h
  · rfl

/-! ### The drums through the capacity's steps -/

theorem filteringCount_of_drums (h : t.filtration.drums = s.filtration.drums) : t.filteringCount = s.filteringCount := by
  simp only [State.filteringCount, State.drum, h]

theorem recomputeCapacity_drums (s : State) : (recomputeCapacity s).filtration.drums = s.filtration.drums := by
  have hdrums := congrArg Filtration.drums (testCapacity_filtration { s with filtration := { s.filtration with capacity := s.capacityNow } })
  exact hdrums

theorem afterCountChange_drums (old : Nat) (s : State) : (afterCountChange old s).filtration.drums = s.filtration.drums := by
  unfold afterCountChange
  repeat' split
  · rfl
  · rw [recomputeCapacity_drums]
    rfl
  · exact recomputeCapacity_drums s

/-! ### The write -/

/-- The state with the entry written. -/
def drumWritten (d : DrumNo) (v : DrumEntry) (s : State) : State := s.setTables { s.tables with drum := s.tables.drum.set d v }

theorem drumWritten_entry (d : DrumNo) (v : DrumEntry) (s : State) : (drumWritten d v s).tables.drum[d] = v := by
  simp [drumWritten, State.setTables]

theorem bodyDrum_inUse {e : RawDrum} (hv : checkDrum e = some v) (h : s.tables.drum[d].enabled = true ∧ v.enabled = false ∧ (s.drum d).state.busy = true) :
    bodyDrum e d s = some (s, .inUse) := by
  simp only [bodyDrum, hv, Option.bind_some, if_pos h]

section
variable {e : RawDrum} (hv : checkDrum e = some v) (h : ¬ (s.tables.drum[d].enabled = true ∧ v.enabled = false ∧ (s.drum d).state.busy = true))
include hv h

theorem bodyDrum_arbitrates (happlied : applyDrum d s.tables.drum[d] (drumWritten d v s) = t)
    (hneeds : drumNeedsArbitration d (drumWritten d v s) t = true) : bodyDrum e d s = some (arbitrateFlush t, .ok) := by
  have hbody : bodyDrum e d s = taken (if drumNeedsArbitration d (drumWritten d v s) (applyDrum d s.tables.drum[d] (drumWritten d v s)) then
      arbitrateFlush (applyDrum d s.tables.drum[d] (drumWritten d v s)) else applyDrum d s.tables.drum[d] (drumWritten d v s)) := by
    simp only [bodyDrum, hv, Option.bind_some, if_neg h]
    rfl
  rw [hbody, happlied, if_pos hneeds]
  rfl

theorem bodyDrum_plain (happlied : applyDrum d s.tables.drum[d] (drumWritten d v s) = t)
    (hneeds : drumNeedsArbitration d (drumWritten d v s) t = false) : bodyDrum e d s = some (t, .ok) := by
  have hbody : bodyDrum e d s = taken (if drumNeedsArbitration d (drumWritten d v s) (applyDrum d s.tables.drum[d] (drumWritten d v s)) then
      arbitrateFlush (applyDrum d s.tables.drum[d] (drumWritten d v s)) else applyDrum d s.tables.drum[d] (drumWritten d v s)) := by
    simp only [bodyDrum, hv, Option.bind_some, if_neg h]
    rfl
  rw [hbody, happlied, if_neg (by simp [hneeds])]
  rfl

end

/-! ### The enabled flag (R112, step 2) -/

theorem enableDrum_same {b : Bool} (rec : DrumRec) : enableDrum b b rec = rec := by cases b <;> simp [enableDrum]

theorem enableDrum_running {b b' : Bool} {rec : DrumRec} (h : rec.state.busy = true) : enableDrum b b' rec = rec := by
  obtain ⟨state, fines, dp, failed⟩ := rec
  cases state <;> simp [DrumState.busy] at h <;> simp [enableDrum]

theorem enableDrum_off {rec : DrumRec} (h : rec.state = .online ∨ (∃ w, rec.state = .flushWait w) ∨ rec.state = .fault) :
    enableDrum true false rec = { rec with state := .offline } := by
  rcases h with h | ⟨w, h⟩ | h <;> simp [enableDrum, h]

theorem enableDrum_on {rec : DrumRec} (h : rec.state = .offline) :
    enableDrum false true rec = { rec with state := .online, fines := 0, failed := 0 } := by simp [enableDrum, h]

end Sys2Proof.Machine
end

section
/-! SUPPORT. The cases of a DRUM write (R111, R112): a drum switched off or on, a running phase, and an ONLINE drum against its new limits. -/

namespace Sys2Proof.Machine

variable {s t : State} {d : DrumNo} {v : DrumEntry}

theorem setDrum_self (d : DrumNo) (s : State) : s.setDrum d (s.drum d) = s := by
  simp [State.setDrum, State.drum]

theorem drumTested_written (d : DrumNo) (old v : DrumEntry) (s : State) : drumTested d old (drumWritten d v s) =
    retestDrum d ((drumWritten d v s).setDrum d (enableDrum old.enabled v.enabled (s.drum d))) := by
  rw [drumTested, drumWritten_entry]
  rfl

/-- A write that leaves the enabled flag tests the drum as it is. -/
theorem drumTested_same {old : DrumEntry} (h : enableDrum old.enabled v.enabled (s.drum d) = s.drum d) :
    drumTested d old (drumWritten d v s) = retestDrum d (drumWritten d v s) := by
  rw [drumTested_written, h]
  exact congrArg (retestDrum d) (setDrum_self d (drumWritten d v s))

/-- A drum with another record counts as it filters. -/
theorem filteringCount_changed (d : DrumNo) (rec : DrumRec) (s : State) :
    (s.setDrum d rec).filteringCount + (if (s.drum d).state.filtering then 1 else 0) = s.filteringCount + if rec.state.filtering then 1 else 0 := by
  have hsplit := filteringCount_split s d
  have hset := filteringCount_setDrum d rec s
  omega

theorem setDrum_drum_same (rec : DrumRec) : (s.setDrum d rec).drum d = rec := (setDrum_drum d d rec s).trans (if_pos rfl)

/-- An ONLINE drum that waits filters as before. -/
theorem filteringCount_waits (h : (s.drum d).state = .online) (w : Word) :
    (s.setDrum d { s.drum d with state := .flushWait w }).filteringCount = s.filteringCount := by
  have hchanged := filteringCount_changed d { s.drum d with state := .flushWait w } s
  rw [h] at hchanged
  exact Nat.add_right_cancel hchanged

/-! ### A drum switched off -/

section
variable {old : DrumEntry} (hon : old.enabled = true) (hoff : v.enabled = false)
include hon hoff

theorem drumTested_off (h : (s.drum d).state = .online ∨ (∃ w, (s.drum d).state = .flushWait w) ∨ (s.drum d).state = .fault) :
    drumTested d old (drumWritten d v s) = (drumWritten d v s).setDrum d { s.drum d with state := .offline } := by
  rw [drumTested_written, hon, hoff, enableDrum_off h]
  exact retestDrum_other (by rw [setDrum_drum, if_pos rfl]; simp)

theorem applyDrum_off (h : (s.drum d).state = .online ∨ ∃ w, (s.drum d).state = .flushWait w) : applyDrum d old (drumWritten d v s) =
    recomputeCapacity (cutResidue (s.filteringCount - 1) (handDrum d ((drumWritten d v s).setDrum d { s.drum d with state := .offline }))) ∧
    ((drumWritten d v s).setDrum d { s.drum d with state := .offline }).filteringCount ≠ (drumWritten d v s).filteringCount := by
  have hfiltering : (s.drum d).state.filtering = true := by rcases h with h | ⟨w, h⟩ <;> rw [h] <;> rfl
  have hcommand : (s.drum d).state.command ≠ DrumState.command .offline := by rcases h with h | ⟨w, h⟩ <;> rw [h] <;> simp [DrumState.command]
  have hchanged := filteringCount_changed d { s.drum d with state := .offline } (drumWritten d v s)
  have hwritten : (drumWritten d v s).filteringCount = s.filteringCount := filteringCount_of rfl
  have hdrum : (drumWritten d v s).drum d = s.drum d := rfl
  rw [hdrum, hfiltering, hwritten] at hchanged
  have hcount : ((drumWritten d v s).setDrum d { s.drum d with state := .offline }).filteringCount + 1 = s.filteringCount := hchanged
  refine ⟨?_, by omega⟩
  rw [applyDrum_changed (drumTested_off hon hoff (h.elim .inl fun hw => .inr (.inl hw))) (by rw [setDrum_drum, if_pos rfl]; exact hcommand)
    (by rw [hwritten]; omega), hwritten, afterCountChange_fell (by rw [filteringCount_of (handDrum_filtration d _)]; omega),
    filteringCount_of (handDrum_filtration d _), ← hcount, Nat.add_sub_cancel]

end

/-! ### A drum switched on -/

section
variable {old : DrumEntry} (hstate : (s.drum d).state = .offline)
include hstate

/-- The record of a drum that comes on. -/
theorem drumTested_on (hoff : old.enabled = false) (hon : v.enabled = true) : drumTested d old (drumWritten d v s) =
    retestDrum d ((drumWritten d v s).setDrum d { s.drum d with state := .online, fines := 0, failed := 0 }) := by
  rw [drumTested_written, hoff, hon, enableDrum_on hstate]

theorem applyDrum_on (htested : drumTested d old (drumWritten d v s) = t) (hfiltering : (t.drum d).state.filtering = true)
    (hcommand : (t.drum d).state.command = .run) (hothers : t.othersFiltering d = s.othersFiltering d) :
    applyDrum d old (drumWritten d v s) = recomputeCapacity (handDrum d t) ∧ t.filteringCount ≠ (drumWritten d v s).filteringCount := by
  have hbefore := filteringCount_split s d
  have hafter := filteringCount_split t d
  rw [hstate] at hbefore
  rw [hfiltering, hothers] at hafter
  have hwritten : (drumWritten d v s).filteringCount = s.filteringCount := filteringCount_of rfl
  have hrose : s.filteringCount < t.filteringCount := by
    rw [hbefore, hafter]
    exact Nat.lt_succ_self _
  refine ⟨?_, by omega⟩
  have hdrum : (drumWritten d v s).drum d = s.drum d := rfl
  rw [applyDrum_changed htested (by rw [hcommand, hdrum, hstate]; decide) (by omega), hwritten,
    afterCountChange_rose (by rwa [filteringCount_of (handDrum_filtration d t)])]

end

theorem handDrum_coalescer_of (hlist : t.coalescer = s.coalescer) (hnow : t.now = s.now) (hengine : t.engine = s.engine) :
    (handDrum d t).coalescer = (if s.holds (.drum d) then s else hand (.drum d) (t.drum d).state.command 0 s).coalescer := by
  have hholds : t.holds (.drum d) = s.holds (.drum d) := by simp only [State.holds, hengine]
  unfold handDrum
  rw [hholds]
  split
  · exact hlist
  · exact hand_coalescer_of _ _ _ hlist hnow

/-- A drum that joins or leaves the filtering drums calls for the arbitration, whatever the capacity's steps write. -/
theorem needsArbitration_switched (h : t.filteringCount ≠ s.filteringCount) :
    drumNeedsArbitration d s (recomputeCapacity (handDrum d t)) = true ∧
      ∀ n, drumNeedsArbitration d s (recomputeCapacity (cutResidue n (handDrum d t))) = true := by
  have hcut : ∀ n (u : State), (cutResidue n u).filtration.drums = u.filtration.drums := fun n u => rfl
  have hhanded : (handDrum d t).filtration.drums = t.filtration.drums := by rw [handDrum_filtration]
  refine ⟨needsArbitration_count ?_, fun n => needsArbitration_count ?_⟩
  · rwa [filteringCount_of_drums ((recomputeCapacity_drums _).trans hhanded)]
  · rwa [filteringCount_of_drums ((recomputeCapacity_drums _).trans ((hcut n _).trans hhanded))]

theorem DrumState.not_filtering_of_busy {x : DrumState} (h : x.busy = true) : x.filtering = false := by
  cases x with
  | flushing e => rfl
  | settling e => rfl
  | offline => cases h
  | online => cases h
  | flushWait w => cases h
  | fault => cases h

/-- A write that neither switches the drum nor meets a limit nor gives a filtering drum a new flow writes its entry alone. -/
theorem bodyDrum_alone {e : RawDrum} (hv : checkDrum e = some v)
    (h : ¬ (s.tables.drum[d].enabled = true ∧ v.enabled = false ∧ (s.drum d).state.busy = true))
    (henable : enableDrum s.tables.drum[d].enabled v.enabled (s.drum d) = s.drum d)
    (hretest : retestDrum d (drumWritten d v s) = drumWritten d v s)
    (hflow : (s.drum d).state.filtering = true → s.tables.drum[d].flow = v.flow) : bodyDrum e d s = some (drumWritten d v s, .ok) := by
  have htested := drumTested_same (old := s.tables.drum[d]) henable
  rw [hretest] at htested
  exact bodyDrum_plain hv h (applyDrum_quiet htested rfl rfl fun hfiltering => by rw [drumWritten_entry]; exact hflow hfiltering)
    (needsArbitration_none rfl (.inl rfl))

/-- The capacity of the filtering drums with the entry written. -/
theorem capacityNow_written (d : DrumNo) (v : DrumEntry) (s : State) : (drumWritten d v s).capacityNow =
    ((List.finRange 4).map fun x =>
      if (s.drum x).state.filtering then (if x = d then v.flow else s.tables.drum[x].flow) else 0).sum := by
  rw [State.capacityNow, drumList_eq]
  refine congrArg List.sum (List.map_congr_left fun x _ => ?_)
  have hdrum : (drumWritten d v s).drum x = s.drum x := rfl
  have hflow : (drumWritten d v s).tables.drum[x].flow = if x = d then v.flow else s.tables.drum[x].flow := by
    by_cases h : x = d
    · rw [if_pos h, h, drumWritten_entry]
    · have hne : d.val ≠ x.val := fun heq => h (Fin.ext heq.symm)
      rw [if_neg h]
      simp [drumWritten, State.setTables, Vector.getElem_set_ne _ _ hne]
  rw [hdrum, hflow]

/-- What a drum that is switched off or on leaves: the table, its record alone, and its command. -/
theorem handDrum_switched {rec : DrumRec} (htables : t.tables = (drumWritten d v s).tables) (hdrums : t.filtration.drums = s.filtration.drums.set d rec)
    (hlist : t.coalescer = s.coalescer) (hnow : t.now = s.now) (hengine : t.engine = s.engine) :
    (handDrum d t).tables = { s.tables with drum := s.tables.drum.set d v } ∧ (handDrum d t).drum d = rec ∧
    (handDrum d t).coalescer = (if s.holds (.drum d) then s else hand (.drum d) rec.state.command 0 s).coalescer ∧
    (∀ d', d' ≠ d → (handDrum d t).drum d' = s.drum d') := by
  have hdrum : ∀ x, t.drum x = (s.setDrum d rec).drum x := fun x => by simp only [State.drum, hdrums, State.setDrum]
  have hrecord : t.drum d = rec := by rw [hdrum, setDrum_drum, if_pos rfl]
  have hhanded : ∀ x, (handDrum d t).drum x = t.drum x := fun x => by simp only [State.drum, handDrum_filtration]
  refine ⟨by rw [handDrum_tables, htables]; rfl, (hhanded d).trans hrecord, ?_, fun d' hd' => ?_⟩
  · rw [handDrum_coalescer_of hlist hnow hengine, hrecord]
  · rw [hhanded, hdrum, setDrum_drum, if_neg hd']

end Sys2Proof.Machine

namespace Sys2Proof.Proofs

open Sys2Proof.Machine

/-- Settles O50. -/
theorem drumWrites : Obligations.DrumWrites := by
  unfold Obligations.DrumWrites
  intro r e v d s hready hidle hi hv
  have hexec : exec (.writeDrum r e) s = .next (serveAlways writeCode r (writeTable 4 r (bodyDrum e)) s) := rfl
  obtain ⟨-, -, -, hthreshold, -⟩ := checkDrum_inRange hv
  have hraised : s.raised = [] := hready.2.2.1.1
  have hentry : (drumWritten d v s).tables.drum[d] = v := drumWritten_entry d v s
  have hdrum : (drumWritten d v s).drum d = s.drum d := rfl
  have hidleDrum : (s.drum d).state.busy = false →
      ¬ (s.tables.drum[d].enabled = true ∧ v.enabled = false ∧ (s.drum d).state.busy = true) :=
    fun hnot hall => Bool.false_ne_true (hnot.symm.trans hall.2.2)
  have hkeeps : s.tables.drum[d].enabled = v.enabled →
      ¬ (s.tables.drum[d].enabled = true ∧ v.enabled = false ∧ (s.drum d).state.busy = true) :=
    fun hsame hall => Bool.false_ne_true (hall.2.1.symm.trans (hsame.symm.trans hall.1))
  have hsameFlag : s.tables.drum[d].enabled = v.enabled → enableDrum s.tables.drum[d].enabled v.enabled (s.drum d) = s.drum d :=
    fun hsame => by rw [hsame, enableDrum_same]
  refine ⟨fun hon hoff hbusy => ?busy, fun hon hoff hstate => ?off, fun hon hoff hstate => ?fault, fun hoff hon hstate hhigh => ?onHigh,
    fun hoff hon hbusy => ?running, fun hsame hflow => ⟨fun hfiltering hlow => ?flow, fun hfiltering => ?flowUnused⟩,
    fun hoff hon hstate hlow => ?on, fun hon hon' hflow hstate => ⟨fun hfines => ?fines, fun hfines hhigh => ?dp, fun hfines hlow => ?met⟩⟩
  case busy => exact write_inUse hready hidle hi hexec (bodyDrum_inUse hv ⟨hon, hoff, hbusy⟩)
  case off =>
    have hfree := hidleDrum (by rcases hstate with h | ⟨w, h⟩ <;> rw [h] <;> rfl)
    obtain ⟨happlied, hcount⟩ := applyDrum_off hon hoff hstate
    rw [write_finishes hready hidle hi hexec (bodyDrum_arbitrates hv hfree happlied ((needsArbitration_switched hcount).2 _))]
    obtain ⟨htables, hrecord, hlist, hothers⟩ := handDrum_switched (t := (drumWritten d v s).setDrum d { s.drum d with state := .offline })
      (rec := { s.drum d with state := .offline }) rfl rfl rfl rfl rfl
    exact ⟨_, rfl, htables, hrecord, hlist, hothers⟩
  case fault =>
    have hfree := hidleDrum (by rw [hstate]; rfl)
    have htested := drumTested_off (s := s) (d := d) hon hoff (.inr (.inr hstate))
    have hcount := filteringCount_changed d { s.drum d with state := .offline } (drumWritten d v s)
    rw [hdrum, hstate] at hcount
    have hrecord : ((drumWritten d v s).setDrum d { s.drum d with state := .offline }).drum d = { s.drum d with state := .offline } := by
      rw [setDrum_drum, if_pos rfl]
    have happlied := applyDrum_quiet htested (by rw [hrecord, hdrum, hstate]; rfl) hcount
      (by rw [hrecord]; exact fun h => absurd h Bool.false_ne_true)
    obtain ⟨a, b, k, hrun, hanswered⟩ := write_answered hready hidle hi hexec
      (bodyDrum_plain hv hfree happlied (needsArbitration_none hcount (.inr (by rw [hrecord]; rfl)))) ⟨rfl, rfl⟩ rfl ⟨rfl, rfl⟩
    exact ⟨_, hrun, rfl, rfl, hanswered, rfl⟩
  case onHigh =>
    have hfree := hidleDrum (by rw [hstate]; rfl)
    have htested := drumTested_on (v := v) hstate hoff hon
    have hrecord : ((drumWritten d v s).setDrum d { s.drum d with state := .online, fines := 0, failed := 0 }).drum d =
        { s.drum d with state := .online, fines := 0, failed := 0 } := by rw [setDrum_drum, if_pos rfl]
    rw [retestDrum_dp (by rw [hrecord]) (by rw [hrecord, State.setDrum_tables, hentry]; exact hthreshold)
      (by rw [hrecord, State.setDrum_tables, hentry]; exact hhigh), hrecord, setDrum_twice] at htested
    have hwaits : (bump .dpHigh (raiseDrum Source.drumDpHigh d ((drumWritten d v s).setDrum d
        { s.drum d with state := .flushWait s.now, fines := 0, failed := 0 }))).drum d =
        { s.drum d with state := .flushWait s.now, fines := 0, failed := 0 } := setDrum_drum_same _
    obtain ⟨happlied, hcount⟩ := applyDrum_on hstate htested ((congrArg (fun x => DrumState.filtering (DrumRec.state x)) hwaits).trans rfl)
      ((congrArg (fun x => DrumState.command (DrumRec.state x)) hwaits).trans rfl)
      (othersFiltering_setDrum (s := drumWritten d v s) (d := d) { s.drum d with state := .flushWait s.now, fines := 0, failed := 0 })
    rw [write_finishes hready hidle hi hexec (bodyDrum_arbitrates hv hfree happlied (needsArbitration_switched hcount).1)]
    obtain ⟨htables, hrec, hlist, hothers⟩ := handDrum_switched (s := s) (d := d) (v := v)
      (t := bump .dpHigh (raiseDrum Source.drumDpHigh d ((drumWritten d v s).setDrum d { s.drum d with state := .flushWait s.now, fines := 0, failed := 0 })))
      (rec := { s.drum d with state := .flushWait s.now, fines := 0, failed := 0 }) rfl rfl rfl rfl rfl
    refine ⟨_, rfl, htables, hrec, ?_, ?_, hlist, hothers⟩
    · rw [handDrum_raised]
      exact congrArg (· ++ [_]) hraised
    · rw [handDrum_counter (by simp), counter_bump, if_pos rfl]
      rfl
  case running =>
    have hnot := DrumState.not_filtering_of_busy hbusy
    exact write_plain hready hidle hi hexec (bodyDrum_alone hv (fun hall => Bool.false_ne_true (hoff.symm.trans hall.1)) (enableDrum_running hbusy)
      (retestDrum_other fun h => by rw [hdrum] at h; rw [h] at hbusy; cases hbusy)
      fun hfiltering => absurd (hnot.symm.trans hfiltering) Bool.false_ne_true)
  case flow =>
    have hretest : retestDrum d (drumWritten d v s) = drumWritten d v s := by
      by_cases honline : (s.drum d).state = .online
      · obtain ⟨hfines, hdp⟩ := hlow honline
        exact retestDrum_met honline (by rw [hentry]; exact hfines) (by rw [hentry]; exact hdp)
      · exact retestDrum_other honline
    have htested := drumTested_same (old := s.tables.drum[d]) (hsameFlag hsame)
    rw [hretest] at htested
    have happlied := applyDrum_flow htested rfl rfl hfiltering (by rw [hentry]; exact Ne.symm hflow)
    have hdrums := recomputeCapacity_drums (drumWritten d v s)
    have hstate : ((recomputeCapacity (drumWritten d v s)).drum d).state = ((drumWritten d v s).drum d).state := by
      simp only [State.drum, hdrums]
    rw [write_finishes hready hidle hi hexec
      (bodyDrum_plain hv (hkeeps hsame) happlied (needsArbitration_none (filteringCount_of_drums hdrums) (.inl hstate))),
      recomputeCapacity, capacityNow_written]
    exact ⟨_, rfl, rfl, rfl, rfl⟩
  case flowUnused =>
    exact write_plain hready hidle hi hexec (bodyDrum_alone hv (hkeeps hsame) (hsameFlag hsame)
      (retestDrum_other fun h => by rw [hdrum] at h; rw [h] at hfiltering; cases hfiltering)
      fun h => absurd (hfiltering.symm.trans h) Bool.false_ne_true)
  case on =>
    have hfree := hidleDrum (by rw [hstate]; rfl)
    have htested := drumTested_on (v := v) hstate hoff hon
    have hrecord : ((drumWritten d v s).setDrum d { s.drum d with state := .online, fines := 0, failed := 0 }).drum d =
        { s.drum d with state := .online, fines := 0, failed := 0 } := by rw [setDrum_drum, if_pos rfl]
    rw [retestDrum_met (by rw [hrecord]) (by rw [hrecord, State.setDrum_tables, hentry]; exact hthreshold)
      (by rw [hrecord, State.setDrum_tables, hentry]; exact hlow)] at htested
    obtain ⟨happlied, hcount⟩ := applyDrum_on hstate htested (by rw [hrecord]; rfl) (by rw [hrecord]; rfl) (othersFiltering_setDrum _)
    rw [write_finishes hready hidle hi hexec (bodyDrum_arbitrates hv hfree happlied (needsArbitration_switched hcount).1)]
    obtain ⟨htables, hrec, hlist, hothers⟩ := handDrum_switched (s := s) (d := d) (v := v)
      (t := (drumWritten d v s).setDrum d { s.drum d with state := .online, fines := 0, failed := 0 })
      (rec := { s.drum d with state := .online, fines := 0, failed := 0 }) rfl rfl rfl rfl rfl
    exact ⟨_, rfl, htables, hrec, hlist, hothers⟩
  case fines =>
    have htested := drumTested_same (old := s.tables.drum[d]) (hsameFlag (hon.trans hon'.symm))
    rw [retestDrum_fines (s := drumWritten d v s) hstate (by rw [hentry]; exact hfines)] at htested
    have hcount := filteringCount_waits (s := drumWritten d v s) (d := d) hstate s.now
    have hrecord := setDrum_drum_same (s := drumWritten d v s) (d := d) { s.drum d with state := .flushWait s.now }
    have happlied := applyDrum_quiet htested (by rw [hdrum, hstate]; exact congrArg (fun x => DrumState.command (DrumRec.state x)) hrecord.symm) hcount
      (fun _ => by rw [hentry]; exact hflow.symm)
    rw [write_finishes hready hidle hi hexec (bodyDrum_arbitrates hv (hkeeps (hon.trans hon'.symm)) happlied
      (needsArbitration_waits hstate (congrArg DrumRec.state hrecord)))]
    exact ⟨_, rfl, hrecord, rfl⟩
  case dp =>
    have htested := drumTested_same (old := s.tables.drum[d]) (hsameFlag (hon.trans hon'.symm))
    rw [retestDrum_dp (s := drumWritten d v s) hstate (by rw [hentry]; exact hfines) (by rw [hentry]; exact hhigh)] at htested
    have hcount := filteringCount_waits (s := drumWritten d v s) (d := d) hstate s.now
    have hrecord := setDrum_drum_same (s := drumWritten d v s) (d := d) { s.drum d with state := .flushWait s.now }
    have happlied := applyDrum_quiet htested (by rw [hdrum, hstate]; exact congrArg (fun x => DrumState.command (DrumRec.state x)) hrecord.symm) hcount
      (fun _ => by rw [hentry]; exact hflow.symm)
    rw [write_finishes hready hidle hi hexec (bodyDrum_arbitrates hv (hkeeps (hon.trans hon'.symm)) happlied
      (needsArbitration_waits hstate (congrArg DrumRec.state hrecord)))]
    exact ⟨_, rfl, rfl, hrecord, congrArg (· ++ [_]) hraised, onlyGrew_bump .dpHigh rfl, rfl⟩
  case met =>
    exact write_plain hready hidle hi hexec (bodyDrum_alone hv (hkeeps (hon.trans hon'.symm)) (hsameFlag (hon.trans hon'.symm))
      (retestDrum_met hstate (by rw [hentry]; exact hfines) (by rw [hentry]; exact hlow)) fun _ => hflow.symm)

end Sys2Proof.Proofs
end

section
/-! SUPPORT. The writes with effects beside their entry (Sections 1.2, 4.3, 5.1, 5.4, 6.1, 9.4 and 10.1). -/

namespace Sys2Proof.Machine

variable {s t : State} {r : Req} {n : Nat} {row : Instr} {body : Fin n → State → Option (State × Status)}

/-- An entry that its table's checks refuse. -/
theorem write_badValue {i : Fin n} (hready : s.readyFor r) (h : s.activity = .idle) (hi : i.val = r.index.toNat)
    (hexec : exec row s = .next (serveAlways writeCode r (writeTable n r body) s)) (hbody : body i s = none) :
    ∃ t, exec row s = .next t ∧ s.onlyAnswered t r 3 .badValue [] := by
  have htable : writeTable n r body s = (s, .now .badValue []) := by simp [writeTable, asIndex_of_val hi, h, hbody]
  exact ⟨_, hexec, serveAlways_onlyAnswered hready htable⟩

/-! ### BELT (R6, R7, R43, R55) -/

/-- A field of the geometry differs. -/
def BeltEntry.regauges (v old : BeltEntry) : Prop := v.length ≠ old.length ∨ v.cpp ≠ old.cpp ∨ v.mpa ≠ old.mpa ∨ v.gap ≠ old.gap

theorem dropPoint_outside_iff {p : Nat} :
    (s.tables.cell.toList.any fun c => decide (p ≤ c.dropPoint)) = true ↔ ∃ c : CellNo, p ≤ s.tables.cell[c].dropPoint := by
  rw [List.any_eq_true]
  constructor
  · rintro ⟨c, hc, hle⟩
    obtain ⟨i, hi, hget⟩ := List.mem_iff_getElem.mp hc
    have hsize : i < 24 := by simpa using hi
    refine ⟨⟨i, hsize⟩, ?_⟩
    have hentry : s.tables.cell[i] = c := by simpa using hget
    exact hentry.symm ▸ of_decide_eq_true hle
  · rintro ⟨c, hle⟩
    exact ⟨s.tables.cell[c], by simp, decide_eq_true hle⟩

theorem geometryFree_iff : s.geometryFree = true ↔ (∀ p ∈ s.tracker.map, p = .empty) ∧ s.belt.supervisor = true := by
  simp [State.geometryFree]

theorem windowOutside_none (h : ∀ c, s.request c = none) (p : Nat) : s.windowOutside p = false := by
  simp [State.windowOutside, h]

section
variable {e : RawBelt} {v : BeltEntry} (hv : checkBelt e = some v)
include hv

theorem bodyBelt_badValue (hlength : v.length ≠ s.tables.belt.length) (hdrop : ∃ c : CellNo, v.length ≤ s.tables.cell[c].dropPoint) :
    bodyBelt e s = none := by
  simp only [bodyBelt, hv, Option.bind_some]
  exact if_pos ⟨hlength, dropPoint_outside_iff.mpr hdrop⟩

theorem bodyBelt_inUse (hdrop : v.length = s.tables.belt.length ∨ ∀ c : CellNo, s.tables.cell[c].dropPoint < v.length)
    (hgeometry : v.regauges s.tables.belt) (hbusy : s.belt.supervisor = false ∨ ∃ p ∈ s.tracker.map, p ≠ .empty) :
    bodyBelt e s = some (s, .inUse) := by
  have hinside : ¬ (v.length ≠ s.tables.belt.length ∧ (s.tables.cell.toList.any fun c => decide (v.length ≤ c.dropPoint)) = true) := fun hout => by
    obtain ⟨c, hc⟩ := dropPoint_outside_iff.mp hout.2
    exact hdrop.elim hout.1 fun hall => Nat.not_le.mpr (hall c) hc
  have hfree : s.geometryFree = false := Bool.eq_false_iff.mpr fun hfree => by
    obtain ⟨hempty, hsupervisor⟩ := geometryFree_iff.mp hfree
    rcases hbusy with h | ⟨p, hp, hne⟩
    · exact Bool.false_ne_true (h.symm.trans hsupervisor)
    · exact hne (hempty p hp)
  simp only [bodyBelt, hv, Option.bind_some]
  exact (if_neg hinside).trans (if_pos ⟨hgeometry, hfree⟩)

theorem bodyBelt_kept (hlength : v.length = s.tables.belt.length) (hcpp : v.cpp = s.tables.belt.cpp) (hmpa : v.mpa = s.tables.belt.mpa)
    (hgap : v.gap = s.tables.belt.gap) : bodyBelt e s = some (applyAges { s with tables := { s.tables with belt := v } }, .ok) := by
  have htracker : retrack s.tables.belt v s.tracker = s.tracker := by rw [retrack, if_pos hlength, if_pos hcpp]
  simp only [bodyBelt, hv, Option.bind_some, hlength, hcpp, hmpa, hgap, ne_eq, not_true_eq_false, false_and, false_or, if_false, htracker]
  rfl

theorem bodyBelt_rebuilt (hdrop : ∀ c : CellNo, s.tables.cell[c].dropPoint < v.length)
    (hfree : s.geometryFree = true) (hrequests : ∀ c, s.request c = none) :
    bodyBelt e s = some (applyAges { s with tables := { s.tables with belt := v }, tracker := retrack s.tables.belt v s.tracker }, .ok) := by
  have hinside : ¬ (v.length ≠ s.tables.belt.length ∧ (s.tables.cell.toList.any fun c => decide (v.length ≤ c.dropPoint)) = true) := fun hout => by
    obtain ⟨c, hc⟩ := dropPoint_outside_iff.mp hout.2
    exact Nat.not_le.mpr (hdrop c) hc
  have hnotFree : ¬ (v.regauges s.tables.belt ∧ s.geometryFree = false) := fun hboth => Bool.false_ne_true (hboth.2.symm.trans hfree)
  have hwindow : ¬ (v.length ≠ s.tables.belt.length ∧ s.windowOutside v.length = true) := fun hboth =>
    Bool.false_ne_true ((windowOutside_none hrequests _).symm.trans hboth.2)
  simp only [bodyBelt, hv, Option.bind_some]
  exact (if_neg hinside).trans ((if_neg hnotFree).trans (if_neg hwindow))

end

/-- With no pending request the new ages change nothing. -/
theorem applyAges_none (h : ∀ c, s.request c = none) : applyAges s = s := by
  have hexpiry : ∀ l : List CellNo, l.foldl (fun t c => opRequestExpiry c t) s = s := fun l => by
    induction l with
    | nil => rfl
    | cons c l ih =>
      have hstep : opRequestExpiry c s = s := if_neg (by simp [State.expiryDue, h])
      rw [List.foldl_cons, hstep, ih]
  have hurgent : ∀ l : List CellNo, l.foldl (fun t c => opRequestUrgent c t) s = s := fun l => by
    induction l with
    | nil => rfl
    | cons c l ih =>
      have hstep : opRequestUrgent c s = s := if_neg (by simp [State.urgentDue, h])
      rw [List.foldl_cons, hstep, ih]
  rw [applyAges, hexpiry, hurgent]

/-! ### PROFILE (R75), CRUSHER (R95) and PORT (R172) -/

theorem bodyProfile_latched {e : RawProfile} (h : s.belt.latched = true) : bodyProfile e s =
    some (reselect { s with tables := { s.tables with profile := takenProfile e }, belt := { s.belt with latched := false, seconds := 0 } }, .ok) := by
  have hlatched : (s.setTables { s.tables with profile := takenProfile e }).belt.latched = true := h
  simp only [bodyProfile, hlatched, if_true]
  rfl

theorem bodyProfile_unlatched {e : RawProfile} (h : s.belt.latched = false) : bodyProfile e s =
    some (reselect { s with tables := { s.tables with profile := takenProfile e } }, .ok) := by
  have hlatched : (s.setTables { s.tables with profile := takenProfile e }).belt.latched = false := h
  simp only [bodyProfile, hlatched, Bool.false_eq_true, if_false]
  rfl

theorem bodyCrusher_taken {e : RawCrusher} {v : CrusherEntry} (hv : checkCrusher e = some v) : bodyCrusher e s =
    some (interlock (applyIdle { s with tables := { s.tables with crusher := v } }), .ok) := by
  simp only [bodyCrusher, hv, Option.bind_some]
  rfl

/-- The index of a port in the PORT table. -/
def indexOfPort : Port → Fin 2
  | .cell => 0
  | .plant => 1

theorem portOfIndex_indexOfPort (p : Port) : portOfIndex (indexOfPort p) = p := by cases p <;> rfl

theorem bodyPort_taken {e : RawPort} {ms : Nat} (hv : checkPort e = some ms) (p : Port) : bodyPort e (indexOfPort p) s =
    some (opSilenceTimeout p (s.setTables (s.tables.setSilence p ms)), .ok) := by
  simp only [bodyPort, hv, Option.bind_some, portOfIndex_indexOfPort]
  rfl

end Sys2Proof.Machine

namespace Sys2Proof.Proofs

open Sys2Proof.Machine

/-- Settles O49. -/
theorem writesWithEffects : Obligations.WritesWithEffects := by
  unfold Obligations.WritesWithEffects
  refine fun r s hready hidle => ⟨fun i e v u hi hv hu => ⟨fun hroute hmode => ?kept, fun hchanged => ?reevaluates⟩,
    fun e v hindex hv => ⟨fun hlength hdrop => ?badValue, fun hdrop hgeometry hbusy => ?inUse, fun hlength hcpp hmpa hgap => ?ages,
      fun hlength hdrop hsupervisor hempty hrequests => ?rebuilt⟩,
    fun e hindex => ?profile, fun e v u hindex hv hu => ⟨fun hnot => ?interlocks, fun hdue => ?idles⟩, fun e v u hindex hv hu => ?filter,
    fun p e v u hindex hv hu => ⟨fun hnot => ?silence, fun hdue => ?down⟩, fun e v hindex hv => ?coalesce⟩
  case kept =>
    refine write_finishes hready hidle hi (exec_writeClass r e s) ?_
    simp only [bodyClass, hv, Option.bind_some, if_pos (And.intro hroute hmode), hu]
    rfl
  case reevaluates =>
    refine write_finishes hready hidle hi (exec_writeClass r e s) ?_
    have hnot : ¬ (v.route = s.tables.cls[i].route ∧ v.mode = s.tables.cls[i].mode) := fun hsame => hchanged.elim (· hsame.1) (· hsame.2)
    simp only [bodyClass, hv, Option.bind_some, if_neg hnot, hu]
    rfl
  case badValue =>
    exact write_badValue (i := (0 : Fin 1)) hready hidle (by simp [hindex]) (exec_writeBelt r e s) (bodyBelt_badValue hv hlength hdrop)
  case inUse =>
    exact write_inUse (i := (0 : Fin 1)) hready hidle (by simp [hindex]) (exec_writeBelt r e s) (bodyBelt_inUse hv hdrop hgeometry hbusy)
  case ages =>
    exact write_finishes (i := (0 : Fin 1)) hready hidle (by simp [hindex]) (exec_writeBelt r e s) (bodyBelt_kept hv hlength hcpp hmpa hgap)
  case rebuilt =>
    have hbody := bodyBelt_rebuilt hv hdrop (geometryFree_iff.mpr ⟨hempty, hsupervisor⟩) hrequests
    rw [applyAges_none (by exact hrequests)] at hbody
    refine ⟨_, write_finishes (i := (0 : Fin 1)) hready hidle (by simp [hindex]) (exec_writeBelt r e s) hbody, rfl, ?_, rfl⟩
    rw [retrack, if_neg hlength]
  case profile =>
    cases hlatched : s.belt.latched with
    | true =>
      exact ⟨_, write_finishes (i := (0 : Fin 1)) hready hidle (by simp [hindex]) (exec_writeProfile r e s) (bodyProfile_latched hlatched),
        rfl, fun _ => rfl, fun h => absurd h (by decide), rfl⟩
    | false =>
      exact ⟨_, write_finishes (i := (0 : Fin 1)) hready hidle (by simp [hindex]) (exec_writeProfile r e s) (bodyProfile_unlatched hlatched),
        rfl, fun h => absurd h (by decide), fun _ => rfl, rfl⟩
  case interlocks =>
    have hbody := bodyCrusher_taken (s := s) hv
    rw [← hu, applyIdle, if_neg (by simp [hnot])] at hbody
    exact write_finishes (i := (0 : Fin 1)) hready hidle (by simp [hindex]) (exec_writeCrusher r e s) hbody
  case idles =>
    have hbody := bodyCrusher_taken (s := s) hv
    rw [← hu, applyIdle, if_pos hdue] at hbody
    exact write_finishes (i := (0 : Fin 1)) hready hidle (by simp [hindex]) (exec_writeCrusher r e s) hbody
  case filter =>
    refine write_finishes (i := (0 : Fin 1)) hready hidle (by simp [hindex]) (exec_writeFilter r e s) ?_
    simp only [bodyFilter, hv, Option.bind_some, hu]
    rfl
  case silence =>
    have hwritten : u = s.setTables (s.tables.setSilence p v) := by cases p <;> exact hu
    have hbody := bodyPort_taken (s := s) hv p
    rw [← hwritten, opSilenceTimeout, if_neg (by simp [hnot]), hwritten] at hbody
    rw [hwritten]
    exact write_plain (i := indexOfPort p) hready hidle (by cases p <;> simp [indexOfPort, hindex]) (exec_writePort r e s) hbody
  case down =>
    have hwritten : u = s.setTables (s.tables.setSilence p v) := by cases p <;> exact hu
    have hbody := bodyPort_taken (s := s) hv p
    rw [← hwritten, opSilenceTimeout, if_pos hdue] at hbody
    exact write_finishes (i := indexOfPort p) hready hidle (by cases p <;> simp [indexOfPort, hindex]) (exec_writePort r e s) hbody
  case coalesce =>
    refine write_finishes (i := (0 : Fin 1)) hready hidle (by simp [hindex]) (exec_writeCoalesce r e s) ?_
    simp only [bodyCoalesce, hv, Option.bind_some]
    rfl

end Sys2Proof.Proofs
end

section
/-! SUPPORT. The data of the reads (R5, R19, R39, R64, R82, R86, R107, R130, R150, R159, R160, R162, R189, R191), byte by byte. -/

namespace Sys2Proof.Machine

variable {s t : State} {r : Req}

/-- A read is answered with its status and data, and changes nothing else. -/
theorem read_answered {n : Nat} {row : Instr} {f : State → Answer} {st : Status} {data : List Byte} (hready : s.readyFor r)
    (hexec : exec row s = .next (serveAlways n r (readOnly f) s)) (h : f s = .now st data) :
    ∃ t, exec row s = .next t ∧ s.onlyAnswered t r n st data :=
  ⟨_, hexec, serveAlways_onlyAnswered hready (congrArg (Prod.mk s) h)⟩

theorem asIndex_large {n x : Nat} (h : n ≤ x) : asIndex n x = none := dif_neg (Nat.not_lt.mpr h)

/-! ### Vectors and runs of counters as lists -/

theorem vector_toList_eq {α : Type} {n : Nat} (v : Vector α n) : v.toList = (List.finRange n).map fun i => v[i] := by
  refine List.ext_getElem (by simp) fun i hi hi' => ?_
  simp

theorem flatMap_byte {α : Type} (l : List α) (f : α → Byte) : l.flatMap (fun x => [f x]) = l.map f := by
  induction l with
  | nil => rfl
  | cons x l ih => rw [List.flatMap_cons, ih]; rfl

/-- The counters whose places follow one another from `start`. -/
theorem counterRun_eq {start : Nat} {cs : List Counter} (h : cs.map (fun c => c.slot.val) = List.range' start cs.length) (s : State) :
    counterRun start cs.length s = cs.flatMap fun c => byte4 (s.counter c).toNat := by
  have hrun : (s.counters.toList.drop start).take cs.length = cs.map s.counter := by
    refine List.ext_getElem? fun i => ?_
    by_cases hi : i < cs.length
    · have hplace := congrArg (fun l => l[i]?) h
      have hslot : cs[i].slot.val = start + i := by simpa [List.getElem?_range', hi] using hplace
      have hvalue : s.counters.toList[start + i]? = some (s.counter cs[i]) := by
        rw [← hslot, State.counter]
        simp
      rw [List.getElem?_take_of_lt hi, List.getElem?_drop, hvalue]
      simp [hi]
    · simp [hi]
  rw [counterRun, hrun, List.flatMap_map]
  rfl

/-! ### The areas -/

theorem byte1_flag (b : Bool) : byte1 (if b = true then 1 else 0) = flagByte b := by cases b <;> rfl

/-- The selection case in force (R76, R82). -/
theorem selection_code (s : State) : byte1 s.selection.1.code =
    [if s.belt.supervisor || s.belt.crusher || s.belt.link then 0
     else if s.belt.programSetpoint.isSome then 1 else if s.belt.latched then 2 else 3] := by
  rw [State.selection, State.holdInForce]
  cases s.belt.supervisor || s.belt.crusher || s.belt.link with
  | true => rfl
  | false =>
    cases s.belt.programSetpoint with
    | some v => rfl
    | none => cases s.belt.latched <;> rfl

theorem heldFlags_eq (held : List Target) : heldFlags held =
    [Target.belt, .crusher, .gate, .drum 0, .drum 1, .drum 2, .drum 3].map fun t => (if t ∈ held then 1 else 0 : Byte) := by
  rw [heldFlags, releaseOrder, ← flatMap_byte]
  refine List.flatMap_congr fun t _ => ?_
  simp only [flagByte, List.contains_iff_mem]

theorem outcome_byte (o : Option ChainOutcome) : byte1 (outcomeCode o) =
    [(match o with | none => 0 | some .cleared => 1 | some .exhausted => 2 | some .aborted => 3)] := by
  cases o with
  | none => rfl
  | some o => cases o <;> rfl

theorem programData_chain (s : State) (l : List Byte)
    (h : (match s.engine.chain with
      | none => flagByte false ++ byte1 255 ++ byte1 255 ++ byte1 0 ++ byte2 0 ++ byte2 0 ++ byte1 0 ++ byte4 0 ++ heldFlags []
      | some c =>
        flagByte true ++ byte1 (absentOr c.source) ++ byte1 c.index.val ++ byte1 c.started ++ byte2 c.repetition ++ byte2 c.desc.repetitions ++
          flagByte c.inB ++ byte4 (c.holdEnd - s.now).toNat ++ heldFlags c.held) = l) :
    programData s = l ++ byte1 (outcomeCode s.engine.lastOutcome) ++ (List.finRange 16).map fun i => (if s.engine.waiting[i].isSome then 1 else 0 : Byte) := by
  rw [← flatMap_byte, ← h]
  rfl

theorem kind_place (k : FaultKind) : k.place = [FaultKind.misroute, .crusherFault, .drumFault, .ownTelegramLost, .linkLimit, .imageBad,
    .uncrushedDelivery, .beltImplausible, .lateMass, .strayReport, .foreignSample, .gateTimeout].idxOf k := by cases k <;> rfl

theorem routesData_eq (s : State) : routesData s =
    (List.finRange 8).flatMap (fun i => byte4 (s.counter (.routeMass i)).toNat ++ byte4 (s.counter (.routeLots i)).toNat) ++
      byte4 (s.counter .unrouted).toNat ++ byte4 (s.counter .contaminated).toNat := by
  have hrun := counterRun_eq (start := 150)
    (cs := ((List.finRange 8).flatMap fun i => [Counter.routeMass i, .routeLots i]) ++ [.unrouted, .contaminated]) (by decide) s
  refine (show routesData s = counterRun 150 _ s from rfl).trans (hrun.trans ?_)
  simp only [List.flatMap_append, List.flatMap_assoc, List.flatMap_cons, List.flatMap_nil, List.append_nil, List.append_assoc]

theorem filteringCount_eq (s : State) : s.filteringCount = ((List.finRange 4).filter fun d => (s.drum d).state.filtering).length := by
  rw [State.filteringCount, drumList_eq, List.countP_eq_length_filter]

end Sys2Proof.Machine

namespace Sys2Proof.Proofs

open Sys2Proof.Machine

/-- Settles O46. -/
theorem readsAnswered : Obligations.ReadsAnswered := by
  unfold Obligations.ReadsAnswered
  refine ⟨fun r s hready => ⟨?ident, fun hlarge => ?badTable, fun n hn => ⟨fun hindex => ?badIndex, fun hindex => ?entry⟩, ?crusher, ?gate, ?belt, ?program,
    ?fault, ?routes, ?causes⟩,
    fun r s hready => ⟨fun hcount => ?badCount, fun hlow hhigh => ⟨fun hout => ?badStart, fun hin => ?pitches⟩, fun hlarge => ?noLot, fun l hl => ?lot,
      fun hlarge => ?noCell, fun c q hc hq => ?request, fun c hc hnone => ?noRequest, fun hlarge hne => ?noDrum, fun d hd => ?drum, fun hall => ?filtration,
      fun hlarge hne => ?noEvent, fun i hi => ?event, fun hall => ?events, fun hlarge => ?noGroup, fun start n hrange => ?group, fun htwo => ?arbiter⟩⟩
  case ident => exact read_answered hready rfl rfl
  case badTable =>
    have hnone : tableSize r.selector.toNat = none := by
      unfold tableSize
      split
      case h_15 => rfl
      all_goals omega
    exact read_answered hready rfl (by simp only [readEntryAnswer, hnone])
  case badIndex => exact read_answered hready rfl (by simp only [readEntryAnswer, hn, if_neg (Nat.not_lt.mpr hindex)])
  case entry => exact read_answered hready rfl (by simp only [readEntryAnswer, hn, if_pos hindex]; rfl)
  case crusher =>
    refine read_answered hready rfl (congrArg okData ?_)
    rw [crusherData]
    cases s.head.crusher <;> cases s.head.startMode <;> rfl
  case gate =>
    refine read_answered hready rfl (congrArg okData ?_)
    rw [gateData]
    cases s.head.gate with
    | settled g => cases s.gateTarget <;> cases s.head.lastPosition <;> rfl
    | moving toward start taken => cases toward <;> cases s.gateTarget <;> cases s.head.lastPosition <;> rfl
  case belt =>
    refine read_answered hready rfl (congrArg okData ?_)
    rw [beltData, selection_code]
    cases s.tracker.last <;> cases s.belt.programSetpoint <;> cases s.belt.issued <;> rfl
  case program =>
    refine read_answered hready rfl (congrArg okData ?_)
    rw [programData_chain s _ rfl, outcome_byte]
    refine congrArg₂ (fun a b : List Byte => a ++ b) (congrArg₂ (fun a b : List Byte => a ++ b) ?_ rfl) rfl
    cases s.engine.chain with
    | none => rfl
    | some c =>
      obtain ⟨source, trigger, desc, index, started, repetition, inB, holdEnd, held⟩ := c
      simp only [heldFlags_eq]
      cases source <;> rfl
  case fault =>
    refine read_answered hready rfl (congrArg okData ?_)
    rw [faultData]
    cases s.notices.captured with
    | none => rfl
    | some f =>
      obtain ⟨kind, time, lot, cell, detail⟩ := f
      simp only [kind_place]
      rcases detail with _ | (d | p)
      · cases lot <;> cases cell <;> rfl
      · cases lot <;> cases cell <;> rfl
      · cases p <;> cases lot <;> cases cell <;> rfl
  case routes => exact read_answered hready rfl (congrArg okData (routesData_eq s))
  case causes => exact read_answered hready rfl rfl
  case badCount =>
    refine read_answered hready rfl (if_pos (hcount.imp (fun h => ?_) id))
    rw [h]
    decide
  case badStart => exact read_answered hready rfl ((if_neg (by omega)).trans (if_pos hout))
  case pitches =>
    refine read_answered hready rfl ((if_neg (by omega)).trans ((if_neg (by omega)).trans (congrArg okData ?_)))
    refine List.flatMap_congr fun p _ => ?_
    cases p <;> rfl
  case noLot => exact read_answered hready rfl (by simp only [lotAnswer, asIndex_large hlarge])
  case lot =>
    refine read_answered hready rfl (f := lotAnswer r) ?_
    simp only [lotAnswer, asIndex_of_val hl]
    refine congrArg okData ?_
    cases s.lots[l] with
    | free o => cases o <;> rfl
    | active a =>
      simp only [Lot.bytes, ActiveLot.share, ActiveLot.tailMass]
      cases a.state <;> rfl
  case noCell => exact read_answered hready rfl (by simp only [requestAnswer, asIndex_large hlarge])
  case request => exact read_answered hready rfl (by simp only [requestAnswer, asIndex_of_val hc, hq, byte1_flag]; rfl)
  case noRequest => exact read_answered hready rfl (by simp only [requestAnswer, asIndex_of_val hc, hnone]; rfl)
  case noDrum => exact read_answered hready rfl ((if_neg hne).trans (by simp only [asIndex_large hlarge]))
  case drum =>
    have hne : r.index ≠ 255 := by
      rintro h
      rw [h] at hd
      have hlt := d.isLt
      simp at hd
      omega
    refine read_answered hready rfl ((if_neg hne).trans ?_)
    simp only [asIndex_of_val hd]
    refine congrArg okData ?_
    rw [drumData]
    cases (s.drum d).state <;> simp only [State.waitTime, State.phaseTime] <;> rfl
  case filtration =>
    refine read_answered hready rfl ((if_pos hall).trans (congrArg okData ?_))
    rw [filtrationData, filteringCount_eq, vector_toList_eq, List.flatMap_map]
    rfl
  case noEvent => exact read_answered hready rfl ((if_neg hne).trans (by simp only [asIndex_large hlarge]))
  case event =>
    have hne : r.index ≠ 255 := by
      rintro h
      rw [h] at hi
      have hlt := i.isLt
      simp at hi
      omega
    exact read_answered hready rfl ((if_neg hne).trans (by simp only [asIndex_of_val hi]; rfl))
  case events =>
    refine read_answered hready rfl ((if_pos hall).trans (congrArg okData ?_))
    rw [vector_toList_eq, vector_toList_eq, List.flatMap_map, List.flatMap_map, ← flatMap_byte, ← flatMap_byte]
    rfl
  case noGroup =>
    have hnone : groupRange r.index.toNat = none := by
      unfold groupRange
      split
      case h_12 => rfl
      all_goals omega
    exact read_answered hready rfl (by simp only [countersAnswer, hnone])
  case group => exact read_answered hready rfl (by simp only [countersAnswer, hrange]; rfl)
  case arbiter =>
    have hrun := counterRun_eq (start := 11) (cs := [Counter.requestsAdded, .requestsReplaced, .requestsUrgent] ++ Reason.all.map Counter.refusals ++
      [Counter.passes, Counter.upstreamSkips, Counter.notFeasible, Counter.dischargeDiscarded]) (by decide) s
    have hrange : groupRange r.index.toNat = some (11, 15) := by rw [htwo]; rfl
    exact read_answered hready rfl (by simp only [countersAnswer, hrange]; exact congrArg okData hrun)

end Sys2Proof.Proofs
end

section
/-! SUPPORT. The start-up read of the image (R193, R194): the state derived from the tables, the six start-up commands, and their unload. -/

namespace Sys2Proof.Machine

variable {s t u : State}

/-! ### Urgent commands leave one after the other (R165 to R167) -/

/-- The frame that an entry's unload places, if its target has a drive node. -/
def State.entryFrame (s : State) (e : Entry) : Option Frame :=
  if s.driveNode e.target = 0 then none else some (s.driveFrame e.target e.mode e.setpoint)

theorem entryFrame_of (h : t.tables = s.tables) : t.entryFrame = s.entryFrame := by
  have hnode : ∀ tg, t.driveNode tg = s.driveNode tg := fun tg => by cases tg <;> simp only [State.driveNode, h]
  funext e
  simp only [State.entryFrame, State.driveFrame, hnode, h]

/-- What the unload of a list of urgent commands leaves. -/
structure UrgentUnloaded (s t : State) : Prop where
  entries : t.coalescer.entries = []
  waiting : s.coalescer.waiting = false → t.coalescer.waiting = false
  plant : t.plantPort = { s.plantPort with queue := s.plantPort.queue ++ s.coalescer.entries.filterMap s.entryFrame }
  counters : ∀ c : Counter, c ∉ [.commandsUnaddressed, .commandsSent, .unloadsUrgent] → t.counter c = s.counter c

/-- The turn of an urgent first entry. -/
theorem unloadOnce_urgent {e : Entry} {rest : List Entry} (hlist : s.coalescer.entries = e :: rest) (hurgent : e.urgent = true)
    (hdistinct : ((e :: rest).map Entry.target).Nodup)
    (hroom : (e :: rest).filterMap s.entryFrame = [] ∨ s.plantPort.queue.length + ((e :: rest).filterMap s.entryFrame).length ≤ 32) :
    (unloadOnce s).2 = true ∧ (unloadOnce s).1.coalescer = { entries := rest, waiting := false } ∧ (unloadOnce s).1.tables = s.tables ∧
      (unloadOnce s).1.plantPort = { s.plantPort with queue := s.plantPort.queue ++ (s.entryFrame e).toList } ∧
      ∀ c : Counter, c ∉ [.commandsUnaddressed, .commandsSent, .unloadsUrgent] → (unloadOnce s).1.counter c = s.counter c := by
  have hcalled : s.unloadCalled = some (e, .unloadsUrgent) := unloadCalled_urgent (before := []) hlist (by simp) hurgent
  have hremoved : (removeEntry e.target s).coalescer = { entries := rest, waiting := false } := by
    have hothers : rest.filter (fun x => x.target ≠ e.target) = rest := List.filter_eq_self.mpr fun x hx => by
      rw [List.map_cons, List.nodup_cons] at hdistinct
      exact decide_eq_true fun heq => hdistinct.1 (heq ▸ List.mem_map_of_mem hx)
    simp only [removeEntry, hlist, List.filter_cons, ne_eq, not_true_eq_false, decide_false, Bool.false_eq_true, if_false]
    exact congrArg (fun l => ({ entries := l, waiting := false } : Coalescer)) hothers
  by_cases hnode : s.driveNode e.target = 0
  · have hframe : s.entryFrame e = none := if_pos hnode
    rw [unloadOnce_unaddressed hcalled hnode, hframe]
    refine ⟨rfl, hremoved, rfl, by simp [removeEntry], fun c hc => ?_⟩
    simp only [List.mem_cons, List.not_mem_nil, or_false, not_or] at hc
    rw [counter_bump, if_neg (Ne.symm hc.1)]
    rfl
  · have hframe : s.entryFrame e = some (s.driveFrame e.target e.mode e.setpoint) := if_neg hnode
    have hspace : s.hasRoom .plant = true := by
      rw [List.filterMap_cons_some hframe, List.length_cons] at hroom
      have hlength := hroom.resolve_left (List.cons_ne_nil _ _)
      exact decide_eq_true (show s.plantPort.queue.length < 32 by omega)
    rw [unloadOnce_sent hcalled hnode hspace, hframe]
    refine ⟨rfl, hremoved, rfl, rfl, fun c hc => ?_⟩
    simp only [List.mem_cons, List.not_mem_nil, or_false, not_or] at hc
    rw [counter_bump, if_neg (Ne.symm hc.2.2), counter_bump, if_neg (Ne.symm hc.2.1), enqueue_counter]
    rfl

theorem unloadLoop_urgent {l : List Entry} {n : Nat} (hlist : s.coalescer.entries = l) (hurgent : ∀ e ∈ l, e.urgent = true)
    (hdistinct : (l.map Entry.target).Nodup) (hroom : l.filterMap s.entryFrame = [] ∨ s.plantPort.queue.length + (l.filterMap s.entryFrame).length ≤ 32)
    (hn : l.length < n) : UrgentUnloaded s (unloadLoop n s) := by
  induction l generalizing s n with
  | nil =>
    have hsame : unloadLoop n s = s := by
      cases n <;> simp [unloadLoop, unloadOnce_none (unloadCalled_empty hlist)]
    rw [hsame]
    exact ⟨hlist, id, by simp [hlist], fun _ _ => rfl⟩
  | cons e rest ih =>
    cases n with
    | zero => simp at hn
    | succ n =>
      obtain ⟨hgoes, hlist', htables, hplant, hcounters⟩ := unloadOnce_urgent hlist (hurgent e List.mem_cons_self) hdistinct hroom
      have hframes : s.coalescer.entries.filterMap s.entryFrame = (s.entryFrame e).toList ++ rest.filterMap s.entryFrame := by
        rw [hlist]
        cases hframe : s.entryFrame e with
        | none => rw [List.filterMap_cons_none hframe]; rfl
        | some f => rw [List.filterMap_cons_some hframe]; rfl
      rw [← hlist, hframes, List.length_append, List.append_eq_nil_iff] at hroom
      have hrest := ih (s := (unloadOnce s).1) (n := n) (by rw [hlist']) (fun x hx => hurgent x (List.mem_cons_of_mem _ hx))
        (List.nodup_cons.mp hdistinct).2 
        (by rw [hplant, entryFrame_of htables, List.length_append]; exact hroom.imp (·.2) (by omega)) (by simpa using hn)
      rw [unloadLoop_goes hgoes]
      refine ⟨hrest.entries, fun _ => hrest.waiting (by rw [hlist']), ?_, fun c hc => (hrest.counters c hc).trans (hcounters c hc)⟩
      rw [hrest.plant, hplant, entryFrame_of htables, hframes, hlist', List.append_assoc]

/-! ### The commands of a start (R194) -/

/-- The urgent entry that a command with setpoint 0 makes. -/
def State.urgentEntry (s : State) (tg : Target) (m : Mode) : Entry := { target := tg, mode := m, setpoint := 0, created := s.now, urgent := true }

theorem hand_urgent {tg : Target} {m : Mode} (h : ∀ e ∈ s.coalescer.entries, e.target ≠ tg) :
    (hand tg m 0 s).coalescer = { s.coalescer with entries := s.coalescer.entries ++ [s.urgentEntry tg m] } := by
  have hurgent : isUrgent m 0 = true := by simp [isUrgent]
  rw [hand_new h, hurgent]
  rfl

theorem handDrum_urgent {d : DrumNo} (hchain : s.engine.chain = none) (h : ∀ e ∈ s.coalescer.entries, e.target ≠ .drum d) :
    (handDrum d s).coalescer = { s.coalescer with entries := s.coalescer.entries ++ [s.urgentEntry (.drum d) (s.drum d).state.command] } := by
  have hfree : s.holds (.drum d) = false := by simp only [State.holds, hchain]
  rw [handDrum, if_neg (by simp [hfree])]
  exact hand_urgent h

/-- The commands of drums that have none, in their order. -/
theorem handDrums_urgent {l : List DrumNo} (hl : l.Nodup) (hchain : s.engine.chain = none)
    (h : ∀ d ∈ l, ∀ e ∈ s.coalescer.entries, e.target ≠ .drum d) : (l.foldl (fun t d => handDrum d t) s).coalescer =
      { s.coalescer with entries := s.coalescer.entries ++ l.map fun d => s.urgentEntry (.drum d) (s.drum d).state.command } := by
  induction l generalizing s with
  | nil => simp
  | cons d l ih =>
    obtain ⟨hd, hl⟩ := List.nodup_cons.mp hl
    have hstep := handDrum_urgent hchain (h d List.mem_cons_self)
    have hrest := ih (s := handDrum d s) hl (by rw [handDrum_engine]; exact hchain) fun d' hd' e he => by
      rw [hstep] at he
      rcases List.mem_append.mp he with he | he
      · exact h d' (List.mem_cons_of_mem _ hd') e he
      · rw [List.mem_singleton.mp he]
        intro heq
        cases heq
        exact hd hd'
    rw [List.foldl_cons, hrest, hstep]
    simp [State.urgentEntry, State.drum]

/-- The six commands of a start. -/
def startEntries (u : State) : List Entry :=
  u.urgentEntry .belt .run :: u.urgentEntry .crusher .stop :: (List.finRange 4).map fun d => u.urgentEntry (.drum d) (u.drum d).state.command

section
variable (hsup : u.belt.supervisor = true)
include hsup

theorem startLine_belt_hold : (startLine u).belt = { u.belt with selected := 0, issued := some 0 } := by
  have hselect : ({ u with mode := .operating } : State).selection.2 = 0 := by
    rw [State.selection, State.holdInForce]
    simp [hsup]
  rw [startLine, handDrums_belt, handStop, hand_belt, issueSetpoint_belt, hselect]

theorem startLine_entries (hentries : u.coalescer.entries = []) (hchain : u.engine.chain = none) :
    (startLine u).coalescer = { u.coalescer with entries := startEntries u } := by
  have hselect : ({ u with mode := .operating } : State).selection.2 = 0 := by
    rw [State.selection, State.holdInForce]
    simp [hsup]
  have hbelt : (issueSetpoint { u with mode := .operating }).coalescer = { u.coalescer with entries := [u.urgentEntry .belt .run] } := by
    rw [issueSetpoint, hselect, hand_urgent (by simp [hentries])]
    simp [hentries, State.urgentEntry]
  have hstop : (handStop (issueSetpoint { u with mode := .operating })).coalescer =
      { u.coalescer with entries := [u.urgentEntry .belt .run, u.urgentEntry .crusher .stop] } := by
    rw [handStop, hand_urgent (by rw [hbelt]; simp [State.urgentEntry]), hbelt]
    simp [State.urgentEntry, issueSetpoint]
  have hdrums := handDrums_urgent (s := handStop (issueSetpoint { u with mode := .operating })) (l := drumList) (by decide)
    (by simpa [handStop, issueSetpoint] using hchain) (by rw [hstop]; simp [State.urgentEntry])
  rw [startLine, handDrums, hdrums, hstop, drumList_eq]
  simp [startEntries, State.urgentEntry, State.drum, handStop, issueSetpoint]

end

theorem handDrums_handed (h : s.handed = true) : (handDrums s).handed = true := by
  refine List.foldlRecOn (motive := fun t : State => t.handed = true) drumList _ h fun t ht d _ => ?_
  unfold handDrum
  split
  · exact ht
  · simp

theorem startLine_handed (u : State) : (startLine u).handed = true := handDrums_handed (hand_handed _ _ _ _)

theorem handDrums_rest (s : State) : { handDrums s with coalescer := s.coalescer, handed := s.handed, counters := s.counters } = s := by
  refine List.foldlRecOn (motive := fun t : State => { t with coalescer := s.coalescer, handed := s.handed, counters := s.counters } = s) drumList _ rfl
    fun t ht d _ => ?_
  obtain ⟨b, k, hform⟩ := handDrum_form d t
  rw [hform]
  exact ht

theorem startLine_rest (u : State) : 
    { startLine u with mode := u.mode, belt := u.belt, coalescer := u.coalescer, handed := u.handed, counters := u.counters } = u := by
  obtain ⟨b, c, h, k, hissued⟩ := issueSetpoint_form { u with mode := .operating }
  obtain ⟨k', hstopped⟩ := hand_form .crusher .stop 0 (issueSetpoint { u with mode := .operating })
  have hdrums := handDrums_rest (handStop (issueSetpoint { u with mode := .operating }))
  have hstart : startLine u = handDrums (handStop (issueSetpoint { u with mode := .operating })) := rfl
  rw [hstart]
  refine (congrArg (fun w : State => { w with
    mode := u.mode, belt := u.belt, coalescer := u.coalescer, handed := u.handed, counters := u.counters }) hdrums).trans ?_
  rw [handStop, hstopped, hissued]

theorem startLine_counter {c : Counter} (hc : c.isReissue = false) (u : State) : (startLine u).counter c = u.counter c := by
  have hhand := not_handed_of_not_reissue hc
  have hdrums : (handDrums (handStop (issueSetpoint { u with mode := .operating }))).counter c =
      (handStop (issueSetpoint { u with mode := .operating })).counter c :=
    List.foldlRecOn (motive := fun t => t.counter c = (handStop (issueSetpoint { u with mode := .operating })).counter c) drumList _ rfl
      fun t h d _ => (handDrum_counter (by
        simp only [List.mem_cons, List.not_mem_nil, or_false]
        rintro (rfl | rfl | rfl | rfl) <;> cases hc) d t).trans h
  rw [startLine, hdrums, handStop, hand_counter hhand, issueSetpoint_counter hhand, if_neg (by rintro rfl; cases hc)]
  rfl

theorem startEntries_urgent (u : State) : (∀ e ∈ startEntries u, e.urgent = true) ∧ ((startEntries u).map Entry.target).Nodup := by
  refine ⟨fun e he => ?_, ?_⟩
  · simp only [startEntries, List.mem_cons, List.mem_map] at he
    rcases he with rfl | rfl | ⟨d, -, rfl⟩ <;> rfl
  · have htargets : (startEntries u).map Entry.target = Target.belt :: .crusher :: (List.finRange 4).map Target.drum := by
      simp [startEntries, State.urgentEntry, Function.comp_def]
    rw [htargets]
    decide

/-- The start completed: its commands have left. -/
theorem startLine_completes (hraised : u.raised = []) (hentries : u.coalescer.entries = []) (hchain : u.engine.chain = none)
    (hsup : u.belt.supervisor = true)
    (hroom : (startEntries u).filterMap u.entryFrame = [] ∨ u.plantPort.queue.length + ((startEntries u).filterMap u.entryFrame).length ≤ 32) :
    (complete (startLine u)).coalescer.entries = [] ∧
    (u.coalescer.waiting = false → (complete (startLine u)).coalescer.waiting = false) ∧
    (complete (startLine u)).plantPort = { u.plantPort with queue := u.plantPort.queue ++ (startEntries u).filterMap u.entryFrame } ∧
    (∀ c : Counter, c.isReissue = false → c ∉ [.commandsUnaddressed, .commandsSent, .unloadsUrgent] →
      (complete (startLine u)).counter c = u.counter c) ∧
    (complete (startLine u)).belt = { u.belt with selected := 0, issued := some 0 } ∧
    { complete (startLine u) with
      mode := u.mode, belt := u.belt, coalescer := u.coalescer, plantPort := u.plantPort, counters := u.counters, handed := u.handed } = u := by
  have hlist := startLine_entries hsup hentries hchain
  obtain ⟨hurgent, hdistinct⟩ := startEntries_urgent u
  have htables : (startLine u).tables = u.tables := startLine_tables u
  have hunload : complete (startLine u) = unloadTest { startLine u with handed := false } := by
    rw [complete, routeAll_of_nil (by rw [startLine_raised, hraised]), unloadIfHanded, if_pos (startLine_handed u)]
  have hunloaded : UrgentUnloaded { startLine u with handed := false } (unloadTest { startLine u with handed := false }) :=
    unloadLoop_urgent (l := startEntries u) (by rw [hlist]) hurgent hdistinct
      (by rw [entryFrame_of (t := { startLine u with handed := false }) htables, startLine_plantPort]; exact hroom) (by rw [hlist]; exact Nat.lt_succ_self _)
  obtain ⟨⟨-, -, hrest⟩, -⟩ := unloadLoop_end _ { startLine u with handed := false } (Nat.lt_succ_self _)
  rw [hunload]
  refine ⟨hunloaded.entries, fun hwaiting => hunloaded.waiting (by rw [hlist]; exact hwaiting), ?_, fun c hc hother => ?_, ?_, ?_⟩
  · rw [hunloaded.plant, entryFrame_of (t := { startLine u with handed := false }) htables, startLine_plantPort, hlist]
  · exact (hunloaded.counters c hother).trans (startLine_counter hc u)
  · have hbelt := congrArg State.belt hrest
    exact hbelt.trans (startLine_belt_hold hsup)
  · exact (congrArg (fun w : State => { w with
      mode := u.mode, belt := u.belt, coalescer := u.coalescer, plantPort := u.plantPort, counters := u.counters, handed := u.handed }) hrest).trans
      ((congrArg (fun w : State => { w with plantPort := u.plantPort }) (startLine_rest u)))

end Sys2Proof.Machine
end

section
/-! SUPPORT. The state that the start-up read leaves before its commands (R193): the default tables with the fault, or the image's tables. -/

namespace Sys2Proof.Machine

variable {s t u : State}

theorem deriveState_drum (tb : Tables) (s : State) (d : DrumNo) : (deriveState tb s).drum d =
    { state := if tb.drum[d].enabled then .online else .offline, fines := 0, dp := 0, failed := 0 } := by
  simp [deriveState, State.drum, initialDrum]

theorem deriveState_capacity (tb : Tables) (s : State) : (deriveState tb s).filtration.capacity =
    ((List.finRange 4).map fun d => if tb.drum[d].enabled then tb.drum[d].flow else 0).sum := by
  have hcapacity : (deriveState tb s).filtration.capacity = (deriveState tb s).capacityNow := rfl
  rw [hcapacity, State.capacityNow, drumList_eq]
  refine congrArg List.sum (List.map_congr_left fun d _ => ?_)
  have hfiltering : ((deriveState tb s).drum d).state.filtering = tb.drum[d].enabled := by
    rw [deriveState_drum]
    cases tb.drum[d].enabled <;> rfl
  rw [hfiltering]
  rfl

/-- The state that a bad image leaves (R193). -/
def imageRefused (s : State) : State := raiseFault .imageBad none none none (bump .loadsBad (deriveState Tables.default s))

/-- The state that a valid image leaves (R193). -/
def imageTaken (tb : Tables) (s : State) : State := deriveState tb (bump .loadsValid s)

theorem opImageLoadComplete_bad {ack : Bool} (hmode : s.mode = .loading) (h : readImage ack s.eeprom = none) :
    opImageLoadComplete ack s = complete (startLine (imageRefused s)) := by
  rw [opImageLoadComplete, if_pos hmode, h]
  rfl

theorem opImageLoadComplete_valid {ack : Bool} {tb : Tables} (hmode : s.mode = .loading) (h : readImage ack s.eeprom = some tb) :
    opImageLoadComplete ack s = complete (startLine (imageTaken tb s)) := by
  rw [opImageLoadComplete, if_pos hmode, h]
  rfl

theorem startLine_mode (u : State) : (startLine u).mode = .operating := by simp [startLine, handStop, issueSetpoint]

theorem imageRefused_rest (s : State) : { imageRefused s with
    tables := s.tables, tracker := s.tracker, filtration := s.filtration, notices := s.notices, counters := s.counters } = s :=
  congrArg (fun w : State => { w with tables := s.tables, tracker := s.tracker, filtration := s.filtration, notices := s.notices, counters := s.counters })
    (raiseFault_rest .imageBad none none none (bump .loadsBad (deriveState Tables.default s)))

theorem imageRefused_derived (s : State) : (imageRefused s).tables = Tables.default ∧
    (imageRefused s).tracker = { map := List.replicate 128 .empty, last := none, acc := 0 } ∧
    (imageRefused s).filtration = (deriveState Tables.default s).filtration :=
  ⟨by rw [imageRefused, raiseFault_tables]; rfl, by rw [imageRefused, raiseFault_tracker]; rfl, by rw [imageRefused, raiseFault_filtration]; rfl⟩

theorem imageRefused_counter {c : Counter} (hc : c ≠ .faultsCaptured) (hs : c ≠ .faultsSuppressed) : (imageRefused s).counter c =
    if c = .raised .imageBad then saturatingAdd (s.counter c) 1 else if c = .loadsBad then saturatingAdd (s.counter c) 1 else s.counter c := by
  have hderived : ∀ k, (deriveState Tables.default s).counter k = s.counter k := fun _ => rfl
  rw [imageRefused, raiseFault_counter _ _ _ _ hc hs, counter_bump]
  by_cases h : c = .raised .imageBad
  · subst h
    rfl
  · by_cases hl : c = .loadsBad
    · subst hl
      rfl
    · rw [if_neg h, if_neg h, if_neg hl, if_neg (Ne.symm hl), hderived]

theorem imageRefused_captured (h : s.notices.captured = none) :
    (imageRefused s).notices.captured = some { kind := .imageBad, time := s.now, lot := none, cell := none, detail := none } := by
  rw [imageRefused, raiseFault_offered (by simp [FaultKind.isMajor]), captureFault_empty (by exact h)]
  rfl

theorem driveFrame_of (h : t.tables = s.tables) : t.driveFrame = s.driveFrame := by
  funext tg m v
  have hnode : t.driveNode tg = s.driveNode tg := by cases tg <;> simp only [State.driveNode, h]
  rw [State.driveFrame, hnode, h]
  rfl

/-- With the default tables no drive node is configured. -/
theorem entryFrame_default (h : s.tables = Tables.default) (l : List Entry) : l.filterMap s.entryFrame = [] := by
  refine List.filterMap_eq_nil_iff.mpr fun e _ => ?_
  have hnode : s.driveNode e.target = 0 := by
    cases e.target <;> simp only [State.driveNode, h] <;> rfl
  exact if_pos hnode

/-- With the drive nodes of belt, crusher and drums configured every start-up command has its frame. -/
theorem startEntries_frames (hbelt : u.tables.plant.beltDrive ≠ 0) (hcrusher : u.tables.plant.crusher ≠ 0) (hskid : u.tables.plant.skid ≠ 0) :
    (startEntries u).filterMap u.entryFrame = u.driveFrame .belt .run 0 :: u.driveFrame .crusher .stop 0 ::
      (List.finRange 4).map fun d => u.driveFrame (.drum d) (u.drum d).state.command 0 := by
  have hdrums : (List.finRange 4).filterMap (fun d => u.entryFrame (u.urgentEntry (.drum d) (u.drum d).state.command)) =
      (List.finRange 4).map fun d => u.driveFrame (.drum d) (u.drum d).state.command 0 := by
    rw [← List.filterMap_eq_map]
    exact List.filterMap_congr fun d _ => if_neg hskid
  have hfirst : u.entryFrame (u.urgentEntry .belt .run) = some (u.driveFrame .belt .run 0) := if_neg hbelt
  have hsecond : u.entryFrame (u.urgentEntry .crusher .stop) = some (u.driveFrame .crusher .stop 0) := if_neg hcrusher
  rw [startEntries, List.filterMap_cons_some hfirst, List.filterMap_cons_some hsecond, List.filterMap_map]
  exact congrArg (fun l => _ :: _ :: l) hdrums

/-- The blocks that a start leaves as they were. -/
structure StartKept (u t : State) : Prop where
  now : t.now = u.now
  tables : t.tables = u.tables
  tracker : t.tracker = u.tracker
  filtration : t.filtration = u.filtration
  lots : t.lots = u.lots
  arbiter : t.arbiter = u.arbiter
  head : t.head = u.head
  engine : t.engine = u.engine
  router : t.router = u.router
  notices : t.notices = u.notices
  cellPort : t.cellPort = u.cellPort
  eeprom : t.eeprom = u.eeprom

theorem StartKept.of (h : { t with
    mode := u.mode, belt := u.belt, coalescer := u.coalescer, plantPort := u.plantPort, counters := u.counters, handed := u.handed } = u) :
    StartKept u t := by
  obtain ⟨m, b, c, p, k, w, rfl⟩ : ∃ m b c p k w, t = { u with
      mode := m, belt := b, coalescer := c, plantPort := p, counters := k, handed := w } :=
    ⟨t.mode, t.belt, t.coalescer, t.plantPort, t.counters, t.handed, by rw [← h]⟩
  exact ⟨rfl, rfl, rfl, rfl, rfl, rfl, rfl, rfl, rfl, rfl, rfl, rfl⟩

end Sys2Proof.Machine

namespace Sys2Proof.Proofs

open Sys2Proof.Machine

/-- Settles O6. -/
theorem imageStarts : Obligations.ImageStarts := by
  unfold Obligations.ImageStarts
  refine ⟨fun ack s hmode hbad => ?bad, fun ack tb s hmode hvalid hsup hsettled hchain hlist hbelt hcrusher hskid hroom => ?valid⟩
  case bad =>
    obtain ⟨htables, htracker, hfiltration⟩ := imageRefused_derived s
    have hrest := imageRefused_rest s
    have heeprom : (imageRefused s).eeprom = s.eeprom := by simpa using congrArg State.eeprom hrest
    have hnow : (imageRefused s).now = s.now := by simpa using congrArg State.now hrest
    rw [exec_imageLoadComplete, opImageLoadComplete_bad hmode hbad]
    refine ⟨_, rfl, by rw [complete_mode, startLine_mode], by rw [complete_tables, startLine_tables, htables],
      by rw [complete_eeprom, startLine_eeprom, heeprom], by rw [complete_now, startLine_now, hnow],
      fun hempty hsup hsettled hchain hlist => ?_⟩
    have hbelt : (imageRefused s).belt = s.belt := by simpa using congrArg State.belt hrest
    have hplant : (imageRefused s).plantPort = s.plantPort := by simpa using congrArg State.plantPort hrest
    have hcell : (imageRefused s).cellPort = s.cellPort := by simpa using congrArg State.cellPort hrest
    have hlots : (imageRefused s).lots = s.lots := by simpa using congrArg State.lots hrest
    have harbiter : (imageRefused s).arbiter = s.arbiter := by simpa using congrArg State.arbiter hrest
    have hhead : (imageRefused s).head = s.head := by simpa using congrArg State.head hrest
    have hengine : (imageRefused s).engine = s.engine := by simpa using congrArg State.engine hrest
    have hrouter : (imageRefused s).router = s.router := by simpa using congrArg State.router hrest
    have hcoalescer : (imageRefused s).coalescer = s.coalescer := by simpa using congrArg State.coalescer hrest
    have hraised : (imageRefused s).raised = s.raised := by simpa using congrArg State.raised hrest
    obtain ⟨hentries, -, hqueue, hcounters, hissued, hkept⟩ := startLine_completes (u := imageRefused s) (hraised.trans hsettled.1)
      (by rw [hcoalescer]; exact hlist) (by rw [hengine]; exact hchain) (by rw [hbelt]; exact hsup) (.inl (entryFrame_default htables _))
    have hstart := StartKept.of hkept
    have hcounter : ∀ c, c.isReissue = false → c ∉ [.commandsUnaddressed, .commandsSent, .unloadsUrgent] → c ≠ .faultsCaptured → c ≠ .faultsSuppressed →
        (complete (startLine (imageRefused s))).counter c = _ := fun c hc hother hcap hsup => (hcounters c hc hother).trans (imageRefused_counter hcap hsup)
    refine ⟨hcounter _ rfl (by simp) (by simp) (by simp), hcounter _ rfl (by simp) (by simp) (by simp), hcounter _ rfl (by simp) (by simp) (by simp),
      ?_, hentries, ?_, hstart.cellPort.trans hcell, hstart.tracker.trans htracker, fun d => ?_, ?_, by rw [hissued, hbelt], hstart.lots.trans hlots,
      hstart.arbiter.trans harbiter, hstart.head.trans hhead, hstart.engine.trans hengine, hstart.router.trans hrouter⟩
    · rw [hstart.notices, imageRefused_captured hempty]
    · rw [hqueue, entryFrame_default htables, hplant, List.append_nil]
    · rw [State.drum, hstart.filtration, hfiltration]
      refine (deriveState_drum Tables.default s d).trans ?_
      revert d
      decide
    · rw [hstart.filtration, hfiltration, deriveState_capacity]
      decide
  case valid =>
    have htables : (imageTaken tb s).tables = tb := rfl
    have hframes := startEntries_frames (u := imageTaken tb s) hbelt hcrusher hskid
    obtain ⟨hentries, hwaiting, hqueue, hcounters, hissued, hkept⟩ := startLine_completes (u := imageTaken tb s) hsettled.1
      (congrArg Coalescer.entries hlist) hchain hsup (.inr (by
        rw [hframes]
        have hsame : (imageTaken tb s).plantPort = s.plantPort := rfl
        rw [hsame]
        simp
        omega))
    have hstart := StartKept.of hkept
    have hfree : (complete (startLine (imageTaken tb s))).coalescer.waiting = false := hwaiting (congrArg Coalescer.waiting hlist)
    have hcommand : ∀ d, ((imageTaken tb s).drum d).state.command = if tb.drum[d].enabled then .run else .stop := fun d => by
      rw [imageTaken, deriveState_drum]
      cases tb.drum[d].enabled <;> rfl
    rw [exec_imageLoadComplete, opImageLoadComplete_valid hmode hvalid]
    refine ⟨_, rfl, by rw [complete_mode, startLine_mode], hstart.tables.trans htables, ?_, ?_, hstart.tracker, fun d => ?_, ?_, ?_, ?_, hstart.cellPort,
      hissued, hstart.lots, hstart.arbiter, hstart.head, hstart.engine, hstart.router, hstart.notices, hstart.eeprom, hstart.now⟩
    · exact (hcounters _ rfl (by simp)).trans ((counter_bump .loadsValid .loadsValid s).trans (if_pos rfl))
    · exact (hcounters _ rfl (by simp)).trans ((counter_bump .loadsValid .loadsBad s).trans (if_neg (by simp)))
    · rw [State.drum, hstart.filtration]
      exact deriveState_drum tb _ d
    · rw [hstart.filtration]
      exact deriveState_capacity tb _
    · rw [hqueue, hframes, driveFrame_of hstart.tables]
      simp only [hcommand]
      rfl
    · cases hc : (complete (startLine (imageTaken tb s))).coalescer with
      | mk entries waiting =>
        rw [hc] at hentries hfree
        exact congrArg₂ Coalescer.mk hentries hfree

end Sys2Proof.Proofs
end

section
/-! SUPPORT. The seconds of an override that is not latched, through a line restart (R81, R84, R196): no step of the restart writes them. -/

namespace Sys2Proof.Machine

variable {s t : State}

theorem setCauseFlag_seconds (c : HoldCause) (b : Bool) (s : State) : (s.setCauseFlag c b).belt.seconds = s.belt.seconds := by cases c <;> rfl

theorem reselect_seconds (s : State) : (reselect s).belt.seconds = s.belt.seconds := by
  unfold reselect
  split
  · rfl
  · rw [issueSetpoint_belt]

theorem setCause_seconds (c : HoldCause) (s : State) : (setCause c s).belt.seconds = s.belt.seconds := by
  unfold setCause
  repeat' split
  · rfl
  · exact setCauseFlag_seconds c true s
  · rw [reselect_seconds, orderAllLoading_belt, bump_belt, setCauseFlag_seconds]

theorem clearCause_seconds (c : HoldCause) (s : State) : (clearCause c s).belt.seconds = s.belt.seconds := by
  unfold clearCause
  repeat' split
  · rfl
  · exact setCauseFlag_seconds c false s
  · rw [arbiterPass_belt, reselect_seconds, orderAllLoading_belt, setCauseFlag_seconds]

section
variable (hchain : s.engine.chain = none)
include hchain

theorem abortForRestart_free : abortForRestart s = s := by simp only [abortForRestart, hchain]

/-- With no chain to abort a restart raises no occurrence. -/
theorem restartLine_raised : (restartLine s).raised = s.raised := by
  simp [restartLine, abortForRestart_free hchain, issueSetpoint]

/-- A restart of a line whose override is not latched keeps the override's seconds. -/
theorem restartLine_seconds (hlatched : s.belt.latched = false) : (restartLine s).belt.seconds = s.belt.seconds := by
  have hreleased : releaseOverride (restartRouter (restartTracker (restartArbiter (restartLots s)))) =
      restartRouter (restartTracker (restartArbiter (restartLots s))) := if_neg (by simp [hlatched])
  rw [restartLine, abortForRestart_free hchain, markRestart_belt, handDrums_belt, restartHead, restartGate_belt, clearCause_seconds]
  simp only [stopCrusher_belt, issueSetpoint_belt, restartCoalescer_belt, restartBelt, hreleased, setCause_seconds]
  simp

/-- The row RESTART_LINE without a reload, on such a line, shows the seconds as they were. -/
theorem exec_restartLine_seconds {r : Req} (hready : s.readyFor r) (hidle : s.activity = .idle) (hreload : s.tables.node.reload = false)
    (hlatched : s.belt.latched = false) : ∃ t, exec (.restartLine r) s = .next t ∧ t.belt.seconds = s.belt.seconds := by
  obtain ⟨hmode, hpermits, hsettled, -⟩ := hready
  have hbody : restartBody r s = (bump .restarts (restartLine s), .ok) := by
    simp only [restartBody, hidle, hreload, Bool.false_eq_true, if_false]
  have hraised : (bump .restarts (restartLine s)).raised = [] := by rw [bump_raised, restartLine_raised hchain, hsettled.1]
  have hrun : exec (.restartLine r) s = .next (finishRequest s.tables.node.node 16 r (.now .ok []) (bump .restarts (restartLine s))) := by
    rw [exec_restartLine, opRestartLine, serve, serveAlways_served hmode hpermits, hidle, if_neg (by simp [Activity.isReloading]), hbody]
    rfl
  refine ⟨_, hrun, ?_⟩
  rw [finishRequest_of_nil hraised]
  simp [restartLine_seconds hchain hlatched]

end

/-- A part in OPERATING whose override is not latched and shows 5 seconds. -/
def strayOverrideSeconds : State := { operatingReset with belt := { operatingReset.belt with seconds := 5 } }

theorem strayOverrideSeconds_ready : strayOverrideSeconds.readyFor firstEntryRequest := ⟨rfl, rfl, ⟨rfl, rfl⟩, by decide⟩

end Sys2Proof.Machine

namespace Sys2Proof.Proofs

open Sys2Proof.Machine

/-- Refutes O51: a restart writes the override's seconds only where it releases a latched override, so the 5 seconds of `strayOverrideSeconds`,
which stand beside a clear latch, outlast it. -/
theorem not_restartLine : ¬ Obligations.RestartLine := by
  unfold Obligations.RestartLine
  intro h
  obtain ⟨t, hexec, -, -, -, -, -, -, -, -, -, -, -, -, hzero, -⟩ := h.1 firstEntryRequest strayOverrideSeconds strayOverrideSeconds_ready rfl (by decide)
  obtain ⟨u, hexec', hkept⟩ := exec_restartLine_seconds (s := strayOverrideSeconds) rfl strayOverrideSeconds_ready rfl (by decide) rfl
  have hsame : t = u := Host.Outcome.next.inj (hexec.symm.trans hexec')
  have hfive : t.belt.seconds = 5 := by
    rw [hsame, hkept]
    rfl
  omega

end Sys2Proof.Proofs
end
